-- ==== Sys2Proof/Word.lean ====
section
/-! DEFINITION. The word types of the device and the role names every file uses. -/

namespace Sys2Proof

/-- A register or a Granary word: 32 bits, little-endian (R16). -/
abbrev Word := BitVec 32

/-- A byte of the Granary. -/
abbrev Byte := BitVec 8

/-- An address of the 40-bit internal address space (R16). -/
abbrev Addr := BitVec 40

/-- The roles a session may hold (R638). -/
inductive Role
  | operator | installer | maker
  deriving DecidableEq, Repr

end Sys2Proof
end

