-- ==== Sys2Proof/Syntax.lean ====
section
/-! DEFINITION. The commands the block takes: one constructor for each row of
spec/opcode_table.json, with the operands the row's rules give it, and the records
those operands are made of.  Log 3 says how the operands were chosen. -/

namespace Sys2Proof

/-- Where a fault lies (R27, R28): region, block and tile, and whether it is in the block's own
arbiter or report path (R44, R45). -/
structure Site where
  region : Fin 8
  block : Fin 64
  tile : Fin 32
  arbiter : Bool
  deriving DecidableEq, Repr

/-- The errors a tile detects in its own hardware (R40, R53). -/
inductive TileFault
  | sramSbe | xferParity | sramDbe | engineTrap | arbWatchdog | supervisorFault
  deriving DecidableEq, Repr

/-- The supply voltages of one evaluation (R62, R90, R93): feeds and VCTL in mV, rails in 0.1 mV. -/
structure SupplySample where
  feedA : Nat
  feedB : Nat
  vctl : Nat
  rails : Vector Nat 6
  deriving DecidableEq, Repr

/-- The uplink frame of R108 (multi-byte fields as numbers).  `good` says that the CRC of R103
matched and the frame arrived complete with no block error in it; `blockErr` that a block error or an invalid sync
header came in it or in the idle blocks before it (R100); `lag` is A − T of R120 in 0.2 ns. -/
structure UplinkFrame where
  good : Bool
  blockErr : Bool
  seq : BitVec 8
  tickOfs : BitVec 7
  ack : BitVec 8
  streams : Vector Word 6
  status : BitVec 16
  desat : BitVec 16
  gtel : Vector Word 16
  ntc : Vector (BitVec 16) 4
  chan : BitVec 8
  applied : BitVec 8
  dnBad : BitVec 16
  mbx : Vector Byte 16
  lag : Nat
  deriving DecidableEq, Repr



/-- The converter registers whose writes R320 stages. -/
inductive AdcReg
  | seqCfg | injCfg | adcCfg | inCfg | owCfg
  deriving DecidableEq, Repr

/-- The raw results of one converter's calibration phases (R327): OFFSET, GAIN, EXT_RATIO, VERIFY. -/
structure CalRun where
  offset : List Int
  gain : List Int
  ratio : List Int
  verify : List Int
  deriving DecidableEq, Repr



/-- What a chain-end receiver saw when it gained lock: which end, and the `valid` consecutive characters (R384). -/
structure LockRun where
  endB : Bool
  valid : Nat
  deriving DecidableEq, Repr

/-- What a chain-end receiver saw when it lost lock: which end, the errors among its last 16 characters, and the time
since its last valid character (R384). -/
structure LockLoss where
  endB : Bool
  errors : Fin 17
  quietNs : Nat
  deriving DecidableEq, Repr

/-- A received LOOP set: its node and its check byte (R383). -/
structure LoopSet where
  node : Fin 16
  check : Fin 256
  deriving DecidableEq, Repr

/-- A received PROBE set: its node, its sequence number and its check byte (R383, R389). -/
structure ProbeSet where
  node : Fin 16
  seq : Fin 256
  check : Fin 256
  deriving DecidableEq, Repr

/-- A slot of a SWEEP or RECOVER frame as received (R393); `good` says that its CRC checks. -/
structure Slot where
  good : Bool
  pos : Fin 16
  filled : Bool
  flags : BitVec 8
  inst16 : BitVec 16
  cells : Vector (BitVec 24) 32
  temp : BitVec 16
  tempIdx : Fin 16
  rspResult : Fin 16
  rspTag : Fin 16
  balOn : Word
  rspData : Word
  deriving DecidableEq, Repr







/-- One certificate of a chain (R640): validity in time base 0 seconds, and its serial number. -/
structure CertLink where
  notBefore : Nat
  notAfter : Nat
  serial : Nat
  deriving DecidableEq, Repr

/-- A DTLS handshake (R543, R640): the cookie came back, the signatures hold, the chain from the leaf on, the trust
anchor it ends at, the value of the role extension, CERT_ID of the leaf. -/
structure Handshake where
  cookie : Bool
  sigsOk : Bool
  chain : List CertLink
  anchor : Nat
  roleExt : Nat
  certId : BitVec 64
  deriving DecidableEq, Repr

/-- The services of R518. -/
inductive Service
  | telemetry | dispatch | pcsLimits | events | hvac | recorder | commission | maker
  deriving DecidableEq, Repr

/-- A received Ethernet frame (R540, R541): its check, source, class, the PRP trailer (LAN B, sequence number) and
the queue of its service and session. -/
structure EthFrame where
  good : Bool
  src : BitVec 48
  cls : Fin 6
  prp : Option (Bool × BitVec 16)
  queue : Fin 65536
  deriving DecidableEq, Repr

/-- A Span frame (R545) without its checks. -/
structure SpanFrame where
  version : BitVec 4
  cls : BitVec 3
  frag : Bool
  kind : Byte
  src : BitVec 6
  west : Bool
  dual : Bool
  dst : Byte
  hops : Byte
  fragIdx : BitVec 7
  last : Bool
  seq : Word
  corr : BitVec 64
  payload : List Byte
  deriving DecidableEq, Repr

/-- PTP event messages and the general ones that follow them (R590 to R592). -/
inductive PtpKind
  | sync | pdelayReq | pdelayResp
  deriving DecidableEq, Repr

/-- A Parapet PDU as received (R614, R618): its length and SCRC are right, and its fields. -/
structure ParPdu where
  lenOk : Bool
  scrcOk : Bool
  version : BitVec 4
  type : BitVec 4
  connId : Word
  seq : Word
  tExp : Word
  run : Word
  rst : Word
  echo : Word
  deriving DecidableEq, Repr

/-- A mark of the adjustable set (R642) on the field of one register word. -/
structure AdjMark where
  key : Nat
  lo : Nat
  width : Nat
  locked : Bool
  min : Int
  max : Int
  deriving DecidableEq, Repr

/-- A module identity the Charter allows (R126, R127). -/
structure ModRule where
  oui : Nat
  model : Nat
  minGroups : Nat
  deriving DecidableEq, Repr

/-- A cell profile of R429 with its seed table (R473): OCV at 201 points for each of 8 temperatures and the
hysteresis half-width in µV, temperatures in °C, currents in A, noise in V and per √s, self-discharge per day,
Q_NOM in Ah, R_NOM_REF in Ω. -/
structure Profile where
  temps : List Int := []
  ocv : List (List Int) := []
  hm : List Int := []
  gamma : Rat := 1
  etaChg : Rat := 1
  qNom : Rat := 0
  rNomRef : Rat := 0
  pulseD : List Rat := []
  pulseC : List Rat := []
  contD : List Rat := []
  contC : List Rat := []
  sigmaV : Rat := 0
  sQ : Rat := 0
  sA : Rat := 0
  sB : Rat := 0
  sH : Rat := 0
  sdMean : Rat := 0
  sdSigma : Rat := 0
  seed : List (Nat × Nat) := []
  deriving DecidableEq, Repr

/-- The Charter's map of one node position (R395, R408): cells, first cell, and for each input its profile and
temperature sensor (R429). -/
structure NodeMap where
  cells : Nat := 0
  base : Nat := 0
  inputs : List (Nat × Nat) := []
  deriving DecidableEq, Repr

/-- What the model keeps of a Charter's compiled body (R14, R73, R78): the parameter values and the
tables that the chapters name.  The byte format of the body is not given; log 9. -/
structure Charter where
  /-- (register key, word) for every parameter the image sets. -/
  regs : List (Nat × Word) := []
  marks : List AdjMark := []
  modules : List ModRule := []
  /-- Stream 5 of each channel as declared (R277): 1 current, 2 voltage. -/
  spare : List (Nat × Nat) := []
  /-- Channels on which a pier module is expected (R82). -/
  expectCh : Nat := 0
  /-- Field node identities the Charter allows (R408), the map by 16 n + p, and the cell profiles. -/
  nodeRules : List ModRule := []
  nodeMap : List (Nat × NodeMap) := []
  profiles : List Profile := []
  /-- Trust anchors of operators and installers, and revoked certificate serials (R640). -/
  anchorsOp : List Nat := []
  anchorsInst : List Nat := []
  revoked : List Nat := []
  /-- The controller's source address of each safety connection (R617). -/
  parSrc : List (Nat × Nat) := []
  deriving DecidableEq, Repr

/-- A Charter image in flash (R75): its header, bytes 0 to 127, where a byte not listed is erased flash; its body as
stored; the key that made its SIGNATURE over those bytes, if one did; the first four bytes of its digest; and what the
body compiles (log 9). -/
structure Image where
  header : List Byte := []
  content : List Byte := []
  signer : Option Nat := none
  digestHead : Word := 0
  body : Charter := {}
  deriving DecidableEq, Repr

/-- The instructions of the IEEE 1149.1 port (R644): debug halts one mill engine, or lets it run. -/
inductive JtagIns
  | bypass | idcode | samplePreload | extest | halt (engine : Fin 128) | run (engine : Fin 128)
  deriving DecidableEq, Repr

/-- What opening the Ledger finds on one flash (R649, R656): erase suspend reported, 64 KiB segments, bytes of a
record cut off at the head (0 none), a good record that does not follow from its predecessor. -/
structure FlashScan where
  suspend : Bool
  segs : Nat
  torn : Nat
  broken : Bool
  deriving DecidableEq, Repr

/-- Why LEVEL rises (R674): an engine's busy share over 1 s in %, a LATE_STEP, the WARN of a region. -/
inductive ShedCause
  | load (busy : Nat) | lateStep | warn (region : Fin 8)
  deriving DecidableEq, Repr



/-- The commands (spec/opcode_table.json, spec/95_what_each_step_holds.md). -/
inductive Instr
  /-- REG_WRITE (R20): A session writes a register that has no row of its own; access code, LK role check and adjustable-set bounds are applied. -/
  | regWrite (who : Fin 384) (addr : Addr) (value : Word)
  /-- W1C_CLEAR (R36): A write of 1 clears a W1C bit, unless a set arrives within the write's handshake at the tile, in which case the set wins. -/
  | w1cClear (sess : Fin 256) (addr : Addr) (value : Word) (arrivals : Word)
  /-- PACE_MEASURE (R30): Every 1 µs each self-timed island measures its pace on its canary path. -/
  | paceMeasure (region : Fin 8) (island : Fin 128) (pace : BitVec 16)
  /-- PACE_REPORT (R30): Every 10 µs each region reports the lowest pace among its islands and updates KEY_PACE. -/
  | paceReport
  /-- PACE_FLOOR_EXPIRY (R32): A region below PACE_FLOOR for 100 µs sets FLOOR and enters Safe-state or retires its slowest eligible block. -/
  | paceFloorExpiry (region : Fin 8)
  /-- TILE_ERROR_DETECTED (R40): A tile detects an error in its own hardware, which is classified as Corrected, Contained, Degraded or Safe-state. -/
  | tileErrorDetected (site : Site) (fault : TileFault) (systemArea : Bool) (detail : Word)
  /-- HS_TIMEOUT (R41): A handshake without acknowledge for 64 times its slow-corner bound is detected by the requesting tile's watchdog and its block is Contained. -/
  | hsTimeout (site : Site) (detail : Word)
  /-- RESTART_COMPLETE (R43): A Contained block finishes its restart and reloads, its fence is released and RESTARTING clears. -/
  | restartComplete (site : Site)
  /-- RESTART_FAIL (R43): A restart not completed within its bound makes the block Degraded with cause RESTART_FAIL. -/
  | restartFail (site : Site)
  /-- CONT_WINDOW_END (R43): The fixed one-hour Contained-count window of a block ends and its count returns to 0. -/
  | contWindowEnd (site : Site)
  /-- HEARTBEAT (R46): The fault manager or safety supervisor misses the other's 10 µs heartbeat and the device enters Safe-state. -/
  | heartbeat (supervisorMissed : Bool)
  /-- CORRECTED_SUMMARY (R49): At the end of each one-second window of time base 3, each tile with corrected errors writes one summary record. -/
  | correctedSummary
  /-- KEY_RECOVER (R59): A write of 0x5AFE to KEY_RECOVER in Safe-state resets the device with code RECOVER; any other write is refused. -/
  | keyRecover (sess : Fin 256) (value : Word)
  /-- FEED_ENHANCE (R61): A feed's forward drop exceeds +20 mV and its MOSFET is enhanced. -/
  | feedEnhance (feed : Fin 2) (dropMv : Int)
  /-- FEED_REVERSE_OFF (R61): A feed's drop has stayed below −REV_THR for 1 µs and its MOSFET is turned off, setting its reverse flag. -/
  | feedReverseOff (feed : Fin 2) (dropMv : Int) (heldNs : Nat)
  /-- FEED_GOOD_EVAL (R62): Every 10 µs each feed is compared with FEED_GOOD and a feed falling below it sets its loss flag. -/
  | feedGoodEval (sample : SupplySample)
  /-- VCTL_LOW (R63): VCTL falls below VCTL_WARN with neither feed good, starting the power-down sequence or aborting rail sequencing. -/
  | vctlLow (vctlMv : Nat)
  /-- VCTL_RECOVERED (R63): VCTL has stayed at or above VCTL_WARN + 1.0 V for 100 µs and stops being low. -/
  | vctlRecovered (vctlMv : Nat) (heldUs : Nat)
  /-- POR_RELEASE (R66): VANA has been in window for 1 ms, power-on reset releases and the Supply region and feed control start. -/
  | porRelease (vanaDmv : Nat) (heldUs : Nat)
  /-- EN_VIO_ASSERT (R66): 10 ms after VCTL reaches FEED_GOOD the sequencer asserts EN_VIO. -/
  | enVioAssert
  /-- RAIL_ENABLE_NEXT (R66): 200 µs after a rail enters its window the sequencer asserts the next rail's enable. -/
  | railEnableNext
  /-- SUPPLIES_GOOD (R66): VSER_H enters its window, ALL_GOOD sets and the other regions leave reset. -/
  | suppliesGood (vserhDmv : Nat)
  /-- SEQ_TIMEOUT (R67): An enabled rail fails to reach its window within 10 ms, so SEQ_TIMEOUT sets and the enables are released, or the sequencer enters FAULT after the third attempt. -/
  | seqTimeout
  /-- SEQ_RETRY_END (R67): The 1 s retry wait ends and the sequencer restarts at step 2. -/
  | seqRetryEnd
  /-- ENABLE_RELEASE_STEP (R83): The next rail enable is released, 100 µs after the previous one, in power-down order. -/
  | enableReleaseStep
  /-- POR_RESET (R68): VANA falls below its trip limit and a power-on reset clears everything, including the Supply region. -/
  | porReset (vanaDmv : Nat)
  /-- RESET_N_LOW (R68): RESET_N held low for 1 µs resets every region other than Supply and stops SAFE_RUN. -/
  | resetNLow (heldNs : Nat)
  /-- RESET_N_RISE (R70): RESET_N rises and the start-up restarts at Charter load. -/
  | resetNRise
  /-- RAIL_TRIP (R68): A rail monitor trips for 2 µs, SAFE_RUN stops and the rails are released in power-down order. -/
  | railTrip (rail : Fin 6) (dmv : Nat) (heldNs : Nat)
  /-- RAIL_RESTART (R68): 100 ms after a RAIL or SUPPLY_LOSS reset the sequencer restarts from step 2. -/
  | railRestart
  /-- THERMAL_TRIP (R68): The junction has been at or above 120 °C for 1 ms, causing a THERMAL reset. -/
  | thermalTrip (tj : Int) (heldUs : Nat)
  /-- THERMAL_RELEASE (R68): The junction falls to 100 °C or below and the held restart proceeds from step 2. -/
  | thermalRelease (tj : Int)
  /-- FAILWARN_LEAD_END (R83): FAILWARN_LEAD after P1 expires, SAFE_RUN stops on every channel, an open command goes to every link and STR_READY deasserts. -/
  | failwarnLeadEnd
  /-- POWERDOWN_RECORD_DONE (R83): Final charge counts are taken, contexts are marked for restore and the power-down record is written (P4). -/
  | powerdownRecordDone
  /-- SUP_RESET_CMD (R86): A write of 0x5E7A runs P2 to P4 without a lead and then a SOFT reset; any other value is refused. -/
  | supResetCmd (sess : Fin 256) (value : Word)
  /-- SUP_FEED_CFG_WRITE (R89): An installer write to SUP_FEED_CFG, with FEED_GOOD forced to at least VCTL_WARN + 1.0 V. -/
  | supFeedCfgWrite (sess : Fin 256) (value : Word)
  /-- CHARTER_HEADERS_READ (R77): Both image headers are read and the body of the passing, higher-generation image is chosen. -/
  | charterHeadersRead (readErrA readErrB : Bool)
  /-- IMAGE_BODY_READ_DONE (R76): The streamed body of an image has been read and hashed and the loader judges its signature. -/
  | imageBodyReadDone (readErr : Bool)
  /-- ROLL_CALL_PASS_END (R82): The first roll-call pass ends when all expected partners are admitted or retired, or at 4 s, and PHASE becomes RUN. -/
  | rollCallPassEnd
  /-- BLOCK_LOCK_GAINED (R101): 64 consecutive valid blocks give block lock on a pier link. -/
  | blockLockGained (ch : Fin 32)
  /-- BLOCK_LOCK_LOST (R101): 16 bad of 64 blocks lose block lock, and LINK_LOST follows on the channel. -/
  | blockLockLost (ch : Fin 32)
  /-- FRAME_TICK (R102): Every 500 ns the device sends a downlink frame on each link carrying the present commands, ramps, loop steps and trim target. -/
  | frameTick
  /-- UPLINK_FRAME (R112): An uplink frame arrives and is judged; its stream bits are counted, and status, gate telemetry and mailbox fragment are taken. -/
  | uplinkFrame (ch : Fin 32) (frame : Option UplinkFrame)
  /-- URGENT_EVENT_RX (R199): A valid URGENT_EVENT block arrives and the channel enters TRIPPED with the module cause. -/
  | urgentEventRx (ch : Fin 32) (didt : Bool)
  /-- MBX_REPLY (R114): A complete mailbox reply arrives and advances IDENTIFY or CONFIGURE of the link. -/
  | mbxReply (ch : Fin 32)
  /-- MBX_REPLY_TIMEOUT (R114): A mailbox request has had no reply for 1 ms and is repeated, or after three repeats MBX_TIMEOUT sets. -/
  | mbxReplyTimeout (ch : Fin 32)
  /-- LINK_LOST (R125): No good uplink frame or an unchanged ACK_SEQ for LOSS_DEV frames stops SAFE_RUN and opens the channel. -/
  | linkLost (ch : Fin 32)
  /-- FRAME_SYNC_TIMEOUT (R126): FRAME_SYNC lasts 100 ms without four good consecutive frames and the link returns to BLOCK_SYNC. -/
  | frameSyncTimeout (ch : Fin 32)
  /-- LOST_RESYNC (R126): Block lock held for 100 µs after entry to LOST moves the link to FRAME_SYNC. -/
  | lostResync (ch : Fin 32)
  /-- PLK_CFG_WRITE (R131): An installer write to PLK_CFG, refused when it clears LINK_EN outside OPEN, TRIPPED or LOCKED. -/
  | plkCfgWrite (sess : Fin 256) (ch : Fin 32) (value : Word)
  /-- PLK_PARAM_WRITE (R134): A write of range thresholds while OPEN moves the link to CONFIGURE and PARAM is rewritten. -/
  | plkParamWrite (sess : Fin 256) (ch : Fin 32) (value : Word)
  /-- PLK_PARAM2_WRITE (R135): A maker write of LOSS_SLEW or TRIM_SLEW_MAX while OPEN moves the link to CONFIGURE. -/
  | plkParam2Write (sess : Fin 256) (ch : Fin 32) (value : Word)
  /-- INSERT (R140): An INSERT command in INS_CMD puts an OPEN channel into WAIT or is refused with BUSY. -/
  | insert (sess : Fin 256) (ch : Fin 32) (value : Word) (withOpen : Bool)
  /-- OPEN (R141): An OPEN command in INS_CMD opens the channel according to its state. -/
  | openCmd (sess : Fin 256) (ch : Fin 32) (value : Word)
  /-- TOKEN_GRANT (R139): The free insertion token is granted to the head of WAIT and the channel enters CHECK. -/
  | tokenGrant
  /-- CHECK_EVAL (R146): CHECK tests its conditions in order, waiting for the trim model to reach 0 V, and passes to SENSE or refuses. -/
  | checkEval (ch : Fin 32)
  /-- QUEUE_TIMEOUT (R140): A channel in WAIT for QUEUE_MAX leaves for OPEN with cause QUEUE_TIMEOUT. -/
  | queueTimeout (ch : Fin 32)
  /-- SENSE_END (R150): TSENSE ends, VDIFF_SENSE is written and a path is chosen or the insertion refused. -/
  | senseEnd (ch : Fin 32)
  /-- INRUSH_TIMEOUT (R147): The inrush timer expires and the insertion goes to OPENING with cause INRUSH_TIMEOUT. -/
  | inrushTimeout (ch : Fin 32)
  /-- TRIM_TARGET_UPDATE (R156): Every 1 ms in TRIM_ALIGN, the trim target is set to Vdiff averaged over the last 1 ms. -/
  | trimTargetUpdate (ch : Fin 32)
  /-- ALIGN_TIMEOUT (R144): TRIM_ALIGN reaches 100 ms and the insertion goes to OPENING. -/
  | alignTimeout (ch : Fin 32)
  /-- VSW10_UPDATE (R149): Every 10 µs Vsw_10 is formed and the hold counts of alignment, LIMIT_CHARGE exit and reverse reclose advance or restart. -/
  | vsw10Update (ch : Fin 32)
  /-- INS_BUS_WRITE (R191): A write of PCS_HOLD in INS_BUS changes the bus-held value. -/
  | insBusWrite (sess : Fin 256) (value : Word)
  /-- GATE_RISE_TIMEOUT (R168): ENHANCE lasts 100 µs without every healthy group passing or being DAMAGED, and the channel goes to OPENING. -/
  | gateRiseTimeout (ch : Fin 32)
  /-- CONFIRM_DONE (R169): CONFIRM holds for TCONFIRM, so the channel enters READY, releases the token and asserts STR_READY. -/
  | confirmDone (ch : Fin 32)
  /-- THERMAL_MODEL_UPDATE (R162): Every 10 µs each group's Foster thermal model is advanced from its attributed power and the baseplate temperature. -/
  | thermalModelUpdate (ch : Fin 32)
  /-- ROTATION_SLOT (R165): At a slot boundary a new rotation set is chosen and the incoming groups are sent LINEAR. -/
  | rotationSlot (ch : Fin 32)
  /-- ROTATION_OUTGOING_OFF (R165): 10 µs after the slot boundary the outgoing groups are sent OFF. -/
  | rotationOutgoingOff (ch : Fin 32)
  /-- INS_CFG_WRITE (R177): An installer write to INS_CFG, refused when VMATCH would fall below VFWD. -/
  | insCfgWrite (sess : Fin 256) (ch : Fin 32) (value : Word)
  /-- INS_THERM_WRITE (R181): A maker write to INS_THERM, refused when it breaks the order of the TJ limits. -/
  | insThermWrite (sess : Fin 256) (ch : Fin 32) (value : Word)
  /-- INS_GRAMP_WRITE (R184): An installer write to INS_GRAMP, refused when VGS_END is not above VGS_START. -/
  | insGrampWrite (sess : Fin 256) (ch : Fin 32) (value : Word)
  /-- FAST_PATH_UPDATE (R292): At each even-FRAME_SEQ module tick, the sinc3 fast value of every stream is formed and the 1 µs protection checks run. -/
  | fastPathUpdate (ch : Fin 32)
  /-- ILIM_EXIT (R204): VGS_TGT at VGS_END with low current held for 20 µs, so every healthy group is sent ON to leave the limit. -/
  | ilimExit (ch : Fin 32)
  /-- ILIM_TIMEOUT (R205): The fault timer reaches T_FLT in active current limit and the channel trips. -/
  | ilimTimeout (ch : Fin 32)
  /-- FLT_TIMER_RESET (R205): 10 ms out of limit without a break resets the fault timer to zero. -/
  | fltTimerReset (ch : Fin 32)
  /-- SLOW_ACC_UPDATE (R229): Every 100 µs the I²t accumulator is updated, tripping a gated channel with cause SLOW at K_EFF. -/
  | slowAccUpdate (ch : Fin 32)
  /-- SHUNT_COMPARE (R212): Every 10 ms the main and check stream means are compared, setting SHUNT_DRIFT or tripping with SHUNT_DISAGREE. -/
  | shuntCompare (ch : Fin 32)
  /-- VBUS_MED_UPDATE (R214): Every 10 µs Vbus_med is formed and the bus-failure qualification counts advance. -/
  | vbusMedUpdate
  /-- BUS_FAILURE_QUALIFIED (R215): Bus under- or overvoltage held for BUS_T asserts FAILWARN_N and withholds the token. -/
  | busFailureQualified
  /-- BUS_LEAD_END (R215): FAILWARN_LEAD after a bus failure ends and every channel from TRIM_ALIGN to READY trips with BUS_UV or BUS_OV. -/
  | busLeadEnd
  /-- BUS_FAILWARN_RELEASE (R215): 1 ms after the last opened channel reports OFF, FAILWARN_N releases and the token is granted again. -/
  | busFailwarnRelease
  /-- OPEN_FAIL_TIMEOUT (R216): Groups not OFF 100 µs after an open decision, so URGENT_OPEN is sent and SAFE_RUN stopped, then a lockout OPEN_FAIL after a further 100 µs. -/
  | openFailTimeout (ch : Fin 32)
  /-- SWITCH_CONDUCT (R217): |I_prot| > 20 A for 100 µs while commanded open stops and holds SAFE_RUN. -/
  | switchConduct (ch : Fin 32)
  /-- RETRY_READY (R218): The retry delay has elapsed and the cool-down is met, so a TRIPPED channel goes to WAIT or OPEN. -/
  | retryReady (ch : Fin 32)
  /-- RETRY_HEAL (R220): A channel in READY for RETRY_HEAL returns RETRY_USED to 0 and sets HEAL. -/
  | retryHeal (ch : Fin 32)
  /-- PROT_CLEAR_LOCKOUT (R221): PROT_CLEAR ACTION 1 clears a lockout to OPEN when its cause's condition holds. -/
  | protClearLockout (sess : Fin 256) (ch : Fin 32) (value : Word)
  /-- PROT_CLEAR_DAMAGED (R209): PROT_CLEAR ACTION 2 clears the DAMAGED marks of the groups in GROUP_MASK while OPEN or LOCKED. -/
  | protClearDamaged (sess : Fin 256) (ch : Fin 32) (value : Word)
  /-- PROT_CLEAR_SR_RELEASE (R240): PROT_CLEAR ACTION 3 releases a held SAFE_RUN when current is low and every group is OFF. -/
  | protClearSrRelease (sess : Fin 256) (ch : Fin 32) (value : Word)
  /-- PROT_ILIM_WRITE (R226): An installer write to ILIM and ISC, refused when it breaks their constraints and applied at the next update. -/
  | protIlimWrite (sess : Fin 256) (ch : Fin 32) (value : Word)
  /-- PROT_SLOW_WRITE (R228): An installer write to ITRIP_SLOW and K_SLOW, refused when ITRIP_SLOW would exceed ILIM − 10 A. -/
  | protSlowWrite (sess : Fin 256) (ch : Fin 32) (value : Word)
  /-- PROT_REV_WRITE (R230): An installer write to IREV and VFWD, refused when VFWD would exceed VMATCH. -/
  | protRevWrite (sess : Fin 256) (ch : Fin 32) (value : Word)
  /-- PROT_MOD_WRITE (R232): A maker write to module protection parameters while OPEN, which is passed to the module through PARAM. -/
  | protModWrite (sess : Fin 256) (ch : Fin 32) (value : Word) (didt : Bool)
  /-- PROT_BUS_CFG_WRITE (R242): An installer write to bus-failure settings, refused when BUS_UV + 100 V exceeds BUS_OV. -/
  | protBusCfgWrite (sess : Fin 256) (value : Word)
  /-- PROT_LAST_READ (R222): A read of PROT_LAST word 0 copies words 1 to 4 into the requester's shadows. -/
  | protLastRead (sess : Fin 256) (ch : Fin 32)
  /-- COORD_TRIP_SEND (R223): At t0 + 2.5 µs the coordinated-trip message of the trips stamped in [t0, t0 + 2 µs) is closed and sent in PROTECT. -/
  | coordTripSend
  /-- SHARE_PERIOD (R253): At each sharing period boundary, I_tot is formed and each SHARE member's PI loop updates its trim command. -/
  | sharePeriod
  /-- HANDOVER_WINDOW_END (R256): 20 ms after a handover HO_ACTIVE clears. -/
  | handoverWindowEnd (ch : Fin 32)
  /-- TRM_CFG_WRITE (R247): A write of SHARE_EN moves a trim between SHARE and VOLT. -/
  | trmCfgWrite (sess : Fin 256) (ch : Fin 32) (value : Word)
  /-- TRM_VSET_WRITE (R245): A write of TRM_VSET sets the voltage-mode trim target, clamped under R254. -/
  | trmVsetWrite (sess : Fin 256) (ch : Fin 32) (value : Word)
  /-- TRIM_CURRENT_COMPARE (R260): Every 10 ms the trim and string current means are compared, setting TRIM_IMISMATCH. -/
  | trimCurrentCompare (ch : Fin 32)
  /-- WEFF_UPDATE (R278): Every 10 ms the temperature-compensated packet weights are recomputed from the shunt NTC. -/
  | weffUpdate
  /-- ZERO_LEARN (R279): At the end of each 1 s period while open, the zero offsets are updated from the stream means. -/
  | zeroLearn
  /-- GRID_CYCLE_BOUNDARY (R284): The seconds of time base 2 increment at a grid cycle boundary. -/
  | gridCycleBoundary
  /-- WINDOW_END (R286): At a window boundary each admitted channel's window record is formed and written. -/
  | windowEnd
  /-- WIN_REQUAL (R287): Time base 2 qualified for REQUAL, so windows return to LOCKED at the next locked boundary. -/
  | winRequal
  /-- MEAS_TALLY_READ (R308): A read of word 0 of MEAS_TALLY or MEAS_QCOUNT copies words 1 to 3 into shadows. -/
  | measTallyRead (who : Fin 384) (ch : Fin 32) (charge : Bool)
  /-- MEAS_WIN_READ (R311): A read of MEAS_WIN word 0 copies words 1 to 7 into shadows. -/
  | measWinRead (who : Fin 384) (ch : Fin 32)
  /-- ADC_ENTRY_DONE (R315): A converter entry completes and writes its result, then the sequence moves on or resumes. -/
  | adcEntryDone (conv : Fin 48) (raw : Int)
  /-- ADC_REG_TRIGGER (R322): A regular trigger instant starts a pass, or is dropped with TRIG_OVERRUN when the converter is not ready. -/
  | adcRegTrigger (conv : Fin 48)
  /-- ADC_INJ_TRIGGER (R318): An injected trigger instant abandons the regular entry and starts the injected run, or is dropped. -/
  | adcInjTrigger (conv : Fin 48)
  /-- ADC_GROUP_TRIGGER (R325): A group trigger starts every ready member at one clock edge and stamps MEAS_GRP_STAMP. -/
  | adcGroupTrigger (group : Fin 16)
  /-- SWTRIG_REGULAR (R321): A MEAS_SWTRIG write naming a converter's regular sequence triggers it. -/
  | swtrigRegular (sess : Fin 256) (target : Fin 64)
  /-- SWTRIG_INJECTED (R321): A MEAS_SWTRIG write with INJ = 1 triggers a converter's injected sequence. -/
  | swtrigInjected (sess : Fin 256) (target : Fin 64)
  /-- SWTRIG_GROUP (R321): A MEAS_SWTRIG write with GRP = 1 triggers a sampling group. -/
  | swtrigGroup (sess : Fin 256) (target : Fin 64)
  /-- ADC_CFG_WRITE (R320): A converter configuration write takes effect at the end of the pass or run in progress, or at once when idle. -/
  | adcCfgWrite (sess : Fin 256) (reg : AdcReg) (idx : Fin 192) (value : Word)
  /-- CAL_START_CMD (R331): A START bit in MEAS_CAL_CMD begins calibration of a converter block. -/
  | calStartCmd (sess : Fin 256) (value : Word)
  /-- CAL_AUTO (R331): A block's junction temperature differs by CAL_DT from its TJ_CAL and it is calibrated automatically. -/
  | calAuto (block : Fin 12) (tj : Int)
  /-- CAL_DONE (R329): A calibration completes its phases and passes or fails, possibly Containing the block. -/
  | calDone (block : Fin 12) (tj : Int) (runs : Vector CalRun 4)
  /-- REF_CHECK (R333): Every 100 µs each block's reference monitor checks INT, EXT and SUP, making them GOOD or BAD. -/
  | refCheck (block : Fin 12) (intPpm : Int) (extPpm : Int)
  /-- REF_SWITCH_DONE (R335): The new reference is connected and settled, REF_NOW updates and sequences resume. -/
  | refSwitchDone (conv : Fin 48)
  /-- CONV_REF_WRITE (R334): A write of REF_PREF forces a switch, refused for EXT when none is fitted. -/
  | convRefWrite (sess : Fin 256) (conv : Fin 48) (value : Word)
  /-- REF_LATE_TIMEOUT (R339): INT not GOOD within 100 ms of REF_SETTLE, so REF_INT_FAIL sets and converters recalibrate against EXT or SUP. -/
  | refLateTimeout
  /-- OW_DUE (R341): An open-wire test falls due on an OW_PERIOD boundary and is queued after the next regular pass. -/
  | owDue (conv : Fin 48) (loc : Fin 4)
  /-- GRP_STAMP_READ (R355): A read of MEAS_GRP_STAMP word 0 copies word 1 into a shadow. -/
  | grpStampRead (who : Fin 384) (group : Fin 16)
  /-- TAL_ENABLE (R364): A write of EN = 1 starts a tally timer with its count and prescaler at 0. -/
  | talEnable (sess : Fin 256) (t : Fin 64) (value : Word)
  /-- TAL_DISABLE (R364): A write of EN = 0 stops a tally timer with count and output held. -/
  | talDisable (sess : Fin 256) (t : Fin 64) (value : Word)
  /-- TAL_RELOAD_WRITE (R363): A RELOAD write is staged until the next zero event. -/
  | talReloadWrite (sess : Fin 256) (t : Fin 64) (value : Word)
  /-- TAL_CMP_WRITE (R368): A CMP write arms the compare and evaluates it at once, firing late when inside its window. -/
  | talCmpWrite (sess : Fin 256) (t : Fin 64) (k : Fin 4) (value : Word)
  /-- TAL_ACT_WRITE (R368): A write of TAL_ACT sets actions and EDGE and arms the compares. -/
  | talActWrite (sess : Fin 256) (t : Fin 64) (value : Word)
  /-- TAL_SYNC_WRITE (R366): A write of TAL_SYNC sets the sync source and re-arms ONCE. -/
  | talSyncWrite (sess : Fin 256) (t : Fin 64) (value : Word)
  /-- TALLY_ZERO_EVENT (R362): A timer's phase returns to 0, applying ZACT, a staged RELOAD and its converter trigger. -/
  | tallyZeroEvent (t : Fin 64)
  /-- TALLY_COMPARE_FIRE (R368): An armed compare point comes within the window and fires, applying its action and trigger. -/
  | tallyCompareFire (t : Fin 64) (k : Fin 4)
  /-- TALLY_SYNC_RESTART (R365): A sync event restarts the timer with a zero event, setting SLIP when it was out of phase. -/
  | tallySyncRestart (t : Fin 64)
  /-- TRIGGER_SEND (R387): About 20 µs before each sample instant the device sends a TRIGGER from both chain ends. -/
  | triggerSend
  /-- SAMPLE_INSTANT (R291): At each sample instant the charge slice of every string is closed and sent to the engines. -/
  | sampleInstant
  /-- RATE_APPLY (R386): A staged RATE takes effect at the first seconds boundary 10 ms after the write. -/
  | rateApply
  /-- SWEEP_SEND (R392): At I + 30 µs each chain end that reaches nodes sends a SWEEP frame with its command area. -/
  | sweepSend (ch : Fin 32)
  /-- SWEEP_FRAME_RX (R395): A returning SWEEP or RECOVER frame is received and its good slots and command answers are taken. -/
  | sweepFrameRx (ch : Fin 32) (recover : Bool) (instant : Word) (hdrGood : Bool) (slots : List Slot)
  /-- SWEEP_FINAL (R396): The sweep record of an instant becomes final when all slots are taken or FINAL_WIN expires. -/
  | sweepFinal (ch : Fin 32)
  /-- HR_LOCK_LOST (R399): A device chain-end receiver loses lock and the chain enters SPLIT. -/
  | hrLockLost (ch : Fin 32) (loss : LockLoss)
  /-- HR_LOOP_RX (R399): A LOOP set arrives from a node and the chain enters SPLIT. -/
  | hrLoopRx (ch : Fin 32) (endB : Bool) (set : LoopSet) (deadB : Bool)
  /-- RECOVER_SEND (R400): At the first free time on an end's lane a RECOVER frame asks for missing slots. -/
  | recoverSend (ch : Fin 32)
  /-- ENUM_RX (R405): An ENUM frame returns to an end, giving positions and enabling RING or SPLIT operation. -/
  | enumRx (ch : Fin 32) (fromB : Bool) (atB : Bool) (count : Fin 256) (good : Bool)
  /-- NODE_LOSS_TIMEOUT (R401): An expected node without admission for NODE_LOSS_T while READY raises ZERO_REQ. -/
  | nodeLossTimeout (ch : Fin 32) (node : Fin 16)
  /-- NODE_CMD_RETRY (R406): A node command without answer for 4 frames is resent, and after 3 repeats the node is refused. -/
  | nodeCmdRetry (ch : Fin 32) (endB : Bool)
  /-- PROBE_CYCLE (R389): Once per second every node is probed from each reachable side. -/
  | probeCycle (ch : Fin 32)
  /-- PROBE_RX (R389): A PROBE returns and the delay is measured, with TIMING rewritten when it moved by more than 2 ns. -/
  | probeRx (ch : Fin 32) (endB : Bool) (set : ProbeSet) (roundTripNs : Nat)
  /-- HR_LINK_TIMEOUT (R403): A chain in LINK_UP for 100 ms without lock and with EXPECT > 0 enters FAULT. -/
  | hrLinkTimeout (ch : Fin 32)
  /-- HR_NO_NODE_TIMEOUT (R403): A chain in RUN reaching no node for 100 ms returns to LINK_UP. -/
  | hrNoNodeTimeout (ch : Fin 32)
  /-- HR_CHAIN_CFG_WRITE (R420): An installer write to HR_CHAIN_CFG, refused when EXPECT changes while the channel is not OPEN. -/
  | hrChainCfgWrite (sess : Fin 256) (ch : Fin 32) (value : Word)
  /-- EST_STEP (R435): Once a step's records are final, each cell's filter predicts and corrects its state and updates its context. -/
  | estStep (ch : Fin 32)
  /-- AGGREGATE (R456): Within 60 ms of each 100 ms instant, string and container values are written as one update. -/
  | aggregate
  /-- EST_STR_SOC_READ (R456): A read of EST_STR_SOC copies the string's other registers into shadows. -/
  | estStrSocRead (who : Fin 384) (ch : Fin 32)
  /-- EST_CTR_SOC_READ (R456): A read of EST_CTR_SOC copies the container registers into shadows. -/
  | estCtrSocRead (who : Fin 384)
  /-- ENGINE_RESUME_PREDICT (R438): An engine resuming after a pause makes one prediction-only step over the pause from latched counts. -/
  | engineResumePredict (engine : Fin 128)
  /-- SEED_WAIT_TIMEOUT (R442): A cell in SEEDING for SEED_WAIT is seeded weakly. -/
  | seedWaitTimeout (ch : Fin 32)
  /-- CONTEXT_RESTORE (R443): At start-up or a Granary rebuild, a cell's context is restored from the Ledger and advanced by the counts. -/
  | contextRestore (cell : Fin 16384)
  /-- CONTEXT_PERSIST (R444): A cell block's contexts are persisted to the Ledger on its turn within PERSIST_T. -/
  | contextPersist (block : Fin 128)
  /-- SWAP_KEEP (R445): EST_SWAP_CMD ACTION KEEP returns the cells of a swapped node to their kept contexts. -/
  | swapKeep (sess : Fin 256) (ch : Fin 32) (pos : Fin 16) (key : BitVec 16)
  /-- SWAP_FRESH (R445): EST_SWAP_CMD ACTION FRESH discards kept contexts at once. -/
  | swapFresh (sess : Fin 256) (ch : Fin 32) (pos : Fin 16) (key : BitVec 16)
  /-- SWAP_KEEP_EXPIRY (R445): 10 min after a swap without a command, the kept contexts are discarded. -/
  | swapKeepExpiry (ch : Fin 32) (pos : Fin 16)
  /-- EST_SOCLIM_WRITE (R462): An installer write to SOC or voltage limits, refused when the limits are inverted. -/
  | estSoclimWrite (sess : Fin 256) (vlim : Bool) (value : Word)
  /-- RIPPLE_ID_WINDOW (R476): At the end of an identification window, ripple lines are found and Rs is measured and learned per cell. -/
  | rippleIdWindow (ch : Fin 32)
  /-- RELAX_FIT (R479): A relaxation hold completes T_RLX and the RC parameters are fitted and learned. -/
  | relaxFit (cell : Fin 16384)
  /-- SOH_STALE_TIMEOUT (R486): Time since T_CAP reaches SOH_STALE_T and SOH_STALE sets. -/
  | sohStaleTimeout (cell : Fin 16384)
  /-- CHARGE_CHECKPOINT (R489): Every CKPT_T a charge checkpoint of each admitted channel is appended. -/
  | chargeCheckpoint
  /-- JOURNAL_WRITE (R490): At each JOURNAL_T boundary changed impedance entries are journalled. -/
  | journalWrite
  /-- SNAPSHOT_WRITE (R490): A cell's whole impedance table is snapshot on its turn within SNAP_T. -/
  | snapshotWrite (cell : Fin 16384)
  /-- RECONCILE (R493): At start-up each channel's counts are reconciled as EXACT, ESTIMATED or NONE. -/
  | reconcile (ch : Fin 32)
  /-- DSP_REQ_WRITE (R504): A dispatch request write, refused outside RUN, in Safe-state, with VCTL low or a bus warning. -/
  | dspReqWrite (sess : Fin 256) (value : Word)
  /-- DISPATCH_PASS (R505): At each aggregate instant, fractions and container limits are computed and published. -/
  | dispatchPass
  /-- LIMIT_REPUBLISH (R509): A READY channel leaving READY, limiting or blocking republishes the limits within 1 ms. -/
  | limitRepublish (ch : Fin 32)
  /-- ZERO_REQ_OPEN (R510): A zero-requested string is sent OPEN once its current is at most 20 A, or at 1 s. -/
  | zeroReqOpen (ch : Fin 32)
  /-- DSP_EVT_READ (R511): A read of DSP_EVT returns and removes the oldest event word. -/
  | dspEvtRead (who : Fin 384)
  /-- DSP_ACK_WRITE (R511): An operator acknowledges a pending event by code and channel. -/
  | dspAckWrite (sess : Fin 256) (value : Word)
  /-- BAL_PASS (R512): Every BAL_PERIOD the balancing pass chooses cells to bleed and sends BAL or BAL_STOP. -/
  | balPass
  /-- DSP_BAL_CFG_WRITE (R526): An installer write of balancing settings, refused when BAL_ON_T is below twice BAL_PERIOD. -/
  | dspBalCfgWrite (sess : Fin 256) (second : Bool) (value : Word)
  /-- HVAC_EVAL (R514): Every 1 s the HVAC mode and setpoint are computed and published. -/
  | hvacEval
  /-- REC_FRAME_WRITE (R515): When every chain's record of an instant is final, a recorder frame is written and POST counted down to FROZEN. -/
  | recFrameWrite
  /-- REC_ARM (R517): DSP_REC_CMD ARM moves the recorder to ARMED and discards the previous capture. -/
  | recArm (sess : Fin 256)
  /-- REC_TRIGGER (R517): DSP_REC_CMD TRIGGER is a software trigger of the recorder. -/
  | recTrigger (sess : Fin 256)
  /-- REC_STOP (R517): DSP_REC_CMD STOP moves the recorder to IDLE. -/
  | recStop (sess : Fin 256)
  /-- REC_STAMP_READ (R530): A read of DSP_REC_STAMP word 0 copies word 1 into a shadow. -/
  | recStampRead (who : Fin 384)
  /-- SESSION_HANDSHAKE (R543): A DTLS handshake is authenticated and opens a session, or is refused. -/
  | sessionHandshake (h : Handshake)
  /-- SESSION_IDLE_TIMEOUT (R543): A session carrying no record for SESS_IDLE is closed and its queues released. -/
  | sessionIdleTimeout (sess : Fin 256)
  /-- SESSION_CLOSE (R535): A session closes and its queues and subscriptions are released. -/
  | sessionClose (sess : Fin 256)
  /-- SERVICE_OPEN (R535): A session opens a service and binds its queues, or the request is refused with CAPACITY. -/
  | serviceOpen (sess : Fin 256) (service : Service) (queues : Fin 1024) (subs : Fin 64)
  /-- FRAME_ENQUEUE (R536): A frame enters its queue or is dropped when a non-protect queue is full. -/
  | frameEnqueue (queue : Fin 65536) (cls : Fin 6) (port kind dst : Byte) (payload : List Byte)
  /-- FRAME_SEND (R537): An egress port starts the next frame chosen by class priority and deficit round robin. -/
  | frameSend (port : Fin 4)
  /-- ETH_FRAME_RX (R540): An Ethernet frame is received, with PRP duplicates discarded, and delivered to its queue. -/
  | ethFrameRx (port : Fin 2) (frame : EthFrame)
  /-- PRP_SUPERVISION (R540): Every 2 s a PRP supervision frame is sent. -/
  | prpSupervision
  /-- ETH_LINK_CHANGE (R539): An Ethernet port trains up or goes down. -/
  | ethLinkChange (port : Fin 2) (state : Fin 3)
  /-- PREEMPT_VERIFY_DONE (R541): IEEE 802.3br verification succeeds and preemption is turned on for the port. -/
  | preemptVerifyDone (port : Fin 2)
  /-- SPAN_FRAME_RX (R547): A Span frame with good checks is stripped, delivered and/or forwarded, with dual copies deduplicated. -/
  | spanFrameRx (west : Bool) (good : Bool) (queue : Fin 65536) (residence : Nat) (frame : SpanFrame)
  /-- COORD_TRIP_RX (R551): A coordinated-trip message from another device is delivered and acted on according to FOLLOW. -/
  | coordTripRx
  /-- SPAN_TRIP_RX_READ (R570): A read of SPAN_TRIP_RX word 0 copies words 1 to 3 into shadows. -/
  | spanTripRxRead (who : Fin 384)
  /-- SPAN_SELF_TEST_PASS (R552): Both ports pass the loop-through self-test, go to TRAIN and BYPASS_HOLD rises. -/
  | spanSelfTestPass
  /-- SPAN_SELF_TEST_TIMEOUT (R552): Self-test fails for 100 ms, so SELF_FAIL sets, and after three failures the port goes DOWN. -/
  | spanSelfTestTimeout
  /-- SPAN_TRAIN_DONE (R552): Both lanes lock with FEC and the port enters HELLO. -/
  | spanTrainDone (west : Bool)
  /-- SPAN_LOCK_LOST (R552): A Span port loses block lock and retrains, retiring its neighbour. -/
  | spanLockLost (west : Bool)
  /-- NEIGHBOUR_SEND (R552): Every 10 µs a NEIGHBOUR frame is sent on each port. -/
  | neighbourSend
  /-- NEIGHBOUR_MISS (R552): Three NEIGHBOUR frames are missed and the port retrains. -/
  | neighbourMiss (west : Bool)
  /-- JOIN_TIMEOUT (R553): Neither port reaches UP within 1 s of joining, so BYPASS_HOLD falls and JOIN_FAIL sets. -/
  | joinTimeout
  /-- JOIN_RETRY (R553): 10 s after a failed join both ports return to SELF_TEST. -/
  | joinRetry
  /-- RING_SCAN_SEND (R555): Every 10 ms a RING_SCAN is sent from the east port. -/
  | ringScanSend
  /-- RING_SCAN_TIMEOUT (R555): A scan not returned within 20 ms clears RING_CLOSED and sets RING_OPEN. -/
  | ringScanTimeout
  /-- INJ_START (R557): INJ_CMD START begins a link fault injection when its interlock holds, or it is refused. -/
  | injStart (sess : Fin 256) (count : BitVec 16)
  /-- INJ_STOP (R557): INJ_CMD STOP ends the injection in progress. -/
  | injStop (sess : Fin 256)
  /-- INJ_TIMEOUT (R557): INJ_T elapses and the injection ends. -/
  | injTimeout
  /-- TB_NS_READ (R578): A read of TB_NS returns the live nanoseconds and loads the seconds and fraction shadows. -/
  | tbNsRead (who : Fin 384) (tb : Fin 8)
  /-- BF_SNAP (R579): A SNAP write copies all eight time bases at one edge into the writer's snapshot registers. -/
  | bfSnap (sess : Fin 256)
  /-- TB_INC_WRITE (R576): A write of TB_INC_NS applies it with the held fraction at the next edge. -/
  | tbIncWrite (who : Fin 384) (tb : Fin 8) (value : Word)
  /-- TB_ADJ_WRITE (R577): A write of D to TB_ADJ starts, replaces or cancels a slew. -/
  | tbAdjWrite (who : Fin 384) (tb : Fin 8) (value : Word)
  /-- SLEW_DONE (R577): A slew has added its full D and ADJ_DONE sets. -/
  | slewDone (tb : Fin 8)
  /-- TB_APPLY (R580): TB_CMD APPLY steps the base to the staged value, ending slews and qualification. -/
  | tbApply (who : Fin 384) (tb : Fin 8)
  /-- TB_SERVO_REPORT (R583): A servo write of TB_SERVO reports LOCK and OFFSET and updates qualification. -/
  | tbServoReport (who : Fin 384) (tb : Fin 8) (value : Word)
  /-- SERVO_REPORT_TIMEOUT (R583): 3 s without a servo report loses qualification and sets SERVO_LATE. -/
  | servoReportTimeout (tb : Fin 8)
  /-- REF_REPORT (R584): A servo write of BF_REF_RPT reports a reference's validity and drives selection or return. -/
  | refReport (who : Fin 384) (ref : Fin 3) (value : Word)
  /-- REF_REPORT_TIMEOUT (R584): 3 s without a report makes a reference BAD. -/
  | refReportTimeout (ref : Fin 3)
  /-- HOLDOVER_QUAL_END (R587): HOLD_QUAL after entering HOLDOVER ends and time base 0 loses qualification. -/
  | holdoverQualEnd
  /-- PTP_MESSAGE_RX (R591): A PTP event message is received and stamped at its timestamp point. -/
  | ptpMessageRx (port : Fin 4) (kind : PtpKind) (sub : Fin 65536)
  /-- SPAN_SYNC_SEND (R592): Every 125 ms a device on reference A or B sends a one-step Sync on Span. -/
  | spanSyncSend
  /-- SPAN_PDELAY (R592): Every 1 s the peer delay of each Span port is measured. -/
  | spanPdelay (west : Bool) (delay : Word)
  /-- GRID_SYNC_EDGE (R595): A GRID_SYNC rising edge is stamped on time bases 0 and 2 for the servo. -/
  | gridSyncEdge (sub : Fin 65536)
  /-- GRID_EDGE_MISSING (R595): No grid edge within 1.5 periods makes the next report LOCK = 0. -/
  | gridEdgeMissing
  /-- PARAPET_PDU_RX (R618): A Parapet PDU is checked by both lanes and applied to its connection. -/
  | parapetPduRx (span : Bool) (src : Nat) (pdu : ParPdu)
  /-- PARAPET_RELAY (R616): A datagram for another device is relayed unchanged onto Span. -/
  | parapetRelay (tdst : Byte) (connId : Word) (src : Nat) (pdu : List Byte)
  /-- PARAPET_WATCHDOG (R620): A connection's watchdog expires without an accepted COMMAND and it enters FAILSAFE. -/
  | parapetWatchdog (conn : Fin 256)
  /-- SSI_LANE_MISMATCH (R625): The two lanes disagree for 100 µs and the device enters Safe-state with SSI_LANE. -/
  | ssiLaneMismatch (mask : Word)
  /-- SSI_READBACK_FAULT (R626): Gate or ball readback shows wrong pulses, entering Safe-state with SSI_READBACK. -/
  | ssiReadbackFault (ch : Fin 32)
  /-- SSI_GATE_TEST (R626): During CALIBRATE each gate is tested, and a failure enters Safe-state with SSI_GATE. -/
  | ssiGateTest (ch : Fin 32) (lane : Fin 2) (pass : Bool)
  /-- PROOF_DUE (R629): A channel's last SSI demand becomes older than PROOF_T and PROOF_DUE sets. -/
  | proofDue (ch : Fin 32)
  /-- SSI_LAST_READ (R635): A read of SSI_LAST word 0 copies words 1 to 3 into shadows. -/
  | ssiLastRead (who : Fin 384)
  /-- MAKER_EN_ASSERT (R643): MAKER_EN high for 10 ms asserts maker enable and is recorded. -/
  | makerEnAssert (heldUs : Nat)
  /-- MAKER_EN_DEASSERT (R643): MAKER_EN low for 1 ms closes the maker session, clears DEBUG_EN and releases halts. -/
  | makerEnDeassert (heldUs : Nat)
  /-- DEBUG_EN_WRITE (R644): The maker writes DEBUG_EN, enabling or disabling the debug instructions. -/
  | debugEnWrite (sess : Fin 256) (value : Word)
  /-- JTAG_INSTRUCTION (R644): A JTAG instruction is loaded, with EXTEST refused unless every channel is open. -/
  | jtagInstruction (ins : JtagIns)
  /-- KEY_PROGRAM (R645): TG_KEY_CMD PROGRAM writes a Charter key slot once. -/
  | keyProgram (sess : Fin 256) (slot : Fin 4) (key : BitVec 16) (identity : Nat)
  /-- KEY_REVOKE (R645): TG_KEY_CMD REVOKE revokes a key slot, unless none would remain. -/
  | keyRevoke (sess : Fin 256) (slot : Fin 4) (key : BitVec 16)
  /-- IMAGE_WRITE (R646): A maker session sends a Charter image to be written to an allowed flash. -/
  | imageWrite (sess : Fin 256) (flash : Fin 2) (image : Image)
  /-- IMAGE_WRITE_DONE (R646): The image erase, program and read-back complete and IMAGE_WRITE is recorded. -/
  | imageWriteDone (flash : Fin 2) (pass : Bool)
  /-- AUDIT_SUMMARY_MINUTE (R647): At each minute of time base 3 an AUDIT_SUMMARY is appended for sessions that wrote DSP_REQ. -/
  | auditSummaryMinute
  /-- LEDGER_PROGRAM_DONE (R654): A buffered record is programmed and read back on a flash, retiring the segment on failure. -/
  | ledgerProgramDone (flash : Fin 2) (ok : Bool)
  /-- LEDGER_ERASE_DONE (R653): A segment erase completes after live records were copied forward. -/
  | ledgerEraseDone (flash : Fin 2) (ok : Bool)
  /-- LEDGER_SEAL (R655): After 4,096 records or an hour, a signed SEAL record is appended. -/
  | ledgerSeal
  /-- LEDGER_OPEN (R656): At start the Ledger head is found, the chain walked and a RESUME appended. -/
  | ledgerOpen (scans : Vector FlashScan 2) (sealOk : Bool)
  /-- LDG_SEQ_READ (R665): A read of LDG_SEQ word 0 copies word 1 into a shadow. -/
  | ldgSeqRead (who : Fin 384)
  /-- ALMANAC_REPLAN (R673): At each hour the Almanac recomputes its channel, flash and oscillator plans and applies them as one update. -/
  | almanacReplan
  /-- REPLAN (R673): ALM_CMD REPLAN starts a re-plan. -/
  | replan (sess : Fin 256) (value : Word)
  /-- SHED_LEVEL_RISE (R674): Engine load, LATE_STEP or a WARN of regions 2 to 4 raises the shedding LEVEL. -/
  | shedLevelRise (cause : ShedCause)
  /-- SHED_LEVEL_FALL (R674): 10 min of low load lowers the shedding LEVEL by one step. -/
  | shedLevelFall
  /-- BULK_SHED_END (R675): 10 min after the last WARN of regions 0, 1, 5 to 7 the BULK shed ends. -/
  | bulkShedEnd
  /-- OSC_MEASURE (R668): Each second the oscillator offset is measured while time base 0 is qualified. -/
  | oscMeasure
  /-- BASELINE_REFRESH (R669): Every EVENT_KEEP / 2 a fresh copy of each baseline record is appended. -/
  | baselineRefresh
  /-- ALM_OVERRIDE (R680): A maker write to ALM_OVR applies, or ends, an override of an Almanac item. -/
  | almOverride (sess : Fin 256) (item : Byte) (unit : Fin 32) (key : BitVec 16)
  /-- OVERRIDE_EXPIRY (R680): An override's HOURS elapse and the item takes the present plan. -/
  | overrideExpiry
  /-- ALM_CFG_WRITE (R685): A maker write of Almanac settings, refused when LOAD_LO is not below LOAD_HI. -/
  | almCfgWrite (sess : Fin 256) (second : Bool) (value : Word)
  /-- REFCLK_LOST (R701): No REFCLK_IN edge for 2 µs holds the PLL on the ring oscillator and enters Safe-state with REFCLK_LOST. -/
  | refclkLost (noEdgeNs : Nat)
  /-- PLL_LOCK (R700): The PLL locks on REFCLK_IN. -/
  | pllLock
  /-- HR_LOCK_GAINED (R384): A chain-end receiver of the device gains lock after 64 consecutive valid characters, moving the chain from LINK_UP to ENUMERATE or from FAULT to LINK_UP. -/
  | hrLockGained (ch : Fin 32) (run : LockRun)
  /-- LATE_STEP (R436): A filter step not completed by FINAL_WIN × T_s + 5 ms after its boundary E_j sets LATE_STEP and is reported to the Almanac. -/
  | lateStep (ch : Fin 32)
  /-- AUDIT_SUMMARY_SECOND (R647): At the end of each one-second interval of time base 3, a session whose refused writes exceeded 16 receives one AUDIT_SUMMARY record for the remainder of that second. -/
  | auditSummarySecond
  deriving DecidableEq, Repr

end Sys2Proof
end

