-- ==== Sys2Proof/Config.lean ====
section
/-! DEFINITION. The free values: constants without a body, one for each point where
the spec states that a value results but not which (the assumption log names each).
Nothing can evaluate them, so a statement about one holds for every value. -/

namespace Sys2Proof

/-- Where the spec gives a quantity no rounding rule, the stored integer is the exact value
rounded down, or one more: this bit chooses.  The first argument names the quantity.  Log 4. -/
opaque Config.roundUp : Nat → Rat → Bool

/-- The single-precision pattern that a context field takes for an exact value (the spec
does not state the rounding).  Log 5. -/
opaque Config.roundF32 : Rat → BitVec 32

/-- The decay factor exp(−x); the spec states no precision for it.  Log 6. -/
opaque Config.expNeg : Rat → Rat

/-- The square root of x; the spec states no precision for it.  Log 6. -/
opaque Config.sqrtQ : Rat → Rat

/-- The exponential exp(x) of a signed argument (Arrhenius factors).  Log 6. -/
opaque Config.expQ : Rat → Rat

/-- The cosine and the sine of x turns; the spec states no precision for them.  Log 6. -/
opaque Config.cosTurn : Rat → Rat
opaque Config.sinTurn : Rat → Rat

/-- The natural logarithm, and the number π, as the device computes with them.  Log 6. -/
opaque Config.lnQ : Rat → Rat
opaque Config.piQ : Rat

/-- Ra, τa, Rb and τb and the rms residual that at most 20 Gauss–Newton iterations reach (R479) from
the present entry, for the recorded points and ΔI; the spec does not state when they stop.  Log 6. -/
opaque Config.relaxFit : List Rat → Rat → List Rat → List Rat

/-- A number the spec leaves open: one for each tag and each value of the plain counter. Log 7. -/
opaque Config.freeNat : Nat → Nat → Nat

/-- SHA-384 over a record chain, cut to 128 bits (R651); the model does not compute it.  Log 8. -/
opaque Config.chainHash : BitVec 128 → List Nat → BitVec 128

/-- A 32-bit check or digest the model does not compute (CRC-32C, digest heads).  Log 8. -/
opaque Config.digest : Nat → List Nat → BitVec 32

/-- The bytes of a publication: the service's place in R518 and its content; the spec gives no layout.  Log 182. -/
opaque Config.publication : Nat → List Nat → List (BitVec 8)

/-- The interface identifier of the link-local address, formed from the device serial number (R79).  Log 157. -/
opaque Config.linkLocalId : BitVec 64

/-- The maker trust anchor held in fuse (R640).  Log 13. -/
opaque Config.makerAnchor : Nat

end Sys2Proof
end

