-- ==== Sys2Proof/Machine/Regs.lean ====
section
/-! DEFINITION. The register map: every register of the device (one constructor of
RegName each), its place (R16, R689 and the Address Map), the roles that may write it,
its fields with their bits, access codes and ranges, and its value at reset, written
from the register tables of spec/00 to spec/18. -/

namespace Sys2Proof.Machine

/-- The variants of R1. -/
inductive Variant
  | gk6432 | gk6416 | gk6408
  deriving DecidableEq, Repr

/-- The regions of R16 with the two parts of the Pier region (R690, R691). -/
inductive Region
  | keystone | supply | pier | pierCommon | measure | hedgerow | mill | commons | belfry
  deriving DecidableEq, Repr

/-- Access codes of R20 (LK stands in the roles of the register). -/
inductive Access
  | ro | rw | w1c | w1s | wo | rc
  deriving DecidableEq, Repr

/-- One constructor for each register of the manual (R19). -/
inductive RegName
  | KEY_DEVICE_ID | KEY_DEVICE_CAPS | KEY_PACE | KEY_PACE_CFG
  | KEY_PACE_FLAGS | KEY_FAB_STATE | KEY_ERR_FLAGS | KEY_ERR_SEQ
  | KEY_ESC_CFG | KEY_SAFE_CAUSE | KEY_RECOVER | KEY_RETIRED_LO
  | KEY_RETIRED_HI | SUP_STATE | SUP_FLAGS | SUP_FEED_CFG
  | SUP_FEED_MON | SUP_RESET_CAUSE | SUP_RESET_CMD | SUP_RAIL_MON
  | KEY_START_STATE | KEY_CHARTER_GEN | KEY_CHARTER_ID | KEY_START_MARK
  | KEY_START_FLAGS | PLK_STATE | PLK_FLAGS | PLK_CFG
  | PLK_DELAY | PLK_PARAM | PLK_MODSTAT | PLK_PARAM2
  | PLK_GTEL | PLK_NTC | PLK_IDENT | INS_CMD
  | INS_STATE | INS_FLAGS | INS_CFG | INS_LIMIT
  | INS_TIMING | INS_ROT | INS_THERM | INS_PGRP
  | INS_ZTH | INS_GRAMP | INS_CLOSE | INS_TRIM
  | INS_VDIFF | INS_LIVE | INS_TJ | INS_LAST
  | INS_BUS | INS_QCFG | PROT_CFG | PROT_ILIM
  | PROT_TFLT | PROT_SLOW | PROT_REV | PROT_RETRY
  | PROT_MOD | PROT_DIDT | PROT_STATE | PROT_EFF
  | PROT_SLOWACC | PROT_DAMAGED | PROT_FLAGS | PROT_RETRY_STATE
  | PROT_CLEAR | PROT_LAST | PROT_BUS_CFG | PROT_BUS_STATE
  | PROT_BUS_FLAGS | TRM_CFG | TRM_LIMIT | TRM_GAIN
  | TRM_VSET | TRM_STATE | TRM_LIVE | TRM_LOOP
  | TRM_FLAGS | SHR_CFG | SHR_CFG2 | SHR_STATE
  | SHR_ITOT | SHR_W | SHR_FRAC | MEAS_WIN_CFG
  | MEAS_WIN_STATE | MEAS_GFLAGS | MEAS_FLAGS | MEAS_CLIP
  | MEAS_SHUNT | MEAS_ZERO_CFG | MEAS_ZERO | MEAS_TALLY
  | MEAS_QCOUNT | MEAS_GAPCNT | MEAS_EPOCH | MEAS_FAST
  | MEAS_WIN | MEAS_WSEQ | MEAS_ADC_CFG | MEAS_IN_CFG
  | MEAS_RES | MEAS_RVALID | MEAS_SRC_FLAGS | MEAS_OW_FLAGS
  | MEAS_OW_STATE | MEAS_REF_CFG | MEAS_REF_EXTV | MEAS_REF_STATE
  | MEAS_CAL_CMD | MEAS_SWTRIG | MEAS_CONV_REF | MEAS_SEQ_CFG
  | MEAS_RTRIG | MEAS_ITRIG | MEAS_INJ_CFG | MEAS_GRP
  | MEAS_GRP_STAMP | MEAS_CAL | MEAS_INJ_RES | MEAS_OW_CFG
  | MEAS_TCAR | TAL_CFG | TAL_RELOAD | TAL_COUNT
  | TAL_STATUS | TAL_CMP | TAL_ACT | TAL_SYNC
  | TAL_PIN_CFG | TAL_LATE | TAL_SLIP | HR_CFG
  | HR_GFLAGS | HR_FLAGS | HR_CHAIN_CFG | HR_STATE
  | HR_SWEEP | HR_SWEEP_STAT | HR_MISS_CNT | HR_DELAY
  | HR_NODE | HR_BAL | EST_CFG | EST_CFG2
  | EST_SOCLIM | EST_VLIM | EST_REST | EST_PERSIST
  | EST_STATE | EST_GFLAGS | EST_SWAP_CMD | EST_BLKMAP
  | EST_STR_SOC | EST_STR_SOH | EST_STR_SOPD | EST_STR_SOPC
  | EST_STR_E | EST_STR_CNT | EST_STR_LIM | EST_STR_STAMP
  | EST_FLAGS | EST_CTR_SOC | EST_CTR_SOPD | EST_CTR_SOPC
  | EST_CTR_E | EST_CTR_SET | EST_CTR_SOPSET | EST_CTR_STAMP
  | LRN_CFG | LRN_CFG2 | LRN_ID | LRN_ID2
  | LRN_BANDCFG | LRN_IBAND | LRN_TBAND | LRN_PERSIST
  | LRN_GFLAGS | LRN_STATE | LRN_FLAGS | LRN_STR_EFC
  | LRN_STR_CAP | LRN_STR_AGE | LRN_STR_RECON | DSP_REQ
  | DSP_CFG | DSP_STATE | DSP_FLAGS | DSP_LIM_DIS
  | DSP_LIM_CHG | DSP_LIM_I | DSP_LIM_STAMP | DSP_EVT
  | DSP_ACK | DSP_BAL_CFG | DSP_BAL_CFG2 | DSP_HVAC_CFG
  | DSP_HVAC_CFG2 | DSP_HVAC | DSP_HVAC_T | DSP_REC_CFG
  | DSP_REC_CMD | DSP_REC_STATE | DSP_REC_TRIG | DSP_REC_STAMP
  | DSP_STR_A | DSP_STR_BAL | COM_STATE | COM_FLAGS
  | COM_SESS_CFG | COM_PORT_CFG | COM_PORT_STATE | ETH_CFG
  | ETH_PRP_CNT | SPAN_CFG | SPAN_STATE | SPAN_FLAGS
  | SPAN_DUPCNT | SPAN_TRIP_RX | INJ_CFG | INJ_CFG2
  | INJ_CMD | INJ_STATE | TB_NS | TB_SEC_LO
  | TB_SEC_HI | TB_FRAC | TB_INC_FRAC | TB_INC_NS
  | TB_ADJ | TB_CFG | TB_SET_NS | TB_SET_SEC_LO
  | TB_SET_SEC_HI | TB_SET_FRAC | TB_CMD | TB_STATE
  | TB_FLAGS | TB_SERVO | TB_SNAP_NS | TB_SNAP_SEC_LO
  | TB_SNAP_SEC_HI | BF_SNAP_CMD | BF_REF_CFG | BF_REF_STATE
  | BF_REF_FLAGS | BF_REF_RPT | BF_ASYM_IN | BF_ASYM_EG
  | BF_SPAN_PDLY | BF_PTP_CFG | SSI_DEMAND | SSI_PERMIT_A
  | SSI_PERMIT_B | SSI_LATCH | SSI_FLAGS | SSI_CFG
  | SSI_BREQ | SSI_DISCARD | SSI_PROOF_CFG | SSI_PROOF_DUE
  | SSI_LAST | PAR_ID | PAR_CHMASK | PAR_CFG
  | PAR_STATE | PAR_RXSEQ | PAR_TXSEQ | PAR_LATCH
  | PAR_CNT | TG_STATE | TG_FLAGS | TG_DEBUG
  | TG_KEYS | TG_KEY_CMD | LDG_STATE | LDG_FLAGS
  | LDG_SEQ | LDG_WEAR | LDG_CFG | ALM_STATE
  | ALM_FLAGS | ALM_CFG | ALM_CFG2 | ALM_OSC
  | ALM_OVR | ALM_OVR_VAL | ALM_CMD | ALM_CH_RON
  | ALM_CH_GATE | ALM_CH_PLAN | ALM_CH_SOA | ALM_CH_SHUNT
  deriving DecidableEq, Repr

/-- Where a register lies: block offset, instance strides and counts (R689).  Index i
runs over `ib` to `ni - 1`, index j over 0 to `nj - 1`.  `chan` says that i is a channel,
string or chain index, so that R2 and R690 apply to it. -/
structure RegInfo where
  region : Region
  off : Nat
  ni : Nat
  si : Nat
  ib : Nat
  nj : Nat
  sj : Nat
  chan : Bool
  roles : List Role
  deriving DecidableEq, Repr

/-- The place and the writing roles of every register (R689, R690, and the heading line of each register's rule). -/
def regInfo : RegName → RegInfo
  -- spec chapter 00
  | .KEY_DEVICE_ID => ⟨.keystone, 0x0, 1, 0x0, 0, 1, 0x0, false, []⟩ -- R5
  | .KEY_DEVICE_CAPS => ⟨.keystone, 0x4, 1, 0x0, 0, 1, 0x0, false, []⟩ -- R6
  -- spec chapter 01
  | .KEY_PACE => ⟨.keystone, 0x100, 8, 0x4, 0, 1, 0x0, false, []⟩ -- R33
  | .KEY_PACE_CFG => ⟨.keystone, 0x120, 1, 0x0, 0, 1, 0x0, false, [.maker]⟩ -- R34
  | .KEY_PACE_FLAGS => ⟨.keystone, 0x124, 1, 0x0, 0, 1, 0x0, false, [.operator, .installer, .maker]⟩ -- R35
  | .KEY_FAB_STATE => ⟨.keystone, 0x130, 1, 0x0, 0, 1, 0x0, false, []⟩ -- R54
  | .KEY_ERR_FLAGS => ⟨.keystone, 0x140, 1, 0x0, 0, 1, 0x0, false, [.operator, .installer, .maker]⟩ -- R55
  | .KEY_ERR_SEQ => ⟨.keystone, 0x144, 1, 0x0, 0, 1, 0x0, false, []⟩ -- R56
  | .KEY_ESC_CFG => ⟨.keystone, 0x150, 1, 0x0, 0, 1, 0x0, false, [.maker]⟩ -- R57
  | .KEY_SAFE_CAUSE => ⟨.keystone, 0x160, 1, 0x0, 0, 1, 0x0, false, []⟩ -- R58
  | .KEY_RECOVER => ⟨.keystone, 0x164, 1, 0x0, 0, 1, 0x0, false, [.installer, .maker]⟩ -- R59
  | .KEY_RETIRED_LO => ⟨.keystone, 0x180, 8, 0x8, 0, 1, 0x0, false, []⟩ -- R60
  | .KEY_RETIRED_HI => ⟨.keystone, 0x184, 8, 0x8, 0, 1, 0x0, false, []⟩ -- R60
  -- spec chapter 02
  | .SUP_STATE => ⟨.supply, 0x0, 1, 0x0, 0, 1, 0x0, false, []⟩ -- R87
  | .SUP_FLAGS => ⟨.supply, 0x10, 1, 0x0, 0, 1, 0x0, false, [.operator, .installer, .maker]⟩ -- R88
  | .SUP_FEED_CFG => ⟨.supply, 0x20, 1, 0x0, 0, 1, 0x0, false, [.installer]⟩ -- R89
  | .SUP_FEED_MON => ⟨.supply, 0x24, 1, 0x0, 0, 1, 0x0, false, []⟩ -- R90
  | .SUP_RESET_CAUSE => ⟨.supply, 0x30, 1, 0x0, 0, 1, 0x0, false, []⟩ -- R91
  | .SUP_RESET_CMD => ⟨.supply, 0x34, 1, 0x0, 0, 1, 0x0, false, [.maker]⟩ -- R92
  | .SUP_RAIL_MON => ⟨.supply, 0x40, 6, 0x4, 0, 1, 0x0, false, []⟩ -- R93
  | .KEY_START_STATE => ⟨.keystone, 0x200, 1, 0x0, 0, 1, 0x0, false, []⟩ -- R94
  | .KEY_CHARTER_GEN => ⟨.keystone, 0x204, 1, 0x0, 0, 1, 0x0, false, []⟩ -- R95
  | .KEY_CHARTER_ID => ⟨.keystone, 0x208, 1, 0x0, 0, 1, 0x0, false, []⟩ -- R95
  | .KEY_START_MARK => ⟨.keystone, 0x210, 4, 0x4, 0, 1, 0x0, false, []⟩ -- R96
  | .KEY_START_FLAGS => ⟨.keystone, 0x230, 1, 0x0, 0, 1, 0x0, false, [.operator, .installer, .maker]⟩ -- R97
  -- spec chapter 03
  | .PLK_STATE => ⟨.pier, 0x800, 32, 0x100000, 0, 1, 0x0, true, []⟩ -- R129
  | .PLK_FLAGS => ⟨.pier, 0x804, 32, 0x100000, 0, 1, 0x0, true, [.operator, .installer, .maker]⟩ -- R130
  | .PLK_CFG => ⟨.pier, 0x808, 32, 0x100000, 0, 1, 0x0, true, [.installer]⟩ -- R131
  | .PLK_DELAY => ⟨.pier, 0x80C, 32, 0x100000, 0, 1, 0x0, true, []⟩ -- R132
  | .PLK_PARAM => ⟨.pier, 0x810, 32, 0x100000, 0, 1, 0x0, true, [.installer]⟩ -- R134
  | .PLK_MODSTAT => ⟨.pier, 0x814, 32, 0x100000, 0, 1, 0x0, true, []⟩ -- R133
  | .PLK_PARAM2 => ⟨.pier, 0x818, 32, 0x100000, 0, 1, 0x0, true, [.maker]⟩ -- R135
  | .PLK_GTEL => ⟨.pier, 0x880, 32, 0x100000, 0, 16, 0x4, true, []⟩ -- R136
  | .PLK_NTC => ⟨.pier, 0x8C0, 32, 0x100000, 0, 2, 0x4, true, []⟩ -- R137
  | .PLK_IDENT => ⟨.pier, 0x900, 32, 0x100000, 0, 16, 0x4, true, []⟩ -- R138
  -- spec chapter 04
  | .INS_CMD => ⟨.pier, 0x100, 32, 0x100000, 0, 1, 0x0, true, [.operator, .installer]⟩ -- R174
  | .INS_STATE => ⟨.pier, 0x104, 32, 0x100000, 0, 1, 0x0, true, []⟩ -- R175
  | .INS_FLAGS => ⟨.pier, 0x108, 32, 0x100000, 0, 1, 0x0, true, [.operator, .installer, .maker]⟩ -- R176
  | .INS_CFG => ⟨.pier, 0x10C, 32, 0x100000, 0, 1, 0x0, true, [.installer]⟩ -- R177
  | .INS_LIMIT => ⟨.pier, 0x110, 32, 0x100000, 0, 1, 0x0, true, [.installer]⟩ -- R178
  | .INS_TIMING => ⟨.pier, 0x114, 32, 0x100000, 0, 1, 0x0, true, [.installer]⟩ -- R179
  | .INS_ROT => ⟨.pier, 0x118, 32, 0x100000, 0, 1, 0x0, true, [.maker]⟩ -- R180
  | .INS_THERM => ⟨.pier, 0x11C, 32, 0x100000, 0, 1, 0x0, true, [.maker]⟩ -- R181
  | .INS_PGRP => ⟨.pier, 0x120, 32, 0x100000, 0, 1, 0x0, true, [.maker]⟩ -- R182
  | .INS_ZTH => ⟨.pier, 0x124, 32, 0x100000, 0, 2, 0x4, true, [.maker]⟩ -- R183
  | .INS_GRAMP => ⟨.pier, 0x12C, 32, 0x100000, 0, 1, 0x0, true, [.installer]⟩ -- R184
  | .INS_CLOSE => ⟨.pier, 0x130, 32, 0x100000, 0, 1, 0x0, true, [.installer]⟩ -- R185
  | .INS_TRIM => ⟨.pier, 0x134, 32, 0x100000, 0, 1, 0x0, true, [.installer]⟩ -- R186
  | .INS_VDIFF => ⟨.pier, 0x138, 32, 0x100000, 0, 1, 0x0, true, []⟩ -- R187
  | .INS_LIVE => ⟨.pier, 0x13C, 32, 0x100000, 0, 1, 0x0, true, []⟩ -- R188
  | .INS_TJ => ⟨.pier, 0x140, 32, 0x100000, 0, 16, 0x4, true, []⟩ -- R189
  | .INS_LAST => ⟨.pier, 0x180, 32, 0x100000, 0, 1, 0x0, true, []⟩ -- R190
  | .INS_BUS => ⟨.pierCommon, 0x0, 1, 0x0, 0, 1, 0x0, false, [.operator, .installer]⟩ -- R191
  | .INS_QCFG => ⟨.pierCommon, 0x4, 1, 0x0, 0, 1, 0x0, false, [.installer]⟩ -- R192
  -- spec chapter 05
  | .PROT_CFG => ⟨.pier, 0x200, 32, 0x100000, 0, 1, 0x0, true, [.installer]⟩ -- R225
  | .PROT_ILIM => ⟨.pier, 0x204, 32, 0x100000, 0, 1, 0x0, true, [.installer]⟩ -- R226
  | .PROT_TFLT => ⟨.pier, 0x208, 32, 0x100000, 0, 1, 0x0, true, [.installer]⟩ -- R227
  | .PROT_SLOW => ⟨.pier, 0x20C, 32, 0x100000, 0, 1, 0x0, true, [.installer]⟩ -- R228
  | .PROT_REV => ⟨.pier, 0x210, 32, 0x100000, 0, 1, 0x0, true, [.installer]⟩ -- R230
  | .PROT_RETRY => ⟨.pier, 0x214, 32, 0x100000, 0, 1, 0x0, true, [.installer]⟩ -- R231
  | .PROT_MOD => ⟨.pier, 0x218, 32, 0x100000, 0, 1, 0x0, true, [.maker]⟩ -- R232
  | .PROT_DIDT => ⟨.pier, 0x21C, 32, 0x100000, 0, 1, 0x0, true, [.maker]⟩ -- R233
  | .PROT_STATE => ⟨.pier, 0x220, 32, 0x100000, 0, 1, 0x0, true, []⟩ -- R234
  | .PROT_EFF => ⟨.pier, 0x224, 32, 0x100000, 0, 1, 0x0, true, []⟩ -- R235
  | .PROT_SLOWACC => ⟨.pier, 0x228, 32, 0x100000, 0, 1, 0x0, true, []⟩ -- R236
  | .PROT_DAMAGED => ⟨.pier, 0x22C, 32, 0x100000, 0, 1, 0x0, true, []⟩ -- R237
  | .PROT_FLAGS => ⟨.pier, 0x230, 32, 0x100000, 0, 1, 0x0, true, [.operator, .installer, .maker]⟩ -- R238
  | .PROT_RETRY_STATE => ⟨.pier, 0x234, 32, 0x100000, 0, 1, 0x0, true, []⟩ -- R239
  | .PROT_CLEAR => ⟨.pier, 0x238, 32, 0x100000, 0, 1, 0x0, true, [.installer, .maker]⟩ -- R240
  | .PROT_LAST => ⟨.pier, 0x240, 32, 0x100000, 0, 5, 0x4, true, []⟩ -- R241
  | .PROT_BUS_CFG => ⟨.pierCommon, 0x100, 1, 0x0, 0, 1, 0x0, false, [.installer]⟩ -- R242
  | .PROT_BUS_STATE => ⟨.pierCommon, 0x104, 1, 0x0, 0, 1, 0x0, false, []⟩ -- R243
  | .PROT_BUS_FLAGS => ⟨.pierCommon, 0x108, 1, 0x0, 0, 1, 0x0, false, [.operator, .installer, .maker]⟩ -- R244
  -- spec chapter 06
  | .TRM_CFG => ⟨.pier, 0x300, 32, 0x100000, 0, 1, 0x0, true, [.installer]⟩ -- R262
  | .TRM_LIMIT => ⟨.pier, 0x304, 32, 0x100000, 0, 1, 0x0, true, [.installer]⟩ -- R263
  | .TRM_GAIN => ⟨.pier, 0x308, 32, 0x100000, 0, 1, 0x0, true, [.maker]⟩ -- R264
  | .TRM_VSET => ⟨.pier, 0x30C, 32, 0x100000, 0, 1, 0x0, true, [.installer]⟩ -- R265
  | .TRM_STATE => ⟨.pier, 0x310, 32, 0x100000, 0, 1, 0x0, true, []⟩ -- R266
  | .TRM_LIVE => ⟨.pier, 0x314, 32, 0x100000, 0, 1, 0x0, true, []⟩ -- R267
  | .TRM_LOOP => ⟨.pier, 0x318, 32, 0x100000, 0, 1, 0x0, true, []⟩ -- R268
  | .TRM_FLAGS => ⟨.pier, 0x31C, 32, 0x100000, 0, 1, 0x0, true, [.operator, .installer, .maker]⟩ -- R269
  | .SHR_CFG => ⟨.pierCommon, 0x200, 1, 0x0, 0, 1, 0x0, false, [.installer]⟩ -- R270
  | .SHR_CFG2 => ⟨.pierCommon, 0x204, 1, 0x0, 0, 1, 0x0, false, [.installer]⟩ -- R271
  | .SHR_STATE => ⟨.pierCommon, 0x208, 1, 0x0, 0, 1, 0x0, false, []⟩ -- R272
  | .SHR_ITOT => ⟨.pierCommon, 0x20C, 1, 0x0, 0, 1, 0x0, false, []⟩ -- R272
  | .SHR_W => ⟨.pierCommon, 0x280, 32, 0x4, 0, 1, 0x0, true, [.installer]⟩ -- R273
  | .SHR_FRAC => ⟨.pierCommon, 0x300, 32, 0x4, 0, 1, 0x0, true, []⟩ -- R274
  -- spec chapter 07
  | .MEAS_WIN_CFG => ⟨.measure, 0x0, 1, 0x0, 0, 1, 0x0, false, [.installer]⟩ -- R300
  | .MEAS_WIN_STATE => ⟨.measure, 0x4, 1, 0x0, 0, 1, 0x0, false, []⟩ -- R301
  | .MEAS_GFLAGS => ⟨.measure, 0x8, 1, 0x0, 0, 1, 0x0, false, [.operator, .installer, .maker]⟩ -- R302
  | .MEAS_FLAGS => ⟨.measure, 0x400, 32, 0x4, 0, 1, 0x0, true, [.operator, .installer, .maker]⟩ -- R303
  | .MEAS_CLIP => ⟨.measure, 0x500, 6, 0x4, 0, 1, 0x0, false, [.operator, .installer, .maker]⟩ -- R304
  | .MEAS_SHUNT => ⟨.measure, 0x10000, 32, 0x100, 0, 1, 0x0, true, [.installer]⟩ -- R305
  | .MEAS_ZERO_CFG => ⟨.measure, 0x10004, 32, 0x100, 0, 1, 0x0, true, [.installer]⟩ -- R306
  | .MEAS_ZERO => ⟨.measure, 0x10008, 32, 0x100, 0, 2, 0x4, true, []⟩ -- R307
  | .MEAS_TALLY => ⟨.measure, 0x10010, 32, 0x100, 0, 4, 0x4, true, []⟩ -- R308
  | .MEAS_QCOUNT => ⟨.measure, 0x10020, 32, 0x100, 0, 4, 0x4, true, []⟩ -- R308
  | .MEAS_GAPCNT => ⟨.measure, 0x10030, 32, 0x100, 0, 1, 0x0, true, []⟩ -- R309
  | .MEAS_EPOCH => ⟨.measure, 0x10034, 32, 0x100, 0, 1, 0x0, true, []⟩ -- R309
  | .MEAS_FAST => ⟨.measure, 0x10040, 32, 0x100, 0, 6, 0x4, true, []⟩ -- R310
  | .MEAS_WIN => ⟨.measure, 0x10060, 32, 0x100, 0, 8, 0x4, true, []⟩ -- R311
  | .MEAS_WSEQ => ⟨.measure, 0x10080, 32, 0x100, 0, 1, 0x0, true, []⟩ -- R311
  | .MEAS_ADC_CFG => ⟨.measure, 0x20000, 48, 0x4, 0, 1, 0x0, false, [.installer]⟩ -- R312
  | .MEAS_IN_CFG => ⟨.measure, 0x20100, 192, 0x4, 0, 1, 0x0, false, [.installer]⟩ -- R313
  | .MEAS_RES => ⟨.measure, 0x20400, 192, 0x4, 0, 1, 0x0, false, []⟩ -- R314
  | .MEAS_RVALID => ⟨.measure, 0x20700, 6, 0x4, 0, 1, 0x0, false, []⟩ -- R314
  -- spec chapter 08
  | .MEAS_SRC_FLAGS => ⟨.measure, 0x600, 1, 0x0, 0, 1, 0x0, false, [.operator, .installer, .maker]⟩ -- R344
  | .MEAS_OW_FLAGS => ⟨.measure, 0x620, 6, 0x4, 0, 1, 0x0, false, [.operator, .installer, .maker]⟩ -- R345
  | .MEAS_OW_STATE => ⟨.measure, 0x23100, 6, 0x4, 0, 1, 0x0, false, []⟩ -- R345
  | .MEAS_REF_CFG => ⟨.measure, 0x20800, 1, 0x0, 0, 1, 0x0, false, [.installer]⟩ -- R346
  | .MEAS_REF_EXTV => ⟨.measure, 0x20804, 1, 0x0, 0, 1, 0x0, false, [.installer]⟩ -- R347
  | .MEAS_REF_STATE => ⟨.measure, 0x20808, 1, 0x0, 0, 1, 0x0, false, []⟩ -- R347
  | .MEAS_CAL_CMD => ⟨.measure, 0x20810, 1, 0x0, 0, 1, 0x0, false, [.installer]⟩ -- R348
  | .MEAS_SWTRIG => ⟨.measure, 0x2081C, 1, 0x0, 0, 1, 0x0, false, [.installer]⟩ -- R349
  | .MEAS_CONV_REF => ⟨.measure, 0x20900, 48, 0x4, 0, 1, 0x0, false, [.installer]⟩ -- R350
  | .MEAS_SEQ_CFG => ⟨.measure, 0x20A00, 48, 0x4, 0, 1, 0x0, false, [.installer]⟩ -- R351
  | .MEAS_RTRIG => ⟨.measure, 0x20B00, 48, 0x4, 0, 1, 0x0, false, [.installer]⟩ -- R352
  | .MEAS_ITRIG => ⟨.measure, 0x20C00, 48, 0x4, 0, 1, 0x0, false, [.installer]⟩ -- R352
  | .MEAS_INJ_CFG => ⟨.measure, 0x20D00, 48, 0x4, 0, 1, 0x0, false, [.installer]⟩ -- R353
  | .MEAS_GRP => ⟨.measure, 0x20E00, 16, 0x4, 1, 1, 0x0, false, [.installer]⟩ -- R354
  | .MEAS_GRP_STAMP => ⟨.measure, 0x20F00, 16, 0x8, 1, 2, 0x4, false, []⟩ -- R355
  | .MEAS_CAL => ⟨.measure, 0x21000, 48, 0x10, 0, 4, 0x4, false, []⟩ -- R356
  | .MEAS_INJ_RES => ⟨.measure, 0x22000, 48, 0x10, 0, 4, 0x4, false, []⟩ -- R357
  | .MEAS_OW_CFG => ⟨.measure, 0x23000, 48, 0x4, 0, 1, 0x0, false, [.installer]⟩ -- R358
  | .MEAS_TCAR => ⟨.measure, 0x10084, 32, 0x100, 0, 1, 0x0, true, [.installer]⟩ -- R359
  -- spec chapter 09
  | .TAL_CFG => ⟨.measure, 0x30000, 64, 0x40, 0, 1, 0x0, false, [.installer]⟩ -- R374
  | .TAL_RELOAD => ⟨.measure, 0x30004, 64, 0x40, 0, 1, 0x0, false, [.installer]⟩ -- R375
  | .TAL_COUNT => ⟨.measure, 0x30008, 64, 0x40, 0, 1, 0x0, false, []⟩ -- R375
  | .TAL_STATUS => ⟨.measure, 0x3000C, 64, 0x40, 0, 1, 0x0, false, []⟩ -- R376
  | .TAL_CMP => ⟨.measure, 0x30010, 64, 0x40, 0, 4, 0x4, false, [.installer]⟩ -- R377
  | .TAL_ACT => ⟨.measure, 0x30020, 64, 0x40, 0, 1, 0x0, false, [.installer]⟩ -- R378
  | .TAL_SYNC => ⟨.measure, 0x30024, 64, 0x40, 0, 1, 0x0, false, [.installer]⟩ -- R379
  | .TAL_PIN_CFG => ⟨.measure, 0x31000, 16, 0x4, 0, 1, 0x0, false, [.installer]⟩ -- R380
  | .TAL_LATE => ⟨.measure, 0x700, 2, 0x4, 0, 1, 0x0, false, [.operator, .installer, .maker]⟩ -- R381
  | .TAL_SLIP => ⟨.measure, 0x708, 2, 0x4, 0, 1, 0x0, false, [.operator, .installer, .maker]⟩ -- R381
  -- spec chapter 10
  | .HR_CFG => ⟨.hedgerow, 0x0, 1, 0x0, 0, 1, 0x0, false, [.installer]⟩ -- R417
  | .HR_GFLAGS => ⟨.hedgerow, 0x4, 1, 0x0, 0, 1, 0x0, false, [.operator, .installer, .maker]⟩ -- R418
  | .HR_FLAGS => ⟨.hedgerow, 0x100, 32, 0x4, 0, 1, 0x0, true, [.operator, .installer, .maker]⟩ -- R419
  | .HR_CHAIN_CFG => ⟨.hedgerow, 0x10000, 32, 0x100, 0, 1, 0x0, true, [.installer]⟩ -- R420
  | .HR_STATE => ⟨.hedgerow, 0x10004, 32, 0x100, 0, 1, 0x0, true, []⟩ -- R421
  | .HR_SWEEP => ⟨.hedgerow, 0x10008, 32, 0x100, 0, 1, 0x0, true, []⟩ -- R422
  | .HR_SWEEP_STAT => ⟨.hedgerow, 0x1000C, 32, 0x100, 0, 1, 0x0, true, []⟩ -- R422
  | .HR_MISS_CNT => ⟨.hedgerow, 0x10010, 32, 0x100, 0, 1, 0x0, true, []⟩ -- R422
  | .HR_DELAY => ⟨.hedgerow, 0x10040, 32, 0x100, 0, 16, 0x4, true, []⟩ -- R423
  | .HR_NODE => ⟨.hedgerow, 0x10080, 32, 0x100, 0, 16, 0x4, true, []⟩ -- R424
  | .HR_BAL => ⟨.hedgerow, 0x100C0, 32, 0x100, 0, 16, 0x4, true, []⟩ -- R425
  -- spec chapter 11
  | .EST_CFG => ⟨.mill, 0x100, 1, 0x0, 0, 1, 0x0, false, [.installer]⟩ -- R460
  | .EST_CFG2 => ⟨.mill, 0x104, 1, 0x0, 0, 1, 0x0, false, [.installer]⟩ -- R461
  | .EST_SOCLIM => ⟨.mill, 0x108, 1, 0x0, 0, 1, 0x0, false, [.installer]⟩ -- R462
  | .EST_VLIM => ⟨.mill, 0x10C, 1, 0x0, 0, 1, 0x0, false, [.installer]⟩ -- R462
  | .EST_REST => ⟨.mill, 0x110, 1, 0x0, 0, 1, 0x0, false, [.installer]⟩ -- R463
  | .EST_PERSIST => ⟨.mill, 0x114, 1, 0x0, 0, 1, 0x0, false, [.installer]⟩ -- R463
  | .EST_STATE => ⟨.mill, 0x120, 1, 0x0, 0, 1, 0x0, false, []⟩ -- R464
  | .EST_GFLAGS => ⟨.mill, 0x124, 1, 0x0, 0, 1, 0x0, false, [.operator, .installer, .maker]⟩ -- R464
  | .EST_SWAP_CMD => ⟨.mill, 0x128, 1, 0x0, 0, 1, 0x0, false, [.installer]⟩ -- R465
  | .EST_BLKMAP => ⟨.mill, 0x400, 128, 0x4, 0, 1, 0x0, false, []⟩ -- R466
  | .EST_STR_SOC => ⟨.mill, 0x1000, 32, 0x40, 0, 1, 0x0, true, []⟩ -- R467
  | .EST_STR_SOH => ⟨.mill, 0x1004, 32, 0x40, 0, 1, 0x0, true, []⟩ -- R467
  | .EST_STR_SOPD => ⟨.mill, 0x1008, 32, 0x40, 0, 4, 0x4, true, []⟩ -- R467
  | .EST_STR_SOPC => ⟨.mill, 0x1018, 32, 0x40, 0, 4, 0x4, true, []⟩ -- R467
  | .EST_STR_E => ⟨.mill, 0x1028, 32, 0x40, 0, 1, 0x0, true, []⟩ -- R467
  | .EST_STR_CNT => ⟨.mill, 0x102C, 32, 0x40, 0, 1, 0x0, true, []⟩ -- R467
  | .EST_STR_LIM => ⟨.mill, 0x1030, 32, 0x40, 0, 1, 0x0, true, []⟩ -- R467
  | .EST_STR_STAMP => ⟨.mill, 0x1034, 32, 0x40, 0, 1, 0x0, true, []⟩ -- R467
  | .EST_FLAGS => ⟨.mill, 0x2000, 32, 0x4, 0, 1, 0x0, true, [.operator, .installer, .maker]⟩ -- R468
  | .EST_CTR_SOC => ⟨.mill, 0x200, 1, 0x0, 0, 1, 0x0, false, []⟩ -- R469
  | .EST_CTR_SOPD => ⟨.mill, 0x204, 4, 0x4, 0, 1, 0x0, false, []⟩ -- R469
  | .EST_CTR_SOPC => ⟨.mill, 0x214, 4, 0x4, 0, 1, 0x0, false, []⟩ -- R469
  | .EST_CTR_E => ⟨.mill, 0x224, 2, 0x4, 0, 1, 0x0, false, []⟩ -- R469
  | .EST_CTR_SET => ⟨.mill, 0x22C, 1, 0x0, 0, 1, 0x0, false, []⟩ -- R469
  | .EST_CTR_SOPSET => ⟨.mill, 0x230, 1, 0x0, 0, 1, 0x0, false, []⟩ -- R469
  | .EST_CTR_STAMP => ⟨.mill, 0x234, 1, 0x0, 0, 1, 0x0, false, []⟩ -- R469
  -- spec chapter 12
  | .LRN_CFG => ⟨.mill, 0x140, 1, 0x0, 0, 1, 0x0, false, [.installer]⟩ -- R495
  | .LRN_CFG2 => ⟨.mill, 0x144, 1, 0x0, 0, 1, 0x0, false, [.installer]⟩ -- R496
  | .LRN_ID => ⟨.mill, 0x148, 1, 0x0, 0, 1, 0x0, false, [.installer]⟩ -- R497
  | .LRN_ID2 => ⟨.mill, 0x14C, 1, 0x0, 0, 1, 0x0, false, [.installer]⟩ -- R497
  | .LRN_BANDCFG => ⟨.mill, 0x150, 1, 0x0, 0, 1, 0x0, false, [.maker]⟩ -- R498
  | .LRN_IBAND => ⟨.mill, 0x154, 1, 0x0, 0, 1, 0x0, false, []⟩ -- R499
  | .LRN_TBAND => ⟨.mill, 0x158, 2, 0x4, 0, 1, 0x0, false, []⟩ -- R499
  | .LRN_PERSIST => ⟨.mill, 0x160, 1, 0x0, 0, 1, 0x0, false, [.installer]⟩ -- R500
  | .LRN_GFLAGS => ⟨.mill, 0x164, 1, 0x0, 0, 1, 0x0, false, [.operator, .installer, .maker]⟩ -- R501
  | .LRN_STATE => ⟨.mill, 0x168, 1, 0x0, 0, 1, 0x0, false, []⟩ -- R501
  | .LRN_FLAGS => ⟨.mill, 0x2100, 32, 0x4, 0, 1, 0x0, true, [.operator, .installer, .maker]⟩ -- R502
  | .LRN_STR_EFC => ⟨.mill, 0x3000, 32, 0x20, 0, 1, 0x0, true, []⟩ -- R503
  | .LRN_STR_CAP => ⟨.mill, 0x3004, 32, 0x20, 0, 1, 0x0, true, []⟩ -- R503
  | .LRN_STR_AGE => ⟨.mill, 0x3008, 32, 0x20, 0, 1, 0x0, true, []⟩ -- R503
  | .LRN_STR_RECON => ⟨.mill, 0x300C, 32, 0x20, 0, 2, 0x4, true, []⟩ -- R503
  -- spec chapter 13
  | .DSP_REQ => ⟨.mill, 0x600, 1, 0x0, 0, 1, 0x0, false, [.operator, .installer]⟩ -- R520
  | .DSP_CFG => ⟨.mill, 0x604, 1, 0x0, 0, 1, 0x0, false, [.installer]⟩ -- R521
  | .DSP_STATE => ⟨.mill, 0x608, 1, 0x0, 0, 1, 0x0, false, []⟩ -- R522
  | .DSP_FLAGS => ⟨.mill, 0x60C, 1, 0x0, 0, 1, 0x0, false, [.operator, .installer, .maker]⟩ -- R523
  | .DSP_LIM_DIS => ⟨.mill, 0x610, 4, 0x4, 0, 1, 0x0, false, []⟩ -- R524
  | .DSP_LIM_CHG => ⟨.mill, 0x620, 4, 0x4, 0, 1, 0x0, false, []⟩ -- R524
  | .DSP_LIM_I => ⟨.mill, 0x630, 1, 0x0, 0, 1, 0x0, false, []⟩ -- R524
  | .DSP_LIM_STAMP => ⟨.mill, 0x634, 1, 0x0, 0, 1, 0x0, false, []⟩ -- R524
  | .DSP_EVT => ⟨.mill, 0x638, 1, 0x0, 0, 1, 0x0, false, []⟩ -- R525
  | .DSP_ACK => ⟨.mill, 0x63C, 1, 0x0, 0, 1, 0x0, false, [.operator]⟩ -- R525
  | .DSP_BAL_CFG => ⟨.mill, 0x640, 1, 0x0, 0, 1, 0x0, false, [.installer]⟩ -- R526
  | .DSP_BAL_CFG2 => ⟨.mill, 0x644, 1, 0x0, 0, 1, 0x0, false, [.installer]⟩ -- R526
  | .DSP_HVAC_CFG => ⟨.mill, 0x650, 1, 0x0, 0, 1, 0x0, false, [.installer]⟩ -- R527
  | .DSP_HVAC_CFG2 => ⟨.mill, 0x654, 1, 0x0, 0, 1, 0x0, false, [.installer]⟩ -- R527
  | .DSP_HVAC => ⟨.mill, 0x658, 1, 0x0, 0, 1, 0x0, false, []⟩ -- R528
  | .DSP_HVAC_T => ⟨.mill, 0x65C, 1, 0x0, 0, 1, 0x0, false, []⟩ -- R528
  | .DSP_REC_CFG => ⟨.mill, 0x680, 1, 0x0, 0, 1, 0x0, false, [.installer]⟩ -- R529
  | .DSP_REC_CMD => ⟨.mill, 0x684, 1, 0x0, 0, 1, 0x0, false, [.operator, .installer]⟩ -- R529
  | .DSP_REC_STATE => ⟨.mill, 0x688, 1, 0x0, 0, 1, 0x0, false, []⟩ -- R530
  | .DSP_REC_TRIG => ⟨.mill, 0x68C, 1, 0x0, 0, 1, 0x0, false, []⟩ -- R530
  | .DSP_REC_STAMP => ⟨.mill, 0x690, 2, 0x4, 0, 1, 0x0, false, []⟩ -- R530
  | .DSP_STR_A => ⟨.mill, 0x3800, 32, 0x10, 0, 1, 0x0, true, []⟩ -- R531
  | .DSP_STR_BAL => ⟨.mill, 0x3804, 32, 0x10, 0, 1, 0x0, true, []⟩ -- R531
  -- spec chapter 14
  | .COM_STATE => ⟨.commons, 0x0, 1, 0x0, 0, 1, 0x0, false, []⟩ -- R560
  | .COM_FLAGS => ⟨.commons, 0x4, 1, 0x0, 0, 1, 0x0, false, [.operator, .installer, .maker]⟩ -- R561
  | .COM_SESS_CFG => ⟨.commons, 0x8, 1, 0x0, 0, 1, 0x0, false, [.installer]⟩ -- R562
  | .COM_PORT_CFG => ⟨.commons, 0x10, 4, 0x4, 0, 1, 0x0, false, [.installer]⟩ -- R563
  | .COM_PORT_STATE => ⟨.commons, 0x20, 4, 0x4, 0, 1, 0x0, false, []⟩ -- R564
  | .ETH_CFG => ⟨.commons, 0x100, 1, 0x0, 0, 1, 0x0, false, [.installer]⟩ -- R565
  | .ETH_PRP_CNT => ⟨.commons, 0x104, 2, 0x4, 0, 1, 0x0, false, []⟩ -- R566
  | .SPAN_CFG => ⟨.commons, 0x200, 1, 0x0, 0, 1, 0x0, false, [.installer]⟩ -- R567
  | .SPAN_STATE => ⟨.commons, 0x204, 1, 0x0, 0, 1, 0x0, false, []⟩ -- R568
  | .SPAN_FLAGS => ⟨.commons, 0x208, 1, 0x0, 0, 1, 0x0, false, [.operator, .installer, .maker]⟩ -- R569
  | .SPAN_DUPCNT => ⟨.commons, 0x20C, 1, 0x0, 0, 1, 0x0, false, []⟩ -- R568
  | .SPAN_TRIP_RX => ⟨.commons, 0x210, 4, 0x4, 0, 1, 0x0, false, []⟩ -- R570
  | .INJ_CFG => ⟨.commons, 0x300, 1, 0x0, 0, 1, 0x0, false, [.installer]⟩ -- R571
  | .INJ_CFG2 => ⟨.commons, 0x304, 1, 0x0, 0, 1, 0x0, false, [.installer]⟩ -- R571
  | .INJ_CMD => ⟨.commons, 0x308, 1, 0x0, 0, 1, 0x0, false, [.installer]⟩ -- R572
  | .INJ_STATE => ⟨.commons, 0x30C, 1, 0x0, 0, 1, 0x0, false, []⟩ -- R572
  -- spec chapter 15
  | .TB_NS => ⟨.belfry, 0x0, 8, 0x100, 0, 1, 0x0, false, []⟩ -- R597
  | .TB_SEC_LO => ⟨.belfry, 0x4, 8, 0x100, 0, 1, 0x0, false, []⟩ -- R597
  | .TB_SEC_HI => ⟨.belfry, 0x8, 8, 0x100, 0, 1, 0x0, false, []⟩ -- R597
  | .TB_FRAC => ⟨.belfry, 0xC, 8, 0x100, 0, 1, 0x0, false, []⟩ -- R597
  | .TB_INC_FRAC => ⟨.belfry, 0x10, 8, 0x100, 0, 1, 0x0, false, [.installer, .maker]⟩ -- R598
  | .TB_INC_NS => ⟨.belfry, 0x14, 8, 0x100, 0, 1, 0x0, false, [.installer, .maker]⟩ -- R598
  | .TB_ADJ => ⟨.belfry, 0x18, 8, 0x100, 0, 1, 0x0, false, [.installer, .maker]⟩ -- R599
  | .TB_CFG => ⟨.belfry, 0x1C, 8, 0x100, 0, 1, 0x0, false, [.installer, .maker]⟩ -- R599
  | .TB_SET_NS => ⟨.belfry, 0x20, 8, 0x100, 0, 1, 0x0, false, [.installer, .maker]⟩ -- R600
  | .TB_SET_SEC_LO => ⟨.belfry, 0x24, 8, 0x100, 0, 1, 0x0, false, [.installer, .maker]⟩ -- R600
  | .TB_SET_SEC_HI => ⟨.belfry, 0x28, 8, 0x100, 0, 1, 0x0, false, [.installer, .maker]⟩ -- R600
  | .TB_SET_FRAC => ⟨.belfry, 0x2C, 8, 0x100, 0, 1, 0x0, false, [.installer, .maker]⟩ -- R600
  | .TB_CMD => ⟨.belfry, 0x30, 8, 0x100, 0, 1, 0x0, false, [.installer, .maker]⟩ -- R601
  | .TB_STATE => ⟨.belfry, 0x34, 8, 0x100, 0, 1, 0x0, false, []⟩ -- R601
  | .TB_FLAGS => ⟨.belfry, 0x38, 8, 0x100, 0, 1, 0x0, false, [.operator, .installer, .maker]⟩ -- R602
  | .TB_SERVO => ⟨.belfry, 0x3C, 8, 0x100, 0, 1, 0x0, false, [.maker]⟩ -- R603
  | .TB_SNAP_NS => ⟨.belfry, 0x40, 8, 0x100, 0, 1, 0x0, false, []⟩ -- R604
  | .TB_SNAP_SEC_LO => ⟨.belfry, 0x44, 8, 0x100, 0, 1, 0x0, false, []⟩ -- R604
  | .TB_SNAP_SEC_HI => ⟨.belfry, 0x48, 8, 0x100, 0, 1, 0x0, false, []⟩ -- R604
  | .BF_SNAP_CMD => ⟨.belfry, 0x800, 1, 0x0, 0, 1, 0x0, false, [.operator, .installer, .maker]⟩ -- R605
  | .BF_REF_CFG => ⟨.belfry, 0x804, 1, 0x0, 0, 1, 0x0, false, [.maker]⟩ -- R605
  | .BF_REF_STATE => ⟨.belfry, 0x808, 1, 0x0, 0, 1, 0x0, false, []⟩ -- R606
  | .BF_REF_FLAGS => ⟨.belfry, 0x80C, 1, 0x0, 0, 1, 0x0, false, [.operator, .installer, .maker]⟩ -- R606
  | .BF_REF_RPT => ⟨.belfry, 0x810, 3, 0x4, 0, 1, 0x0, false, [.maker]⟩ -- R607
  | .BF_ASYM_IN => ⟨.belfry, 0x900, 4, 0x8, 0, 1, 0x0, false, [.installer]⟩ -- R608
  | .BF_ASYM_EG => ⟨.belfry, 0x904, 4, 0x8, 0, 1, 0x0, false, [.installer]⟩ -- R608
  | .BF_SPAN_PDLY => ⟨.belfry, 0x940, 2, 0x4, 0, 1, 0x0, false, []⟩ -- R609
  | .BF_PTP_CFG => ⟨.belfry, 0x950, 1, 0x0, 0, 1, 0x0, false, [.maker]⟩ -- R609
  -- spec chapter 16
  | .SSI_DEMAND => ⟨.keystone, 0x400, 1, 0x0, 0, 1, 0x0, false, []⟩ -- R633
  | .SSI_PERMIT_A => ⟨.keystone, 0x404, 1, 0x0, 0, 1, 0x0, false, []⟩ -- R633
  | .SSI_PERMIT_B => ⟨.keystone, 0x408, 1, 0x0, 0, 1, 0x0, false, []⟩ -- R633
  | .SSI_LATCH => ⟨.keystone, 0x40C, 1, 0x0, 0, 1, 0x0, false, []⟩ -- R633
  | .SSI_FLAGS => ⟨.keystone, 0x410, 1, 0x0, 0, 1, 0x0, false, [.operator, .installer, .maker]⟩ -- R634
  | .SSI_CFG => ⟨.keystone, 0x420, 1, 0x0, 0, 1, 0x0, false, []⟩ -- R633
  | .SSI_BREQ => ⟨.keystone, 0x424, 1, 0x0, 0, 1, 0x0, false, []⟩ -- R633
  | .SSI_DISCARD => ⟨.keystone, 0x428, 1, 0x0, 0, 1, 0x0, false, []⟩ -- R633
  | .SSI_PROOF_CFG => ⟨.keystone, 0x42C, 1, 0x0, 0, 1, 0x0, false, []⟩ -- R633
  | .SSI_PROOF_DUE => ⟨.keystone, 0x430, 1, 0x0, 0, 1, 0x0, false, []⟩ -- R633
  | .SSI_LAST => ⟨.keystone, 0x440, 4, 0x4, 0, 1, 0x0, false, []⟩ -- R635
  | .PAR_ID => ⟨.keystone, 0x1000, 256, 0x20, 0, 1, 0x0, false, []⟩ -- R636
  | .PAR_CHMASK => ⟨.keystone, 0x1004, 256, 0x20, 0, 1, 0x0, false, []⟩ -- R636
  | .PAR_CFG => ⟨.keystone, 0x1008, 256, 0x20, 0, 1, 0x0, false, []⟩ -- R636
  | .PAR_STATE => ⟨.keystone, 0x100C, 256, 0x20, 0, 1, 0x0, false, []⟩ -- R636
  | .PAR_RXSEQ => ⟨.keystone, 0x1010, 256, 0x20, 0, 1, 0x0, false, []⟩ -- R636
  | .PAR_TXSEQ => ⟨.keystone, 0x1014, 256, 0x20, 0, 1, 0x0, false, []⟩ -- R636
  | .PAR_LATCH => ⟨.keystone, 0x1018, 256, 0x20, 0, 1, 0x0, false, []⟩ -- R636
  | .PAR_CNT => ⟨.keystone, 0x101C, 256, 0x20, 0, 1, 0x0, false, []⟩ -- R636
  -- spec chapter 17
  | .TG_STATE => ⟨.keystone, 0x500, 1, 0x0, 0, 1, 0x0, false, []⟩ -- R659
  | .TG_FLAGS => ⟨.keystone, 0x504, 1, 0x0, 0, 1, 0x0, false, [.operator, .installer, .maker]⟩ -- R660
  | .TG_DEBUG => ⟨.keystone, 0x508, 1, 0x0, 0, 1, 0x0, false, [.maker]⟩ -- R661
  | .TG_KEYS => ⟨.keystone, 0x50C, 1, 0x0, 0, 1, 0x0, false, []⟩ -- R662
  | .TG_KEY_CMD => ⟨.keystone, 0x510, 1, 0x0, 0, 1, 0x0, false, [.maker]⟩ -- R662
  | .LDG_STATE => ⟨.keystone, 0x600, 1, 0x0, 0, 1, 0x0, false, []⟩ -- R663
  | .LDG_FLAGS => ⟨.keystone, 0x604, 1, 0x0, 0, 1, 0x0, false, [.operator, .installer, .maker]⟩ -- R664
  | .LDG_SEQ => ⟨.keystone, 0x608, 2, 0x4, 0, 1, 0x0, false, []⟩ -- R665
  | .LDG_WEAR => ⟨.keystone, 0x610, 2, 0x4, 0, 1, 0x0, false, []⟩ -- R666
  | .LDG_CFG => ⟨.keystone, 0x620, 1, 0x0, 0, 1, 0x0, false, [.maker]⟩ -- R667
  -- spec chapter 18
  | .ALM_STATE => ⟨.keystone, 0x700, 1, 0x0, 0, 1, 0x0, false, []⟩ -- R683
  | .ALM_FLAGS => ⟨.keystone, 0x704, 1, 0x0, 0, 1, 0x0, false, [.operator, .installer, .maker]⟩ -- R684
  | .ALM_CFG => ⟨.keystone, 0x708, 1, 0x0, 0, 1, 0x0, false, [.maker]⟩ -- R685
  | .ALM_CFG2 => ⟨.keystone, 0x70C, 1, 0x0, 0, 1, 0x0, false, [.maker]⟩ -- R685
  | .ALM_OSC => ⟨.keystone, 0x710, 1, 0x0, 0, 1, 0x0, false, []⟩ -- R686
  | .ALM_OVR => ⟨.keystone, 0x714, 1, 0x0, 0, 1, 0x0, false, [.maker]⟩ -- R687
  | .ALM_OVR_VAL => ⟨.keystone, 0x718, 1, 0x0, 0, 1, 0x0, false, [.maker]⟩ -- R687
  | .ALM_CMD => ⟨.keystone, 0x71C, 1, 0x0, 0, 1, 0x0, false, [.installer]⟩ -- R687
  | .ALM_CH_RON => ⟨.keystone, 0x3000, 32, 0x20, 0, 1, 0x0, true, []⟩ -- R688
  | .ALM_CH_GATE => ⟨.keystone, 0x3004, 32, 0x20, 0, 1, 0x0, true, []⟩ -- R688
  | .ALM_CH_PLAN => ⟨.keystone, 0x3008, 32, 0x20, 0, 1, 0x0, true, []⟩ -- R688
  | .ALM_CH_SOA => ⟨.keystone, 0x300C, 32, 0x20, 0, 1, 0x0, true, []⟩ -- R688
  | .ALM_CH_SHUNT => ⟨.keystone, 0x3010, 32, 0x20, 0, 1, 0x0, true, []⟩ -- R688

/-- The number of channels, strings and chains of the variant (R1). -/
def Variant.channels : Variant → Nat
  | .gk6432 => 32
  | .gk6416 => 16
  | .gk6408 => 8

/-- The value of a register at reset (R14), for its indices i and j, from the register tables; a register of an absent
channel reads 0 (R2). -/
def regReset (v : Variant) (r : RegName) (i j : Nat) : Nat :=
  if (regInfo r).chan && decide (v.channels ≤ i) then 0 else
  match r with
  | .KEY_DEVICE_ID => match v with
    | .gk6432 => 0x5A202100 | .gk6416 => 0x5A102100 | .gk6408 => 0x5A082100
  | .KEY_DEVICE_CAPS => match v with
    | .gk6432 => 0x01202020 | .gk6416 => 0x00101010 | .gk6408 => 0x00080808
  | .SUP_FEED_CFG => match v with
    | .gk6432 => 0x20FAB4AA | _ => 0x2000B4AA
  | .INS_ZTH => if j = 0 then 0x00640190 else 0x0FA00320
  | .EST_BLKMAP => i
  | .LRN_TBAND => if i = 0 then 0x140A00F6 else 0x0032281E
  | .TB_INC_NS => if i = 2 then 0xC8 else 0x4
  | .TB_CFG => if i = 2 then 0x7A12000A else 0x0003200A
  | .MEAS_CAL => if j = 1 then 0x400000 else 0
  | .KEY_PACE => 0xFFFF0000
  | .KEY_PACE_CFG => 0x28002C0
  | .KEY_ESC_CFG => 0x8430A10
  | .SUP_RESET_CAUSE => 0x10101
  | .SUP_RAIL_MON => 0xFFFF0000
  | .KEY_START_STATE => 0xFF00
  | .KEY_START_MARK => 0xFFFFFFFF
  | .PLK_CFG => 0x800
  | .PLK_PARAM => 0x5DC0708
  | .PLK_PARAM2 => 0xC80064
  | .PLK_NTC => 0x80008000
  | .INS_CFG => 0xA0A0332
  | .INS_LIMIT => 0x3E80BB8
  | .INS_TIMING => 0x1400C8
  | .INS_ROT => 0x820004
  | .INS_THERM => 0x50647D96
  | .INS_PGRP => 0x3E8
  | .INS_GRAMP => 0x6A402BC
  | .INS_CLOSE => 0x13880032
  | .INS_TRIM => 0xA0064
  | .INS_QCFG => 0x64
  | .PROT_CFG => 0xC06
  | .PROT_ILIM => 0x27101770
  | .PROT_TFLT => 0x7D0
  | .PROT_SLOW => 0x7D01194
  | .PROT_REV => 0x140032
  | .PROT_RETRY => 0x3C00A3
  | .PROT_MOD => 0x147D014
  | .PROT_DIDT => 0x5DC
  | .PROT_BUS_CFG => 0x41720384
  | .TRM_CFG => 0x3201401
  | .TRM_LIMIT => 0x3E802EE
  | .TRM_GAIN => 0x6400C8
  | .SHR_CFG => 0x64000A
  | .SHR_CFG2 => 0x3200C8
  | .SHR_W => 0x3E8
  | .MEAS_WIN_CFG => 0x10000A
  | .MEAS_WIN_STATE => 0x1
  | .MEAS_SHUNT => 0xFA0000
  | .MEAS_ZERO_CFG => 0x10014
  | .MEAS_ADC_CFG => 0x103
  | .MEAS_IN_CFG => 0x1
  | .MEAS_REF_CFG => 0x140500
  | .MEAS_REF_EXTV => 0x3D090
  | .MEAS_CONV_REF => 0x4
  | .MEAS_SEQ_CFG => 0xE40D
  | .MEAS_OW_CFG => 0x100A3210
  | .TAL_RELOAD => 0xFFFFFFFF
  | .TAL_CMP => 0xFFFFFFFF
  | .HR_CFG => 0x822
  | .HR_CHAIN_CFG => 0xA0000
  | .HR_STATE => 0x1F0
  | .HR_DELAY => 0xFFFFFFFF
  | .EST_CFG => 0xC81400
  | .EST_CFG2 => 0x2585432
  | .EST_SOCLIM => 0x3B60032
  | .EST_VLIM => 0x10680AF0
  | .EST_REST => 0x320A0014
  | .EST_PERSIST => 0x3E8003C
  | .LRN_CFG => 0xA191E1E
  | .LRN_CFG2 => 0x601005A
  | .LRN_ID => 0x78850514
  | .LRN_ID2 => 0x314
  | .LRN_BANDCFG => 0x20A0A
  | .LRN_IBAND => 0x3C1E0A
  | .LRN_PERSIST => 0x70A003C
  | .DSP_REQ => 0x2000000
  | .DSP_CFG => 0x106409
  | .DSP_BAL_CFG => 0x1E100A01
  | .DSP_BAL_CFG2 => 0xA0A2D
  | .DSP_HVAC_CFG => 0x30A2019
  | .DSP_HVAC_CFG2 => 0x32121E0F
  | .DSP_REC_CFG => 0xCFF
  | .DSP_REC_STATE => 0x14D00
  | .COM_STATE => 0xF0000000
  | .COM_SESS_CFG => 0x10003C
  | .COM_PORT_CFG => 0x10011E
  | .ETH_CFG => 0x1
  | .SPAN_STATE => 0x100
  | .INJ_CFG => 0x1FC00
  | .INJ_CFG2 => 0x3C0000
  | .BF_REF_CFG => 0x3E80210
  | .BF_REF_STATE => 0x3
  | .BF_REF_RPT => 0xFF00
  | .BF_PTP_CFG => 0x7F00
  | .LDG_CFG => 0x4B19064
  | .ALM_STATE => 0x400
  | .ALM_CFG => 0x19323C55
  | .ALM_CFG2 => 0xA28
  | .ALM_CH_PLAN => 0x6403E8
  | .ALM_CH_SOA => 0xFFFF
  | _ => 0

/-- A field of a register: its lowest bit and its width. -/
structure Fld where
  reg : RegName
  lo : Nat
  width : Nat
  deriving DecidableEq, Repr

/-- A field a session may write: bits, access code, the range that a write is limited to
(R34 and the register tables: the nearest end of the range), and whether it is signed. -/
structure WField where
  lo : Nat
  width : Nat
  acc : Access
  signed : Bool
  min : Int
  max : Int
  deriving DecidableEq, Repr

namespace F

def KEY_DEVICE_ID_FAMILY : Fld := ⟨.KEY_DEVICE_ID, 24, 8⟩ -- R5
def KEY_DEVICE_ID_PART : Fld := ⟨.KEY_DEVICE_ID, 16, 8⟩ -- R5
def KEY_DEVICE_ID_STEP_MAJOR : Fld := ⟨.KEY_DEVICE_ID, 12, 4⟩ -- R5
def KEY_DEVICE_ID_STEP_MINOR : Fld := ⟨.KEY_DEVICE_ID, 8, 4⟩ -- R5
def KEY_DEVICE_CAPS_PIER_CH : Fld := ⟨.KEY_DEVICE_CAPS, 0, 8⟩ -- R6
def KEY_DEVICE_CAPS_CHAIN_PORTS : Fld := ⟨.KEY_DEVICE_CAPS, 8, 8⟩ -- R6
def KEY_DEVICE_CAPS_CTX_UNITS : Fld := ⟨.KEY_DEVICE_CAPS, 16, 8⟩ -- R6
def KEY_DEVICE_CAPS_FAILWARN_PRESENT : Fld := ⟨.KEY_DEVICE_CAPS, 24, 1⟩ -- R6
def KEY_PACE_PACE_NOW : Fld := ⟨.KEY_PACE, 0, 16⟩ -- R33
def KEY_PACE_PACE_MIN : Fld := ⟨.KEY_PACE, 16, 16⟩ -- R33
def KEY_PACE_CFG_PACE_WARN : Fld := ⟨.KEY_PACE_CFG, 0, 16⟩ -- R34
def KEY_PACE_CFG_PACE_FLOOR : Fld := ⟨.KEY_PACE_CFG, 16, 16⟩ -- R34
def KEY_PACE_FLAGS_WARN : Fld := ⟨.KEY_PACE_FLAGS, 0, 8⟩ -- R35
def KEY_PACE_FLAGS_FLOOR : Fld := ⟨.KEY_PACE_FLAGS, 8, 8⟩ -- R35
def KEY_FAB_STATE_STATE : Fld := ⟨.KEY_FAB_STATE, 0, 2⟩ -- R54
def KEY_FAB_STATE_DEGRADED : Fld := ⟨.KEY_FAB_STATE, 8, 8⟩ -- R54
def KEY_FAB_STATE_RESTARTING : Fld := ⟨.KEY_FAB_STATE, 16, 8⟩ -- R54
def KEY_ERR_FLAGS_CORRECTED : Fld := ⟨.KEY_ERR_FLAGS, 0, 1⟩ -- R55
def KEY_ERR_FLAGS_CONTAINED : Fld := ⟨.KEY_ERR_FLAGS, 1, 1⟩ -- R55
def KEY_ERR_FLAGS_DEGRADED : Fld := ⟨.KEY_ERR_FLAGS, 2, 1⟩ -- R55
def KEY_ERR_FLAGS_SAFE_STATE : Fld := ⟨.KEY_ERR_FLAGS, 3, 1⟩ -- R55
def KEY_ERR_FLAGS_RESTART_FAIL : Fld := ⟨.KEY_ERR_FLAGS, 4, 1⟩ -- R55
def KEY_ERR_FLAGS_HS_TIMEOUT : Fld := ⟨.KEY_ERR_FLAGS, 5, 1⟩ -- R55
def KEY_ERR_SEQ_NEXT_SEQ : Fld := ⟨.KEY_ERR_SEQ, 0, 32⟩ -- R56
def KEY_ESC_CFG_CORR_LIMIT : Fld := ⟨.KEY_ESC_CFG, 0, 8⟩ -- R57
def KEY_ESC_CFG_CORR_WINDOW : Fld := ⟨.KEY_ESC_CFG, 8, 8⟩ -- R57
def KEY_ESC_CFG_CONT_LIMIT : Fld := ⟨.KEY_ESC_CFG, 16, 4⟩ -- R57
def KEY_ESC_CFG_MILL_RETIRE_MAX : Fld := ⟨.KEY_ESC_CFG, 20, 4⟩ -- R57
def KEY_ESC_CFG_GRAN_RETIRE_MAX : Fld := ⟨.KEY_ESC_CFG, 24, 4⟩ -- R57
def KEY_SAFE_CAUSE_CAUSE : Fld := ⟨.KEY_SAFE_CAUSE, 0, 16⟩ -- R58
def KEY_SAFE_CAUSE_REGION : Fld := ⟨.KEY_SAFE_CAUSE, 16, 3⟩ -- R58
def KEY_RECOVER_RECOVER_KEY : Fld := ⟨.KEY_RECOVER, 0, 16⟩ -- R59
def KEY_RETIRED_LO_RETIRED : Fld := ⟨.KEY_RETIRED_LO, 0, 32⟩ -- R60
def KEY_RETIRED_HI_RETIRED : Fld := ⟨.KEY_RETIRED_HI, 0, 32⟩ -- R60
def SUP_STATE_FEEDA_GOOD : Fld := ⟨.SUP_STATE, 0, 1⟩ -- R87
def SUP_STATE_FEEDB_GOOD : Fld := ⟨.SUP_STATE, 1, 1⟩ -- R87
def SUP_STATE_FEEDA_ON : Fld := ⟨.SUP_STATE, 2, 1⟩ -- R87
def SUP_STATE_FEEDB_ON : Fld := ⟨.SUP_STATE, 3, 1⟩ -- R87
def SUP_STATE_VCTL_LOW : Fld := ⟨.SUP_STATE, 4, 1⟩ -- R87
def SUP_STATE_FAILWARN : Fld := ⟨.SUP_STATE, 5, 1⟩ -- R87
def SUP_STATE_ALL_GOOD : Fld := ⟨.SUP_STATE, 6, 1⟩ -- R87
def SUP_STATE_RAIL_GOOD : Fld := ⟨.SUP_STATE, 8, 6⟩ -- R87
def SUP_STATE_SEQ_STATE : Fld := ⟨.SUP_STATE, 16, 4⟩ -- R87
def SUP_FLAGS_FEEDA_LOSS : Fld := ⟨.SUP_FLAGS, 0, 1⟩ -- R88
def SUP_FLAGS_FEEDB_LOSS : Fld := ⟨.SUP_FLAGS, 1, 1⟩ -- R88
def SUP_FLAGS_FEEDA_REV : Fld := ⟨.SUP_FLAGS, 2, 1⟩ -- R88
def SUP_FLAGS_FEEDB_REV : Fld := ⟨.SUP_FLAGS, 3, 1⟩ -- R88
def SUP_FLAGS_VCTL_WARN : Fld := ⟨.SUP_FLAGS, 4, 1⟩ -- R88
def SUP_FLAGS_WARN_RECOVERED : Fld := ⟨.SUP_FLAGS, 5, 1⟩ -- R88
def SUP_FLAGS_RAIL_FAULT : Fld := ⟨.SUP_FLAGS, 8, 6⟩ -- R88
def SUP_FLAGS_THERMAL : Fld := ⟨.SUP_FLAGS, 16, 1⟩ -- R88
def SUP_FLAGS_SEQ_TIMEOUT : Fld := ⟨.SUP_FLAGS, 17, 1⟩ -- R88
def SUP_FEED_CFG_VCTL_WARN : Fld := ⟨.SUP_FEED_CFG, 0, 8⟩ -- R89
def SUP_FEED_CFG_FEED_GOOD : Fld := ⟨.SUP_FEED_CFG, 8, 8⟩ -- R89
def SUP_FEED_CFG_FAILWARN_LEAD : Fld := ⟨.SUP_FEED_CFG, 16, 12⟩ -- R89
def SUP_FEED_CFG_REV_THR : Fld := ⟨.SUP_FEED_CFG, 28, 4⟩ -- R89
def SUP_FEED_MON_FEEDA_V : Fld := ⟨.SUP_FEED_MON, 0, 10⟩ -- R90
def SUP_FEED_MON_FEEDB_V : Fld := ⟨.SUP_FEED_MON, 10, 10⟩ -- R90
def SUP_FEED_MON_VCTL_V : Fld := ⟨.SUP_FEED_MON, 20, 10⟩ -- R90
def SUP_RESET_CAUSE_LAST : Fld := ⟨.SUP_RESET_CAUSE, 0, 4⟩ -- R91
def SUP_RESET_CAUSE_SEEN : Fld := ⟨.SUP_RESET_CAUSE, 8, 7⟩ -- R91
def SUP_RESET_CAUSE_COUNT : Fld := ⟨.SUP_RESET_CAUSE, 16, 16⟩ -- R91
def SUP_RESET_CMD_RESET_KEY : Fld := ⟨.SUP_RESET_CMD, 0, 16⟩ -- R92
def SUP_RAIL_MON_V_NOW : Fld := ⟨.SUP_RAIL_MON, 0, 16⟩ -- R93
def SUP_RAIL_MON_V_MIN : Fld := ⟨.SUP_RAIL_MON, 16, 16⟩ -- R93
def KEY_START_STATE_PHASE : Fld := ⟨.KEY_START_STATE, 0, 3⟩ -- R94
def KEY_START_STATE_LOADED : Fld := ⟨.KEY_START_STATE, 4, 2⟩ -- R94
def KEY_START_STATE_KEY_SLOT : Fld := ⟨.KEY_START_STATE, 6, 2⟩ -- R94
def KEY_START_STATE_RESULT_A : Fld := ⟨.KEY_START_STATE, 8, 4⟩ -- R94
def KEY_START_STATE_RESULT_B : Fld := ⟨.KEY_START_STATE, 12, 4⟩ -- R94
def KEY_CHARTER_GEN_GENERATION : Fld := ⟨.KEY_CHARTER_GEN, 0, 32⟩ -- R95
def KEY_CHARTER_ID_DIGEST_HEAD : Fld := ⟨.KEY_CHARTER_ID, 0, 32⟩ -- R95
def KEY_START_MARK_T_US : Fld := ⟨.KEY_START_MARK, 0, 32⟩ -- R96
def KEY_START_FLAGS_IMAGE_A_FAIL : Fld := ⟨.KEY_START_FLAGS, 0, 1⟩ -- R97
def KEY_START_FLAGS_IMAGE_B_FAIL : Fld := ⟨.KEY_START_FLAGS, 1, 1⟩ -- R97
def KEY_START_FLAGS_SAFE_IDLE : Fld := ⟨.KEY_START_FLAGS, 2, 1⟩ -- R97
def KEY_START_FLAGS_ROLL_CALL_SHORT : Fld := ⟨.KEY_START_FLAGS, 3, 1⟩ -- R97
def PLK_STATE_LSTATE : Fld := ⟨.PLK_STATE, 0, 3⟩ -- R129
def PLK_STATE_SAFE_RUN_ON : Fld := ⟨.PLK_STATE, 3, 1⟩ -- R129
def PLK_STATE_MOD_ARMED : Fld := ⟨.PLK_STATE, 4, 1⟩ -- R129
def PLK_STATE_MOD_LOCAL_OPEN : Fld := ⟨.PLK_STATE, 5, 1⟩ -- R129
def PLK_STATE_TRIM_PRESENT : Fld := ⟨.PLK_STATE, 6, 1⟩ -- R129
def PLK_STATE_GROUPS_FITTED : Fld := ⟨.PLK_STATE, 8, 5⟩ -- R129
def PLK_STATE_RANGE_MAIN : Fld := ⟨.PLK_STATE, 13, 1⟩ -- R129
def PLK_STATE_RANGE_CHECK : Fld := ⟨.PLK_STATE, 14, 1⟩ -- R129
def PLK_STATE_REFUSE : Fld := ⟨.PLK_STATE, 16, 4⟩ -- R129
def PLK_FLAGS_FRAME_BAD : Fld := ⟨.PLK_FLAGS, 0, 1⟩ -- R130
def PLK_FLAGS_GAP : Fld := ⟨.PLK_FLAGS, 1, 1⟩ -- R130
def PLK_FLAGS_LINK_LOST : Fld := ⟨.PLK_FLAGS, 2, 1⟩ -- R130
def PLK_FLAGS_DN_BAD : Fld := ⟨.PLK_FLAGS, 3, 1⟩ -- R130
def PLK_FLAGS_STREAM_MISMATCH : Fld := ⟨.PLK_FLAGS, 4, 1⟩ -- R130
def PLK_FLAGS_MBX_TIMEOUT : Fld := ⟨.PLK_FLAGS, 5, 1⟩ -- R130
def PLK_FLAGS_IDENT_CHANGE : Fld := ⟨.PLK_FLAGS, 6, 1⟩ -- R130
def PLK_FLAGS_REFUSED : Fld := ⟨.PLK_FLAGS, 7, 1⟩ -- R130
def PLK_FLAGS_LOCAL_OPEN : Fld := ⟨.PLK_FLAGS, 8, 1⟩ -- R130
def PLK_FLAGS_URGENT_SENT : Fld := ⟨.PLK_FLAGS, 9, 1⟩ -- R130
def PLK_FLAGS_URGENT_RCVD : Fld := ⟨.PLK_FLAGS, 10, 1⟩ -- R130
def PLK_FLAGS_BLOCK_ERR : Fld := ⟨.PLK_FLAGS, 11, 1⟩ -- R130
def PLK_CFG_LINK_EN : Fld := ⟨.PLK_CFG, 0, 1⟩ -- R131
def PLK_CFG_LOSS_DEV : Fld := ⟨.PLK_CFG, 8, 6⟩ -- R131
def PLK_CFG_RANGE_POL : Fld := ⟨.PLK_CFG, 16, 2⟩ -- R131
def PLK_DELAY_D_NOW : Fld := ⟨.PLK_DELAY, 0, 12⟩ -- R132
def PLK_DELAY_D_MAX : Fld := ⟨.PLK_DELAY, 16, 12⟩ -- R132
def PLK_PARAM_RANGE_UP : Fld := ⟨.PLK_PARAM, 0, 16⟩ -- R134
def PLK_PARAM_RANGE_DOWN : Fld := ⟨.PLK_PARAM, 16, 16⟩ -- R134
def PLK_MODSTAT_STATUS : Fld := ⟨.PLK_MODSTAT, 0, 16⟩ -- R133
def PLK_MODSTAT_DESAT_MASK : Fld := ⟨.PLK_MODSTAT, 16, 16⟩ -- R133
def PLK_PARAM2_LOSS_SLEW : Fld := ⟨.PLK_PARAM2, 0, 10⟩ -- R135
def PLK_PARAM2_TRIM_SLEW_MAX : Fld := ⟨.PLK_PARAM2, 16, 10⟩ -- R135
def PLK_GTEL_GATE_TEL : Fld := ⟨.PLK_GTEL, 0, 32⟩ -- R136
def PLK_NTC_NTC_LO : Fld := ⟨.PLK_NTC, 0, 16⟩ -- R137
def PLK_NTC_NTC_HI : Fld := ⟨.PLK_NTC, 16, 16⟩ -- R137
def PLK_IDENT_BYTES : Fld := ⟨.PLK_IDENT, 0, 32⟩ -- R138
def INS_CMD_CMD : Fld := ⟨.INS_CMD, 0, 4⟩ -- R174
def INS_CMD_NO_LIMIT : Fld := ⟨.INS_CMD, 4, 1⟩ -- R174
def INS_CMD_NO_TRIM : Fld := ⟨.INS_CMD, 5, 1⟩ -- R174
def INS_CMD_REQ_TAG : Fld := ⟨.INS_CMD, 16, 16⟩ -- R174
def INS_STATE_CSTATE : Fld := ⟨.INS_STATE, 0, 4⟩ -- R175
def INS_STATE_PATH : Fld := ⟨.INS_STATE, 4, 2⟩ -- R175
def INS_STATE_TOKEN : Fld := ⟨.INS_STATE, 6, 1⟩ -- R175
def INS_STATE_STR_READY : Fld := ⟨.INS_STATE, 7, 1⟩ -- R175
def INS_STATE_CAUSE : Fld := ⟨.INS_STATE, 8, 8⟩ -- R175
def INS_STATE_K_ON : Fld := ⟨.INS_STATE, 16, 5⟩ -- R175
def INS_STATE_PAUSED : Fld := ⟨.INS_STATE, 21, 1⟩ -- R175
def INS_STATE_DERATED : Fld := ⟨.INS_STATE, 22, 1⟩ -- R175
def INS_STATE_IN_LIMIT : Fld := ⟨.INS_STATE, 23, 1⟩ -- R175
def INS_STATE_QPOS : Fld := ⟨.INS_STATE, 24, 6⟩ -- R175
def INS_FLAGS_REFUSED : Fld := ⟨.INS_FLAGS, 0, 1⟩ -- R176
def INS_FLAGS_ABORTED : Fld := ⟨.INS_FLAGS, 1, 1⟩ -- R176
def INS_FLAGS_READY_REACHED : Fld := ⟨.INS_FLAGS, 2, 1⟩ -- R176
def INS_FLAGS_DV_REFUSED : Fld := ⟨.INS_FLAGS, 3, 1⟩ -- R176
def INS_FLAGS_INRUSH_TIMEOUT : Fld := ⟨.INS_FLAGS, 4, 1⟩ -- R176
def INS_FLAGS_BUS_CHANGED : Fld := ⟨.INS_FLAGS, 5, 1⟩ -- R176
def INS_FLAGS_CLOSE_CURRENT : Fld := ⟨.INS_FLAGS, 6, 1⟩ -- R176
def INS_FLAGS_ALIGN_TIMEOUT : Fld := ⟨.INS_FLAGS, 7, 1⟩ -- R176
def INS_FLAGS_THERMAL_PAUSE : Fld := ⟨.INS_FLAGS, 8, 1⟩ -- R176
def INS_FLAGS_ROT_DERATE : Fld := ⟨.INS_FLAGS, 9, 1⟩ -- R176
def INS_FLAGS_GROUP_LOST : Fld := ⟨.INS_FLAGS, 10, 1⟩ -- R176
def INS_FLAGS_OPEN_HIGH_I : Fld := ⟨.INS_FLAGS, 11, 1⟩ -- R176
def INS_FLAGS_QUEUE_TIMEOUT : Fld := ⟨.INS_FLAGS, 12, 1⟩ -- R176
def INS_FLAGS_RDY_DROP : Fld := ⟨.INS_FLAGS, 13, 1⟩ -- R176
def INS_CFG_VMATCH : Fld := ⟨.INS_CFG, 0, 8⟩ -- R177
def INS_CFG_ALLOW_TRIM : Fld := ⟨.INS_CFG, 8, 1⟩ -- R177
def INS_CFG_ALLOW_LIMIT : Fld := ⟨.INS_CFG, 9, 1⟩ -- R177
def INS_CFG_TSENSE : Fld := ⟨.INS_CFG, 16, 8⟩ -- R177
def INS_CFG_TCONFIRM : Fld := ⟨.INS_CFG, 24, 8⟩ -- R177
def INS_LIMIT_PMAX : Fld := ⟨.INS_LIMIT, 0, 16⟩ -- R178
def INS_LIMIT_IMAX : Fld := ⟨.INS_LIMIT, 16, 16⟩ -- R178
def INS_TIMING_TINRUSH : Fld := ⟨.INS_TIMING, 0, 9⟩ -- R179
def INS_TIMING_TSLOT : Fld := ⟨.INS_TIMING, 16, 6⟩ -- R179
def INS_ROT_ROT_WIDTH : Fld := ⟨.INS_ROT, 0, 5⟩ -- R180
def INS_ROT_SHARE_K : Fld := ⟨.INS_ROT, 16, 9⟩ -- R180
def INS_THERM_TJ_LIN_MAX : Fld := ⟨.INS_THERM, 0, 8⟩ -- R181
def INS_THERM_TJ_ROT : Fld := ⟨.INS_THERM, 8, 8⟩ -- R181
def INS_THERM_TJ_RESUME : Fld := ⟨.INS_THERM, 16, 8⟩ -- R181
def INS_THERM_TJ_START : Fld := ⟨.INS_THERM, 24, 8⟩ -- R181
def INS_PGRP_P_GROUP_MAX : Fld := ⟨.INS_PGRP, 0, 16⟩ -- R182
def INS_ZTH_RTH : Fld := ⟨.INS_ZTH, 0, 16⟩ -- R183
def INS_ZTH_TAU : Fld := ⟨.INS_ZTH, 16, 16⟩ -- R183
def INS_GRAMP_VGS_START : Fld := ⟨.INS_GRAMP, 0, 12⟩ -- R184
def INS_GRAMP_VGS_END : Fld := ⟨.INS_GRAMP, 16, 12⟩ -- R184
def INS_CLOSE_TRAMP : Fld := ⟨.INS_CLOSE, 0, 16⟩ -- R185
def INS_CLOSE_ICLOSE : Fld := ⟨.INS_CLOSE, 16, 16⟩ -- R185
def INS_TRIM_TRIM_SLEW : Fld := ⟨.INS_TRIM, 0, 10⟩ -- R186
def INS_TRIM_VALIGN : Fld := ⟨.INS_TRIM, 16, 8⟩ -- R186
def INS_VDIFF_VDIFF_SENSE : Fld := ⟨.INS_VDIFF, 0, 16⟩ -- R187
def INS_VDIFF_VSW_NOW : Fld := ⟨.INS_VDIFF, 16, 16⟩ -- R187
def INS_LIVE_I_SET : Fld := ⟨.INS_LIVE, 0, 16⟩ -- R188
def INS_LIVE_P_NOW : Fld := ⟨.INS_LIVE, 16, 16⟩ -- R188
def INS_TJ_TJ : Fld := ⟨.INS_TJ, 0, 16⟩ -- R189
def INS_TJ_CONDUCT : Fld := ⟨.INS_TJ, 16, 1⟩ -- R189
def INS_TJ_ELIGIBLE : Fld := ⟨.INS_TJ, 17, 1⟩ -- R189
def INS_TJ_DAMAGED : Fld := ⟨.INS_TJ, 18, 1⟩ -- R189
def INS_LAST_DURATION : Fld := ⟨.INS_LAST, 0, 24⟩ -- R190
def INS_LAST_ENERGY : Fld := ⟨.INS_LAST, 24, 8⟩ -- R190
def INS_BUS_PCS_HOLD : Fld := ⟨.INS_BUS, 0, 1⟩ -- R191
def INS_BUS_HELD : Fld := ⟨.INS_BUS, 1, 1⟩ -- R191
def INS_BUS_TOKEN_CH : Fld := ⟨.INS_BUS, 8, 5⟩ -- R191
def INS_BUS_TOKEN_VALID : Fld := ⟨.INS_BUS, 13, 1⟩ -- R191
def INS_BUS_QUEUE_LEN : Fld := ⟨.INS_BUS, 16, 6⟩ -- R191
def INS_QCFG_QUEUE_MAX : Fld := ⟨.INS_QCFG, 0, 16⟩ -- R192
def PROT_CFG_DISCHARGE_ONLY : Fld := ⟨.PROT_CFG, 0, 1⟩ -- R225
def PROT_CFG_RETRY_AUTO : Fld := ⟨.PROT_CFG, 1, 1⟩ -- R225
def PROT_CFG_BACKOFF : Fld := ⟨.PROT_CFG, 2, 1⟩ -- R225
def PROT_CFG_MIN_GROUPS : Fld := ⟨.PROT_CFG, 8, 5⟩ -- R225
def PROT_ILIM_ILIM : Fld := ⟨.PROT_ILIM, 0, 16⟩ -- R226
def PROT_ILIM_ISC : Fld := ⟨.PROT_ILIM, 16, 16⟩ -- R226
def PROT_TFLT_T_FLT : Fld := ⟨.PROT_TFLT, 0, 17⟩ -- R227
def PROT_SLOW_ITRIP_SLOW : Fld := ⟨.PROT_SLOW, 0, 16⟩ -- R228
def PROT_SLOW_K_SLOW : Fld := ⟨.PROT_SLOW, 16, 16⟩ -- R228
def PROT_REV_IREV : Fld := ⟨.PROT_REV, 0, 10⟩ -- R230
def PROT_REV_VFWD : Fld := ⟨.PROT_REV, 16, 8⟩ -- R230
def PROT_RETRY_RETRY_MAX : Fld := ⟨.PROT_RETRY, 0, 4⟩ -- R231
def PROT_RETRY_RETRY_DELAY : Fld := ⟨.PROT_RETRY, 4, 12⟩ -- R231
def PROT_RETRY_RETRY_HEAL : Fld := ⟨.PROT_RETRY, 16, 11⟩ -- R231
def PROT_MOD_DESAT_BLANK : Fld := ⟨.PROT_MOD, 0, 8⟩ -- R232
def PROT_MOD_VGS_ON_MIN : Fld := ⟨.PROT_MOD, 8, 12⟩ -- R232
def PROT_MOD_T_RISE_MAX : Fld := ⟨.PROT_MOD, 20, 7⟩ -- R232
def PROT_DIDT_DIDT_THR : Fld := ⟨.PROT_DIDT, 0, 16⟩ -- R233
def PROT_STATE_IN_LIMIT : Fld := ⟨.PROT_STATE, 0, 1⟩ -- R234
def PROT_STATE_BLOCKING : Fld := ⟨.PROT_STATE, 1, 1⟩ -- R234
def PROT_STATE_RETRY_PENDING : Fld := ⟨.PROT_STATE, 2, 1⟩ -- R234
def PROT_STATE_COOL_OK : Fld := ⟨.PROT_STATE, 3, 1⟩ -- R234
def PROT_STATE_LOCKED : Fld := ⟨.PROT_STATE, 4, 1⟩ -- R234
def PROT_STATE_SR_HELD : Fld := ⟨.PROT_STATE, 5, 1⟩ -- R234
def PROT_STATE_HEALTHY : Fld := ⟨.PROT_STATE, 8, 5⟩ -- R234
def PROT_STATE_RETRY_USED : Fld := ⟨.PROT_STATE, 16, 5⟩ -- R234
def PROT_STATE_LOCK_CAUSE : Fld := ⟨.PROT_STATE, 24, 8⟩ -- R234
def PROT_EFF_ILIM_EFF : Fld := ⟨.PROT_EFF, 0, 16⟩ -- R235
def PROT_EFF_ISC_EFF : Fld := ⟨.PROT_EFF, 16, 16⟩ -- R235
def PROT_SLOWACC_ITRIP_SLOW_EFF : Fld := ⟨.PROT_SLOWACC, 0, 16⟩ -- R236
def PROT_SLOWACC_ACC : Fld := ⟨.PROT_SLOWACC, 16, 16⟩ -- R236
def PROT_DAMAGED_DAMAGED : Fld := ⟨.PROT_DAMAGED, 0, 16⟩ -- R237
def PROT_FLAGS_DESAT : Fld := ⟨.PROT_FLAGS, 0, 1⟩ -- R238
def PROT_FLAGS_DIDT : Fld := ⟨.PROT_FLAGS, 1, 1⟩ -- R238
def PROT_FLAGS_FAST : Fld := ⟨.PROT_FLAGS, 2, 1⟩ -- R238
def PROT_FLAGS_ILIM_ENTER : Fld := ⟨.PROT_FLAGS, 3, 1⟩ -- R238
def PROT_FLAGS_ILIM_TIMEOUT : Fld := ⟨.PROT_FLAGS, 4, 1⟩ -- R238
def PROT_FLAGS_SLOW : Fld := ⟨.PROT_FLAGS, 5, 1⟩ -- R238
def PROT_FLAGS_THERMAL : Fld := ⟨.PROT_FLAGS, 6, 1⟩ -- R238
def PROT_FLAGS_MOD_OVERTEMP : Fld := ⟨.PROT_FLAGS, 7, 1⟩ -- R238
def PROT_FLAGS_TRIM_FAULT : Fld := ⟨.PROT_FLAGS, 8, 1⟩ -- R238
def PROT_FLAGS_SHUNT_DISAGREE : Fld := ⟨.PROT_FLAGS, 9, 1⟩ -- R238
def PROT_FLAGS_SHUNT_DRIFT : Fld := ⟨.PROT_FLAGS, 10, 1⟩ -- R238
def PROT_FLAGS_GROUP_DAMAGED : Fld := ⟨.PROT_FLAGS, 11, 1⟩ -- R238
def PROT_FLAGS_REV_BLOCK : Fld := ⟨.PROT_FLAGS, 12, 1⟩ -- R238
def PROT_FLAGS_REVERSE_DV : Fld := ⟨.PROT_FLAGS, 13, 1⟩ -- R238
def PROT_FLAGS_MOD_OPEN : Fld := ⟨.PROT_FLAGS, 14, 1⟩ -- R238
def PROT_FLAGS_BUS_TRIP : Fld := ⟨.PROT_FLAGS, 15, 1⟩ -- R238
def PROT_FLAGS_RETRY_START : Fld := ⟨.PROT_FLAGS, 16, 1⟩ -- R238
def PROT_FLAGS_LOCKOUT : Fld := ⟨.PROT_FLAGS, 17, 1⟩ -- R238
def PROT_FLAGS_OPEN_FAIL : Fld := ⟨.PROT_FLAGS, 18, 1⟩ -- R238
def PROT_FLAGS_SWITCH_CONDUCT : Fld := ⟨.PROT_FLAGS, 19, 1⟩ -- R238
def PROT_FLAGS_HEAL : Fld := ⟨.PROT_FLAGS, 20, 1⟩ -- R238
def PROT_RETRY_STATE_DELAY_REMAIN : Fld := ⟨.PROT_RETRY_STATE, 0, 17⟩ -- R239
def PROT_CLEAR_ACTION : Fld := ⟨.PROT_CLEAR, 0, 4⟩ -- R240
def PROT_CLEAR_KEY : Fld := ⟨.PROT_CLEAR, 4, 12⟩ -- R240
def PROT_CLEAR_GROUP_MASK : Fld := ⟨.PROT_CLEAR, 16, 16⟩ -- R240
def PROT_LAST_CAUSE : Fld := ⟨.PROT_LAST, 0, 8⟩ -- R241
def PROT_LAST_LAYER : Fld := ⟨.PROT_LAST, 8, 3⟩ -- R241
def PROT_LAST_COUNTED : Fld := ⟨.PROT_LAST, 11, 1⟩ -- R241
def PROT_LAST_RETRY_USED : Fld := ⟨.PROT_LAST, 12, 4⟩ -- R241
def PROT_LAST_HEALTHY : Fld := ⟨.PROT_LAST, 16, 5⟩ -- R241
def PROT_LAST_I_TRIP : Fld := ⟨.PROT_LAST, 0, 16⟩ -- R241
def PROT_LAST_VSW : Fld := ⟨.PROT_LAST, 16, 16⟩ -- R241
def PROT_LAST_SEC_LO : Fld := ⟨.PROT_LAST, 0, 32⟩ -- R241
def PROT_LAST_SEC_HI : Fld := ⟨.PROT_LAST, 0, 16⟩ -- R241
def PROT_LAST_GROUP_MASK : Fld := ⟨.PROT_LAST, 16, 16⟩ -- R241
def PROT_LAST_NS : Fld := ⟨.PROT_LAST, 0, 32⟩ -- R241
def PROT_BUS_CFG_BUS_UV : Fld := ⟨.PROT_BUS_CFG, 0, 11⟩ -- R242
def PROT_BUS_CFG_BUS_OV : Fld := ⟨.PROT_BUS_CFG, 11, 11⟩ -- R242
def PROT_BUS_CFG_BUS_T : Fld := ⟨.PROT_BUS_CFG, 22, 8⟩ -- R242
def PROT_BUS_CFG_BUS_EN : Fld := ⟨.PROT_BUS_CFG, 30, 1⟩ -- R242
def PROT_BUS_STATE_VBUS_MED : Fld := ⟨.PROT_BUS_STATE, 0, 16⟩ -- R243
def PROT_BUS_STATE_ARMED : Fld := ⟨.PROT_BUS_STATE, 16, 1⟩ -- R243
def PROT_BUS_STATE_UV_ACTIVE : Fld := ⟨.PROT_BUS_STATE, 17, 1⟩ -- R243
def PROT_BUS_STATE_OV_ACTIVE : Fld := ⟨.PROT_BUS_STATE, 18, 1⟩ -- R243
def PROT_BUS_STATE_WARN : Fld := ⟨.PROT_BUS_STATE, 19, 1⟩ -- R243
def PROT_BUS_FLAGS_BUS_UV : Fld := ⟨.PROT_BUS_FLAGS, 0, 1⟩ -- R244
def PROT_BUS_FLAGS_BUS_OV : Fld := ⟨.PROT_BUS_FLAGS, 1, 1⟩ -- R244
def PROT_BUS_FLAGS_WARN_CANCEL : Fld := ⟨.PROT_BUS_FLAGS, 2, 1⟩ -- R244
def PROT_BUS_FLAGS_BUS_OPENED : Fld := ⟨.PROT_BUS_FLAGS, 3, 1⟩ -- R244
def TRM_CFG_SHARE_EN : Fld := ⟨.TRM_CFG, 0, 1⟩ -- R262
def TRM_CFG_SHARE_SLEW : Fld := ⟨.TRM_CFG, 8, 10⟩ -- R262
def TRM_CFG_DI_HANDOVER : Fld := ⟨.TRM_CFG, 20, 9⟩ -- R262
def TRM_LIMIT_TRIM_VLIM : Fld := ⟨.TRM_LIMIT, 0, 10⟩ -- R263
def TRM_LIMIT_TRIM_PMAX : Fld := ⟨.TRM_LIMIT, 16, 16⟩ -- R263
def TRM_GAIN_KP : Fld := ⟨.TRM_GAIN, 0, 16⟩ -- R264
def TRM_GAIN_KI : Fld := ⟨.TRM_GAIN, 16, 16⟩ -- R264
def TRM_VSET_VSET : Fld := ⟨.TRM_VSET, 0, 16⟩ -- R265
def TRM_STATE_TSTATE : Fld := ⟨.TRM_STATE, 0, 3⟩ -- R266
def TRM_STATE_HO_ACTIVE : Fld := ⟨.TRM_STATE, 3, 1⟩ -- R266
def TRM_STATE_SAT : Fld := ⟨.TRM_STATE, 4, 1⟩ -- R266
def TRM_STATE_SAT_DIR : Fld := ⟨.TRM_STATE, 5, 1⟩ -- R266
def TRM_STATE_V_MODEL : Fld := ⟨.TRM_STATE, 16, 16⟩ -- R266
def TRM_LIVE_I_REF : Fld := ⟨.TRM_LIVE, 0, 16⟩ -- R267
def TRM_LIVE_I_MEAS : Fld := ⟨.TRM_LIVE, 16, 16⟩ -- R267
def TRM_LOOP_V_INT : Fld := ⟨.TRM_LOOP, 0, 16⟩ -- R268
def TRM_LOOP_V_CMD : Fld := ⟨.TRM_LOOP, 16, 16⟩ -- R268
def TRM_FLAGS_HANDOVER : Fld := ⟨.TRM_FLAGS, 0, 1⟩ -- R269
def TRM_FLAGS_HO_BUMP : Fld := ⟨.TRM_FLAGS, 1, 1⟩ -- R269
def TRM_FLAGS_TRIM_SAT : Fld := ⟨.TRM_FLAGS, 2, 1⟩ -- R269
def TRM_FLAGS_I_SAT : Fld := ⟨.TRM_FLAGS, 3, 1⟩ -- R269
def TRM_FLAGS_FREEZE : Fld := ⟨.TRM_FLAGS, 4, 1⟩ -- R269
def TRM_FLAGS_TRIM_IMISMATCH : Fld := ⟨.TRM_FLAGS, 5, 1⟩ -- R269
def TRM_FLAGS_LOST : Fld := ⟨.TRM_FLAGS, 6, 1⟩ -- R269
def TRM_FLAGS_GAP_SKIP : Fld := ⟨.TRM_FLAGS, 7, 1⟩ -- R269
def SHR_CFG_PERIOD : Fld := ⟨.SHR_CFG, 0, 8⟩ -- R270
def SHR_CFG_SRC : Fld := ⟨.SHR_CFG, 8, 1⟩ -- R270
def SHR_CFG_SHR_RAMP : Fld := ⟨.SHR_CFG, 16, 16⟩ -- R270
def SHR_CFG2_I_SH_MIN : Fld := ⟨.SHR_CFG2, 0, 16⟩ -- R271
def SHR_CFG2_CENTRE_RATE : Fld := ⟨.SHR_CFG2, 16, 16⟩ -- R271
def SHR_STATE_MEMBERS : Fld := ⟨.SHR_STATE, 0, 6⟩ -- R272
def SHR_STATE_MOVING : Fld := ⟨.SHR_STATE, 6, 1⟩ -- R272
def SHR_STATE_SHARE_SAT : Fld := ⟨.SHR_STATE, 7, 1⟩ -- R272
def SHR_ITOT_I_TOT : Fld := ⟨.SHR_ITOT, 0, 32⟩ -- R272
def SHR_W_W : Fld := ⟨.SHR_W, 0, 16⟩ -- R273
def SHR_FRAC_F_EFF : Fld := ⟨.SHR_FRAC, 0, 16⟩ -- R274
def SHR_FRAC_F_TGT : Fld := ⟨.SHR_FRAC, 16, 16⟩ -- R274
def MEAS_WIN_CFG_WIN_CYCLES : Fld := ⟨.MEAS_WIN_CFG, 0, 7⟩ -- R300
def MEAS_WIN_CFG_F_NOM : Fld := ⟨.MEAS_WIN_CFG, 8, 1⟩ -- R300
def MEAS_WIN_CFG_REQUAL : Fld := ⟨.MEAS_WIN_CFG, 16, 8⟩ -- R300
def MEAS_WIN_STATE_WIN_SRC : Fld := ⟨.MEAS_WIN_STATE, 0, 1⟩ -- R301
def MEAS_WIN_STATE_TB2_QUAL : Fld := ⟨.MEAS_WIN_STATE, 1, 1⟩ -- R301
def MEAS_WIN_STATE_REQUAL_LEFT : Fld := ⟨.MEAS_WIN_STATE, 8, 8⟩ -- R301
def MEAS_WIN_STATE_PERIOD : Fld := ⟨.MEAS_WIN_STATE, 16, 16⟩ -- R301
def MEAS_GFLAGS_WIN_FREE : Fld := ⟨.MEAS_GFLAGS, 0, 1⟩ -- R302
def MEAS_GFLAGS_WIN_LOCKED : Fld := ⟨.MEAS_GFLAGS, 1, 1⟩ -- R302
def MEAS_GFLAGS_WIN_SHORT : Fld := ⟨.MEAS_GFLAGS, 2, 1⟩ -- R302
def MEAS_FLAGS_GAP : Fld := ⟨.MEAS_FLAGS, 0, 1⟩ -- R303
def MEAS_FLAGS_RANGE_CHANGE : Fld := ⟨.MEAS_FLAGS, 1, 1⟩ -- R303
def MEAS_FLAGS_FAST_HOLD : Fld := ⟨.MEAS_FLAGS, 2, 1⟩ -- R303
def MEAS_FLAGS_FAST_STALE : Fld := ⟨.MEAS_FLAGS, 3, 1⟩ -- R303
def MEAS_FLAGS_TCOMP_STALE : Fld := ⟨.MEAS_FLAGS, 4, 1⟩ -- R303
def MEAS_FLAGS_ZERO_RANGE : Fld := ⟨.MEAS_FLAGS, 5, 1⟩ -- R303
def MEAS_FLAGS_CAL_RANGE : Fld := ⟨.MEAS_FLAGS, 6, 1⟩ -- R303
def MEAS_FLAGS_SAT : Fld := ⟨.MEAS_FLAGS, 7, 1⟩ -- R303
def MEAS_CLIP_CLIP : Fld := ⟨.MEAS_CLIP, 0, 32⟩ -- R304
def MEAS_SHUNT_ALPHA : Fld := ⟨.MEAS_SHUNT, 0, 16⟩ -- R305
def MEAS_SHUNT_TREF : Fld := ⟨.MEAS_SHUNT, 16, 16⟩ -- R305
def MEAS_ZERO_CFG_ZERO_MAX : Fld := ⟨.MEAS_ZERO_CFG, 0, 16⟩ -- R306
def MEAS_ZERO_CFG_ZERO_EN : Fld := ⟨.MEAS_ZERO_CFG, 16, 1⟩ -- R306
def MEAS_ZERO_O_MAIN : Fld := ⟨.MEAS_ZERO, 0, 16⟩ -- R307
def MEAS_ZERO_O_CHECK : Fld := ⟨.MEAS_ZERO, 16, 16⟩ -- R307
def MEAS_TALLY_P_LO : Fld := ⟨.MEAS_TALLY, 0, 32⟩ -- R308
def MEAS_TALLY_P_HI : Fld := ⟨.MEAS_TALLY, 0, 32⟩ -- R308
def MEAS_QCOUNT_Q_DIS : Fld := ⟨.MEAS_QCOUNT, 0, 32⟩ -- R308
def MEAS_QCOUNT_Q_CHG : Fld := ⟨.MEAS_QCOUNT, 0, 32⟩ -- R308
def MEAS_GAPCNT_GAP_PKT : Fld := ⟨.MEAS_GAPCNT, 0, 32⟩ -- R309
def MEAS_EPOCH_EPOCH : Fld := ⟨.MEAS_EPOCH, 0, 16⟩ -- R309
def MEAS_EPOCH_SPARE_KIND : Fld := ⟨.MEAS_EPOCH, 16, 2⟩ -- R309
def MEAS_FAST_VALUE : Fld := ⟨.MEAS_FAST, 0, 16⟩ -- R310
def MEAS_FAST_RANGE : Fld := ⟨.MEAS_FAST, 16, 1⟩ -- R310
def MEAS_FAST_HOLD : Fld := ⟨.MEAS_FAST, 17, 1⟩ -- R310
def MEAS_FAST_STALE : Fld := ⟨.MEAS_FAST, 18, 1⟩ -- R310
def MEAS_FAST_SAT : Fld := ⟨.MEAS_FAST, 19, 1⟩ -- R310
def MEAS_FAST_UPD : Fld := ⟨.MEAS_FAST, 24, 8⟩ -- R310
def MEAS_WIN_WORD : Fld := ⟨.MEAS_WIN, 0, 32⟩ -- R311
def MEAS_WSEQ_NEXT_WSEQ : Fld := ⟨.MEAS_WSEQ, 0, 32⟩ -- R311
def MEAS_ADC_CFG_OSR : Fld := ⟨.MEAS_ADC_CFG, 0, 3⟩ -- R312
def MEAS_ADC_CFG_EN : Fld := ⟨.MEAS_ADC_CFG, 8, 1⟩ -- R312
def MEAS_IN_CFG_MODE : Fld := ⟨.MEAS_IN_CFG, 0, 2⟩ -- R313
def MEAS_IN_CFG_ALIGN : Fld := ⟨.MEAS_IN_CFG, 4, 1⟩ -- R313
def MEAS_RES_RESULT : Fld := ⟨.MEAS_RES, 0, 32⟩ -- R314
def MEAS_RVALID_VALID : Fld := ⟨.MEAS_RVALID, 0, 32⟩ -- R314
def MEAS_SRC_FLAGS_CAL_DONE : Fld := ⟨.MEAS_SRC_FLAGS, 0, 1⟩ -- R344
def MEAS_SRC_FLAGS_CAL_FAIL : Fld := ⟨.MEAS_SRC_FLAGS, 1, 1⟩ -- R344
def MEAS_SRC_FLAGS_CAL_ABORT : Fld := ⟨.MEAS_SRC_FLAGS, 2, 1⟩ -- R344
def MEAS_SRC_FLAGS_REF_LATE : Fld := ⟨.MEAS_SRC_FLAGS, 3, 1⟩ -- R344
def MEAS_SRC_FLAGS_REF_INT_FAIL : Fld := ⟨.MEAS_SRC_FLAGS, 4, 1⟩ -- R344
def MEAS_SRC_FLAGS_REF_FALLBACK : Fld := ⟨.MEAS_SRC_FLAGS, 5, 1⟩ -- R344
def MEAS_SRC_FLAGS_REF_RETURN : Fld := ⟨.MEAS_SRC_FLAGS, 6, 1⟩ -- R344
def MEAS_SRC_FLAGS_REF_LOST : Fld := ⟨.MEAS_SRC_FLAGS, 7, 1⟩ -- R344
def MEAS_SRC_FLAGS_TRIG_OVERRUN : Fld := ⟨.MEAS_SRC_FLAGS, 8, 1⟩ -- R344
def MEAS_SRC_FLAGS_INJ_OVERRUN : Fld := ⟨.MEAS_SRC_FLAGS, 9, 1⟩ -- R344
def MEAS_SRC_FLAGS_REG_STARVED : Fld := ⟨.MEAS_SRC_FLAGS, 10, 1⟩ -- R344
def MEAS_SRC_FLAGS_OW_OPEN : Fld := ⟨.MEAS_SRC_FLAGS, 11, 1⟩ -- R344
def MEAS_SRC_FLAGS_OW_RESTORED : Fld := ⟨.MEAS_SRC_FLAGS, 12, 1⟩ -- R344
def MEAS_OW_FLAGS_OPENED : Fld := ⟨.MEAS_OW_FLAGS, 0, 32⟩ -- R345
def MEAS_OW_STATE_OPEN : Fld := ⟨.MEAS_OW_STATE, 0, 32⟩ -- R345
def MEAS_REF_CFG_EXT_FITTED : Fld := ⟨.MEAS_REF_CFG, 0, 1⟩ -- R346
def MEAS_REF_CFG_EXT_SETTLE : Fld := ⟨.MEAS_REF_CFG, 8, 6⟩ -- R346
def MEAS_REF_CFG_TOL_EXT : Fld := ⟨.MEAS_REF_CFG, 16, 8⟩ -- R346
def MEAS_REF_CFG_CAL_DT : Fld := ⟨.MEAS_REF_CFG, 24, 8⟩ -- R346
def MEAS_REF_EXTV_REF_EXT_V : Fld := ⟨.MEAS_REF_EXTV, 0, 18⟩ -- R347
def MEAS_REF_STATE_REF_READY : Fld := ⟨.MEAS_REF_STATE, 0, 1⟩ -- R347
def MEAS_REF_STATE_INT_GOOD : Fld := ⟨.MEAS_REF_STATE, 1, 1⟩ -- R347
def MEAS_REF_STATE_EXT_GOOD : Fld := ⟨.MEAS_REF_STATE, 2, 1⟩ -- R347
def MEAS_REF_STATE_SUP_GOOD : Fld := ⟨.MEAS_REF_STATE, 3, 1⟩ -- R347
def MEAS_REF_STATE_INT_DEV : Fld := ⟨.MEAS_REF_STATE, 16, 16⟩ -- R347
def MEAS_CAL_CMD_START : Fld := ⟨.MEAS_CAL_CMD, 0, 12⟩ -- R348
def MEAS_SWTRIG_TARGET : Fld := ⟨.MEAS_SWTRIG, 0, 6⟩ -- R349
def MEAS_SWTRIG_GRP : Fld := ⟨.MEAS_SWTRIG, 6, 1⟩ -- R349
def MEAS_SWTRIG_INJ : Fld := ⟨.MEAS_SWTRIG, 7, 1⟩ -- R349
def MEAS_CONV_REF_REF_PREF : Fld := ⟨.MEAS_CONV_REF, 0, 2⟩ -- R350
def MEAS_CONV_REF_FALLBACK : Fld := ⟨.MEAS_CONV_REF, 2, 1⟩ -- R350
def MEAS_CONV_REF_REF_NOW : Fld := ⟨.MEAS_CONV_REF, 4, 2⟩ -- R350
def MEAS_CONV_REF_SWITCHING : Fld := ⟨.MEAS_CONV_REF, 6, 1⟩ -- R350
def MEAS_SEQ_CFG_RMODE : Fld := ⟨.MEAS_SEQ_CFG, 0, 2⟩ -- R351
def MEAS_SEQ_CFG_RLEN : Fld := ⟨.MEAS_SEQ_CFG, 2, 3⟩ -- R351
def MEAS_SEQ_CFG_RSEQ : Fld := ⟨.MEAS_SEQ_CFG, 8, 16⟩ -- R351
def MEAS_SEQ_CFG_GROUP : Fld := ⟨.MEAS_SEQ_CFG, 24, 4⟩ -- R351
def MEAS_RTRIG_SRC : Fld := ⟨.MEAS_RTRIG, 0, 8⟩ -- R352
def MEAS_RTRIG_DLY : Fld := ⟨.MEAS_RTRIG, 8, 16⟩ -- R352
def MEAS_ITRIG_SRC : Fld := ⟨.MEAS_ITRIG, 0, 8⟩ -- R352
def MEAS_ITRIG_DLY : Fld := ⟨.MEAS_ITRIG, 8, 16⟩ -- R352
def MEAS_INJ_CFG_IEN : Fld := ⟨.MEAS_INJ_CFG, 0, 1⟩ -- R353
def MEAS_INJ_CFG_ILEN : Fld := ⟨.MEAS_INJ_CFG, 1, 2⟩ -- R353
def MEAS_INJ_CFG_IOSR : Fld := ⟨.MEAS_INJ_CFG, 4, 3⟩ -- R353
def MEAS_INJ_CFG_ISEQ : Fld := ⟨.MEAS_INJ_CFG, 8, 8⟩ -- R353
def MEAS_GRP_SRC : Fld := ⟨.MEAS_GRP, 0, 8⟩ -- R354
def MEAS_GRP_DLY : Fld := ⟨.MEAS_GRP, 8, 16⟩ -- R354
def MEAS_GRP_TARGET : Fld := ⟨.MEAS_GRP, 24, 1⟩ -- R354
def MEAS_GRP_STAMP_SEC_LO : Fld := ⟨.MEAS_GRP_STAMP, 0, 32⟩ -- R355
def MEAS_GRP_STAMP_NS : Fld := ⟨.MEAS_GRP_STAMP, 0, 32⟩ -- R355
def MEAS_CAL_OFFSET : Fld := ⟨.MEAS_CAL, 0, 24⟩ -- R356
def MEAS_CAL_GAIN : Fld := ⟨.MEAS_CAL, 0, 24⟩ -- R356
def MEAS_CAL_RATIO_EXT : Fld := ⟨.MEAS_CAL, 0, 24⟩ -- R356
def MEAS_CAL_TJ_CAL : Fld := ⟨.MEAS_CAL, 0, 16⟩ -- R356
def MEAS_CAL_CAL_OK : Fld := ⟨.MEAS_CAL, 16, 1⟩ -- R356
def MEAS_INJ_RES_RESULT : Fld := ⟨.MEAS_INJ_RES, 0, 32⟩ -- R357
def MEAS_OW_CFG_OW_EN : Fld := ⟨.MEAS_OW_CFG, 0, 4⟩ -- R358
def MEAS_OW_CFG_OW_CUR : Fld := ⟨.MEAS_OW_CFG, 4, 2⟩ -- R358
def MEAS_OW_CFG_OW_POL : Fld := ⟨.MEAS_OW_CFG, 6, 1⟩ -- R358
def MEAS_OW_CFG_OW_THR : Fld := ⟨.MEAS_OW_CFG, 8, 8⟩ -- R358
def MEAS_OW_CFG_OW_PERIOD : Fld := ⟨.MEAS_OW_CFG, 16, 12⟩ -- R358
def MEAS_OW_CFG_OW_SOAK : Fld := ⟨.MEAS_OW_CFG, 28, 4⟩ -- R358
def MEAS_TCAR_P_LOG2 : Fld := ⟨.MEAS_TCAR, 0, 3⟩ -- R359
def MEAS_TCAR_PHASE : Fld := ⟨.MEAS_TCAR, 4, 6⟩ -- R359
def MEAS_TCAR_CAR_EN : Fld := ⟨.MEAS_TCAR, 15, 1⟩ -- R359
def TAL_CFG_EN : Fld := ⟨.TAL_CFG, 0, 1⟩ -- R374
def TAL_CFG_MODE : Fld := ⟨.TAL_CFG, 1, 1⟩ -- R374
def TAL_CFG_TICK_SRC : Fld := ⟨.TAL_CFG, 2, 2⟩ -- R374
def TAL_CFG_TB_SEL : Fld := ⟨.TAL_CFG, 4, 3⟩ -- R374
def TAL_CFG_PRESCALE : Fld := ⟨.TAL_CFG, 16, 16⟩ -- R374
def TAL_RELOAD_RELOAD : Fld := ⟨.TAL_RELOAD, 0, 32⟩ -- R375
def TAL_COUNT_COUNT : Fld := ⟨.TAL_COUNT, 0, 32⟩ -- R375
def TAL_STATUS_DIR : Fld := ⟨.TAL_STATUS, 0, 1⟩ -- R376
def TAL_STATUS_OUT : Fld := ⟨.TAL_STATUS, 1, 1⟩ -- R376
def TAL_STATUS_RELOAD_PEND : Fld := ⟨.TAL_STATUS, 2, 1⟩ -- R376
def TAL_STATUS_ONCE_DONE : Fld := ⟨.TAL_STATUS, 3, 1⟩ -- R376
def TAL_CMP_CMP : Fld := ⟨.TAL_CMP, 0, 32⟩ -- R377
def TAL_ACT_ACT : Fld := ⟨.TAL_ACT, 0, 8⟩ -- R378
def TAL_ACT_ZACT : Fld := ⟨.TAL_ACT, 8, 2⟩ -- R378
def TAL_ACT_EDGE : Fld := ⟨.TAL_ACT, 10, 8⟩ -- R378
def TAL_ACT_TRIG_SEL : Fld := ⟨.TAL_ACT, 18, 3⟩ -- R378
def TAL_ACT_OUT_INIT : Fld := ⟨.TAL_ACT, 21, 1⟩ -- R378
def TAL_SYNC_SYNC_SRC : Fld := ⟨.TAL_SYNC, 0, 8⟩ -- R379
def TAL_SYNC_ONCE : Fld := ⟨.TAL_SYNC, 8, 1⟩ -- R379
def TAL_PIN_CFG_SEL : Fld := ⟨.TAL_PIN_CFG, 0, 6⟩ -- R380
def TAL_PIN_CFG_INV : Fld := ⟨.TAL_PIN_CFG, 6, 1⟩ -- R380
def TAL_PIN_CFG_OE : Fld := ⟨.TAL_PIN_CFG, 7, 1⟩ -- R380
def TAL_LATE_LATE : Fld := ⟨.TAL_LATE, 0, 32⟩ -- R381
def TAL_SLIP_SLIP : Fld := ⟨.TAL_SLIP, 0, 32⟩ -- R381
def HR_CFG_RATE : Fld := ⟨.HR_CFG, 0, 3⟩ -- R417
def HR_CFG_RATE_NOW : Fld := ⟨.HR_CFG, 4, 3⟩ -- R417
def HR_CFG_FINAL_WIN : Fld := ⟨.HR_CFG, 8, 8⟩ -- R417
def HR_GFLAGS_RATE_APPLIED : Fld := ⟨.HR_GFLAGS, 0, 1⟩ -- R418
def HR_GFLAGS_INSTANT_SKIP : Fld := ⟨.HR_GFLAGS, 1, 1⟩ -- R418
def HR_FLAGS_BREAK : Fld := ⟨.HR_FLAGS, 0, 1⟩ -- R419
def HR_FLAGS_HEAL : Fld := ⟨.HR_FLAGS, 1, 1⟩ -- R419
def HR_FLAGS_NODE_ADMIT : Fld := ⟨.HR_FLAGS, 2, 1⟩ -- R419
def HR_FLAGS_NODE_LOST : Fld := ⟨.HR_FLAGS, 3, 1⟩ -- R419
def HR_FLAGS_NODE_REFUSED : Fld := ⟨.HR_FLAGS, 4, 1⟩ -- R419
def HR_FLAGS_CAPACITY : Fld := ⟨.HR_FLAGS, 5, 1⟩ -- R419
def HR_FLAGS_IDENT_CHANGE : Fld := ⟨.HR_FLAGS, 6, 1⟩ -- R419
def HR_FLAGS_MISSING : Fld := ⟨.HR_FLAGS, 7, 1⟩ -- R419
def HR_FLAGS_RECOVERED : Fld := ⟨.HR_FLAGS, 8, 1⟩ -- R419
def HR_FLAGS_FLYWHEEL : Fld := ⟨.HR_FLAGS, 9, 1⟩ -- R419
def HR_FLAGS_SKEW : Fld := ⟨.HR_FLAGS, 10, 1⟩ -- R419
def HR_FLAGS_SLOT_CRC : Fld := ⟨.HR_FLAGS, 11, 1⟩ -- R419
def HR_FLAGS_BAL_REFUSED : Fld := ⟨.HR_FLAGS, 12, 1⟩ -- R419
def HR_FLAGS_ZERO_REQ : Fld := ⟨.HR_FLAGS, 13, 1⟩ -- R419
def HR_CHAIN_CFG_CHAIN_EN : Fld := ⟨.HR_CHAIN_CFG, 0, 1⟩ -- R420
def HR_CHAIN_CFG_EXPECT : Fld := ⟨.HR_CHAIN_CFG, 8, 5⟩ -- R420
def HR_CHAIN_CFG_NODE_LOSS_T : Fld := ⟨.HR_CHAIN_CFG, 16, 8⟩ -- R420
def HR_STATE_CSTATE : Fld := ⟨.HR_STATE, 0, 3⟩ -- R421
def HR_STATE_SPLIT : Fld := ⟨.HR_STATE, 3, 1⟩ -- R421
def HR_STATE_A_LAST : Fld := ⟨.HR_STATE, 4, 5⟩ -- R421
def HR_STATE_ADMITTED : Fld := ⟨.HR_STATE, 9, 5⟩ -- R421
def HR_STATE_REFUSED : Fld := ⟨.HR_STATE, 14, 5⟩ -- R421
def HR_STATE_COMPLETE : Fld := ⟨.HR_STATE, 19, 1⟩ -- R421
def HR_STATE_CELLS : Fld := ⟨.HR_STATE, 20, 10⟩ -- R421
def HR_SWEEP_INSTANT : Fld := ⟨.HR_SWEEP, 0, 32⟩ -- R422
def HR_SWEEP_STAT_MISSING : Fld := ⟨.HR_SWEEP_STAT, 0, 10⟩ -- R422
def HR_SWEEP_STAT_RECOVERED : Fld := ⟨.HR_SWEEP_STAT, 10, 1⟩ -- R422
def HR_SWEEP_STAT_FLYWHEEL : Fld := ⟨.HR_SWEEP_STAT, 11, 1⟩ -- R422
def HR_SWEEP_STAT_NOT_PLANT : Fld := ⟨.HR_SWEEP_STAT, 12, 1⟩ -- R422
def HR_SWEEP_STAT_LATENCY : Fld := ⟨.HR_SWEEP_STAT, 16, 16⟩ -- R422
def HR_MISS_CNT_COUNT : Fld := ⟨.HR_MISS_CNT, 0, 32⟩ -- R422
def HR_DELAY_D_A : Fld := ⟨.HR_DELAY, 0, 16⟩ -- R423
def HR_DELAY_D_B : Fld := ⟨.HR_DELAY, 16, 16⟩ -- R423
def HR_NODE_NSTATE : Fld := ⟨.HR_NODE, 0, 3⟩ -- R424
def HR_NODE_SIDE : Fld := ⟨.HR_NODE, 3, 1⟩ -- R424
def HR_NODE_REFUSE : Fld := ⟨.HR_NODE, 4, 4⟩ -- R424
def HR_NODE_CELLS : Fld := ⟨.HR_NODE, 8, 6⟩ -- R424
def HR_NODE_CELL_BASE : Fld := ⟨.HR_NODE, 14, 9⟩ -- R424
def HR_BAL_BAL_ON : Fld := ⟨.HR_BAL, 0, 32⟩ -- R425
def EST_CFG_SOC_MODE : Fld := ⟨.EST_CFG, 0, 1⟩ -- R460
def EST_CFG_DIV_CFG : Fld := ⟨.EST_CFG, 4, 2⟩ -- R460
def EST_CFG_Z : Fld := ⟨.EST_CFG, 8, 8⟩ -- R460
def EST_CFG_CONV_RATE : Fld := ⟨.EST_CFG, 16, 16⟩ -- R460
def EST_CFG2_STALE_STEPS : Fld := ⟨.EST_CFG2, 0, 8⟩ -- R461
def EST_CFG2_GATE : Fld := ⟨.EST_CFG2, 8, 4⟩ -- R461
def EST_CFG2_OUT_MAX : Fld := ⟨.EST_CFG2, 12, 4⟩ -- R461
def EST_CFG2_SEED_WAIT : Fld := ⟨.EST_CFG2, 16, 16⟩ -- R461
def EST_SOCLIM_SOC_MIN : Fld := ⟨.EST_SOCLIM, 0, 10⟩ -- R462
def EST_SOCLIM_SOC_MAX : Fld := ⟨.EST_SOCLIM, 16, 10⟩ -- R462
def EST_VLIM_V_MIN : Fld := ⟨.EST_VLIM, 0, 16⟩ -- R462
def EST_VLIM_V_MAX : Fld := ⟨.EST_VLIM, 16, 16⟩ -- R462
def EST_REST_I_REST : Fld := ⟨.EST_REST, 0, 16⟩ -- R463
def EST_REST_SEED_T : Fld := ⟨.EST_REST, 16, 8⟩ -- R463
def EST_REST_C_REF : Fld := ⟨.EST_REST, 24, 8⟩ -- R463
def EST_PERSIST_PERSIST_T : Fld := ⟨.EST_PERSIST, 0, 16⟩ -- R463
def EST_PERSIST_SOP_HOLD : Fld := ⟨.EST_PERSIST, 16, 16⟩ -- R463
def EST_STATE_DIV_NOW : Fld := ⟨.EST_STATE, 0, 2⟩ -- R464
def EST_STATE_LAG_MAX : Fld := ⟨.EST_STATE, 16, 16⟩ -- R464
def EST_GFLAGS_RATE_CUT : Fld := ⟨.EST_GFLAGS, 0, 1⟩ -- R464
def EST_GFLAGS_LATE_STEP : Fld := ⟨.EST_GFLAGS, 1, 1⟩ -- R464
def EST_GFLAGS_PERSIST_LATE : Fld := ⟨.EST_GFLAGS, 2, 1⟩ -- R464
def EST_SWAP_CMD_CHAIN : Fld := ⟨.EST_SWAP_CMD, 0, 5⟩ -- R465
def EST_SWAP_CMD_POS : Fld := ⟨.EST_SWAP_CMD, 8, 4⟩ -- R465
def EST_SWAP_CMD_ACTION : Fld := ⟨.EST_SWAP_CMD, 12, 2⟩ -- R465
def EST_SWAP_CMD_KEY : Fld := ⟨.EST_SWAP_CMD, 16, 16⟩ -- R465
def EST_BLKMAP_ENGINE : Fld := ⟨.EST_BLKMAP, 0, 7⟩ -- R466
def EST_BLKMAP_MOVED : Fld := ⟨.EST_BLKMAP, 7, 1⟩ -- R466
def EST_STR_SOC_SOC : Fld := ⟨.EST_STR_SOC, 0, 16⟩ -- R467
def EST_STR_SOC_SIGMA : Fld := ⟨.EST_STR_SOC, 16, 16⟩ -- R467
def EST_STR_SOH_SOH_Q : Fld := ⟨.EST_STR_SOH, 0, 16⟩ -- R467
def EST_STR_SOH_SOH_R : Fld := ⟨.EST_STR_SOH, 16, 16⟩ -- R467
def EST_STR_SOPD_P : Fld := ⟨.EST_STR_SOPD, 0, 16⟩ -- R467
def EST_STR_SOPD_I : Fld := ⟨.EST_STR_SOPD, 16, 16⟩ -- R467
def EST_STR_SOPC_P : Fld := ⟨.EST_STR_SOPC, 0, 16⟩ -- R467
def EST_STR_SOPC_I : Fld := ⟨.EST_STR_SOPC, 16, 16⟩ -- R467
def EST_STR_E_E_DIS : Fld := ⟨.EST_STR_E, 0, 16⟩ -- R467
def EST_STR_E_E_CHG : Fld := ⟨.EST_STR_E, 16, 16⟩ -- R467
def EST_STR_CNT_TRACK : Fld := ⟨.EST_STR_CNT, 0, 10⟩ -- R467
def EST_STR_CNT_COAST_STALE : Fld := ⟨.EST_STR_CNT, 10, 10⟩ -- R467
def EST_STR_CNT_NO_EST : Fld := ⟨.EST_STR_CNT, 20, 10⟩ -- R467
def EST_STR_CNT_VALID : Fld := ⟨.EST_STR_CNT, 31, 1⟩ -- R467
def EST_STR_LIM_C_DIS : Fld := ⟨.EST_STR_LIM, 0, 9⟩ -- R467
def EST_STR_LIM_C_CHG : Fld := ⟨.EST_STR_LIM, 9, 9⟩ -- R467
def EST_STR_LIM_C_SOP : Fld := ⟨.EST_STR_LIM, 18, 9⟩ -- R467
def EST_STR_LIM_SOP_BY : Fld := ⟨.EST_STR_LIM, 27, 3⟩ -- R467
def EST_STR_STAMP_AGG_ID : Fld := ⟨.EST_STR_STAMP, 0, 32⟩ -- R467
def EST_FLAGS_RESTORED : Fld := ⟨.EST_FLAGS, 0, 1⟩ -- R468
def EST_FLAGS_RESTORE_REJECT : Fld := ⟨.EST_FLAGS, 1, 1⟩ -- R468
def EST_FLAGS_SEEDED : Fld := ⟨.EST_FLAGS, 2, 1⟩ -- R468
def EST_FLAGS_SEED_WEAK : Fld := ⟨.EST_FLAGS, 3, 1⟩ -- R468
def EST_FLAGS_RESEED : Fld := ⟨.EST_FLAGS, 4, 1⟩ -- R468
def EST_FLAGS_OUTLIER : Fld := ⟨.EST_FLAGS, 5, 1⟩ -- R468
def EST_FLAGS_STALE : Fld := ⟨.EST_FLAGS, 6, 1⟩ -- R468
def EST_FLAGS_TEMP_STALE : Fld := ⟨.EST_FLAGS, 7, 1⟩ -- R468
def EST_FLAGS_CHG_GAP : Fld := ⟨.EST_FLAGS, 8, 1⟩ -- R468
def EST_FLAGS_BAND_EXTRAP : Fld := ⟨.EST_FLAGS, 9, 1⟩ -- R468
def EST_FLAGS_SOC_LIMIT : Fld := ⟨.EST_FLAGS, 10, 1⟩ -- R468
def EST_FLAGS_SWAP : Fld := ⟨.EST_FLAGS, 11, 1⟩ -- R468
def EST_FLAGS_INVALID : Fld := ⟨.EST_FLAGS, 12, 1⟩ -- R468
def EST_CTR_SOC_SOC : Fld := ⟨.EST_CTR_SOC, 0, 16⟩ -- R469
def EST_CTR_SOC_STRINGS : Fld := ⟨.EST_CTR_SOC, 16, 6⟩ -- R469
def EST_CTR_SOPD_P : Fld := ⟨.EST_CTR_SOPD, 0, 32⟩ -- R469
def EST_CTR_SOPC_P : Fld := ⟨.EST_CTR_SOPC, 0, 32⟩ -- R469
def EST_CTR_E_E : Fld := ⟨.EST_CTR_E, 0, 32⟩ -- R469
def EST_CTR_SET_SET : Fld := ⟨.EST_CTR_SET, 0, 32⟩ -- R469
def EST_CTR_SOPSET_SET : Fld := ⟨.EST_CTR_SOPSET, 0, 32⟩ -- R469
def EST_CTR_STAMP_AGG_ID : Fld := ⟨.EST_CTR_STAMP, 0, 32⟩ -- R469
def LRN_CFG_REST_T : Fld := ⟨.LRN_CFG, 0, 8⟩ -- R495
def LRN_CFG_DSOC_MIN : Fld := ⟨.LRN_CFG, 8, 8⟩ -- R495
def LRN_CFG_VR_GAIN : Fld := ⟨.LRN_CFG, 16, 8⟩ -- R495
def LRN_CFG_VR_SIGMA : Fld := ⟨.LRN_CFG, 24, 8⟩ -- R495
def LRN_CFG2_SOH_STALE_T : Fld := ⟨.LRN_CFG2, 0, 9⟩ -- R496
def LRN_CFG2_VR_BAND : Fld := ⟨.LRN_CFG2, 16, 2⟩ -- R496
def LRN_CFG2_VR_MIN_T : Fld := ⟨.LRN_CFG2, 24, 8⟩ -- R496
def LRN_ID_F_RIP_LO : Fld := ⟨.LRN_ID, 0, 8⟩ -- R497
def LRN_ID_I_RIP_MIN : Fld := ⟨.LRN_ID, 8, 8⟩ -- R497
def LRN_ID_T_ID : Fld := ⟨.LRN_ID, 16, 4⟩ -- R497
def LRN_ID_N_AVG : Fld := ⟨.LRN_ID, 20, 4⟩ -- R497
def LRN_ID_T_RLX : Fld := ⟨.LRN_ID, 24, 8⟩ -- R497
def LRN_ID2_I_STEP : Fld := ⟨.LRN_ID2, 0, 8⟩ -- R497
def LRN_ID2_ID_EN : Fld := ⟨.LRN_ID2, 8, 1⟩ -- R497
def LRN_ID2_RLX_EN : Fld := ⟨.LRN_ID2, 9, 1⟩ -- R497
def LRN_BANDCFG_DERATE : Fld := ⟨.LRN_BANDCFG, 0, 8⟩ -- R498
def LRN_BANDCFG_UR_STEP : Fld := ⟨.LRN_BANDCFG, 8, 8⟩ -- R498
def LRN_BANDCFG_UR_FLOOR : Fld := ⟨.LRN_BANDCFG, 16, 8⟩ -- R498
def LRN_IBAND_EDGE : Fld := ⟨.LRN_IBAND, 0, 24⟩ -- R499
def LRN_TBAND_EDGE : Fld := ⟨.LRN_TBAND, 0, 32⟩ -- R499
def LRN_PERSIST_CKPT_T : Fld := ⟨.LRN_PERSIST, 0, 10⟩ -- R500
def LRN_PERSIST_JOURNAL_T : Fld := ⟨.LRN_PERSIST, 16, 8⟩ -- R500
def LRN_PERSIST_SNAP_T : Fld := ⟨.LRN_PERSIST, 24, 8⟩ -- R500
def LRN_GFLAGS_RECONCILED : Fld := ⟨.LRN_GFLAGS, 0, 1⟩ -- R501
def LRN_GFLAGS_ID_SHED : Fld := ⟨.LRN_GFLAGS, 1, 1⟩ -- R501
def LRN_GFLAGS_JOURNAL_LATE : Fld := ⟨.LRN_GFLAGS, 2, 1⟩ -- R501
def LRN_STATE_ID_SHED : Fld := ⟨.LRN_STATE, 0, 1⟩ -- R501
def LRN_STATE_RLX_SHED : Fld := ⟨.LRN_STATE, 1, 1⟩ -- R501
def LRN_FLAGS_REST_POINT : Fld := ⟨.LRN_FLAGS, 0, 1⟩ -- R502
def LRN_FLAGS_VIRTUAL_REST : Fld := ⟨.LRN_FLAGS, 1, 1⟩ -- R502
def LRN_FLAGS_CAP_UPDATE : Fld := ⟨.LRN_FLAGS, 2, 1⟩ -- R502
def LRN_FLAGS_CAP_REJECT : Fld := ⟨.LRN_FLAGS, 3, 1⟩ -- R502
def LRN_FLAGS_RS_UPDATE : Fld := ⟨.LRN_FLAGS, 4, 1⟩ -- R502
def LRN_FLAGS_RC_UPDATE : Fld := ⟨.LRN_FLAGS, 5, 1⟩ -- R502
def LRN_FLAGS_ID_REJECT : Fld := ⟨.LRN_FLAGS, 6, 1⟩ -- R502
def LRN_FLAGS_SOH_STALE : Fld := ⟨.LRN_FLAGS, 7, 1⟩ -- R502
def LRN_FLAGS_RECONCILED : Fld := ⟨.LRN_FLAGS, 8, 1⟩ -- R502
def LRN_FLAGS_ANCHOR_DROP : Fld := ⟨.LRN_FLAGS, 9, 1⟩ -- R502
def LRN_STR_EFC_EFC : Fld := ⟨.LRN_STR_EFC, 0, 32⟩ -- R503
def LRN_STR_CAP_CAP_MIN : Fld := ⟨.LRN_STR_CAP, 0, 16⟩ -- R503
def LRN_STR_CAP_STALE : Fld := ⟨.LRN_STR_CAP, 16, 10⟩ -- R503
def LRN_STR_AGE_DAYS_CAP : Fld := ⟨.LRN_STR_AGE, 0, 16⟩ -- R503
def LRN_STR_AGE_LEARNED : Fld := ⟨.LRN_STR_AGE, 16, 16⟩ -- R503
def LRN_STR_RECON_KIND : Fld := ⟨.LRN_STR_RECON, 0, 2⟩ -- R503
def LRN_STR_RECON_T_U : Fld := ⟨.LRN_STR_RECON, 16, 16⟩ -- R503
def LRN_STR_RECON_DQ : Fld := ⟨.LRN_STR_RECON, 0, 16⟩ -- R503
def LRN_STR_RECON_SIGMA : Fld := ⟨.LRN_STR_RECON, 16, 16⟩ -- R503
def DSP_REQ_P_REQ : Fld := ⟨.DSP_REQ, 0, 24⟩ -- R520
def DSP_REQ_HZN_REQ : Fld := ⟨.DSP_REQ, 24, 2⟩ -- R520
def DSP_CFG_DSP_EN : Fld := ⟨.DSP_CFG, 0, 1⟩ -- R521
def DSP_CFG_HZN : Fld := ⟨.DSP_CFG, 2, 2⟩ -- R521
def DSP_CFG_KSOC : Fld := ⟨.DSP_CFG, 8, 8⟩ -- R521
def DSP_CFG_HYST : Fld := ⟨.DSP_CFG, 16, 8⟩ -- R521
def DSP_STATE_BETA : Fld := ⟨.DSP_STATE, 0, 5⟩ -- R522
def DSP_STATE_DIR : Fld := ⟨.DSP_STATE, 5, 1⟩ -- R522
def DSP_STATE_LIMITED : Fld := ⟨.DSP_STATE, 6, 1⟩ -- R522
def DSP_STATE_MEMBERS : Fld := ⟨.DSP_STATE, 8, 6⟩ -- R522
def DSP_STATE_I_DEM : Fld := ⟨.DSP_STATE, 16, 16⟩ -- R522
def DSP_FLAGS_REQ_REFUSED : Fld := ⟨.DSP_FLAGS, 0, 1⟩ -- R523
def DSP_FLAGS_REQ_LIMITED : Fld := ⟨.DSP_FLAGS, 1, 1⟩ -- R523
def DSP_FLAGS_BAL_YIELD : Fld := ⟨.DSP_FLAGS, 2, 1⟩ -- R523
def DSP_FLAGS_LIMIT_EVENT : Fld := ⟨.DSP_FLAGS, 3, 1⟩ -- R523
def DSP_FLAGS_EVT_OVERFLOW : Fld := ⟨.DSP_FLAGS, 4, 1⟩ -- R523
def DSP_FLAGS_HVAC_FAILSAFE : Fld := ⟨.DSP_FLAGS, 5, 1⟩ -- R523
def DSP_FLAGS_SPREAD : Fld := ⟨.DSP_FLAGS, 6, 1⟩ -- R523
def DSP_FLAGS_REC_TRIG : Fld := ⟨.DSP_FLAGS, 7, 1⟩ -- R523
def DSP_FLAGS_REC_MISSED : Fld := ⟨.DSP_FLAGS, 8, 1⟩ -- R523
def DSP_FLAGS_BAL_SUSPEND : Fld := ⟨.DSP_FLAGS, 9, 1⟩ -- R523
def DSP_LIM_DIS_P : Fld := ⟨.DSP_LIM_DIS, 0, 32⟩ -- R524
def DSP_LIM_CHG_P : Fld := ⟨.DSP_LIM_CHG, 0, 32⟩ -- R524
def DSP_LIM_I_I_DIS : Fld := ⟨.DSP_LIM_I, 0, 16⟩ -- R524
def DSP_LIM_I_I_CHG : Fld := ⟨.DSP_LIM_I, 16, 16⟩ -- R524
def DSP_LIM_STAMP_AGG_ID : Fld := ⟨.DSP_LIM_STAMP, 0, 32⟩ -- R524
def DSP_EVT_CODE : Fld := ⟨.DSP_EVT, 0, 8⟩ -- R525
def DSP_EVT_CHANNEL : Fld := ⟨.DSP_EVT, 8, 5⟩ -- R525
def DSP_EVT_ACK_REQ : Fld := ⟨.DSP_EVT, 13, 1⟩ -- R525
def DSP_EVT_SEQ : Fld := ⟨.DSP_EVT, 16, 16⟩ -- R525
def DSP_ACK_CODE_CH : Fld := ⟨.DSP_ACK, 0, 13⟩ -- R525
def DSP_BAL_CFG_BAL_MODE : Fld := ⟨.DSP_BAL_CFG, 0, 2⟩ -- R526
def DSP_BAL_CFG_BAL_DSOC : Fld := ⟨.DSP_BAL_CFG, 8, 8⟩ -- R526
def DSP_BAL_CFG_BAL_MAXN : Fld := ⟨.DSP_BAL_CFG, 16, 6⟩ -- R526
def DSP_BAL_CFG_BAL_ON_T : Fld := ⟨.DSP_BAL_CFG, 24, 8⟩ -- R526
def DSP_BAL_CFG2_BAL_TMAX : Fld := ⟨.DSP_BAL_CFG2, 0, 8⟩ -- R526
def DSP_BAL_CFG2_BAL_SIGMA : Fld := ⟨.DSP_BAL_CFG2, 8, 8⟩ -- R526
def DSP_BAL_CFG2_BAL_PERIOD : Fld := ⟨.DSP_BAL_CFG2, 16, 8⟩ -- R526
def DSP_HVAC_CFG_T_TARGET : Fld := ⟨.DSP_HVAC_CFG, 0, 8⟩ -- R527
def DSP_HVAC_CFG_T_COOL_ON : Fld := ⟨.DSP_HVAC_CFG, 8, 8⟩ -- R527
def DSP_HVAC_CFG_T_HEAT_ON : Fld := ⟨.DSP_HVAC_CFG, 16, 8⟩ -- R527
def DSP_HVAC_CFG_HYST : Fld := ⟨.DSP_HVAC_CFG, 24, 4⟩ -- R527
def DSP_HVAC_CFG2_SP_MIN : Fld := ⟨.DSP_HVAC_CFG2, 0, 8⟩ -- R527
def DSP_HVAC_CFG2_SP_MAX : Fld := ⟨.DSP_HVAC_CFG2, 8, 8⟩ -- R527
def DSP_HVAC_CFG2_SP_FAIL : Fld := ⟨.DSP_HVAC_CFG2, 16, 8⟩ -- R527
def DSP_HVAC_CFG2_HV_MINVALID : Fld := ⟨.DSP_HVAC_CFG2, 24, 7⟩ -- R527
def DSP_HVAC_MODE : Fld := ⟨.DSP_HVAC, 0, 2⟩ -- R528
def DSP_HVAC_SP : Fld := ⟨.DSP_HVAC, 8, 8⟩ -- R528
def DSP_HVAC_T_T_HI : Fld := ⟨.DSP_HVAC_T, 0, 16⟩ -- R528
def DSP_HVAC_T_T_LO : Fld := ⟨.DSP_HVAC_T, 16, 16⟩ -- R528
def DSP_REC_CFG_MASK : Fld := ⟨.DSP_REC_CFG, 0, 8⟩ -- R529
def DSP_REC_CFG_PRE : Fld := ⟨.DSP_REC_CFG, 8, 4⟩ -- R529
def DSP_REC_CMD_ARM : Fld := ⟨.DSP_REC_CMD, 0, 1⟩ -- R529
def DSP_REC_CMD_TRIGGER : Fld := ⟨.DSP_REC_CMD, 1, 1⟩ -- R529
def DSP_REC_CMD_STOP : Fld := ⟨.DSP_REC_CMD, 2, 1⟩ -- R529
def DSP_REC_STATE_RSTATE : Fld := ⟨.DSP_REC_STATE, 0, 2⟩ -- R530
def DSP_REC_STATE_CAP : Fld := ⟨.DSP_REC_STATE, 8, 9⟩ -- R530
def DSP_REC_STATE_FIRST : Fld := ⟨.DSP_REC_STATE, 17, 9⟩ -- R530
def DSP_REC_TRIG_TRIG_IDX : Fld := ⟨.DSP_REC_TRIG, 0, 9⟩ -- R530
def DSP_REC_TRIG_CAUSE : Fld := ⟨.DSP_REC_TRIG, 16, 8⟩ -- R530
def DSP_REC_TRIG_CHANNEL : Fld := ⟨.DSP_REC_TRIG, 24, 5⟩ -- R530
def DSP_REC_TRIG_PRE_SHORT : Fld := ⟨.DSP_REC_TRIG, 29, 1⟩ -- R530
def DSP_REC_TRIG_MORE : Fld := ⟨.DSP_REC_TRIG, 30, 1⟩ -- R530
def DSP_REC_STAMP_SEC_LO : Fld := ⟨.DSP_REC_STAMP, 0, 32⟩ -- R530
def DSP_REC_STAMP_NS : Fld := ⟨.DSP_REC_STAMP, 0, 32⟩ -- R530
def DSP_STR_A_A : Fld := ⟨.DSP_STR_A, 0, 16⟩ -- R531
def DSP_STR_A_I_CAP : Fld := ⟨.DSP_STR_A, 16, 16⟩ -- R531
def DSP_STR_BAL_BLEEDING : Fld := ⟨.DSP_STR_BAL, 0, 10⟩ -- R531
def DSP_STR_BAL_SUSPENDED : Fld := ⟨.DSP_STR_BAL, 10, 1⟩ -- R531
def COM_STATE_SESSIONS : Fld := ⟨.COM_STATE, 0, 9⟩ -- R560
def COM_STATE_QUEUES_FREE : Fld := ⟨.COM_STATE, 16, 16⟩ -- R560
def COM_FLAGS_CAPACITY : Fld := ⟨.COM_FLAGS, 0, 1⟩ -- R561
def COM_FLAGS_SESS_REFUSED : Fld := ⟨.COM_FLAGS, 1, 1⟩ -- R561
def COM_FLAGS_QUEUE_DROP : Fld := ⟨.COM_FLAGS, 2, 1⟩ -- R561
def COM_FLAGS_HS_LIMIT : Fld := ⟨.COM_FLAGS, 3, 1⟩ -- R561
def COM_FLAGS_INJ_START : Fld := ⟨.COM_FLAGS, 4, 1⟩ -- R561
def COM_FLAGS_INJ_END : Fld := ⟨.COM_FLAGS, 5, 1⟩ -- R561
def COM_SESS_CFG_SESS_IDLE : Fld := ⟨.COM_SESS_CFG, 0, 16⟩ -- R562
def COM_SESS_CFG_HS_RATE : Fld := ⟨.COM_SESS_CFG, 16, 8⟩ -- R562
def COM_PORT_CFG_BULK_CAP : Fld := ⟨.COM_PORT_CFG, 0, 6⟩ -- R563
def COM_PORT_CFG_PREEMPT_EN : Fld := ⟨.COM_PORT_CFG, 8, 1⟩ -- R563
def COM_PORT_CFG_FRAG_MAX : Fld := ⟨.COM_PORT_CFG, 16, 8⟩ -- R563
def COM_PORT_STATE_PSTATE : Fld := ⟨.COM_PORT_STATE, 0, 3⟩ -- R564
def COM_PORT_STATE_FEC_LOCK : Fld := ⟨.COM_PORT_STATE, 3, 1⟩ -- R564
def COM_PORT_STATE_PREEMPT_ACTIVE : Fld := ⟨.COM_PORT_STATE, 4, 1⟩ -- R564
def COM_PORT_STATE_BULK_PCT : Fld := ⟨.COM_PORT_STATE, 8, 8⟩ -- R564
def COM_PORT_STATE_LOSS_CNT : Fld := ⟨.COM_PORT_STATE, 16, 16⟩ -- R564
def ETH_CFG_PRP_EN : Fld := ⟨.ETH_CFG, 0, 1⟩ -- R565
def ETH_CFG_VLAN_EN : Fld := ⟨.ETH_CFG, 1, 1⟩ -- R565
def ETH_CFG_VLAN_ID : Fld := ⟨.ETH_CFG, 16, 12⟩ -- R565
def ETH_PRP_CNT_DUP_DISC : Fld := ⟨.ETH_PRP_CNT, 0, 16⟩ -- R566
def ETH_PRP_CNT_WRONG_LAN : Fld := ⟨.ETH_PRP_CNT, 16, 16⟩ -- R566
def SPAN_CFG_SPAN_EN : Fld := ⟨.SPAN_CFG, 0, 1⟩ -- R567
def SPAN_CFG_FOLLOW : Fld := ⟨.SPAN_CFG, 1, 2⟩ -- R567
def SPAN_CFG_SPAN_ID : Fld := ⟨.SPAN_CFG, 8, 6⟩ -- R567
def SPAN_CFG_RING_ID : Fld := ⟨.SPAN_CFG, 16, 16⟩ -- R567
def SPAN_STATE_BYPASS_HOLD : Fld := ⟨.SPAN_STATE, 0, 1⟩ -- R568
def SPAN_STATE_RING_CLOSED : Fld := ⟨.SPAN_STATE, 1, 1⟩ -- R568
def SPAN_STATE_RING_N : Fld := ⟨.SPAN_STATE, 8, 7⟩ -- R568
def SPAN_STATE_RETRAINS : Fld := ⟨.SPAN_STATE, 16, 16⟩ -- R568
def SPAN_FLAGS_RETRAIN : Fld := ⟨.SPAN_FLAGS, 0, 1⟩ -- R569
def SPAN_FLAGS_JOIN_FAIL : Fld := ⟨.SPAN_FLAGS, 1, 1⟩ -- R569
def SPAN_FLAGS_SELF_FAIL : Fld := ⟨.SPAN_FLAGS, 2, 1⟩ -- R569
def SPAN_FLAGS_REFUSED : Fld := ⟨.SPAN_FLAGS, 3, 1⟩ -- R569
def SPAN_FLAGS_DUP_ID : Fld := ⟨.SPAN_FLAGS, 4, 1⟩ -- R569
def SPAN_FLAGS_TRIP_RX : Fld := ⟨.SPAN_FLAGS, 5, 1⟩ -- R569
def SPAN_FLAGS_SEQ_OLD : Fld := ⟨.SPAN_FLAGS, 6, 1⟩ -- R569
def SPAN_FLAGS_RING_OPEN : Fld := ⟨.SPAN_FLAGS, 7, 1⟩ -- R569
def SPAN_DUPCNT_DUP : Fld := ⟨.SPAN_DUPCNT, 0, 32⟩ -- R568
def SPAN_TRIP_RX_ORIGIN : Fld := ⟨.SPAN_TRIP_RX, 0, 6⟩ -- R570
def SPAN_TRIP_RX_COUNT : Fld := ⟨.SPAN_TRIP_RX, 8, 6⟩ -- R570
def SPAN_TRIP_RX_CHANNEL : Fld := ⟨.SPAN_TRIP_RX, 16, 5⟩ -- R570
def SPAN_TRIP_RX_CAUSE : Fld := ⟨.SPAN_TRIP_RX, 24, 8⟩ -- R570
def SPAN_TRIP_RX_SEC_LO : Fld := ⟨.SPAN_TRIP_RX, 0, 32⟩ -- R570
def SPAN_TRIP_RX_NS : Fld := ⟨.SPAN_TRIP_RX, 0, 32⟩ -- R570
def SPAN_TRIP_RX_SEQ : Fld := ⟨.SPAN_TRIP_RX, 0, 32⟩ -- R570
def INJ_CFG_TARGET : Fld := ⟨.INJ_CFG, 0, 2⟩ -- R571
def INJ_CFG_INDEX : Fld := ⟨.INJ_CFG, 2, 5⟩ -- R571
def INJ_CFG_DIR : Fld := ⟨.INJ_CFG, 7, 1⟩ -- R571
def INJ_CFG_ACTION : Fld := ⟨.INJ_CFG, 8, 2⟩ -- R571
def INJ_CFG_CLASS_MASK : Fld := ⟨.INJ_CFG, 10, 6⟩ -- R571
def INJ_CFG_EVERY : Fld := ⟨.INJ_CFG, 16, 16⟩ -- R571
def INJ_CFG2_BIT_POS : Fld := ⟨.INJ_CFG2, 0, 12⟩ -- R571
def INJ_CFG2_INJ_T : Fld := ⟨.INJ_CFG2, 16, 10⟩ -- R571
def INJ_CMD_CMD : Fld := ⟨.INJ_CMD, 0, 2⟩ -- R572
def INJ_CMD_COUNT : Fld := ⟨.INJ_CMD, 16, 16⟩ -- R572
def INJ_STATE_ACTIVE : Fld := ⟨.INJ_STATE, 0, 1⟩ -- R572
def INJ_STATE_END_CAUSE : Fld := ⟨.INJ_STATE, 1, 3⟩ -- R572
def INJ_STATE_DONE : Fld := ⟨.INJ_STATE, 16, 16⟩ -- R572
def TB_NS_NS : Fld := ⟨.TB_NS, 0, 32⟩ -- R597
def TB_SEC_LO_SEC_LO : Fld := ⟨.TB_SEC_LO, 0, 32⟩ -- R597
def TB_SEC_HI_SEC_HI : Fld := ⟨.TB_SEC_HI, 0, 16⟩ -- R597
def TB_FRAC_FRAC : Fld := ⟨.TB_FRAC, 0, 32⟩ -- R597
def TB_INC_FRAC_FRAC : Fld := ⟨.TB_INC_FRAC, 0, 32⟩ -- R598
def TB_INC_NS_NS : Fld := ⟨.TB_INC_NS, 0, 9⟩ -- R598
def TB_ADJ_D : Fld := ⟨.TB_ADJ, 0, 32⟩ -- R599
def TB_CFG_ADJ_PPM : Fld := ⟨.TB_CFG, 0, 10⟩ -- R599
def TB_CFG_QUAL_THR : Fld := ⟨.TB_CFG, 12, 20⟩ -- R599
def TB_SET_NS_NS : Fld := ⟨.TB_SET_NS, 0, 32⟩ -- R600
def TB_SET_SEC_LO_SEC_LO : Fld := ⟨.TB_SET_SEC_LO, 0, 32⟩ -- R600
def TB_SET_SEC_HI_SEC_HI : Fld := ⟨.TB_SET_SEC_HI, 0, 16⟩ -- R600
def TB_SET_FRAC_FRAC : Fld := ⟨.TB_SET_FRAC, 0, 32⟩ -- R600
def TB_CMD_CMD : Fld := ⟨.TB_CMD, 0, 2⟩ -- R601
def TB_STATE_QUAL : Fld := ⟨.TB_STATE, 0, 1⟩ -- R601
def TB_STATE_ADJ_ACTIVE : Fld := ⟨.TB_STATE, 1, 1⟩ -- R601
def TB_STATE_STAGED : Fld := ⟨.TB_STATE, 2, 1⟩ -- R601
def TB_FLAGS_STEP : Fld := ⟨.TB_FLAGS, 0, 1⟩ -- R602
def TB_FLAGS_QUAL_GAINED : Fld := ⟨.TB_FLAGS, 1, 1⟩ -- R602
def TB_FLAGS_QUAL_LOST : Fld := ⟨.TB_FLAGS, 2, 1⟩ -- R602
def TB_FLAGS_ADJ_DONE : Fld := ⟨.TB_FLAGS, 3, 1⟩ -- R602
def TB_FLAGS_ADJ_CANCEL : Fld := ⟨.TB_FLAGS, 4, 1⟩ -- R602
def TB_FLAGS_SERVO_LATE : Fld := ⟨.TB_FLAGS, 5, 1⟩ -- R602
def TB_FLAGS_MAP_OLD : Fld := ⟨.TB_FLAGS, 6, 1⟩ -- R602
def TB_SERVO_OFFSET : Fld := ⟨.TB_SERVO, 0, 24⟩ -- R603
def TB_SERVO_LOCK : Fld := ⟨.TB_SERVO, 24, 1⟩ -- R603
def TB_SERVO_SWITCH_DONE : Fld := ⟨.TB_SERVO, 25, 1⟩ -- R603
def TB_SNAP_NS_NS : Fld := ⟨.TB_SNAP_NS, 0, 32⟩ -- R604
def TB_SNAP_SEC_LO_SEC_LO : Fld := ⟨.TB_SNAP_SEC_LO, 0, 32⟩ -- R604
def TB_SNAP_SEC_HI_SEC_HI : Fld := ⟨.TB_SNAP_SEC_HI, 0, 16⟩ -- R604
def BF_SNAP_CMD_SNAP : Fld := ⟨.BF_SNAP_CMD, 0, 1⟩ -- R605
def BF_REF_CFG_REQUAL_T : Fld := ⟨.BF_REF_CFG, 0, 8⟩ -- R605
def BF_REF_CFG_QUAL_T : Fld := ⟨.BF_REF_CFG, 8, 4⟩ -- R605
def BF_REF_CFG_HOLD_QUAL : Fld := ⟨.BF_REF_CFG, 12, 4⟩ -- R605
def BF_REF_CFG_STEP_THR : Fld := ⟨.BF_REF_CFG, 16, 16⟩ -- R605
def BF_REF_STATE_REF_NOW : Fld := ⟨.BF_REF_STATE, 0, 2⟩ -- R606
def BF_REF_STATE_SWITCHING : Fld := ⟨.BF_REF_STATE, 2, 1⟩ -- R606
def BF_REF_STATE_SPAN_ALLOW : Fld := ⟨.BF_REF_STATE, 3, 1⟩ -- R606
def BF_REF_STATE_GOOD : Fld := ⟨.BF_REF_STATE, 4, 3⟩ -- R606
def BF_REF_FLAGS_REF_SWITCH : Fld := ⟨.BF_REF_FLAGS, 0, 1⟩ -- R606
def BF_REF_FLAGS_REF_RETURN : Fld := ⟨.BF_REF_FLAGS, 1, 1⟩ -- R606
def BF_REF_FLAGS_HOLDOVER : Fld := ⟨.BF_REF_FLAGS, 2, 1⟩ -- R606
def BF_REF_RPT_VALID : Fld := ⟨.BF_REF_RPT, 0, 1⟩ -- R607
def BF_REF_RPT_CLASS : Fld := ⟨.BF_REF_RPT, 8, 8⟩ -- R607
def BF_ASYM_IN_LAT : Fld := ⟨.BF_ASYM_IN, 0, 32⟩ -- R608
def BF_ASYM_EG_LAT : Fld := ⟨.BF_ASYM_EG, 0, 32⟩ -- R608
def BF_SPAN_PDLY_PDLY : Fld := ⟨.BF_SPAN_PDLY, 0, 32⟩ -- R609
def BF_PTP_CFG_PTP_DOMAIN : Fld := ⟨.BF_PTP_CFG, 0, 8⟩ -- R609
def BF_PTP_CFG_SERVO_ENG : Fld := ⟨.BF_PTP_CFG, 8, 7⟩ -- R609
def SSI_DEMAND_DEMAND : Fld := ⟨.SSI_DEMAND, 0, 32⟩ -- R633
def SSI_PERMIT_A_GEN : Fld := ⟨.SSI_PERMIT_A, 0, 32⟩ -- R633
def SSI_PERMIT_B_PERMIT : Fld := ⟨.SSI_PERMIT_B, 0, 32⟩ -- R633
def SSI_LATCH_LATCH : Fld := ⟨.SSI_LATCH, 0, 32⟩ -- R633
def SSI_FLAGS_DEMAND_B : Fld := ⟨.SSI_FLAGS, 0, 1⟩ -- R634
def SSI_FLAGS_CONN_FAILSAFE : Fld := ⟨.SSI_FLAGS, 1, 1⟩ -- R634
def SSI_FLAGS_FRAME_CRC : Fld := ⟨.SSI_FLAGS, 2, 1⟩ -- R634
def SSI_FLAGS_CONN_UNKNOWN : Fld := ⟨.SSI_FLAGS, 3, 1⟩ -- R634
def SSI_FLAGS_CAPACITY : Fld := ⟨.SSI_FLAGS, 4, 1⟩ -- R634
def SSI_FLAGS_MOD_SR_FAULT : Fld := ⟨.SSI_FLAGS, 5, 1⟩ -- R634
def SSI_CFG_PARAPET_PORT : Fld := ⟨.SSI_CFG, 0, 16⟩ -- R633
def SSI_CFG_CONNS : Fld := ⟨.SSI_CFG, 16, 9⟩ -- R633
def SSI_CFG_RELAY_EN : Fld := ⟨.SSI_CFG, 25, 1⟩ -- R633
def SSI_BREQ_B_REQ : Fld := ⟨.SSI_BREQ, 0, 32⟩ -- R633
def SSI_DISCARD_CRC_CNT : Fld := ⟨.SSI_DISCARD, 0, 16⟩ -- R633
def SSI_DISCARD_UNKNOWN_CNT : Fld := ⟨.SSI_DISCARD, 16, 16⟩ -- R633
def SSI_PROOF_CFG_PROOF_T : Fld := ⟨.SSI_PROOF_CFG, 0, 9⟩ -- R633
def SSI_PROOF_DUE_DUE : Fld := ⟨.SSI_PROOF_DUE, 0, 32⟩ -- R633
def SSI_LAST_CONN : Fld := ⟨.SSI_LAST, 0, 8⟩ -- R635
def SSI_LAST_CAUSE : Fld := ⟨.SSI_LAST, 8, 4⟩ -- R635
def SSI_LAST_MASK : Fld := ⟨.SSI_LAST, 0, 32⟩ -- R635
def SSI_LAST_SEC_LO : Fld := ⟨.SSI_LAST, 0, 32⟩ -- R635
def SSI_LAST_NS : Fld := ⟨.SSI_LAST, 0, 32⟩ -- R635
def PAR_ID_CONN_ID : Fld := ⟨.PAR_ID, 0, 32⟩ -- R636
def PAR_CHMASK_CH_MASK : Fld := ⟨.PAR_CHMASK, 0, 32⟩ -- R636
def PAR_CFG_T_EXP_MAX : Fld := ⟨.PAR_CFG, 0, 24⟩ -- R636
def PAR_CFG_TRANSPORT : Fld := ⟨.PAR_CFG, 24, 2⟩ -- R636
def PAR_CFG_GW_ID : Fld := ⟨.PAR_CFG, 26, 6⟩ -- R636
def PAR_STATE_STATE : Fld := ⟨.PAR_STATE, 0, 4⟩ -- R636
def PAR_STATE_CAUSE : Fld := ⟨.PAR_STATE, 4, 4⟩ -- R636
def PAR_STATE_T_EXP_NOW : Fld := ⟨.PAR_STATE, 8, 24⟩ -- R636
def PAR_RXSEQ_RX_SEQ : Fld := ⟨.PAR_RXSEQ, 0, 32⟩ -- R636
def PAR_TXSEQ_TX_SEQ : Fld := ⟨.PAR_TXSEQ, 0, 32⟩ -- R636
def PAR_LATCH_LATCH : Fld := ⟨.PAR_LATCH, 0, 32⟩ -- R636
def PAR_CNT_FS_CNT : Fld := ⟨.PAR_CNT, 0, 16⟩ -- R636
def PAR_CNT_DUP : Fld := ⟨.PAR_CNT, 16, 16⟩ -- R636
def TG_STATE_MAKER_EN : Fld := ⟨.TG_STATE, 0, 1⟩ -- R659
def TG_STATE_MAKER_SESS : Fld := ⟨.TG_STATE, 1, 1⟩ -- R659
def TG_STATE_DEBUG_ON : Fld := ⟨.TG_STATE, 2, 1⟩ -- R659
def TG_STATE_OPERATORS : Fld := ⟨.TG_STATE, 8, 8⟩ -- R659
def TG_STATE_INSTALLERS : Fld := ⟨.TG_STATE, 16, 8⟩ -- R659
def TG_FLAGS_AUTH_FAIL : Fld := ⟨.TG_FLAGS, 0, 1⟩ -- R660
def TG_FLAGS_WRITE_REFUSED : Fld := ⟨.TG_FLAGS, 1, 1⟩ -- R660
def TG_FLAGS_MAKER_DROP : Fld := ⟨.TG_FLAGS, 2, 1⟩ -- R660
def TG_FLAGS_KEY_PROG : Fld := ⟨.TG_FLAGS, 3, 1⟩ -- R660
def TG_FLAGS_KEY_REVOKE : Fld := ⟨.TG_FLAGS, 4, 1⟩ -- R660
def TG_FLAGS_AUDIT_SUMMARY : Fld := ⟨.TG_FLAGS, 5, 1⟩ -- R660
def TG_FLAGS_IMAGE_WRITTEN : Fld := ⟨.TG_FLAGS, 6, 1⟩ -- R660
def TG_DEBUG_DEBUG_EN : Fld := ⟨.TG_DEBUG, 0, 1⟩ -- R661
def TG_KEYS_PROGRAMMED : Fld := ⟨.TG_KEYS, 0, 4⟩ -- R662
def TG_KEYS_REVOKED : Fld := ⟨.TG_KEYS, 4, 4⟩ -- R662
def TG_KEY_CMD_ACTION : Fld := ⟨.TG_KEY_CMD, 0, 2⟩ -- R662
def TG_KEY_CMD_SLOT : Fld := ⟨.TG_KEY_CMD, 2, 2⟩ -- R662
def TG_KEY_CMD_KEY : Fld := ⟨.TG_KEY_CMD, 16, 16⟩ -- R662
def LDG_STATE_FLASH_OK : Fld := ⟨.LDG_STATE, 0, 2⟩ -- R663
def LDG_STATE_SEAL_OK : Fld := ⟨.LDG_STATE, 2, 1⟩ -- R663
def LDG_STATE_FILL : Fld := ⟨.LDG_STATE, 8, 8⟩ -- R663
def LDG_STATE_LIVE : Fld := ⟨.LDG_STATE, 16, 16⟩ -- R663
def LDG_FLAGS_TORN : Fld := ⟨.LDG_FLAGS, 0, 1⟩ -- R664
def LDG_FLAGS_TRIM : Fld := ⟨.LDG_FLAGS, 1, 1⟩ -- R664
def LDG_FLAGS_SEG_RETIRED : Fld := ⟨.LDG_FLAGS, 2, 1⟩ -- R664
def LDG_FLAGS_FLASH_FAIL : Fld := ⟨.LDG_FLAGS, 3, 1⟩ -- R664
def LDG_FLAGS_WEAR_HIGH : Fld := ⟨.LDG_FLAGS, 4, 1⟩ -- R664
def LDG_FLAGS_CHAIN_BREAK : Fld := ⟨.LDG_FLAGS, 5, 1⟩ -- R664
def LDG_SEQ_NEXT_SEQ : Fld := ⟨.LDG_SEQ, 0, 32⟩ -- R665
def LDG_WEAR_ERASE_MAX : Fld := ⟨.LDG_WEAR, 0, 16⟩ -- R666
def LDG_WEAR_GOOD : Fld := ⟨.LDG_WEAR, 16, 16⟩ -- R666
def LDG_CFG_ENDURANCE : Fld := ⟨.LDG_CFG, 0, 8⟩ -- R667
def LDG_CFG_EVENT_KEEP : Fld := ⟨.LDG_CFG, 8, 12⟩ -- R667
def LDG_CFG_LIVE_MAX : Fld := ⟨.LDG_CFG, 20, 7⟩ -- R667
def ALM_STATE_LEVEL : Fld := ⟨.ALM_STATE, 0, 3⟩ -- R683
def ALM_STATE_FROZEN : Fld := ⟨.ALM_STATE, 3, 1⟩ -- R683
def ALM_STATE_BULK_SHED_ON : Fld := ⟨.ALM_STATE, 4, 1⟩ -- R683
def ALM_STATE_S : Fld := ⟨.ALM_STATE, 8, 5⟩ -- R683
def ALM_STATE_HOLD_QUAL_EFF : Fld := ⟨.ALM_STATE, 16, 4⟩ -- R683
def ALM_STATE_OVR : Fld := ⟨.ALM_STATE, 24, 5⟩ -- R683
def ALM_FLAGS_REPLAN : Fld := ⟨.ALM_FLAGS, 0, 1⟩ -- R684
def ALM_FLAGS_SHED : Fld := ⟨.ALM_FLAGS, 1, 1⟩ -- R684
def ALM_FLAGS_RESTORE : Fld := ⟨.ALM_FLAGS, 2, 1⟩ -- R684
def ALM_FLAGS_ALMANAC_FROZEN : Fld := ⟨.ALM_FLAGS, 3, 1⟩ -- R684
def ALM_FLAGS_AGE_LIMIT : Fld := ⟨.ALM_FLAGS, 4, 1⟩ -- R684
def ALM_FLAGS_GATE_SLOW : Fld := ⟨.ALM_FLAGS, 5, 1⟩ -- R684
def ALM_FLAGS_TRIM_DRIFT : Fld := ⟨.ALM_FLAGS, 6, 1⟩ -- R684
def ALM_FLAGS_FLASH_STRETCH : Fld := ⟨.ALM_FLAGS, 7, 1⟩ -- R684
def ALM_FLAGS_FLASH_LIFE : Fld := ⟨.ALM_FLAGS, 8, 1⟩ -- R684
def ALM_FLAGS_OSC_RANGE : Fld := ⟨.ALM_FLAGS, 9, 1⟩ -- R684
def ALM_FLAGS_OVERRIDE : Fld := ⟨.ALM_FLAGS, 10, 1⟩ -- R684
def ALM_FLAGS_OVR_EXPIRED : Fld := ⟨.ALM_FLAGS, 11, 1⟩ -- R684
def ALM_CFG_LOAD_HI : Fld := ⟨.ALM_CFG, 0, 8⟩ -- R685
def ALM_CFG_LOAD_LO : Fld := ⟨.ALM_CFG, 8, 8⟩ -- R685
def ALM_CFG_KZ : Fld := ⟨.ALM_CFG, 16, 8⟩ -- R685
def ALM_CFG_LIFE_Y : Fld := ⟨.ALM_CFG, 24, 8⟩ -- R685
def ALM_CFG2_RON_TC : Fld := ⟨.ALM_CFG2, 0, 8⟩ -- R685
def ALM_CFG2_BULK_SHED : Fld := ⟨.ALM_CFG2, 8, 8⟩ -- R685
def ALM_OSC_OFFSET : Fld := ⟨.ALM_OSC, 0, 16⟩ -- R686
def ALM_OSC_WANDER : Fld := ⟨.ALM_OSC, 16, 16⟩ -- R686
def ALM_OVR_ITEM : Fld := ⟨.ALM_OVR, 0, 8⟩ -- R687
def ALM_OVR_UNIT : Fld := ⟨.ALM_OVR, 8, 5⟩ -- R687
def ALM_OVR_KEY : Fld := ⟨.ALM_OVR, 16, 16⟩ -- R687
def ALM_OVR_VAL_VALUE : Fld := ⟨.ALM_OVR_VAL, 0, 16⟩ -- R687
def ALM_OVR_VAL_HOURS : Fld := ⟨.ALM_OVR_VAL, 16, 10⟩ -- R687
def ALM_CMD_REPLAN : Fld := ⟨.ALM_CMD, 0, 1⟩ -- R687
def ALM_CH_RON_RON25 : Fld := ⟨.ALM_CH_RON, 0, 16⟩ -- R688
def ALM_CH_RON_RATIO : Fld := ⟨.ALM_CH_RON, 16, 16⟩ -- R688
def ALM_CH_GATE_DVTH : Fld := ⟨.ALM_CH_GATE, 0, 16⟩ -- R688
def ALM_CH_GATE_SLOW : Fld := ⟨.ALM_CH_GATE, 16, 16⟩ -- R688
def ALM_CH_PLAN_F_AGE : Fld := ⟨.ALM_CH_PLAN, 0, 10⟩ -- R688
def ALM_CH_PLAN_R_TH : Fld := ⟨.ALM_CH_PLAN, 16, 9⟩ -- R688
def ALM_CH_PLAN_TJ_DROP : Fld := ⟨.ALM_CH_PLAN, 25, 7⟩ -- R688
def ALM_CH_SOA_PGRP : Fld := ⟨.ALM_CH_SOA, 0, 16⟩ -- R688
def ALM_CH_SOA_SHARE_K : Fld := ⟨.ALM_CH_SOA, 16, 9⟩ -- R688
def ALM_CH_SHUNT_DRIFT : Fld := ⟨.ALM_CH_SHUNT, 0, 16⟩ -- R688
def ALM_CH_SHUNT_BASE_DAYS : Fld := ⟨.ALM_CH_SHUNT, 16, 3⟩ -- R688
def ALM_CH_SHUNT_BASED : Fld := ⟨.ALM_CH_SHUNT, 19, 1⟩ -- R688

end F

/-- The writable fields of every register that has any, with the ranges of the register tables. -/
def writeFields : RegName → List WField
  | .KEY_PACE_CFG => [⟨0, 16, .rw, false, 641, 1024⟩]
  | .KEY_ESC_CFG => [⟨0, 8, .rw, false, 1, 255⟩, ⟨8, 8, .rw, false, 1, 255⟩, ⟨16, 4, .rw, false, 1, 15⟩, ⟨20, 4, .rw, false, 0, 4⟩, ⟨24, 4, .rw, false, 0, 8⟩]
  | .KEY_RECOVER => [⟨0, 16, .wo, false, 0, 65535⟩]
  | .SUP_FEED_CFG => [⟨0, 8, .rw, false, 140, 220⟩, ⟨8, 8, .rw, false, 160, 240⟩, ⟨16, 12, .rw, false, 200, 2000⟩, ⟨28, 4, .rw, false, 1, 15⟩]
  | .SUP_RESET_CMD => [⟨0, 16, .wo, false, 0, 65535⟩]
  | .PLK_CFG => [⟨0, 1, .rw, false, 0, 1⟩, ⟨8, 6, .rw, false, 4, 40⟩, ⟨16, 2, .rw, false, 0, 3⟩]
  | .PLK_PARAM => [⟨0, 16, .rw, false, 200, 1950⟩, ⟨16, 16, .rw, false, 100, 1850⟩]
  | .PLK_PARAM2 => [⟨0, 10, .rw, false, 10, 1000⟩, ⟨16, 10, .rw, false, 1, 1000⟩]
  | .INS_CMD => [⟨0, 4, .wo, false, 0, 15⟩, ⟨4, 1, .wo, false, 0, 1⟩, ⟨5, 1, .wo, false, 0, 1⟩, ⟨16, 16, .wo, false, 0, 65535⟩]
  | .INS_CFG => [⟨0, 8, .rw, false, 10, 200⟩, ⟨8, 1, .rw, false, 0, 1⟩, ⟨9, 1, .rw, false, 0, 1⟩, ⟨16, 8, .rw, false, 1, 200⟩, ⟨24, 8, .rw, false, 1, 100⟩]
  | .INS_LIMIT => [⟨0, 16, .rw, false, 100, 20000⟩, ⟨16, 16, .rw, false, 100, 20000⟩]
  | .INS_TIMING => [⟨0, 9, .rw, false, 5, 300⟩, ⟨16, 6, .rw, false, 5, 50⟩]
  | .INS_ROT => [⟨0, 5, .rw, false, 1, 16⟩, ⟨16, 9, .rw, false, 100, 300⟩]
  | .INS_THERM => [⟨0, 8, .rw, false, 100, 175⟩, ⟨8, 8, .rw, false, 60, 170⟩, ⟨16, 8, .rw, false, 40, 170⟩, ⟨24, 8, .rw, false, 25, 170⟩]
  | .INS_PGRP => [⟨0, 16, .rw, false, 50, 5000⟩]
  | .INS_ZTH => [⟨0, 16, .rw, false, 1, 65535⟩, ⟨16, 16, .rw, false, 1, 65535⟩]
  | .INS_GRAMP => [⟨0, 12, .rw, false, 500, 2000⟩, ⟨16, 12, .rw, false, 700, 2500⟩]
  | .INS_CLOSE => [⟨0, 16, .rw, false, 5, 500⟩, ⟨16, 16, .rw, false, 100, 20000⟩]
  | .INS_TRIM => [⟨0, 10, .rw, false, 1, 1000⟩, ⟨16, 8, .rw, false, 2, 50⟩]
  | .INS_BUS => [⟨0, 1, .rw, false, 0, 1⟩]
  | .INS_QCFG => [⟨0, 16, .rw, false, 1, 3000⟩]
  | .PROT_CFG => [⟨0, 1, .rw, false, 0, 1⟩, ⟨1, 1, .rw, false, 0, 1⟩, ⟨2, 1, .rw, false, 0, 1⟩, ⟨8, 5, .rw, false, 1, 16⟩]
  | .PROT_ILIM => [⟨0, 16, .rw, false, 100, 20000⟩, ⟨16, 16, .rw, false, 200, 22000⟩]
  | .PROT_TFLT => [⟨0, 17, .rw, false, 1, 100000⟩]
  | .PROT_SLOW => [⟨0, 16, .rw, false, 50, 19900⟩, ⟨16, 16, .rw, false, 1, 65535⟩]
  | .PROT_REV => [⟨0, 10, .rw, false, 5, 1000⟩, ⟨16, 8, .rw, false, 5, 200⟩]
  | .PROT_RETRY => [⟨0, 4, .rw, false, 0, 15⟩, ⟨4, 12, .rw, false, 1, 3600⟩, ⟨16, 11, .rw, false, 1, 1440⟩]
  | .PROT_MOD => [⟨0, 8, .rw, false, 5, 30⟩, ⟨8, 12, .rw, false, 1500, 2500⟩, ⟨20, 7, .rw, false, 5, 80⟩]
  | .PROT_DIDT => [⟨0, 16, .rw, false, 50, 20000⟩]
  | .PROT_CLEAR => [⟨0, 4, .wo, false, 0, 15⟩, ⟨4, 12, .wo, false, 0, 4095⟩, ⟨16, 16, .wo, false, 0, 65535⟩]
  | .PROT_BUS_CFG => [⟨0, 11, .rw, false, 200, 1600⟩, ⟨11, 11, .rw, false, 300, 1700⟩, ⟨22, 8, .rw, false, 1, 100⟩, ⟨30, 1, .rw, false, 0, 1⟩]
  | .TRM_CFG => [⟨0, 1, .rw, false, 0, 1⟩, ⟨8, 10, .rw, false, 1, 1000⟩, ⟨20, 9, .rw, false, 10, 500⟩]
  | .TRM_LIMIT => [⟨0, 10, .rw, false, 10, 800⟩, ⟨16, 16, .rw, false, 10, 10000⟩]
  | .TRM_GAIN => [⟨0, 16, .rw, false, 0, 10000⟩, ⟨16, 16, .rw, false, 1, 10000⟩]
  | .TRM_VSET => [⟨0, 16, .rw, true, -16000, 16000⟩]
  | .SHR_CFG => [⟨0, 8, .rw, false, 1, 100⟩, ⟨8, 1, .rw, false, 0, 1⟩, ⟨16, 16, .rw, false, 1, 10000⟩]
  | .SHR_CFG2 => [⟨0, 16, .rw, false, 0, 2000⟩, ⟨16, 16, .rw, false, 0, 1000⟩]
  | .SHR_W => [⟨0, 16, .rw, false, 0, 1000⟩]
  | .MEAS_WIN_CFG => [⟨0, 7, .rw, false, 1, 64⟩, ⟨8, 1, .rw, false, 0, 1⟩, ⟨16, 8, .rw, false, 1, 255⟩]
  | .MEAS_SHUNT => [⟨0, 16, .rw, true, -500, 500⟩, ⟨16, 16, .rw, true, -400, 1250⟩]
  | .MEAS_ZERO_CFG => [⟨0, 16, .rw, false, 1, 200⟩, ⟨16, 1, .rw, false, 0, 1⟩]
  | .MEAS_ADC_CFG => [⟨0, 3, .rw, false, 0, 7⟩, ⟨8, 1, .rw, false, 0, 1⟩]
  | .MEAS_IN_CFG => [⟨0, 2, .rw, false, 0, 3⟩, ⟨4, 1, .rw, false, 0, 1⟩]
  | .MEAS_REF_CFG => [⟨0, 1, .rw, false, 0, 1⟩, ⟨8, 6, .rw, false, 1, 50⟩, ⟨16, 8, .rw, false, 5, 200⟩, ⟨24, 8, .rw, false, 0, 50⟩]
  | .MEAS_REF_EXTV => [⟨0, 18, .rw, false, 240000, 260000⟩]
  | .MEAS_CAL_CMD => [⟨0, 12, .w1s, false, 0, 4095⟩]
  | .MEAS_SWTRIG => [⟨0, 6, .wo, false, 0, 63⟩, ⟨6, 1, .wo, false, 0, 1⟩, ⟨7, 1, .wo, false, 0, 1⟩]
  | .MEAS_CONV_REF => [⟨0, 2, .rw, false, 0, 3⟩, ⟨2, 1, .rw, false, 0, 1⟩]
  | .MEAS_SEQ_CFG => [⟨0, 2, .rw, false, 0, 3⟩, ⟨2, 3, .rw, false, 0, 7⟩, ⟨8, 16, .rw, false, 0, 65535⟩, ⟨24, 4, .rw, false, 0, 15⟩]
  | .MEAS_RTRIG => [⟨0, 8, .rw, false, 0, 255⟩, ⟨8, 16, .rw, false, 0, 65535⟩]
  | .MEAS_ITRIG => [⟨0, 8, .rw, false, 0, 255⟩, ⟨8, 16, .rw, false, 0, 65535⟩]
  | .MEAS_INJ_CFG => [⟨0, 1, .rw, false, 0, 1⟩, ⟨1, 2, .rw, false, 0, 3⟩, ⟨4, 3, .rw, false, 0, 7⟩, ⟨8, 8, .rw, false, 0, 255⟩]
  | .MEAS_GRP => [⟨0, 8, .rw, false, 0, 255⟩, ⟨8, 16, .rw, false, 0, 65535⟩, ⟨24, 1, .rw, false, 0, 1⟩]
  | .MEAS_OW_CFG => [⟨0, 4, .rw, false, 0, 15⟩, ⟨4, 2, .rw, false, 0, 3⟩, ⟨6, 1, .rw, false, 0, 1⟩, ⟨8, 8, .rw, false, 1, 250⟩, ⟨16, 12, .rw, false, 1, 1000⟩, ⟨28, 4, .rw, false, 0, 15⟩]
  | .MEAS_TCAR => [⟨0, 3, .rw, false, 0, 6⟩, ⟨4, 6, .rw, false, 0, 63⟩, ⟨15, 1, .rw, false, 0, 1⟩]
  | .TAL_CFG => [⟨0, 1, .rw, false, 0, 1⟩, ⟨1, 1, .rw, false, 0, 1⟩, ⟨2, 2, .rw, false, 0, 3⟩, ⟨4, 3, .rw, false, 0, 7⟩, ⟨16, 16, .rw, false, 0, 65535⟩]
  | .TAL_RELOAD => [⟨0, 32, .rw, false, 2, 4294967295⟩]
  | .TAL_CMP => [⟨0, 32, .rw, false, 0, 4294967295⟩]
  | .TAL_ACT => [⟨0, 8, .rw, false, 0, 255⟩, ⟨8, 2, .rw, false, 0, 3⟩, ⟨10, 8, .rw, false, 0, 255⟩, ⟨18, 3, .rw, false, 0, 7⟩, ⟨21, 1, .rw, false, 0, 1⟩]
  | .TAL_SYNC => [⟨0, 8, .rw, false, 0, 255⟩, ⟨8, 1, .rw, false, 0, 1⟩]
  | .TAL_PIN_CFG => [⟨0, 6, .rw, false, 0, 63⟩, ⟨6, 1, .rw, false, 0, 1⟩, ⟨7, 1, .rw, false, 0, 1⟩]
  | .HR_CFG => [⟨0, 3, .rw, false, 0, 7⟩, ⟨8, 8, .rw, false, 2, 16⟩]
  | .HR_CHAIN_CFG => [⟨0, 1, .rw, false, 0, 1⟩, ⟨8, 5, .rw, false, 0, 16⟩, ⟨16, 8, .rw, false, 1, 100⟩]
  | .EST_CFG => [⟨0, 1, .rw, false, 0, 1⟩, ⟨4, 2, .rw, false, 0, 3⟩, ⟨8, 8, .rw, false, 5, 40⟩, ⟨16, 16, .rw, false, 1, 1000⟩]
  | .EST_CFG2 => [⟨0, 8, .rw, false, 10, 255⟩, ⟨8, 4, .rw, false, 2, 8⟩, ⟨12, 4, .rw, false, 2, 15⟩, ⟨16, 16, .rw, false, 10, 3600⟩]
  | .EST_SOCLIM => [⟨0, 10, .rw, false, 0, 500⟩, ⟨16, 10, .rw, false, 500, 1000⟩]
  | .EST_VLIM => [⟨0, 16, .rw, false, 1000, 4500⟩, ⟨16, 16, .rw, false, 2000, 5000⟩]
  | .EST_REST => [⟨0, 16, .rw, false, 1, 500⟩, ⟨16, 8, .rw, false, 1, 255⟩, ⟨24, 8, .rw, false, 1, 255⟩]
  | .EST_PERSIST => [⟨0, 16, .rw, false, 6, 8640⟩, ⟨16, 16, .rw, false, 100, 10000⟩]
  | .EST_SWAP_CMD => [⟨0, 5, .wo, false, 0, 31⟩, ⟨8, 4, .wo, false, 0, 15⟩, ⟨12, 2, .wo, false, 0, 3⟩, ⟨16, 16, .wo, false, 0, 65535⟩]
  | .LRN_CFG => [⟨0, 8, .rw, false, 5, 240⟩, ⟨8, 8, .rw, false, 10, 90⟩, ⟨16, 8, .rw, false, 0, 100⟩, ⟨24, 8, .rw, false, 2, 50⟩]
  | .LRN_CFG2 => [⟨0, 9, .rw, false, 7, 365⟩, ⟨16, 2, .rw, false, 0, 3⟩, ⟨24, 8, .rw, false, 1, 168⟩]
  | .LRN_ID => [⟨0, 8, .rw, false, 5, 200⟩, ⟨8, 8, .rw, false, 1, 100⟩, ⟨16, 4, .rw, false, 1, 10⟩, ⟨20, 4, .rw, false, 2, 15⟩, ⟨24, 8, .rw, false, 30, 255⟩]
  | .LRN_ID2 => [⟨0, 8, .rw, false, 5, 100⟩, ⟨8, 1, .rw, false, 0, 1⟩, ⟨9, 1, .rw, false, 0, 1⟩]
  | .LRN_BANDCFG => [⟨0, 8, .rw, false, 0, 50⟩, ⟨8, 8, .rw, false, 0, 50⟩, ⟨16, 8, .rw, false, 1, 20⟩]
  | .LRN_PERSIST => [⟨0, 10, .rw, false, 10, 600⟩, ⟨16, 8, .rw, false, 1, 60⟩, ⟨24, 8, .rw, false, 1, 30⟩]
  | .DSP_REQ => [⟨0, 24, .rw, true, -8388608, 8388607⟩, ⟨24, 2, .rw, false, 0, 3⟩]
  | .DSP_CFG => [⟨0, 1, .rw, false, 0, 1⟩, ⟨2, 2, .rw, false, 0, 3⟩, ⟨8, 8, .rw, false, 0, 200⟩, ⟨16, 8, .rw, false, 1, 255⟩]
  | .DSP_ACK => [⟨0, 13, .wo, false, 0, 8191⟩]
  | .DSP_BAL_CFG => [⟨0, 2, .rw, false, 0, 3⟩, ⟨8, 8, .rw, false, 2, 100⟩, ⟨16, 6, .rw, false, 1, 32⟩, ⟨24, 8, .rw, false, 20, 255⟩]
  | .DSP_BAL_CFG2 => [⟨0, 8, .rw, false, 20, 60⟩, ⟨8, 8, .rw, false, 1, 50⟩, ⟨16, 8, .rw, false, 5, 120⟩]
  | .DSP_HVAC_CFG => [⟨0, 8, .rw, true, 15, 35⟩, ⟨8, 8, .rw, true, 20, 50⟩, ⟨16, 8, .rw, true, -20, 20⟩, ⟨24, 4, .rw, false, 1, 10⟩]
  | .DSP_HVAC_CFG2 => [⟨0, 8, .rw, true, 5, 30⟩, ⟨8, 8, .rw, true, 15, 40⟩, ⟨16, 8, .rw, true, 5, 30⟩, ⟨24, 7, .rw, false, 10, 100⟩]
  | .DSP_REC_CFG => [⟨0, 8, .rw, false, 0, 255⟩, ⟨8, 4, .rw, false, 0, 15⟩]
  | .DSP_REC_CMD => [⟨0, 1, .w1s, false, 0, 1⟩, ⟨1, 1, .w1s, false, 0, 1⟩, ⟨2, 1, .w1s, false, 0, 1⟩]
  | .COM_SESS_CFG => [⟨0, 16, .rw, false, 10, 3600⟩, ⟨16, 8, .rw, false, 1, 64⟩]
  | .COM_PORT_CFG => [⟨0, 6, .rw, false, 5, 30⟩, ⟨8, 1, .rw, false, 0, 1⟩, ⟨16, 8, .rw, false, 4, 16⟩]
  | .ETH_CFG => [⟨0, 1, .rw, false, 0, 1⟩, ⟨1, 1, .rw, false, 0, 1⟩, ⟨16, 12, .rw, false, 0, 4094⟩]
  | .SPAN_CFG => [⟨0, 1, .rw, false, 0, 1⟩, ⟨1, 2, .rw, false, 0, 3⟩]
  | .INJ_CFG => [⟨0, 2, .rw, false, 0, 3⟩, ⟨2, 5, .rw, false, 0, 31⟩, ⟨7, 1, .rw, false, 0, 1⟩, ⟨8, 2, .rw, false, 0, 3⟩, ⟨10, 6, .rw, false, 0, 63⟩, ⟨16, 16, .rw, false, 1, 65535⟩]
  | .INJ_CFG2 => [⟨0, 12, .rw, false, 0, 4095⟩, ⟨16, 10, .rw, false, 1, 600⟩]
  | .INJ_CMD => [⟨0, 2, .wo, false, 0, 3⟩, ⟨16, 16, .wo, false, 0, 65535⟩]
  | .TB_INC_FRAC => [⟨0, 32, .rw, false, 0, 4294967295⟩]
  | .TB_INC_NS => [⟨0, 9, .rw, false, 0, 511⟩]
  | .TB_ADJ => [⟨0, 32, .rw, true, -2147483648, 2147483647⟩]
  | .TB_CFG => [⟨0, 10, .rw, false, 1, 1000⟩, ⟨12, 20, .rw, false, 1, 1048575⟩]
  | .TB_SET_NS => [⟨0, 32, .rw, false, 0, 4294967295⟩]
  | .TB_SET_SEC_LO => [⟨0, 32, .rw, false, 0, 4294967295⟩]
  | .TB_SET_SEC_HI => [⟨0, 16, .rw, false, 0, 65535⟩]
  | .TB_SET_FRAC => [⟨0, 32, .rw, false, 0, 4294967295⟩]
  | .TB_CMD => [⟨0, 2, .wo, false, 0, 3⟩]
  | .TB_SERVO => [⟨0, 24, .rw, true, -8388608, 8388607⟩, ⟨24, 1, .rw, false, 0, 1⟩, ⟨25, 1, .rw, false, 0, 1⟩]
  | .BF_SNAP_CMD => [⟨0, 1, .w1s, false, 0, 1⟩]
  | .BF_REF_CFG => [⟨0, 8, .rw, false, 1, 255⟩, ⟨8, 4, .rw, false, 1, 15⟩, ⟨12, 4, .rw, false, 0, 15⟩, ⟨16, 16, .rw, false, 1, 65535⟩]
  | .BF_REF_RPT => [⟨0, 1, .rw, false, 0, 1⟩, ⟨8, 8, .rw, false, 0, 255⟩]
  | .BF_ASYM_IN => [⟨0, 32, .rw, true, -2147483648, 2147483647⟩]
  | .BF_ASYM_EG => [⟨0, 32, .rw, true, -2147483648, 2147483647⟩]
  | .BF_PTP_CFG => [⟨0, 8, .rw, false, 0, 127⟩, ⟨8, 7, .rw, false, 0, 127⟩]
  | .TG_DEBUG => [⟨0, 1, .rw, false, 0, 1⟩]
  | .TG_KEY_CMD => [⟨0, 2, .wo, false, 0, 3⟩, ⟨2, 2, .wo, false, 0, 3⟩, ⟨16, 16, .wo, false, 0, 65535⟩]
  | .LDG_CFG => [⟨0, 8, .rw, false, 10, 255⟩, ⟨8, 12, .rw, false, 30, 3650⟩, ⟨20, 7, .rw, false, 50, 90⟩]
  | .ALM_CFG => [⟨0, 8, .rw, false, 50, 95⟩, ⟨8, 8, .rw, false, 20, 80⟩, ⟨16, 8, .rw, false, 0, 100⟩, ⟨24, 8, .rw, false, 5, 40⟩]
  | .ALM_CFG2 => [⟨0, 8, .rw, false, 0, 100⟩, ⟨8, 8, .rw, false, 5, 30⟩]
  | .ALM_OVR => [⟨0, 8, .wo, false, 0, 255⟩, ⟨8, 5, .wo, false, 0, 31⟩, ⟨16, 16, .wo, false, 0, 65535⟩]
  | .ALM_OVR_VAL => [⟨0, 16, .wo, false, 0, 65535⟩, ⟨16, 10, .wo, false, 0, 1023⟩]
  | .ALM_CMD => [⟨0, 1, .w1s, false, 0, 1⟩]
  | _ => []

/-- The W1C bits of every register that has any (R36 to R38). -/
def w1cBits : RegName → Nat
  | .KEY_PACE_FLAGS => 0xFFFF
  | .KEY_ERR_FLAGS => 0x3F
  | .SUP_FLAGS => 0x33F3F
  | .KEY_START_FLAGS => 0xF
  | .PLK_FLAGS => 0xFFF
  | .INS_FLAGS => 0x3FFF
  | .PROT_FLAGS => 0x1FFFFF
  | .PROT_BUS_FLAGS => 0xF
  | .TRM_FLAGS => 0xFF
  | .MEAS_GFLAGS => 0x7
  | .MEAS_FLAGS => 0xFF
  | .MEAS_CLIP => 0xFFFFFFFF
  | .MEAS_SRC_FLAGS => 0x1FFF
  | .MEAS_OW_FLAGS => 0xFFFFFFFF
  | .TAL_LATE => 0xFFFFFFFF
  | .TAL_SLIP => 0xFFFFFFFF
  | .HR_GFLAGS => 0x3
  | .HR_FLAGS => 0x3FFF
  | .EST_GFLAGS => 0x7
  | .EST_FLAGS => 0x1FFF
  | .LRN_GFLAGS => 0x7
  | .LRN_FLAGS => 0x3FF
  | .DSP_FLAGS => 0x3FF
  | .COM_FLAGS => 0x3F
  | .SPAN_FLAGS => 0xFF
  | .TB_FLAGS => 0x7F
  | .BF_REF_FLAGS => 0x7
  | .SSI_FLAGS => 0x3F
  | .TG_FLAGS => 0x7F
  | .LDG_FLAGS => 0x3F
  | .ALM_FLAGS => 0xFFF
  | _ => 0

end Sys2Proof.Machine
end

