-- ==== Sys2Proof/Machine/State.lean ====
section
/-! DEFINITION. The state of the block: every register, counter, buffer, queue and hidden
quantity the spec gives it, as plain data, and its value right after a power-on reset. -/

namespace Sys2Proof.Machine

/-- What the device last answered a session (R17, R20, R21): the model's own output field. -/
inductive Resp
  | none
  | ok (value : Nat)
  | refused
  | error
  deriving DecidableEq, Repr

/-- A record of the Ledger (R651): its kind, class bits, sequence number, stamp, key, body (the
bytes of R648 for AUDIT_WRITE, else the values its rule names, in that order) and CHAIN. -/
structure LedgerRec where
  kind : Nat
  urgent : Bool
  state : Bool
  seq : Nat
  sec : Nat
  ns : Nat
  keyv : Nat
  body : List Nat
  chain : BitVec 128
  deriving DecidableEq, Repr

/-- A session (R535, R543, R637 to R641). -/
structure Sess where
  isOpen : Bool := false
  role : Role := .operator
  certId : Nat := 0
  lastAt : Nat := 0
  dspWrites : Nat := 0
  refused : Nat := 0
  services : List Service := []
  subs : Nat := 0
  queues : Nat := 0
  deriving DecidableEq, Repr

/-- What the device holds for one tile: when its corrected errors came since its last escalation (R42), and the
summary of R49. -/
structure TileRec where
  errs : List Nat := []
  sumCount : Nat := 0
  sumCause : Nat := 0
  sumSec : Nat := 0
  sumNs : Nat := 0
  deriving DecidableEq, Repr

/-- What the device holds for one containment unit (R43 to R45, R48). -/
structure UnitRec where
  restarting : Bool := false
  startedAt : Nat := 0
  attempts : Nat := 0
  windowAt : Option Nat := none
  retired : Bool := false
  deriving DecidableEq, Repr

/-- The excursion of a region below PACE_FLOOR, and the islands lowest in its last report (R32). -/
structure LowPace where
  islands : List Nat := []
  since : Option Nat := none
  floorSet : Bool := false
  warned : Bool := false
  deriving DecidableEq, Repr

/-- How far a power-down has come (R83): none, P1 done (lead running), P2 done, P4 done, P5 done. -/
inductive PdStep
  | none | warned | opened | recorded | released
  deriving DecidableEq, Repr

/-- Why enables are being released, and so what follows the last release. -/
inductive RelCause
  | none | seqTimeout | seqAbort | rail | thermal | supplyLoss | powerDown
  deriving DecidableEq, Repr

/-- The Supply region's own state (R61 to R71, R83 to R86), cleared only by a power-on reset. -/
structure Supply where
  /-- Enables asserted: bit i for rail i of R65. -/
  enables : Nat := 0
  vctlMv : Nat := 0
  /-- When VCTL last rose to FEED_GOOD, while it stays there. -/
  vctlGoodAt : Option Nat := none
  /-- When rail i last entered its window, for i = 0 to 5. -/
  railInAt : Vector (Option Nat) 6 := Vector.replicate 6 none
  enabledAt : Nat := 0
  /-- Supplies good reached since the last reset (R722). -/
  good : Bool := false
  attempts : Nat := 0
  retryAt : Nat := 0
  releasing : RelCause := .none
  releasedAt : Nat := 0
  restartAt : Nat := 0
  pd : PdStep := .none
  pdAt : Nat := 0
  pdMark : Nat := 0
  /-- P2 to P4 run for a SUP_RESET_CMD (R86). -/
  softCmd : Bool := false
  recordMade : Bool := false
  /-- FAILWARN_N held under R85. -/
  warnHeld : Bool := false
  thermalSeen : Bool := false
  /-- FAILWARN_N asserted by P1 (R83). -/
  warned : Bool := false
  /-- Rails in window since their enable (R93); rails out of window since P2 (R85). -/
  railSeen : Nat := 0
  railLost : Nat := 0
  resetNLow : Bool := false
  /-- The regions other than Supply are held in reset. -/
  inReset : Bool := true
  started : Bool := false
  /-- The PLL has locked on REFCLK_IN; REFCLK_IN is lost (R700, R701). -/
  pllLocked : Bool := false
  refLost : Bool := false
  deriving DecidableEq, Repr


/-- One flash on the xSPI bus (R74): the part fitted reports 8D-8D-8D support in its JESD216 table, a property of the
flash and not of the device; the loader reads it in 8D-8D-8D, else in 1S-1S-1S. -/
structure Xspi where
  can8d : Bool := true
  mode8d : Bool := false
  deriving DecidableEq, Repr

/-- What the loader sends a flash before it reads (R74). -/
inductive FlashOp
  | softwareReset | readParameters | enter8d
  deriving DecidableEq, Repr

/-- The loader's progress (R77). -/
inductive LoadStep
  | idle | bodyA (second : Bool) | bodyB (second : Bool) | loaded | failed
  deriving DecidableEq, Repr

/-- A downlink frame as sent (R104, R105): per group (ACTION, RAMP, VGS_TGT). -/
structure DownFrame where
  seq : Nat
  tickOfs : Nat
  ack : Nat
  gated : Bool
  rangePol : Nat
  trimEn : Bool
  clrTrip : Bool
  chan : Nat
  gates : List (Nat × Nat × Nat)
  vtgt : Int
  slew : Nat
  mbx : List Nat
  deriving DecidableEq, Repr

/-- The device's end of one pier link (R101 to R127). -/
structure Link where
  blockLock : Bool := false
  /-- TICK_OFS of the last frame sent, while the transmitter runs (R102, R103). -/
  tickOfs : Option Nat := none
  seqDown : Nat := 255
  /-- FRAME_SEQ of the last good uplink frame. -/
  ackUp : Nat := 0
  prevGood : Bool := false
  badRun : Nat := 0
  goodRun : Nat := 0
  ackSeen : Nat := 0
  ackSame : Nat := 0
  /-- The CUR half of each stream word in the last good frame. -/
  curWords : Vector Nat 6 := Vector.replicate 6 0
  dnBad : Option Nat := none
  stateAt : Nat := 0
  /-- The outstanding mailbox request: OP (0 none, 1 read, 2 write), object, tag, repeats left. -/
  mbxOp : Nat := 0
  mbxObj : Nat := 0
  mbxTag : Nat := 0
  mbxTries : Nat := 0
  mbxAt : Nat := 0
  mbxFrag : Nat := 0
  rx : List Nat := []
  rxFrags : Nat := 0
  rxDone : Bool := false
  rxOp : Nat := 0
  rxObj : Nat := 0
  /-- IDENT and CAL as read in this admission (bytes; weights). -/
  ident : List Nat := []
  cal : List Nat := []
  paramGen : Nat := 0
  paramSent : List Nat := []
  /-- PARAM as last read back equal: the values the device itself uses (R118). -/
  paramOn : List Nat := []
  serial : List Nat := []
  trimSerial : List Nat := []
  admittedOnce : Bool := false
  /-- CLR_TRIP goes in the next frame. -/
  clrTrip : Bool := false
  delay : Rat := 0
  /-- CHAN echo of the last good frame; a re-configuration under R118 is running; CLR_TRIP is sent
  until the module reports ARMED. -/
  chanEcho : Nat := 0
  reconf : Bool := false
  armPending : Bool := false
  /-- SAFE_RUN[n] stopped by R216 before SR_HELD. -/
  srStop : Bool := false
  /-- When SSI withheld SAFE_RUN[n], while it stays withheld (R627). -/
  ssiOffAt : Option Nat := none
  deriving DecidableEq, Repr

/-- The control tile's insertion state of one channel (R139 to R173). -/
structure Ins where
  reqTag : Nat := 0
  noLimit : Bool := false
  noTrim : Bool := false
  busChangedOnce : Bool := false
  waitAt : Nat := 0
  /-- WAIT was entered by an INSERT acknowledged at waitAt (R140). -/
  byCmd : Bool := false
  checkAt : Nat := 0
  stateAt : Nat := 0
  heldAtSense : Bool := false
  entryCause : Nat := 0
  /-- Gate commands: groups sent ON, groups sent LINEAR, RAMP codes for groups on and off, VGS_TGT. -/
  onMask : Nat := 0
  linMask : Nat := 0
  rampOn : Nat := 0
  rampOff : Nat := 0
  vgs : Nat := 0
  /-- A gate loop has just begun: the next frame carries its starting code (R164, R203). -/
  loopNew : Bool := false
  /-- Frames since the ramp of R153 began. -/
  rampFrames : Nat := 0
  rampDone : Bool := false
  loopReached : Bool := false
  /-- Rotation: set, outgoing groups, slot start; lead groups share linMask. -/
  rotSet : Nat := 0
  outgoing : Nat := 0
  slotAt : Nat := 0
  paused : Bool := false
  /-- Gate-rise check (R168): groups passed, groups that were LINEAR, when ON was sent. -/
  passed : Nat := 0
  wasLinear : Nat := 0
  onAt : Nat := 0
  /-- The frame that carries the ON command has gone out, at onAt. -/
  onSent : Bool := true
  confirmAt : Option Nat := none
  /-- Fast-path sums: over SENSE, over 10 µs, over 1 ms. -/
  senseV2 : Rat := 0
  senseV3 : Rat := 0
  senseN : Nat := 0
  sum10 : Rat := 0
  n10 : Nat := 0
  vsw10 : Rat := 0
  sum1ms : Rat := 0
  n1ms : Nat := 0
  vdiffSense : Rat := 0
  /-- Counts of 10 µs steps in band: alignment, LIMIT_CHARGE exit, reclose, REVERSE_DV. -/
  alignCnt : Nat := 0
  limitCnt : Nat := 0
  recloseCnt : Nat := 0
  revCnt : Nat := 0
  /-- Foster model (R162). -/
  tBase : Option Rat := none
  dt1 : Vector Rat 16 := Vector.replicate 16 0
  dt2 : Vector Rat 16 := Vector.replicate 16 0
  /-- Latest 1 µs values the model works on. -/
  vsw : Rat := 0
  istr : Rat := 0
  iprot : Rat := 0
  iset : Rat := 0
  energy : Rat := 0
  /-- SOA plan taken at the last entry to CHECK (R671): RTH factor in 0.01, P_GROUP_MAX plan,
  SHARE_K plan, TJ_DROP. -/
  planRth : Nat := 100
  planPgrp : Nat := 0xFFFF
  planShare : Nat := 0
  planDrop : Nat := 0
  /-- Start of the last GAP-free time of streams 0, 2 and 3. -/
  gapAt : Option Nat := none
  deriving DecidableEq, Repr

/-- The protection tile's state of one channel (R193 to R223). -/
structure Prot where
  /-- Active current limit: fault timer in ns, when it was last advanced, exit conditions. -/
  fltNs : Nat := 0
  fltAt : Nat := 0
  outAt : Option Nat := none
  exitAt : Option Nat := none
  exiting : Bool := false
  satRun : Vector Nat 2 := Vector.replicate 2 0
  /-- The protection value counts as at or above every threshold (R193). -/
  pinned : Bool := false
  /-- Slow breaker (R229), in A²s; sum and count of |I_prot| since its last update. -/
  slowA : Rat := 0
  slowSum : Rat := 0
  slowN : Nat := 0
  /-- The last two |I_prot| (R200). -/
  recent : Rat × Rat := (0, 0)
  /-- Open decision awaiting every group OFF (R216), its stage. -/
  openAt : Option Nat := none
  openStage : Nat := 0
  conductAt : Option Nat := none
  conducted : Bool := false
  /-- Retry (R218 to R220). -/
  retryAt : Option Nat := none
  retryUsed : Nat := 0
  counted : Bool := false
  readyAt : Nat := 0
  pendingLock : Option Nat := none
  lockedBeforeReset : Bool := false
  /-- Groups that reported one bad frame while ON (R206). -/
  badOnce : Nat := 0
  /-- Reverse block (R210, R211). -/
  reclosing : Bool := false
  clrSent : Bool := false
  /-- Shunt agreement (R212, R213): sums over 10 ms, consecutive 10 ms periods in excess. -/
  sum0 : Rat := 0
  sum1 : Rat := 0
  sumN : Nat := 0
  drift : Nat := 0
  disagree : Nat := 0
  /-- Peak |I_prot| in the charge slice in progress (R516). -/
  peak : Rat := 0
  deriving DecidableEq, Repr

/-- One trip waiting for the coordinated-trip message (R223). -/
structure TripEntry where
  ch : Nat
  cause : Nat
  sec : Nat
  ns : Nat
  at_ : Nat
  /-- I_prot at detection in 0.1 A, LAYER of R241, the entry is a lockout (R549). -/
  iTrip : Int
  layer : Nat
  lock : Bool
  deriving DecidableEq, Repr

/-- Bus failure (R214, R215). -/
structure BusFail where
  uvCnt : Nat := 0
  ovCnt : Nat := 0
  /-- Cause code while a failure is qualified; when FAILWARN_N asserted for it. -/
  cause : Option Nat := none
  leadAt : Nat := 0
  opened : Nat := 0
  ended : Bool := false
  allOffAt : Option Nat := none
  deriving DecidableEq, Repr

/-- A trim command as a frame carries it (R155): the local ns at which the module applies it, the target in V, the slew
limit in 0.1 V/ms, TRIM_EN. -/
structure TrimCmd where
  at_ : Rat := 0
  tgt : Rat := 0
  slew : Nat := 0
  en : Bool := false
  deriving DecidableEq, Repr

/-- The trim and sharing state of one channel (R245 to R260). -/
structure Trim where
  /-- The model of R155, the local ns it stands at, the command it follows, those sent and not yet applied. -/
  vModel : Rat := 0
  modelAt : Rat := 0
  cmd : TrimCmd := {}
  sent : List TrimCmd := []
  vTgt : Rat := 0
  slewNow : Rat := 0
  vInt : Rat := 0
  vCmd : Rat := 0
  /-- The weight dispatch gives the string (R250, R505). -/
  fDsp : Rat := 0
  iSat : Bool := false
  fEff : Rat := 0
  fTgt : Rat := 0
  fStart : Rat := 0
  iRef : Rat := 0
  iMeas : Rat := 0
  iGood : Rat := 0
  gapRun : Nat := 0
  gapFrozen : Bool := false
  gapSkip : Bool := false
  gapNow : Bool := false
  gapNext : Bool := false
  gapFenced : Bool := false
  /-- Sums of streams 0 and 4 since the last comparison of R260, packets, consecutive mismatches. -/
  cmpI : Rat := 0
  cmpT : Rat := 0
  cmpN : Nat := 0
  imis : Nat := 0
  /-- Stream 0 over the sharing period in progress, and over the packets that already belong to the next (R249). -/
  perQ : Rat := 0
  perN : Nat := 0
  nextQ : Rat := 0
  nextN : Nat := 0
  hoPending : Bool := false
  hoAt : Nat := 0
  lostV : Rat := 0
  lostAt : Nat := 0
  localOpen : Bool := false
  /-- When a zero request was raised (R510), while it stands. -/
  zeroAt : Option Nat := none
  deriving DecidableEq, Repr

/-- The sharing set's interpolation (R251). -/
structure Share where
  moveLeft : Rat := 0
  moveTotal : Rat := 0
  members : Nat := 0
  /-- A zero request is to start an interpolation of 0.8 s (R510). -/
  forced : Bool := false
  /-- The end of the period in progress, in local ns, once a boundary has passed (R249). -/
  due : Option Nat := none
  deriving DecidableEq, Repr

/-- One charge packet as the filters see it (R275, R292): its bit, its range, whether it is the first at
a new range, and its value ±20 MHz × W_eff in A or V. -/
structure Pkt where
  one : Bool
  rng : Nat
  chg : Bool
  x : Rat
  deriving DecidableEq, Repr

/-- What a window has gathered so far (R286, R289): sums of streams 0, 2 and 3 over the received packets,
lost packets, and the flags RC, TCOMP_STALE and SAT. -/
structure Acc where
  sumI : Rat := 0
  numI : Nat := 0
  sumV2 : Rat := 0
  sumV3 : Rat := 0
  lost : Nat := 0
  rc : Bool := false
  stale : Bool := false
  sat : Bool := false
  deriving DecidableEq, Repr

/-- What a charge slice has gathered (R291): the sum of stream 0 over its packets, packets, lost packets, and those of them
that count for R432: of a link loss, those of the first 5 µs. -/
structure Slice where
  sum : Rat := 0
  num : Nat := 0
  lost : Nat := 0
  tu : Nat := 0
  deriving DecidableEq, Repr

/-- The measurement of one channel (R275 to R295). -/
structure Strm where
  /-- 20 MHz × W_eff[s][r] at index 2s + r, in A or V. -/
  weff : Vector Rat 12 := Vector.replicate 12 0
  /-- The weights in force for the last bad frame, whose bits PREV brings (R112, R278). -/
  weffBad : Vector Rat 12 := Vector.replicate 12 0
  /-- O[s][r] of streams 0 and 1 at index 2s + r, in A. -/
  zero : Vector Rat 4 := Vector.replicate 4 0
  /-- Fast path: packets, newest first; packets since the filters restarted; packets since the last
  update; a packet was lost since then; a value waits for PREV; values; v_pre; SAT runs. -/
  hist : Vector (List Pkt) 6 := Vector.replicate 6 []
  since : Nat := 0
  newPk : Nat := 0
  broken : Bool := true
  waiting : Bool := false
  fast : Vector Rat 6 := Vector.replicate 6 0
  rng : Vector Nat 6 := Vector.replicate 6 0
  vpre : Vector Rat 2 := Vector.replicate 2 0
  satOn : Vector Bool 6 := Vector.replicate 6 false
  holdOn : Vector Bool 2 := Vector.replicate 2 false
  updates : Nat := 0
  /-- End of the last packet accounted for, in ns; the packet grid's phase; the delays of the last 256
  frames and the filtered delay, in ns (R282, R283). -/
  lastEnd : Option Rat := none
  dWin : List Rat := []
  dFilt : Rat := 0
  /-- The parts of Q_DIS and Q_CHG below 1 µC (R281). -/
  remDis : Rat := 0
  remChg : Rat := 0
  /-- Shunt temperature (R278): sum and count of this 10 ms window, last valid, stale. -/
  tSum : Rat := 0
  tNum : Nat := 0
  tLast : Option Rat := none
  stale : Bool := false
  /-- Zero learning over the present 1 s (R279): sums of streams 0 and 1 without offsets, skipped,
  range of each stream's packets. -/
  zSum : Vector Rat 2 := Vector.replicate 2 0
  zNum : Nat := 0
  zSkip : Bool := false
  zRng : Vector Nat 2 := Vector.replicate 2 0
  /-- The window in progress, the packets that already belong to the next one (R285, R299). -/
  win : Acc := {}
  nxt : Acc := {}
  /-- Sums of the trim model and of the baseplate temperature over the window's frames, and whether all of
  them were in READY out of limit with every healthy group ON (R668). -/
  vtSum : Rat := 0
  tbSum : Rat := 0
  frN : Nat := 0
  allOn : Bool := true
  /-- The charge slice in progress, and what already belongs to the next one (R291). -/
  sl : Slice := {}
  slNext : Slice := {}
  deriving DecidableEq, Repr

/-- The grid windows (R284 to R288).  Times are time base 0 in ns. -/
structure Win where
  startNs : Int := 0
  endNs : Option Int := some 200000000
  /-- N in force, cycles begun since the window's start, formed under FREE, next end is the first
  locked boundary. -/
  cyclesN : Nat := 10
  cycles : Nat := 0
  free : Bool := true
  resync : Bool := false
  /-- The REQUAL count runs since (local ns); the last cycle boundary (local ns). -/
  requalAt : Option Nat := none
  cycAt : Option Nat := none
  /-- The last cycle lasted 15.000 ms to 25.000 ms, or none has ended yet. -/
  cycGood : Bool := true
  deriving DecidableEq, Repr

/-- What a converter is doing (R315 to R318, R341): nothing, entry k of its pass, entry k of its injected run,
or the open-wire test of a local input. -/
inductive ConvAct
  | idle
  | regular (k : Nat)
  | injected (k : Nat)
  | openWire (loc : Nat)
  deriving DecidableEq, Repr

/-- Why a converter switches its reference (R335 to R337, R339): away from one that became BAD, back to a better
one, or on a write of REF_PREF or at REF_SETTLE. -/
inductive SwitchKind
  | fallback | back | forced
  deriving DecidableEq, Repr

/-- What the device keeps of one local input (R341, R342): its last regular result in V and when it was written,
the next result is discarded, a test is due, consecutive failed and passed tests. -/
structure AdcIn where
  volts : Option Rat := none
  wroteAt : Option Nat := none
  discard : Bool := false
  due : Bool := false
  /-- The OW_PERIOD boundary (local ns) at which its last test fell due. -/
  dueAt : Nat := 0
  fails : Nat := 0
  passes : Nat := 0
  deriving DecidableEq, Repr

/-- One on-chip converter (R315 to R343).  `resume` is the regular entry to convert again, `redo` the open-wire
test to do again, `tries` how often the entry was abandoned, `waits` a pass that starts after the injected
run, `staged` the configuration writes of R320, `fired` the modulator edge at which a trigger instant last started a pass or
run, `switchFrom` when the last switch began, `backAt` for each reference the end of a switch during which it returned (R336). -/
structure Conv where
  act : ConvAct := .idle
  startAt : Nat := 0
  first : Bool := true
  resume : Option Nat := none
  redo : Option Nat := none
  tries : Nat := 0
  waits : Bool := false
  staged : List (AdcReg × Nat × Nat) := []
  inputs : Vector AdcIn 4 := Vector.replicate 4 {}
  target : Nat := 0
  kind : SwitchKind := .forced
  fired : Option Nat := none
  switchFrom : Nat := 0
  backAt : Vector Nat 3 := Vector.replicate 3 0
  prefWritten : Bool := false
  deriving DecidableEq, Repr

/-- A reference as one block's monitor sees it (R333): GOOD, its first passing check since the last failed one,
consecutive failed checks. -/
structure RefMon where
  good : Bool := false
  passAt : Option Nat := none
  fails : Nat := 0
  deriving DecidableEq, Repr

/-- The calibration of a converter block (R327 to R331, R343): none, running, or waiting for INT. -/
inductive CalState
  | none | running | waiting
  deriving DecidableEq, Repr

/-- One converter block; `noExt`: the calibration skips EXT_RATIO under R339. -/
structure ConvBlock where
  noExt : Bool := false
  cal : CalState := .none
  calAt : Nat := 0
  startup : Bool := false
  auto : Bool := false
  passed : Bool := false
  refs : Vector RefMon 3 := Vector.replicate 3 {}
  deriving DecidableEq, Repr

/-- Reference settling at start-up and after it (R339, R340): entry to REF_SETTLE, INT GOOD throughout
calibration, waiting for INT, INT failed, blocks still to calibrate again against INT. -/
structure Settle where
  at_ : Nat := 0
  through : Bool := true
  late : Bool := false
  intFail : Bool := false
  recal : List Nat := []
  deriving DecidableEq, Repr

/-- One tally timer (R361 to R368): phase, prescaler count, R in force, armed points (bit 2k for the up or
single point of compare k, 2k + 1 for its down point), a sync event not yet taken. -/
structure Tally where
  p : Nat := 0
  pre : Nat := 0
  r : Nat := 0xFFFFFFFF
  armed : Nat := 0
  syncDue : Bool := false
  deriving DecidableEq, Repr

/-- A node command waiting or outstanding (R406). -/
structure NodeCmd where
  pos : Nat
  op : Nat
  word : Nat
  data : List Nat
  deriving DecidableEq, Repr

/-- The command an end has sent: its TAG, frames sent since, repeats made. -/
structure NodeOut where
  cmd : NodeCmd
  tag : Nat
  frames : Nat
  repeats : Nat
  resend : Bool
  deriving DecidableEq, Repr

/-- A slot taken into a record (R395, R396): position, SFLAGS, taken from a RECOVER frame, cell values in µV,
BAL_ON. -/
structure Taken where
  pos : Nat
  flags : Nat
  recovered : Bool
  cells : List Int
  balOn : Nat
  deriving DecidableEq, Repr

/-- One instant of a chain (R291, R396): its number, its time on time base 0 and on the oscillator in ns, its
marks, the slots taken, and the charge slice it closed: charge in C, lost packets, lost packets that count
for R432, length in ns. -/
structure Rec where
  seq : Nat := 0
  k : Nat
  tns : Int
  at_ : Nat
  notPlant : Bool
  skipped : Bool
  taken : List Taken
  q : Rat
  lost : Nat
  lostTu : Nat
  len : Nat
  final : Bool
  counts : Nat × Nat := (0, 0)
  deriving DecidableEq, Repr

/-- A field node as the device knows it (R389, R401, R405 to R413).  The delay sums are of the probes of the
present cycle, the delays those last written by TIMING.  `liveFrom` is when ADMIT was sent to it, `missed` the record
numbers without its slot since then. -/
structure Node where
  ident : List Nat := []
  serial : List Nat := []
  everAdmitted : Bool := false
  timed : Bool := false
  liveFrom : Option Nat := none
  missed : List Nat := []
  outAt : Option Nat := none
  dSum : Vector Nat 2 := Vector.replicate 2 0
  dNum : Vector Nat 2 := Vector.replicate 2 0
  delay : Vector (Option Rat) 2 := Vector.replicate 2 none
  temps : List (Nat × Int × Nat) := []
  lastFlags : Nat := 0
  balI : Nat := 0
  caps : Nat := 0
  deriving DecidableEq, Repr

/-- One chain (R382 to R403): lock of each end's receiver, the last full ring, nodes that took no position,
positions each end reaches, healing, ENUM counts of this enumeration, frame numbers, TAG, commands, the node each end served
last, records. -/
structure Chain where
  lock : Vector Bool 2 := Vector.replicate 2 false
  stateAt : Nat := 0
  nRing : Option Nat := none
  nNow : Nat := 0
  extra : Nat := 0
  aLast : Option Nat := none
  bFirst : Option Nat := none
  healing : Bool := false
  healNext : Bool := false
  enums : Vector (Option Nat) 2 := Vector.replicate 2 none
  fseq : Vector Nat 2 := Vector.replicate 2 0
  tag : Nat := 0
  cmds : List NodeCmd := []
  out : Vector (Option NodeOut) 2 := Vector.replicate 2 none
  turn : Vector Nat 2 := Vector.replicate 2 15
  lastReach : Nat := 0
  cellOut : Bool := false
  nextSeq : Nat := 0
  recs : List Rec := []
  deriving DecidableEq, Repr

/-- The sample instants of the device (R385 to R387): number and oscillator time of the last one triggered,
number, time base 0 time and skip mark of the last one reached, the time of the next one, and when a staged RATE applies. -/
structure Instants where
  trigK : Option Nat := none
  trigAt : Nat := 0
  skipK : Option Nat := none
  lastK : Option Nat := none
  lastT : Int := 0
  nextT : Option Int := none
  rateDue : Option Int := none
  deriving DecidableEq, Repr

/-- The estimate of one cell: the context of R458 and R488, held exactly, and what its filter keeps beside it
(log 5). -/
structure Cell where
  estate : Nat := 0
  seedWeak : Bool := false
  tempStale : Bool := false
  outlier : Bool := false
  chgGap : Bool := false
  extrap : Bool := false
  notPlant : Bool := false
  recovered : Bool := false
  sohStale : Bool := false
  restored : Bool := false
  seq : Nat := 0
  stepId : Nat := 0
  soc : Rat := 0
  va : Rat := 0
  vb : Rat := 0
  h : Rat := 0
  /-- The covariance's upper triangle in the order of R458. -/
  p : Vector Rat 10 := Vector.replicate 10 0
  qCap : Rat := 0
  vMean : Rat := 0
  iCell : Rat := 0
  tCell : Rat := 0
  nu : Rat := 0
  socConv : Rat := 0
  socFloor : Rat := 0
  sigma : Rat := 0
  sohQ : Rat := 0
  sohR : Rat := 0
  /-- Power in W for the four horizons, and the currents and limiting terms they came from. -/
  sopD : Vector Rat 4 := Vector.replicate 4 0
  sopC : Vector Rat 4 := Vector.replicate 4 0
  iD : Vector Rat 4 := Vector.replicate 4 0
  iC : Vector Rat 4 := Vector.replicate 4 0
  byD : Nat := 0
  eDis : Rat := 0
  eChg : Rat := 0
  outRun : Nat := 0
  coastRun : Nat := 0
  ancKind : Nat := 0
  rlxActive : Bool := false
  capLearned : Bool := false
  capUpd : Nat := 0
  varCap : Rat := 0
  tCap : Nat := 0
  thruDis : Rat := 0
  thruChg : Rat := 0
  ancQDis : Nat := 0
  ancQChg : Nat := 0
  ancSoc : Rat := 0
  ancSigma : Rat := 0
  ancT : Nat := 0
  ancTemp : Int := 0
  ancQBal : Rat := 0
  ancVarQ : Rat := 0
  rlxPts : List Rat := []
  rlxDi : Rat := 0
  rlxT0 : Nat := 0
  refT : Nat := 0
  /-- Local ns: entry to SEEDING, to STALE, to TRACKING (time base 0 ns), the last persisted record. -/
  seedAt : Nat := 0
  staleAt : Nat := 0
  trackT : Int := 0
  persistAt : Nat := 0
  /-- The rest of R441: length in s and v_mean of its steps, newest first; the rest of R481: its length in s since it
  began or since the last rest point, v_mean of the last 10 min (time base 0 ns, V); the last virtual point. -/
  seedHist : List (Rat × Rat) := []
  restRun : Rat := 0
  restMin : Nat := 0
  vHist : List (Int × Rat) := []
  lastVirt : Option Int := none
  /-- The relaxation hold (R479): its start in ns, the new mean current, SOC and T_c at its start, v_a and v_b
  before it, and the sum and count of each point's residuals. -/
  rlxStart : Int := 0
  rlxI : Rat := 0
  rlxSoc : Rat := 0
  rlxTemp : Rat := 0
  rlxVa : Rat := 0
  rlxVb : Rat := 0
  rlxSum : List (Rat × Nat) := []
  /-- Over the identification window (R477): sum and count of T_c, the SOC at its start, the engine paused. -/
  wT : Rat := 0
  wN : Nat := 0
  wSoc : Rat := 0
  wPaused : Bool := false
  deriving DecidableEq, Repr

/-- What the estimator keeps of one string: the boundary of its last step, the counts latched at the
boundaries of the last 60 s (time base 0 ns, Q_DIS, Q_CHG), the mean currents of the last 10 s of steps, the
instants of the identification window, VALID at the last aggregate. -/
structure StrEst where
  stepT : Option Int := none
  latches : List (Int × Nat × Nat) := []
  iHist : List (Int × Rat) := []
  win : List Rec := []
  wasValid : Bool := false
  /-- The boundary of the last step that was marked late (R436). -/
  lateT : Option Int := none
  deriving DecidableEq, Repr

/-- What the engine of one cell block keeps (R438): its last processed boundary and the counts there, and
whether it is paused. -/
structure BlkEst where
  stepT : Option Int := none
  own : Option (Nat × Nat) := none
  paused : Bool := false
  deriving DecidableEq, Repr

/-- Cell contexts kept after a swap (R445), by position 16 n + p: when, and the cells by k. -/
structure KeptNode where
  at_ : Nat
  cells : List (Nat × Cell)
  tables : List (Nat × List (Nat × Nat))
  counts : Nat × Nat
  deriving DecidableEq, Repr

/-- A persisted context (R444): the cell, the stamp in ns, the string's counts, the node's SERIAL and input. -/
structure CtxRec where
  cell : Cell
  stamp : Int
  qDis : Nat
  qChg : Nat
  serial : List Nat
  input : Nat
  deriving DecidableEq, Repr

/-- A charge checkpoint (R489) or the final counts of a power-down record (R83 step P4). -/
structure Counts where
  stamp : Int
  qDis : Nat
  qChg : Nat
  iMean : Int
  ilimEff : Nat
  cstate : Nat
  deriving DecidableEq, Repr

/-- What the Ledger's newest STATE records say of cells and channels: contexts, learning records, impedance
entries (cell, then entry number and words), checkpoints and final counts.  It survives every reset. -/
structure LdgState where
  ctx : List (Nat × CtxRec) := []
  learn : List (Nat × CtxRec) := []
  tables : List (Nat × List (Nat × Nat × Nat)) := []
  ckpt : List (Nat × Counts) := []
  final : List (Nat × Counts) := []
  /-- The cells whose contexts the last power-down marked for restore (R83 step P4). -/
  marked : List Nat := []
  /-- Time base 0 seconds of the last SSI demand of each channel (R629). -/
  ssi : List (Nat × Nat) := []
  deriving DecidableEq, Repr

/-- The estimator as a whole: DIV_NOW staged by the Almanac, changed impedance entries since the last journal
(cell, entry), and what
reconciliation gave each channel: dq and its standard deviation in C, the case (1 NONE, 2 EXACT, 3 ESTIMATED), the end of its charge interval. -/
structure EstAll where
  divNext : Option Nat := none
  divOld : Nat := 0
  divAt : Option Int := none
  changed : List (Nat × Nat) := []
  recon : List (Nat × Rat × Rat) := []
  reconKind : List (Nat × Nat) := []
  reconEnd : List (Nat × Int) := []
  deriving DecidableEq, Repr

/-- What a recorder frame keeps of one channel at an instant (R516): CSTATE, PROT_FLAGS bits 7:0, slice mean
current in mA, Vstr and Vbus in V, peak |I_prot| in A. -/
structure Snap where
  ch : Nat
  cst : Nat
  flags : Nat
  mean : Int
  vstr : Rat
  vbus : Rat
  peak : Rat
  deriving DecidableEq, Repr

/-- One sample instant whose recorder frame is not yet written: its number, its time base 0 time in ns, whether
it is marked NOT_PLANT, and the channels' values. -/
structure RecInst where
  k : Nat
  tns : Int
  notPlant : Bool
  skipped : Bool
  snaps : List Snap
  deriving DecidableEq, Repr

/-- The event recorder's progress (R515 to R517) beside its registers: the next frame, frames written since ARM,
frames still to write in POST, the trigger frame not yet written, the trigger's time base 0 time in ns,
the instants waiting, and the triggers that arrived in IDLE or FROZEN. -/
structure Recorder where
  next : Nat := 0
  written : Nat := 0
  left : Nat := 0
  trigPending : Bool := false
  trigAt : Int := 0
  insts : List RecInst := []
  missed : Nat := 0
  deriving DecidableEq, Repr

/-- Dispatch (R504 to R513): the 100 ms instant after which DSP_REQ was last written and the request in force at
it; direction and members of the last pass; net charge of every channel at the passes of the last 5 s (time
base 0 ns, C); channels that left READY, entered limit or blocked since the last publication, and since the last
pass; cells bleeding. -/
structure Dsp where
  reqAt : Int := 0
  reqOld : Nat := 0
  charge : Bool := false
  members : Nat := 0
  hist : List (Int × List Rat) := []
  due : Nat := 0
  affected : Nat := 0
  bleeding : List Nat := []
  spread : Bool := false
  deriving DecidableEq, Repr

/-- A frame in a queue: class, Span KIND and DST, payload, Span SEQ and PRP sequence number, and the egress ports
that still send it with their next fragment. -/
structure QFrame where
  cls : Nat
  kind : Nat
  dst : Nat
  payload : List Byte
  seq : Nat
  prp : Nat
  todo : List (Nat × Nat)
  deriving DecidableEq, Repr

/-- A publication on its way to the queue of a session that has opened its service (R518, R543). -/
structure Pub where
  sess : Nat
  service : Service
  words : List Nat
  deriving DecidableEq, Repr

/-- Deficit round robin of one port and class (R537): the owner served last and the deficits. -/
structure Drr where
  cur : Nat := 0
  deficits : List (Nat × Nat) := []
  deriving DecidableEq, Repr

/-- The Commons (R532 to R543): frames by queue, session queues bound with their owner, times of the handshakes
of the last second, round robins by 8 p + class, BULK bytes sent (port, time, bytes), the PRP sequence number and
the duplicates' memory (source, sequence number, time), ETH_CFG in effect and, for each port, whether it has still
to go down (2) or up (1) before a write takes effect. -/
structure Com where
  pubs : List Pub := []
  queues : List (Nat × List QFrame) := []
  bound : List (Nat × Nat) := []
  hsTimes : List Nat := []
  drr : List (Nat × Drr) := []
  bulk : List (Nat × Nat × Nat) := []
  prpSeq : Nat := 0
  prpSeen : List (Nat × Nat × Nat) := []
  ethNow : Nat := 1
  ethWait : Vector Nat 2 := Vector.replicate 2 0
  deriving DecidableEq, Repr

/-- Span (R544 to R555): start of SELF_TEST and its failures, when BYPASS_HOLD rose, a port reached UP since,
when a join failed, the last NEIGHBOUR frame of each port and the neighbour's SPAN_ID, SEQ by class, what was delivered of each origin and class
(highest SEQ, SEQs of the window), messages in reassembly (next fragment, bytes), scans not returned (SEQ, time),
largest scan counts by port in this and the last scan period, and the coordinated-trip messages delivered. -/
structure Span where
  testAt : Nat := 0
  fails : Nat := 0
  joinAt : Option Nat := none
  joined : Bool := false
  failAt : Option Nat := none
  nbrAt : Vector Nat 2 := Vector.replicate 2 0
  nbrId : Vector Nat 2 := Vector.replicate 2 0
  seqs : Vector Nat 8 := Vector.replicate 8 0
  seen : List (Nat × Nat × List Nat) := []
  reasm : List (Nat × Nat × List Byte) := []
  scans : List (Nat × Nat) := []
  scanNow : Vector Nat 2 := Vector.replicate 2 0
  scanOld : Vector Nat 2 := Vector.replicate 2 0
  ringOpen : Bool := false
  tripRx : List SpanFrame := []
  /-- Source addresses of the datagrams last relayed, by CONN_ID (R616). -/
  relays : List (Nat × Nat) := []
  deriving DecidableEq, Repr

/-- One time base (R573 to R583): its fields, the increment fraction in force, what a slew has still to add (signed,
in 2^−32 ns) and its rate accumulator, a value to take at the next edge, the first report of the present run of good
ones, the last report. -/
structure TimeBase where
  sec : Nat := 0
  ns : Nat := 0
  frac : Nat := 0
  incFrac : Nat := 0
  left : Int := 0
  acc : Nat := 0
  apply : Option (Nat × Nat × Nat) := none
  runAt : Option Nat := none
  rptAt : Option Nat := none
  late : Bool := false
  deriving DecidableEq, Repr

/-- A mark in the record of a base (R581): the oscillator edge, the base there, and what it adds from then on: increment,
ADJ_PPM, the remainder of a slew and its accumulator. -/
structure TbMark where
  osc : Nat
  sec : Nat
  ns : Nat
  frac : Nat
  inc : Nat
  incFrac : Nat
  ppm : Nat
  left : Int
  acc : Nat
  deriving DecidableEq, Repr

/-- A reference of time base 0 (R584 to R586): its last report, since when it has been VALID in every report as
the return counts it, and whether that count waits for the end of a switch. -/
structure RefRec where
  rptAt : Option Nat := none
  validAt : Option Nat := none
  waits : Bool := false
  deriving DecidableEq, Repr

/-- Belfry beside its bases: the references A, B and SPAN, entry to HOLDOVER, the servo engine in force, the last
receive stamp of each port (2^−16 ns), the last grid edges (local ns, newest first) with the last one's stamps on
time bases 0 and 2, and a missing edge not yet reported. -/
structure Belfry where
  refs : Vector RefRec 3 := Vector.replicate 3 {}
  holdAt : Nat := 0
  servo : Nat := 127
  rxStamp : Vector Int 4 := Vector.replicate 4 0
  edges : List Nat := []
  gridStamp : Int × Int := (0, 0)
  gridMiss : Bool := false
  marks : Vector (List TbMark) 8 := Vector.replicate 8 []
  deriving DecidableEq, Repr

/-- One safety connection beside its registers (R619 to R623): RUN bits last accepted, when the watchdog started,
a STATUS has been sent since reset, the last accepted PDU was a START. -/
structure ParConn where
  run : Nat := 0
  startedAt : Nat := 0
  sent : Bool := false
  wasStart : Bool := false
  deriving DecidableEq, Repr

/-- A 64 KiB segment of the Ledger (R649, R650): its header fields, bytes used, records. -/
structure Seg where
  segSeq : Nat := 0
  erases : Nat := 0
  firstSeq : Nat := 0
  prevChain : BitVec 128 := 0
  used : Nat := 0
  recs : List LedgerRec := []
  erased : Bool := true
  retired : Bool := false
  deriving DecidableEq, Repr

/-- The Ledger on one flash (R649): segments by number, how many there are, the head. -/
structure LogFlash where
  segs : List (Nat × Seg) := []
  total : Nat := 1792
  head : Option Nat := none
  deriving DecidableEq, Repr

/-- The Ledger (R649 to R656): CHAIN of the newest record, each waiting record with the mask of the flashes that
hold it, records since the last SEAL and its time, the two flashes, opened since reset, the newest stamp
found, the stamp of the first record ever. -/
structure Ldg where
  chain : BitVec 128 := 0
  buffer : List (LedgerRec × Nat) := []
  sinceSeal : Nat := 0
  sealAt : Nat := 0
  flashes : Vector LogFlash 2 := Vector.replicate 2 {}
  opened : Bool := false
  stamp : Nat × Nat := (0, 0)
  firstSec : Option Nat := none
  deriving DecidableEq, Repr

/-- Tollgate beside its registers (R644 to R646): the JTAG instruction, halted engines, the key in each programmed
fuse slot, the image that is being written to each flash. -/
structure Tg where
  jtag : JtagIns := .bypass
  halted : List Nat := []
  fuseKeys : List (Nat × Nat) := []
  writing : Vector (Option Image) 2 := Vector.replicate 2 none
  deriving DecidableEq, Repr

/-- What the Almanac keeps of one channel (R668 to R670). -/
structure AlmCh where
  /-- VGS_TGT at the last 8 first reaches of I_set; the last 16 T_RISE of each group. -/
  vth : List Nat := []
  rise : Vector (List Nat) 16 := Vector.replicate 16 []
  /-- Least-squares sums of the day's qualifying windows: count, current, −Vsw (scaled), squares, products,
  least and greatest current. -/
  rN : Nat := 0
  rX : Rat := 0
  rY : Rat := 0
  rXX : Rat := 0
  rXY : Rat := 0
  rLo : Rat := 0
  rHi : Rat := 0
  /-- Daily R_on values, newest first; the day's shunt drift sum and count; the last day's mean. -/
  ronDays : List Rat := []
  driftSum : Rat := 0
  driftN : Nat := 0
  driftDay : Rat := 0
  /-- TRIM_IMISMATCH events of the day, consecutive days with one. -/
  imis : Nat := 0
  imisDays : Nat := 0
  /-- Baseline days collected, V_th values collected with them, and the baseline (R_on, V_th). -/
  baseRon : List Rat := []
  baseVth : List Nat := []
  base : Option (Rat × Option Rat) := none
  serial : List Nat := []
  /-- The plan: F_AGE, R_TH, P_GROUP_MAX, SHARE_K, TJ_DROP in the units of their registers (R670). -/
  planF : Nat := 1000
  planR : Nat := 100
  planP : Nat := 0xFFFF
  planK : Nat := 0
  planT : Nat := 0
  /-- f_tgt has been below 0.25 with this module (R672). -/
  aged : Bool := false
  deriving DecidableEq, Repr

/-- An override in force (R680): item, unit, value, when it ends (local ns). -/
structure Override where
  item : Nat
  unit : Nat
  value : Nat
  endsAt : Nat
  deriving DecidableEq, Repr

/-- The Almanac's own state (R668, R674 to R678). -/
structure Alm where
  /-- When LEVEL last rose for load or LATE_STEP; when the 10 min of low load began. -/
  riseAt : Option Nat := none
  lowAt : Nat := 0
  /-- When the last WARN of the BULK shed came, while it runs. -/
  bulkAt : Option Nat := none
  /-- WARN events of regions 2 to 4 not yet taken (mask), and a LATE_STEP not yet taken (R436, R674). -/
  warns : Nat := 0
  lateStep : Bool := false
  /-- Oscillator offsets of the last 24 h, newest first, with their second (R668), in parts. -/
  offs : List (Nat × Rat) := []
  outOfRange : Bool := false
  /-- ERASE_MAX of each flash at the last day ends, newest first; the day in progress. -/
  wearDays : Vector (List Nat) 2 := Vector.replicate 2 []
  day : Option Nat := none
  /-- Least pace of each region in the day, and in the last whole day. -/
  paceMin : Vector Nat 8 := Vector.replicate 8 0xFFFF
  paceDay : Vector Nat 8 := Vector.replicate 8 0xFFFF
  /-- S = 8.00 does not meet the condition of R677. -/
  lifeShort : Bool := false
  overrides : List Override := []
  replanWaits : Bool := false
  /-- The plan of LEVEL, S and HOLD_QUAL_EFF. -/
  planLevel : Nat := 0
  planS : Nat := 4
  planHold : Nat := 0
  deriving DecidableEq, Repr

/-- The messages the device sends (the model's output; log 10). -/
inductive Msg
  /-- A downlink frame on a pier link, with its 144 bytes (R102, R104). -/
  | downlink (ch : Nat) (frame : DownFrame) (bytes : List Nat)
  /-- An URGENT_OPEN block: the eight bytes of the control block (R107). -/
  | urgentOpen (ch : Nat) (block : List Nat)
  /-- FAILWARN_N driven low (true) or released (R83, R215). -/
  | failwarn (low : Bool)
  /-- The coordinated-trip message (R223): sequence number and entries. -/
  | coordTrip (seq : Nat) (entries : List TripEntry)
  /-- TRIGGER from both ends of a chain (R387): INSTANT and CTRL. -/
  | hrTrigger (ch instant ctrl check : Nat)
  /-- A SWEEP, RECOVER or ENUM frame of one end (R392): TYPE, INSTANT, COUNT, FIRST_POS, FSEQ and CMD, and bytes 0 to 35 of the
  frame; the slots that follow name their positions and are empty. -/
  | hrFrame (ch : Nat) (endB : Bool) (type instant count first fseq : Nat) (cmd head : List Nat)
  /-- A PROBE from one end (R389). -/
  | hrProbe (ch : Nat) (endB : Bool) (node seq check : Nat)
  /-- An Ethernet frame (R540, R541): port, VLAN, PCP, DSCP, PRP trailer (LAN B, sequence number), queue, payload. -/
  | eth (port : Nat) (vlan : Option Nat) (pcp dscp : Nat) (prp : Option (Bool × Nat)) (queue : Nat) (payload : List Byte)
  /-- A PRP supervision frame (R540). -/
  | prpSupervision (port : Nat)
  /-- A Span frame out of a port, 0 east, 1 west, with its bytes (R545). -/
  | span (west : Bool) (frame : SpanFrame) (bytes : List Nat)
  /-- The CAPACITY alarm to a session (R535). -/
  | sessionAlarm (sess : Nat)
  /-- A PTP message on a port (R591): seconds, nanoseconds, correctionField in 2^−16 ns. -/
  | ptp (port : Nat) (kind : PtpKind) (sec ns : Nat) (corr : Int)
  /-- A STATUS of a safety connection (R614, R623): on Span, PFLAGS, CONN_ID, SEQ, T_EXP, SR, LATCH, ECHO_SEQ, DIAG, and the 36
  bytes of the PDU. -/
  | status (span : Bool) (pflags connId seq tExp sr latch echo diag : Nat) (bytes : List Nat)
  /-- A UDP datagram to the source address of a relayed one (R616). -/
  | udp (dst : Nat) (payload : List Byte)
  /-- A command of the loader to a flash (R74). -/
  | flash (cs : Nat) (op : FlashOp)
  /-- A frame of which an injection inverted a bit (R556). -/
  | corrupted (bit : Nat) (frame : Msg)
  deriving DecidableEq, Repr

/-- A link fault injection (R556 to R558): its session, when it started, COUNT, frames of the selection seen,
a frame held to be sent, and a received one held. -/
structure Inj where
  sess : Nat := 0
  startAt : Nat := 0
  count : Nat := 0
  seen : Nat := 0
  heldTx : Option Msg := none
  heldRx : Option Instr := none
  deriving DecidableEq, Repr

/-- The state of the block. -/
structure State where
  /-- The variant of R1. -/
  variant : Variant
  /-- 250 MHz local-oscillator edges since power-on (R573). -/
  osc : Nat
  /-- Free values drawn so far: the model's own counter, not the spec's. -/
  fresh : Nat
  /-- Every register of the map that does not hold its reset value, by `regKey`. -/
  regs : List (Nat × Word)
  /-- The event counters of R38 that are not zero, by `cntKey`. -/
  cnts : List (Nat × Word)
  /-- The shadow registers of each requester (R692), by `shadowKey`. -/
  shadows : List (Nat × Word)
  /-- The Granary bytes that read other than `memDefault` (R693). -/
  mem : List Host.Cell
  /-- The commands waiting, first in, first out. -/
  pending : List Instr
  /-- What the device last answered a session. -/
  resp : Resp
  /-- The messages the device has sent, oldest first. -/
  outbox : List Msg
  /-- The sessions (R535). -/
  sess : List (Nat × Sess)
  /-- Tiles that have counted corrected errors, by `siteKey`. -/
  tiles : List (Nat × TileRec)
  /-- Containment units, by `unitKey`. -/
  units : List (Nat × UnitRec)
  /-- The pace each island measured last plus 1, 0 before its first measurement (R30), by region and island. -/
  paces : List (Nat × Nat)
  /-- The PACE_FLOOR excursion of each region. -/
  lowPace : List (Nat × LowPace)
  /-- The Supply region. -/
  sup : Supply
  /-- The Charter in force. -/
  charter : Charter
  /-- The images in the two flashes (R73): A on chip select 0, B on chip select 1. -/
  imageA : Image
  imageB : Image
  /-- The two flashes on the xSPI bus. -/
  xspi : Vector Xspi 2
  /-- Which body the loader reads. -/
  load : LoadStep
  /-- When the Keystone reset was released (the reference event of R81), while started. -/
  startAt : Option Nat
  /-- The partners admitted, or moved to a refused state, since reset (R82), by `partnerLink`, `partnerNode`, `partnerPort`. -/
  judged : List Nat
  /-- The code of the reset whose cause the next LEDGER_OPEN records (R69). -/
  resetToLog : Nat
  /-- The pier links, by channel. -/
  links : List (Nat × Link)
  /-- FRAME_TICKs since reset (R102, R323). -/
  frames : Nat
  /-- Insertion state, by channel. -/
  inss : List (Nat × Ins)
  /-- The channels in WAIT, first in, first out (R140). -/
  waitQ : List Nat
  /-- The holder of the insertion token (R139). -/
  token : Option Nat
  /-- The sequence number of the next coordinated-trip message. -/
  tripSeq : Nat
  /-- Protection state, by channel. -/
  prots : List (Nat × Prot)
  /-- Bus failure detection. -/
  bus : BusFail
  /-- Trips not yet sent (R223). -/
  tripQ : List TripEntry
  /-- DAMAGED marks kept for each module SERIAL (R209). -/
  damageLog : List (List Nat × Nat)
  /-- Lockouts kept through reset (R221): channel and cause. -/
  lockLog : List (Nat × Nat)
  /-- Trim state, by channel. -/
  trims : List (Nat × Trim)
  /-- Sharing. -/
  share : Share
  /-- The measurement of each channel. -/
  strms : List (Nat × Strm)
  /-- The grid windows. -/
  win : Win
  /-- The on-chip converters, their blocks, and reference settling. -/
  convs : List (Nat × Conv)
  convBlocks : List (Nat × ConvBlock)
  settle : Settle
  /-- The tally timers. -/
  tals : List (Nat × Tally)
  /-- Converter triggers whose delay runs (R322): target (converter a regular, 64 + a injected, 128 + g
  group) and due time in ns. -/
  trigs : List (Nat × Nat)
  /-- Trim carrier events still to come (R323): channel and instant T + d in ns, rounded up. -/
  carriers : List (Nat × Nat)
  /-- The Hedgerow chains, the field nodes by 16 n + p, and the sample instants. -/
  chains : List (Nat × Chain)
  nodes : List (Nat × Node)
  inst : Instants
  /-- The estimates by k, the strings' and the cell blocks' estimation, contexts kept after a swap, the estimator, and what the Ledger
  holds for it. -/
  cells : List (Nat × Cell)
  strEst : List (Nat × StrEst)
  blkEst : List (Nat × BlkEst)
  keptNodes : List (Nat × KeptNode)
  est : EstAll
  ldgState : LdgState
  /-- The event recorder, and dispatch. -/
  recorder : Recorder
  dsp : Dsp
  /-- The FIFO of DSP_EVT, oldest first (R511), its sequence number, and the events awaiting an
  operator's acknowledgement (code, channel). -/
  evtFifo : List Nat
  evtSeq : Nat
  evtPending : List (Nat × Nat)
  /-- The Commons and Span. -/
  com : Com
  span : Span
  /-- The eight time bases, and Belfry. -/
  tbs : List (Nat × TimeBase)
  bel : Belfry
  /-- The safety connections. -/
  pars : List (Nat × ParConn)
  /-- The Ledger, and Tollgate. -/
  ldg : Ldg
  tg : Tg
  /-- The Almanac's measures of each channel, its own state, and the baselines kept for each module SERIAL. -/
  almChs : List (Nat × AlmCh)
  alm : Alm
  baseLog : List (List Nat × Rat × Option Rat)
  /-- The link fault injection. -/
  inj : Inj
  deriving DecidableEq, Repr

/-- The machine right after a power-on reset (R14, R68, R69): every register at the value of its
table, nothing queued, nothing in memory, no session.  Log 1 names what the spec leaves open. -/
def State.reset : State :=
  { variant := .gk6432
    osc := 0
    fresh := 0
    regs := []
    cnts := []
    shadows := []
    mem := []
    pending := []
    resp := .none
    outbox := []
    sess := []
    tiles := []
    units := []
    paces := []
    lowPace := []
    sup := {}
    charter := {}
    imageA := {}
    imageB := {}
    xspi := Vector.replicate 2 {}
    load := .idle
    startAt := none
    judged := []
    resetToLog := 1
    links := []
    frames := 0
    inss := []
    waitQ := []
    token := none
    tripSeq := 0
    prots := []
    bus := {}
    tripQ := []
    damageLog := []
    lockLog := []
    trims := []
    share := {}
    strms := []
    win := {}
    convs := []
    convBlocks := []
    settle := {}
    tals := []
    trigs := []
    carriers := []
    chains := []
    nodes := []
    inst := {}
    cells := []
    strEst := []
    blkEst := []
    keptNodes := []
    est := {}
    ldgState := {}
    recorder := {}
    dsp := {}
    evtFifo := []
    evtSeq := 0
    evtPending := []
    com := {}
    span := {}
    tbs := []
    bel := {}
    pars := []
    ldg := {}
    tg := {}
    almChs := []
    alm := {}
    baseLog := []
    inj := {} }

/-- The block has no fault: every error the spec names is an effect on the state (R17, R40). -/
inductive Fault
  deriving DecidableEq, Repr

/-- Why a command is turned away. -/
inductive Refusal
  /-- Raised by the dispatcher alone, for a command without a meaning yet; safe: the machine stops. -/
  | notModelled (mnemonic : String)
  deriving DecidableEq, Repr

end Sys2Proof.Machine
end

