-- ==== Sys2Proof/Machine/Ops.lean ====
section
/-! DEFINITION. The named operations over registers, event counters, shadows, the Granary, time
and the Ledger, which every meaning is written with. -/

namespace Sys2Proof.Machine

/-! ### Sparse tables: strictly rising keys, no entry equal to the default -/

/-- The entry at key k, or the default d. -/
def sparseGet {α : Type} (m : List (Nat × α)) (d : α) (k : Nat) : α :=
  match m with
  | [] => d
  | e :: rest => if e.1 = k then e.2 else sparseGet rest d k

/-- Insert or replace the entry at k, keeping the keys rising. -/
def sparsePut {α : Type} (m : List (Nat × α)) (k : Nat) (v : α) : List (Nat × α) :=
  match m with
  | [] => [(k, v)]
  | e :: rest =>
    if k < e.1 then (k, v) :: e :: rest
    else if k = e.1 then (k, v) :: rest
    else e :: sparsePut rest k v

/-- Remove every entry at k. -/
def sparseErase {α : Type} (m : List (Nat × α)) (k : Nat) : List (Nat × α) :=
  match m with
  | [] => []
  | e :: rest => if e.1 = k then sparseErase rest k else e :: sparseErase rest k

/-- Write v at k; writing the default removes the entry, so equal tables are equal data. -/
def sparseSet {α : Type} [DecidableEq α] (m : List (Nat × α)) (d : α) (k : Nat) (v : α) :
    List (Nat × α) :=
  if v = d then sparseErase m k else sparsePut m k v

/-- The keys rise strictly. -/
def keysRise {α : Type} (m : List (Nat × α)) : Bool :=
  match m with
  | [] => true
  | e :: rest => (rest.all fun f => decide (e.1 < f.1)) && keysRise rest

/-- The canonical form with a default that may depend on the key. -/
def sparseWf {α : Type} [DecidableEq α] (m : List (Nat × α)) (d : Nat → α) : Bool :=
  keysRise m && m.all fun e => decide (e.2 ≠ d e.1)

/-! ### Bit fields and numbers -/

/-- Bits lo to lo + width − 1 of w. -/
def bitsGet (w lo width : Nat) : Nat := w / 2 ^ lo % 2 ^ width

/-- w with bits lo to lo + width − 1 replaced by v. -/
def bitsSet (w lo width v : Nat) : Nat :=
  w % 2 ^ lo + v % 2 ^ width * 2 ^ lo + w / 2 ^ (lo + width) * 2 ^ (lo + width)

/-- Bit b of w. -/
def bitOf (w b : Nat) : Bool := w / 2 ^ b % 2 == 1

/-- w with bit b set or cleared. -/
def bitPut (w b : Nat) (v : Bool) : Nat := bitsSet w b 1 (if v then 1 else 0)

/-- The two's-complement value of a width-bit number. -/
def toSigned (width v : Nat) : Int :=
  if v % 2 ^ width < 2 ^ (width - 1) then ((v % 2 ^ width : Nat) : Int)
  else ((v % 2 ^ width : Nat) : Int) - ((2 ^ width : Nat) : Int)

/-- The width-bit pattern of an integer, wrapping. -/
def ofSigned (width : Nat) (x : Int) : Nat := (x % ((2 ^ width : Nat) : Int)).toNat

/-- The nearest value of [lo, hi]. -/
def clampInt (lo hi x : Int) : Int := if x < lo then lo else if hi < x then hi else x

/-- The nearest value of [0, hi]. -/
def satNat (hi x : Nat) : Nat := if hi < x then hi else x

/-- An exact value as an integer where the spec gives no rounding: exact integers stay, and any other
value goes down or up by the free bit of Config (log 4). -/
def roundFree (tag : Nat) (x : Rat) : Int :=
  if (x.floor : Rat) = x then x.floor
  else if Config.roundUp tag x then x.floor + 1 else x.floor

/-- Rounding to the nearest integer; a tie goes either way, by the free bit (log 4). -/
def roundNear (tag : Nat) (x : Rat) : Int :=
  let y := x + 1 / 2
  if (y.floor : Rat) = y then (if Config.roundUp tag x then y.floor else y.floor - 1) else y.floor

/-- Rounding down. -/
def roundDown (x : Rat) : Int := x.floor

/-- |x| for rationals. -/
def absQ (x : Rat) : Rat := if x < 0 then -x else x

/-- The lesser and the greater of two rationals, and the nearest value of [lo, hi]. -/
def minQ (x y : Rat) : Rat := if x ≤ y then x else y
def maxQ (x y : Rat) : Rat := if x ≤ y then y else x
def clampQ (lo hi x : Rat) : Rat := if x < lo then lo else if hi < x then hi else x

/-- −1, 0 or 1. -/
def sgnQ (x : Rat) : Rat := if x < 0 then -1 else if 0 < x then 1 else 0

/-- How many of the bits 0 to n − 1 of a mask are set. -/
def popCount (n mask : Nat) : Nat := ((List.range n).filter fun b => bitOf mask b).length

/-- The numbers of the set bits of a mask below n, rising. -/
def bitList (n mask : Nat) : List Nat := (List.range n).filter fun b => bitOf mask b

/-- The mask whose set bits are the listed numbers. -/
def maskOf (bs : List Nat) : Nat := bs.foldl (fun m b => m ||| 2 ^ b) 0

/-- Bits of a that are not set in b. -/
def maskDiff (n a b : Nat) : Nat := maskOf ((bitList n a).filter fun x => !bitOf b x)

/-! ### Registers -/

/-- The key of register r with indices i and j. -/
def regKey (r : RegName) (i j : Nat) : Nat := Nat.pair r.ctorIdx (Nat.pair i j)

/-- The key of the event counter of bit b (R38). -/
def cntKey (r : RegName) (i b : Nat) : Nat := Nat.pair (regKey r i 0) b

/-- The key of a shadow: requester number and register (R692). -/
def shadowKey (who : Nat) (r : RegName) (i j : Nat) : Nat := Nat.pair who (regKey r i j)

/-- Channel n is enabled on this variant (R2). -/
def State.present (s : State) (n : Nat) : Bool := n < s.variant.channels

/-- The enabled channels, rising. -/
def State.chans (s : State) : List Nat := List.range s.variant.channels

/-- The bits of a device-wide register that belong to enabled channels (R2). -/
def State.chanMask (s : State) (w : Nat) : Nat := w % 2 ^ s.variant.channels

/-- The stored value of a register, as a number. -/
def State.reg (s : State) (r : RegName) (i : Nat := 0) (j : Nat := 0) : Nat :=
  (sparseGet s.regs (BitVec.ofNat 32 (regReset s.variant r i j)) (regKey r i j)).toNat

/-- Store a register. -/
def State.setReg (s : State) (r : RegName) (i j : Nat) (v : Nat) : State :=
  { s with
    regs := sparseSet s.regs (BitVec.ofNat 32 (regReset s.variant r i j)) (regKey r i j)
              (BitVec.ofNat 32 v) }

/-- A field of a register. -/
def State.fld (s : State) (f : Fld) (i : Nat := 0) (j : Nat := 0) : Nat :=
  bitsGet (s.reg f.reg i j) f.lo f.width

/-- A signed field of a register. -/
def State.sfld (s : State) (f : Fld) (i : Nat := 0) (j : Nat := 0) : Int :=
  toSigned f.width (s.fld f i j)

/-- A one-bit field as a truth value. -/
def State.bit (s : State) (f : Fld) (i : Nat := 0) (j : Nat := 0) : Bool := s.fld f i j != 0

/-- Write a field of a register. -/
def State.setFld (s : State) (f : Fld) (v : Nat) (i : Nat := 0) (j : Nat := 0) : State :=
  s.setReg f.reg i j (bitsSet (s.reg f.reg i j) f.lo f.width v)

/-- Write a signed field of a register, wrapping. -/
def State.setSFld (s : State) (f : Fld) (v : Int) (i : Nat := 0) (j : Nat := 0) : State :=
  s.setFld f (ofSigned f.width v) i j

/-- Write a signed field, saturating at the ends of the field. -/
def State.setSatFld (s : State) (f : Fld) (v : Int) (i : Nat := 0) (j : Nat := 0) : State :=
  s.setSFld f (clampInt (-((2 ^ (f.width - 1) : Nat) : Int)) (((2 ^ (f.width - 1) : Nat) : Int) - 1) v) i j

/-- Write a one-bit field. -/
def State.setBit (s : State) (f : Fld) (v : Bool) (i : Nat := 0) (j : Nat := 0) : State :=
  s.setFld f (if v then 1 else 0) i j

/-- The event counter of bit b (R38). -/
def State.cnt (s : State) (r : RegName) (i b : Nat) : Nat :=
  (sparseGet s.cnts 0 (cntKey r i b)).toNat

/-- Count one occurrence: the counter wraps at 2^32 (R38). -/
def State.count (s : State) (r : RegName) (i b : Nat) : State :=
  { s with cnts := sparseSet s.cnts 0 (cntKey r i b) (BitVec.ofNat 32 (s.cnt r i b + 1)) }

/-- An occurrence of the event of bit b of a W1C field: the bit sets and the counter counts (R37, R38). -/
def State.flag (s : State) (f : Fld) (i : Nat := 0) (b : Nat := 0) : State :=
  (s.setReg f.reg i 0 (bitPut (s.reg f.reg i 0) (f.lo + b) true)).count f.reg i (f.lo + b)

/-- An occurrence that happens only when the condition holds. -/
def State.flagIf (s : State) (c : Bool) (f : Fld) (i : Nat := 0) (b : Nat := 0) : State :=
  if c then s.flag f i b else s

/-- A shadow word of a requester (R692). -/
def State.shadow (s : State) (who : Nat) (r : RegName) (i j : Nat) : Nat :=
  (sparseGet s.shadows 0 (shadowKey who r i j)).toNat

/-- Load a shadow word. -/
def State.setShadow (s : State) (who : Nat) (r : RegName) (i j v : Nat) : State :=
  { s with shadows := sparseSet s.shadows 0 (shadowKey who r i j) (BitVec.ofNat 32 v) }

/-- Load the shadows of words js of register r from the register itself. -/
def State.loadShadows (s : State) (who : Nat) (r : RegName) (i : Nat) (js : List Nat) : State :=
  js.foldl (fun t j => t.setShadow who r i j (s.reg r i j)) s

/-! ### Time -/

/-- Nanoseconds since power-on on the local oscillator: 4 ns an edge (R573). -/
def State.now (s : State) : Nat := 4 * s.osc

/-- At least `dur` ns have passed since `t0`. -/
def State.elapsed (s : State) (t0 dur : Nat) : Bool := t0 + dur ≤ s.now

/-- Time base tb: seconds and nanoseconds (R573). -/
def State.tbSec (s : State) (tb : Nat) : Nat := (sparseGet s.tbs {} tb).sec
def State.tbNs (s : State) (tb : Nat) : Nat := (sparseGet s.tbs {} tb).ns

/-- Draw a free value: the plain counter advances and names it (log 7). -/
def State.free (s : State) (tag : Nat) : Nat := Config.freeNat tag s.fresh
def State.draw (s : State) : State := { s with fresh := s.fresh + 1 }

/-! ### Messages, answers -/

/-- Send a message. -/
def State.send (s : State) (m : Msg) : State := { s with outbox := s.outbox ++ [m] }

/-- Answer the session. -/
def State.answer (s : State) (r : Resp) : State := { s with resp := r }

/-! ### The Granary (R693 to R695) -/

/-- What an unlisted byte reads: an entry of the latest-cell table without a record reads 0x0180_0000 (R397),
every other byte 0 (log 2). -/
def memDefault (a : Nat) : Byte :=
  if 0x1003F00000 ≤ a ∧ a < 0x1003F10000 then
    (if a % 4 = 2 then 0x80 else if a % 4 = 3 then 0x01 else 0)
  else 0

/-- The byte at an address. -/
def memByte (m : List Host.Cell) (a : Nat) : Byte := sparseGet m (memDefault a) a

/-- Write one byte. -/
def memPut (m : List Host.Cell) (a : Nat) (b : Byte) : List Host.Cell := sparseSet m (memDefault a) a b

/-- The canonical form of the Granary list. -/
def Memory.wf (m : List Host.Cell) : Bool := sparseWf m memDefault

/-- n bytes from an address as a little-endian number (R16). -/
def memLe (m : List Host.Cell) (a n : Nat) : Nat :=
  match n with
  | 0 => 0
  | k + 1 => (memByte m a).toNat + 256 * memLe m (a + 1) k

/-- Write a number as n little-endian bytes. -/
def memPutLe (m : List Host.Cell) (a n v : Nat) : List Host.Cell :=
  match n with
  | 0 => m
  | k + 1 => memPutLe (memPut m a (BitVec.ofNat 8 v)) (a + 1) k (v / 256)

/-- A 32-bit word of the Granary. -/
def State.word (s : State) (a : Nat) : Nat := memLe s.mem a 4

/-- Write a 32-bit word of the Granary. -/
def State.setWord (s : State) (a v : Nat) : State := { s with mem := memPutLe s.mem a 4 v }

/-- Write consecutive words. -/
def State.setWords (s : State) (a : Nat) (vs : List Nat) : State :=
  match vs with
  | [] => s
  | v :: rest => (s.setWord a v).setWords (a + 4) rest

/-- Write consecutive bytes. -/
def memPutBytes (m : List Host.Cell) (a : Nat) (bs : List Nat) : List Host.Cell :=
  match bs with
  | [] => m
  | b :: rest => memPutBytes (memPut m a (BitVec.ofNat 8 b)) (a + 1) rest

/-! ### CRC-32C (R75, R103, R614): reflected, initial value and final XOR 0xFFFFFFFF -/

/-- One bit, and one byte, of the division. -/
def crcBit (c : Nat) : Nat := if c % 2 = 1 then (c / 2) ^^^ 0x82F63B78 else c / 2
def crcByte (c b : Nat) : Nat := (List.range 8).foldl (fun a _ => crcBit a) (c ^^^ b)

/-- The CRC-32C of bytes. -/
def crc32c (bs : List Nat) : Nat := bs.foldl crcByte 0xFFFFFFFF ^^^ 0xFFFFFFFF

/-! ### Partners judged in the first roll-call pass (R82) -/

/-- The marks of a pier link, of position p of a chain, and of a Span port. -/
def partnerLink (n : Nat) : Nat := n
def partnerNode (n p : Nat) : Nat := 32 + 16 * n + p
def partnerPort (p : Nat) : Nat := 1000 + p

/-- A partner has been admitted or moved to a refused state. -/
def State.judge (s : State) (k : Nat) : State :=
  { s with judged := if s.judged.contains k then s.judged else k :: s.judged }

/-! ### The hidden records of each channel -/

def State.lk (s : State) (n : Nat) : Link := sparseGet s.links {} n
def State.setLk (s : State) (n : Nat) (l : Link) : State := { s with links := sparseSet s.links {} n l }
def State.ins (s : State) (n : Nat) : Ins := sparseGet s.inss {} n
def State.setIns (s : State) (n : Nat) (x : Ins) : State := { s with inss := sparseSet s.inss {} n x }
def State.chain (s : State) (n : Nat) : Chain := sparseGet s.chains {} n
def State.setChain (s : State) (n : Nat) (x : Chain) : State := { s with chains := sparseSet s.chains {} n x }
def State.prot (s : State) (n : Nat) : Prot := sparseGet s.prots {} n
def State.setProt (s : State) (n : Nat) (x : Prot) : State := { s with prots := sparseSet s.prots {} n x }
def State.trim (s : State) (n : Nat) : Trim := sparseGet s.trims {} n
def State.setTrim (s : State) (n : Nat) (x : Trim) : State := { s with trims := sparseSet s.trims {} n x }
def State.strm (s : State) (n : Nat) : Strm := sparseGet s.strms {} n
def State.setStrm (s : State) (n : Nat) (x : Strm) : State := { s with strms := sparseSet s.strms {} n x }
def State.almCh (s : State) (n : Nat) : AlmCh := sparseGet s.almChs {} n
def State.setAlmCh (s : State) (n : Nat) (x : AlmCh) : State := { s with almChs := sparseSet s.almChs {} n x }

/-- The record of a session. -/
def State.session (s : State) (k : Nat) : Sess := sparseGet s.sess {} k
def State.setSession (s : State) (k : Nat) (x : Sess) : State := { s with sess := sparseSet s.sess {} k x }

/-! ### The Ledger (R651, R652, R654) -/

/-- Body bytes of a record: as R648 and the sizes of chapter 17's worked example give them, else four bytes a
value (log 8). -/
def LedgerRec.bodyBytes (r : LedgerRec) : Nat :=
  match r.kind with
  | 0x10 => 24
  | 0x40 => 104
  | 0x41 => 48
  | 0x43 => 2064
  | _ => 4 * r.body.length

/-- Bytes of a record: header, body padded to 16 bytes, CHAIN (R651). -/
def LedgerRec.bytes (r : LedgerRec) : Nat := 48 + (r.bodyBytes + 15) / 16 * 16

/-- Bytes waiting in the buffer, and those of bulk records. -/
def Ldg.waiting (l : Ldg) : Nat := l.buffer.foldl (fun a e => a + e.1.bytes) 0
def Ldg.bulkWaiting (l : Ldg) : Nat := l.buffer.foldl (fun a e => if e.1.urgent then a else a + e.1.bytes) 0

/-- The bulk share of the buffer is full, so bulk producers wait (R654). -/
def State.bulkFull (s : State) : Bool := 458752 ≤ s.ldg.bulkWaiting

/-- FILL of LDG_STATE: the buffer of 512 KiB in % (R654, R663). -/
def State.showFill (s : State) : State :=
  s.setFld F.LDG_STATE_FILL (satNat 100 (s.ldg.waiting * 100 / 524288))

/-- Append a record: it takes the next SEQ, the stamp of time base 0 and the next CHAIN, and waits in
the buffer for both flashes. -/
def State.ledgerAt (s : State) (kind : Nat) (urgent st : Bool) (keyv : Nat) (body : List Nat)
    (sec ns : Nat) : State :=
  let seq := s.reg .LDG_SEQ 0 0 + 2 ^ 32 * s.reg .LDG_SEQ 1 0
  let chain := Config.chainHash s.ldg.chain ([kind, seq, sec, ns, keyv] ++ body)
  let rec_ : LedgerRec := ⟨kind, urgent, st, seq, sec, ns, keyv, body, chain⟩
  let l : Ldg := { s.ldg with
    chain := chain
    buffer := s.ldg.buffer ++ [(rec_, 0)]
    sinceSeal := s.ldg.sinceSeal + 1
    firstSec := some (s.ldg.firstSec.getD sec) }
  let s := { s with ldg := l }
  ((s.setReg .LDG_SEQ 0 0 ((seq + 1) % 2 ^ 32)).setReg .LDG_SEQ 1 0 ((seq + 1) / 2 ^ 32)).showFill

/-- Append an urgent event record stamped now (R15). -/
def State.ledger (s : State) (kind : Nat) (body : List Nat) : State :=
  s.ledgerAt kind true false 0 body (s.tbSec 0) (s.tbNs 0)

/-- Append an urgent STATE record. -/
def State.ledgerState (s : State) (kind keyv : Nat) (body : List Nat) : State :=
  s.ledgerAt kind true true keyv body (s.tbSec 0) (s.tbNs 0)

/-- Append a bulk STATE record. -/
def State.ledgerBulk (s : State) (kind keyv : Nat) (body : List Nat) : State :=
  s.ledgerAt kind false true keyv body (s.tbSec 0) (s.tbNs 0)

/-! ### Sessions and writes (R20, R21, R637, R642, R647, R648) -/

/-- The number of a role in an audit record (R648). -/
def roleCode : Role → Nat
  | .operator => 1
  | .installer => 2
  | .maker => 3

/-- Little-endian bytes of a number. -/
def leBytes (n v : Nat) : List Nat :=
  match n with
  | 0 => []
  | k + 1 => v % 256 :: leBytes k (v / 256)

/-- The bases of R16 and R690. -/
def Region.base : Region → Nat
  | .keystone => 0x0000000000
  | .supply => 0x0010000000
  | .pier => 0x0100000000
  | .pierCommon => 0x0102000000
  | .measure => 0x0200000000
  | .hedgerow => 0x0300000000
  | .mill => 0x0400000000
  | .commons => 0x0500000000
  | .belfry => 0x0600000000

/-- The address of a register: base, block offset and instance offset (R689). -/
def regAddr (r : RegName) (i j : Nat) : Nat :=
  let f := regInfo r
  f.region.base + f.off + f.si * i + f.sj * j

/-- The key of a containment unit or a tile (R27, R28): region, block, tile, and the block's own arbiter
or report path. -/
def unitKey (region block tile : Nat) (arb : Bool) : Nat :=
  ((region * 64 + block) * 32 + tile) * 2 + (if arb then 1 else 0)

/-- What the device holds for a containment unit. -/
def State.unitRec (s : State) (key : Nat) : UnitRec := sparseGet s.units {} key

/-- The containment unit is fenced: restarting or retired (R43). -/
def State.fenced (s : State) (key : Nat) : Bool :=
  let u := sparseGet s.units {} key
  u.restarting || u.retired

/-- The containment units that hold register r of index i, where the registers of a unit are a channel's, a block's, a
timer's or a port's own (R27, R28, R44, R45). -/
def regUnits (r : RegName) (i : Nat) : List Nat :=
  let f := regInfo r
  match r with
  | .MEAS_SEQ_CFG | .MEAS_RTRIG | .MEAS_ITRIG | .MEAS_INJ_CFG | .MEAS_ADC_CFG | .MEAS_IN_CFG | .MEAS_OW_CFG
  | .MEAS_CONV_REF => [unitKey 1 (12 * i / f.ni) 0 false]
  | .TAL_CFG | .TAL_RELOAD | .TAL_CMP | .TAL_ACT | .TAL_SYNC => [unitKey 1 (20 + i / 32) 0 false]
  | .COM_PORT_CFG => [unitKey 5 8 i false, unitKey 5 8 0 true]
  | .ALM_CFG | .ALM_CFG2 | .ALM_OVR | .ALM_OVR_VAL | .ALM_CMD => [unitKey 6 3 0 false]
  | _ =>
    if ¬ f.chan then []
    else match f.region with
      | .pier => [unitKey 0 (i / 4) (2 * (i % 4)) false, unitKey 0 (i / 4) 0 true]
      | .measure => [unitKey 1 (12 + i / 4) 0 false]
      | .hedgerow => [unitKey 2 (i / 4) 0 false]
      | _ => []

/-- The unit of register r of index i is in restart: an access from another block gets an error response (R43). -/
def State.regHeld (s : State) (r : RegName) (i : Nat) : Bool :=
  (regUnits r i).any fun u => (s.unitRec u).restarting

/-- The Granary block that holds address a is in restart: accesses are refused (R48). -/
def State.granHeld (s : State) (a : Nat) : Bool :=
  (s.unitRec (unitKey 4 ((a - 0x1000000000) / 0x100000) 0 false)).restarting

/-- Channel n's own unit or its Pier block is fenced (R44). -/
def State.chanFenced (s : State) (n : Nat) : Bool :=
  s.fenced (unitKey 0 (n / 4) (2 * (n % 4)) false) || s.fenced (unitKey 0 (n / 4) 0 true)

/-- A port tile, or the port block's arbiter, is fenced (R45). -/
def State.portFenced (s : State) (p : Nat) : Bool := s.fenced (unitKey 5 8 p false) || s.fenced (unitKey 5 8 0 true)

/-- Requester `who` may act: an engine (256 on) that neither reset nor a debug halt nor a fence stops, or a session that
is open (R43, R70, R637, R644, R692). -/
def State.reader (s : State) (who : Nat) : Bool :=
  if 256 ≤ who then !s.sup.inReset && !s.tg.halted.contains (who - 256) && !s.fenced (unitKey 3 ((who - 256) / 16) 0 false)
  else (s.session who).isOpen

/-- A record of session k arrives: it is not idle (R543). -/
def State.touch (s : State) (k : Nat) : State :=
  if (s.session k).isOpen then s.setSession k { s.session k with lastAt := s.now } else s

/-- A read of word j of register r that loads the shadows of the listed words for its requester (R692); a
register of an absent channel reads 0 and loads nothing (R2), one of a unit in restart answers an error (R43). -/
def State.loadingRead (s : State) (who : Nat) (r : RegName) (i j : Nat) (loads : List (RegName × Nat × Nat)) :
    State :=
  let s := if who < 256 then s.touch who else s
  if ¬ s.reader who then s.answer .refused
  else if (regInfo r).chan ∧ ¬ s.present i then s.answer (.ok 0)
  else if s.regHeld r i then s.answer .error
  else (loads.foldl (fun t e => t.setShadow who e.1 e.2.1 e.2.2 (s.reg e.1 e.2.1 e.2.2)) s).answer
    (.ok (s.reg r i j))

/-- The body of an audit record of a write (R648). -/
def State.auditBody (s : State) (k result addr old new : Nat) : List Nat :=
  [k, roleCode (s.session k).role, result, 0] ++ leBytes 5 addr ++ [0, 0, 0] ++ leBytes 4 old ++ leBytes 4 new ++
    [0, 0, 0, 0]

/-- An audit record of a refused write; a session's refusals beyond 16 in one second are only counted there (R647). -/
def State.auditRefused (s : State) (k result addr old new : Nat) : State :=
  let x := s.session k
  let body := s.auditBody k result addr old new
  let s := s.setSession k { x with refused := x.refused + 1 }
  if x.refused < 16 then s.ledger 0x10 body else s

/-- An audit record of a write to an LK field (R647, R648). -/
def State.auditWrite (s : State) (k : Nat) (r : RegName) (i j result new : Nat) : State :=
  let x := s.session k
  if r = .DSP_REQ then s.setSession k { x with dspWrites := x.dspWrites + 1 }
  else if result = 0 then s.ledger 0x10 (s.auditBody k result (regAddr r i j) (s.reg r i j) new)
  else s.auditRefused k result (regAddr r i j) (s.reg r i j) new

/-- A refused write (R21): the field stays, the session is told, the attempt is recorded. -/
def State.refuse (s : State) (k : Nat) (r : RegName) (i j result new : Nat) : State :=
  ((s.flag F.TG_FLAGS_WRITE_REFUSED).auditWrite k r i j result new).answer .refused

/-- An accepted write: recorded when the register is an LK register, and acknowledged. -/
def State.accept (s : State) (k : Nat) (r : RegName) (i j new : Nat) : State :=
  let s := { s with resp := .ok new }
  s.auditWrite k r i j 0 new

/-- The word that a write would leave: every writable field brought into its range (R34 and the
register tables), every other bit as it stands. -/
def writeWord (fs : List WField) (old value : Nat) : Nat :=
  match fs with
  | [] => old
  | f :: rest =>
    let raw := bitsGet value f.lo f.width
    let x : Int := if f.signed then toSigned f.width raw else (raw : Int)
    writeWord rest (bitsSet old f.lo f.width (ofSigned f.width (clampInt f.min f.max x))) value

/-- The range rule that a register's own text adds to its fields' ranges: CAL_DT of R346 and FEED_GOOD
of R89 (with the lead absent on the smaller variants). -/
def fixWord (v : Variant) (r : RegName) (old w : Nat) : Nat :=
  match r with
  | .MEAS_REF_CFG =>
    let d := bitsGet w 24 8
    if 1 ≤ d ∧ d ≤ 4 then bitsSet w 24 8 5 else w
  | .SUP_FEED_CFG =>
    let warn := bitsGet w 0 8
    let w := if bitsGet w 8 8 < warn + 10 then bitsSet w 8 8 (warn + 10) else w
    if v = .gk6432 then w else bitsSet w 16 12 (bitsGet old 16 12)
  | _ => w

/-- The word that a session's write leaves in register r. -/
def State.newWord (s : State) (r : RegName) (i j value : Nat) : Nat :=
  fixWord s.variant r (s.reg r i j) (writeWord (writeFields r) (s.reg r i j) value)

/-- The adjustable-set result of an installer write (R642): 0 allowed, 2 LOCKED, 3 outside bounds.
Only fields whose value the write changes count. -/
def adjCheck (marks : List AdjMark) (key old new : Nat) : Nat :=
  match marks with
  | [] => 0
  | m :: rest =>
    if m.key = key ∧ bitsGet old m.lo m.width ≠ bitsGet new m.lo m.width then
      if m.locked then 2
      else
        let v : Int := if m.min < 0 then toSigned m.width (bitsGet new m.lo m.width)
          else (bitsGet new m.lo m.width : Int)
        if v < m.min ∨ m.max < v then 3 else adjCheck rest key old new
    else adjCheck rest key old new

/-- The roles that may write register r; those of time bases 0 to 3 are the maker's, those of 4 to 7 the
installer's (R574, spec chapter 15, Registers). -/
def regRoles (r : RegName) (i : Nat) : List Role :=
  match r with
  | .TB_INC_FRAC | .TB_INC_NS | .TB_ADJ | .TB_CFG | .TB_SET_NS | .TB_SET_SEC_LO | .TB_SET_SEC_HI
  | .TB_SET_FRAC | .TB_CMD => if i < 4 then [.maker] else [.installer]
  | _ => (regInfo r).roles

/-- Safe-state (R47): operator sessions are read-only, installers and makers may only request recovery; no session
write is taken, a clear of a W1C flag neither. -/
def State.safe (s : State) : Bool := s.fld F.KEY_FAB_STATE_STATE == 3

/-- Why a write of register r by session k is refused: 0 accepted, else the result code of R648.
`ok` is the register's own constraint. -/
def State.writeResult (s : State) (k : Nat) (r : RegName) (i j new : Nat) (ok : Bool) : Nat :=
  let x := s.session k
  if ¬ x.isOpen ∨ x.role ∉ regRoles r i then 1
  else if s.safe ∧ r ≠ .KEY_RECOVER ∧ r ≠ .SUP_RESET_CMD then 4
  else if x.role = .maker ∧ ¬ s.bit F.TG_STATE_MAKER_EN then 5
  else
    let a := if x.role = .installer then adjCheck s.charter.marks (regKey r i j) (s.reg r i j) new else 0
    if a ≠ 0 then a else if ok then 0 else 4

/-- A session's write of a register that has a row of its own or constraint `ok`: refused as R21 says,
or stored, recorded and followed by `after`.  In reset nothing takes it (R70).  A register of an absent channel discards it (R2), one of a unit in
restart answers an error (R43). -/
def State.sessionWrite (s : State) (k : Nat) (r : RegName) (i j value : Nat) (ok : Nat → Bool)
    (after : State → State) : State :=
  let s := s.touch k
  if s.sup.inReset then s
  else if (regInfo r).chan ∧ ¬ s.present i then s.answer (.ok 0)
  else if s.regHeld r i then s.answer .error
  else
    let new := s.newWord r i j value
    let res := s.writeResult k r i j new (ok new)
    if res ≠ 0 then s.refuse k r i j res new
    else after ((s.accept k r i j new).setReg r i j new)

/-- A session's command write of a write-only register: the word is not stored; `ok` are the conditions
under which it is taken, and `act` is what it does. -/
def State.sessionCommand (s : State) (k : Nat) (r : RegName) (i j value : Nat) (ok : Bool)
    (act : State → State) : State :=
  let s := s.touch k
  if s.sup.inReset then s
  else if (regInfo r).chan ∧ ¬ s.present i then s.answer (.ok 0)
  else if s.regHeld r i then s.answer .error
  else
    let res := s.writeResult k r i j (s.reg r i j) ok
    if res ≠ 0 then s.refuse k r i j res value
    else act (s.accept k r i j value)

end Sys2Proof.Machine
end

