-- ==== Sys2Proof/Machine/Flags.lean ====
section
/-! DEFINITION. What several chapters raise together: dispatch events (R511), recorder triggers
(R517), zero requests (R510), and the names of state codes. -/

namespace Sys2Proof.Machine

/-! ### Channel states (R143), link states (R126), trim states (R246) -/

abbrev csOpen : Nat := 0
abbrev csWait : Nat := 1
abbrev csCheck : Nat := 2
abbrev csSense : Nat := 3
abbrev csAlign : Nat := 4
abbrev csLimit : Nat := 5
abbrev csRamp : Nat := 6
abbrev csEnhance : Nat := 7
abbrev csConfirm : Nat := 8
abbrev csReady : Nat := 9
abbrev csOpening : Nat := 10
abbrev csTripped : Nat := 11
abbrev csLocked : Nat := 12

abbrev lsDown : Nat := 0
abbrev lsBlock : Nat := 1
abbrev lsFrame : Nat := 2
abbrev lsIdentify : Nat := 3
abbrev lsConfigure : Nat := 4
abbrev lsAdmitted : Nat := 5
abbrev lsRefused : Nat := 6
abbrev lsLost : Nat := 7

abbrev tsOff : Nat := 0
abbrev tsAlign : Nat := 1
abbrev tsHold : Nat := 2
abbrev tsShare : Nat := 3
abbrev tsVolt : Nat := 4
abbrev tsFreeze : Nat := 5
abbrev tsReturn : Nat := 6
abbrev tsLost : Nat := 7

/-- The state of channel n (R143), of its link (R126) and of its trim (R246). -/
def State.cstate (s : State) (n : Nat) : Nat := s.fld F.INS_STATE_CSTATE n
def State.lstate (s : State) (n : Nat) : Nat := s.fld F.PLK_STATE_LSTATE n
def State.tstate (s : State) (n : Nat) : Nat := s.fld F.TRM_STATE_TSTATE n

/-- The gated states of R196. -/
def State.gated (s : State) (n : Nat) : Bool := csLimit ≤ s.cstate n && s.cstate n ≤ csReady

/-- OPEN, TRIPPED or LOCKED: the pass switch is commanded open (R131). -/
def State.resting (s : State) (n : Nat) : Bool :=
  s.cstate n == csOpen || s.cstate n == csTripped || s.cstate n == csLocked

/-- PHASE of R94: 4 is RUN, 5 is SAFE_IDLE. -/
def State.phase (s : State) : Nat := s.fld F.KEY_START_STATE_PHASE

/-! ### Events and the recorder -/

/-- What a service publishes goes to every session that has opened it (R518, R543). -/
def State.publish (s : State) (v : Service) (words : List Nat) : State :=
  let ks := (s.sess.filter fun e => e.2.isOpen && e.2.services.contains v).map fun e => e.1
  { s with com := { s.com with pubs := s.com.pubs ++ ks.map fun k => ⟨k, v, words⟩ } }

/-- Queue a dispatch event (R511): a full FIFO loses its oldest word and sets EVT_OVERFLOW. -/
def State.event (s : State) (code ch : Nat) (ack : Bool) : State :=
  let w := code + 2 ^ 8 * (ch % 32) + (if ack then 2 ^ 13 else 0) + 2 ^ 16 * (s.evtSeq % 2 ^ 16)
  let full := 256 ≤ s.evtFifo.length
  let s := s.flagIf full F.DSP_FLAGS_EVT_OVERFLOW
  let fifo := if full then s.evtFifo.drop 1 else s.evtFifo
  ({ s with
    evtFifo := fifo ++ [w]
    evtSeq := s.evtSeq + 1
    evtPending := if ack then s.evtPending ++ [(code, ch)] else s.evtPending }).publish .events [w]

/-- Frames before the trigger that PRE asks for (R517). -/
def State.recPre (s : State) : Nat := s.fld F.DSP_REC_STATE_CAP * s.fld F.DSP_REC_CFG_PRE / 16

/-- ARMED to POST on a trigger of the given cause (R517). -/
def State.recStart (s : State) (cause ch : Nat) : State :=
  let pre := s.recPre
  let s := s.setFld F.DSP_REC_STATE_RSTATE 2
  let s := s.setFld F.DSP_REC_TRIG_CAUSE cause
  let s := s.setFld F.DSP_REC_TRIG_CHANNEL ch
  let s := s.setBit F.DSP_REC_TRIG_PRE_SHORT (s.recorder.written < pre)
  let s := s.setBit F.DSP_REC_TRIG_MORE false
  let s := s.setReg .DSP_REC_STAMP 0 0 (s.tbSec 0)
  let s := s.setReg .DSP_REC_STAMP 1 0 (s.tbNs 0)
  { s with recorder := { s.recorder with
      left := s.fld F.DSP_REC_STATE_CAP - pre
      trigPending := true
      trigAt := (s.tbSec 0 : Int) * 1000000000 + (s.tbNs 0 : Int) } }

/-- A trigger reaches the recorder (R517): ARMED starts POST, POST sets MORE, else REC_MISSED sets and the trigger is
counted. -/
def State.recAny (s : State) (cause ch : Nat) : State :=
  if s.fld F.DSP_REC_STATE_RSTATE = 1 then s.recStart cause ch
  else if s.fld F.DSP_REC_STATE_RSTATE = 2 then s.setBit F.DSP_REC_TRIG_MORE true
  else
    let s := s.flag F.DSP_FLAGS_REC_MISSED
    { s with recorder := { s.recorder with missed := s.recorder.missed + 1 } }

/-- An event that is a trigger when its MASK bit is set (R517). -/
def State.recTrigger (s : State) (maskBit ch : Nat) : State :=
  if bitOf (s.fld F.DSP_REC_CFG_MASK) maskBit then s.recAny maskBit ch else s

/-- Channel n leaves READY, enters active limit or starts BLOCKING: its limits are due (R509). -/
def State.limitsDue (s : State) (n : Nat) : State :=
  { s with dsp := { s.dsp with due := bitPut s.dsp.due n true, affected := bitPut s.dsp.affected n true } }

/-- FAILWARN_N (R71, R83, R85, R215): asserted by P1 or a bus failure in RUN, or held under R85; never on the smaller
variants (R3). -/
def State.showFailwarn (s : State) : State :=
  let want := s.variant == .gk6432 &&
    (s.sup.warnHeld || (s.phase == 4 && (s.sup.warned || s.bit F.PROT_BUS_STATE_WARN)))
  if want = s.bit F.SUP_STATE_FAILWARN then s
  else (s.setBit F.SUP_STATE_FAILWARN want).send (.failwarn want)

/-! ### Zero requests -/

/-! ### Field nodes and balancing (R406, R412, R513) -/

abbrev hrDown : Nat := 0
abbrev hrLinkUp : Nat := 1
abbrev hrEnum : Nat := 2
abbrev hrIdent : Nat := 3
abbrev hrTiming : Nat := 4
abbrev hrRun : Nat := 5
abbrev hrFault : Nat := 6

abbrev ndAbsent : Nat := 0
abbrev ndFound : Nat := 1
abbrev ndIdent : Nat := 2
abbrev ndAdmitted : Nat := 3
abbrev ndRefused : Nat := 4
abbrev ndLost : Nat := 5

def State.hstate (s : State) (n : Nat) : Nat := s.fld F.HR_STATE_CSTATE n
def State.nstate (s : State) (n p : Nat) : Nat := s.fld F.HR_NODE_NSTATE n p
def State.node (s : State) (n p : Nat) : Node := sparseGet s.nodes {} (16 * n + p)
def State.setNode (s : State) (n p : Nat) (x : Node) : State :=
  { s with nodes := sparseSet s.nodes {} (16 * n + p) x }

/-- Positions in a given state. -/
def State.nodesIn (s : State) (n st : Nat) : List Nat := (List.range 16).filter fun p => s.nstate n p == st

/-- Queue a command for a node. -/
def State.nodeCmd (s : State) (n p op word : Nat) (data : List Nat) : State :=
  s.setChain n { s.chain n with cmds := (s.chain n).cmds ++ [⟨p, op, word, data⟩] }

/-- The nodes that may be sent balancing commands: ADMITTED, with balancing fitted (R412). -/
def State.balNodes (s : State) (n : Nat) : List Nat :=
  (s.nodesIn n ndAdmitted).filter fun p => bitOf (s.node n p).caps 0

/-- Balancing of string n is suspended at once: BAL_STOP to every node, BAL_SUSPEND (R513, R519). -/
def State.balStop (s : State) (n : Nat) : State :=
  if s.fld F.DSP_BAL_CFG_BAL_MODE ≠ 1 ∨ s.hstate n ≠ hrRun ∨ s.bit F.DSP_STR_BAL_SUSPENDED n then s
  else
    let s := (s.balNodes n).foldl (fun t p => t.nodeCmd n p 0x11 0 []) s
    let s := { s with dsp := { s.dsp with bleeding := s.dsp.bleeding.filter fun k => k / 512 != n } }
    let s := (s.flag F.DSP_FLAGS_BAL_SUSPEND).setBit F.DSP_STR_BAL_SUSPENDED true n
    s.setFld F.DSP_STR_BAL_BLEEDING 0 n

/-- A zero request for string n (R510): its target fraction goes to 0 at once, by an interpolation of 0.8 s
that starts at the next period boundary. -/
def State.zeroRequest (s : State) (n : Nat) : State :=
  match (s.trim n).zeroAt with
  | some _ => s
  | none =>
    let s := s.balStop n
    let s := s.setTrim n { s.trim n with zeroAt := some s.now }
    if s.tstate n = tsShare ∨ s.tstate n = tsFreeze then
      { s.setFld F.SHR_FRAC_F_TGT 0 n with share := { s.share with forced := true } }
    else s

/-- The stream block or the Hedgerow port block of string n is retired: its share stays at zero (R48). -/
def State.blockGone (s : State) (n : Nat) : Bool :=
  (s.unitRec (unitKey 1 (12 + n / 4) 0 false)).retired || (s.unitRec (unitKey 2 (n / 4) 0 false)).retired

/-- A link fault injection ends (R557, R558): the cause shows, INJ_END sets, and the end is recorded. -/
def State.injEnd (s : State) (cause : Nat) : State :=
  if ¬ s.bit F.INJ_STATE_ACTIVE then s
  else
    let s := s.setBit F.INJ_STATE_ACTIVE false
    let s := s.setFld F.INJ_STATE_END_CAUSE cause
    (s.flag F.COM_FLAGS_INJ_END).ledger 0x37
      [1, s.inj.sess, s.reg .INJ_CFG, s.reg .INJ_CFG2, s.inj.count, cause]

/-- A frame belongs to the selection of INJ_CFG (R556): link, index, direction and, on Ethernet and Span, class. -/
def State.injSel (s : State) (target idx : Nat) (rx : Bool) (cls : Nat) : Bool :=
  s.fld F.INJ_CFG_TARGET == target && s.fld F.INJ_CFG_INDEX == idx && s.bit F.INJ_CFG_DIR == rx &&
  (target < 2 || bitOf (s.fld F.INJ_CFG_CLASS_MASK) cls)

/-- What the injection does with a frame (R556): 0 nothing, 1 DROP, 2 CORRUPT, 3 REORDER; it acts on every EVERY-th
frame and ends when COUNT is reached. -/
def State.injPick (s : State) (target idx : Nat) (rx : Bool) (cls : Nat) : State × Nat :=
  if ¬ s.bit F.INJ_STATE_ACTIVE ∨ ¬ s.injSel target idx rx cls then (s, 0)
  else
    let k := s.inj.seen + 1
    let s := { s with inj := { s.inj with seen := k } }
    if k % s.fld F.INJ_CFG_EVERY ≠ 0 then (s, 0)
    else
      let act := s.fld F.INJ_CFG_ACTION + 1
      let done := satNat 0xFFFF (s.fld F.INJ_STATE_DONE + 1)
      let s := s.setFld F.INJ_STATE_DONE done
      (if s.inj.count ≠ 0 ∧ done = s.inj.count then s.injEnd 2 else s, act)

/-- A frame that is not held back goes out as the injection leaves it (0 passes, 1 dropped, 2 corrupted). -/
def State.injPass (s : State) (act : Nat) (m : Msg) : State :=
  if act = 1 then s else if act = 2 then s.send (.corrupted (s.fld F.INJ_CFG2_BIT_POS) m) else s.send m

/-- The held frame follows it. -/
def State.injRelease (s : State) (held : Option Msg) : State :=
  match held with
  | some x => ({ s with inj := { s.inj with heldTx := none } }).send x
  | none => s

/-- A frame is sent on a link that may be under injection; a held one follows the next of its selection. -/
def State.injSend (s : State) (target idx cls : Nat) (m : Msg) : State :=
  let held := if s.injSel target idx false cls then s.inj.heldTx else none
  let r := s.injPick target idx false cls
  if r.2 = 3 ∧ held.isNone then { r.1 with inj := { r.1.inj with heldTx := some m } }
  else (r.1.injPass r.2 m).injRelease held

/-- A frame i is received on such a link: 0 it passes, 1 it is dropped, 2 it is corrupted, 3 it is held; and the
held frame that follows it. -/
def State.injReceive (s : State) (target idx cls : Nat) (i : Instr) : State × Nat × Option Instr :=
  let held := if s.injSel target idx true cls then s.inj.heldRx else none
  let r := s.injPick target idx true cls
  match r.2, held with
  | 3, none => ({ r.1 with inj := { r.1.inj with heldRx := some i } }, 3, none)
  | a, some x => ({ r.1 with inj := { r.1.inj with heldRx := none } }, if a = 3 then 0 else a, some x)
  | a, none => (r.1, a, none)

/-- A Span port that is DOWN and not fenced enters SELF_TEST (R45, R552). -/
def State.spanTest (s : State) (p : Nat) : State :=
  if s.fld F.COM_PORT_STATE_PSTATE p = 0 ∧ ¬ s.portFenced p then s.setFld F.COM_PORT_STATE_PSTATE 1 p else s

/-- The Span ports that are DOWN enter SELF_TEST once enabled and PHASE has reached ROLL_CALL (R552). -/
def State.spanStart (s : State) : State :=
  if s.bit F.SPAN_CFG_SPAN_EN ∧ (s.phase = 3 ∨ s.phase = 4) ∧
      (s.fld F.COM_PORT_STATE_PSTATE 2 = 0 ∨ s.fld F.COM_PORT_STATE_PSTATE 3 = 0) then
    let s := (s.spanTest 2).spanTest 3
    { s with span := { s.span with testAt := s.now } }
  else s

/-- An INSERT accepted on channel n ends the injections that R557 lists for it. -/
def State.injInsert (s : State) (n : Nat) : State :=
  let t := s.fld F.INJ_CFG_TARGET
  if 2 ≤ t ∨ s.fld F.INJ_CFG_INDEX = n then s.injEnd 4 else s

end Sys2Proof.Machine
end

