-- ==== Sys2Proof/Machine/Operands.lean ====
section
/-! DEFINITION. The forms that operands take: stream words (R109), gate telemetry (R111), uplink
status bits (R108), temperatures, single-precision fields, byte strings. -/

namespace Sys2Proof.Machine

/-- The CUR half of a stream word (R109). -/
def curHalf (w : Nat) : Nat := w % 2 ^ 16
/-- The PREV half of a stream word (R109). -/
def prevHalf (w : Nat) : Nat := w / 2 ^ 16 % 2 ^ 16

/-- Modulator bit j of a stream half. -/
def halfBit (h j : Nat) : Bool := bitOf h j
/-- RC_POS, RC and RANGE of a stream half. -/
def halfRcPos (h : Nat) : Nat := bitsGet h 10 4
def halfRc (h : Nat) : Bool := bitOf h 14
def halfRange (h : Nat) : Nat := bitsGet h 15 1

/-- The range of packet j in a half: before RC_POS the other range, from it on RANGE (R110). -/
def packetRange (h j : Nat) : Nat :=
  if halfRc h ∧ j < halfRcPos h then 1 - halfRange h else halfRange h

/-- GATE_TEL fields (R111). -/
def gtVgs (w : Nat) : Nat := bitsGet w 0 12
def gtState (w : Nat) : Nat := bitsGet w 12 2
def gtDesat (w : Nat) : Bool := bitOf w 14
def gtRise (w : Nat) : Nat := bitsGet w 16 12

/-- STATUS bits (R108). -/
def stDesat : Nat := 0
def stDidt : Nat := 1
def stSafeRunOk : Nat := 2
def stLocalOpen : Nat := 4
def stTrimFault : Nat := 6
def stOvertemp : Nat := 7
def stCalValid : Nat := 9
def stArmed : Nat := 10

/-- An NTC reading in °C; 0x8000 means open or absent (R108). -/
def ntcValue (w : Nat) : Option Rat :=
  if w = 0x8000 then none else some ((toSigned 16 w : Rat) / 10)

/-- The unsigned number in little-endian bytes a to a + n − 1 of a byte list. -/
def leNat (bs : List Nat) (a n : Nat) : Nat :=
  match n with
  | 0 => 0
  | k + 1 => bs.getD a 0 + 256 * leNat bs (a + 1) k

/-- The exact value of a single-precision pattern; an infinity or a NaN counts as 0 (log 5). -/
def f32Value (w : Nat) : Rat :=
  let e := bitsGet w 23 8
  let m := bitsGet w 0 23
  let sg : Rat := if bitOf w 31 then -1 else 1
  if e = 255 then 0
  else if e = 0 then sg * (m : Rat) / (2 ^ 149 : Nat)
  else if 150 ≤ e then sg * ((2 ^ 23 + m : Nat) : Rat) * ((2 ^ (e - 150) : Nat) : Rat)
  else sg * ((2 ^ 23 + m : Nat) : Rat) / ((2 ^ (150 - e) : Nat) : Rat)

/-- The single-precision pattern stored for an exact value: exactly representable zero is zero, any
other value is rounded as the spec leaves open (log 5). -/
def f32Pattern (x : Rat) : Nat := if x = 0 then 0 else (Config.roundF32 x).toNat

/-- IDENT fields (R116). -/
def idSerial (id : List Nat) : List Nat := (id.drop 12).take 16
def idTrimSerial (id : List Nat) : List Nat := (id.drop 44).take 16
def idGroups (id : List Nat) : Nat := id.getD 28 0
def idTrimFitted (id : List Nat) : Bool := id.getD 29 0 == 1
def idProto (id : List Nat) : Nat := id.getD 36 0
def idCaps (id : List Nat) : Nat := id.getD 37 0
def idPInsert (id : List Nat) : Nat := leNat id 34 2
def idTrimVmax (id : List Nat) : Nat := leNat id 60 2

/-! ### Bytes of frames -/

/-- The bytes of a Span frame after its start block (R545): the header with HDR_CRC, the payload and FCS. -/
def spanBytes (f : SpanFrame) : List Nat :=
  let b (x : Bool) (k : Nat) : Nat := if x then 2 ^ k else 0
  let pay := f.payload.map BitVec.toNat
  let head := [f.version.toNat + 16 * f.cls.toNat + b f.frag 7, f.kind.toNat, f.src.toNat + b f.west 6 + b f.dual 7,
    f.dst.toNat, f.hops.toNat, f.fragIdx.toNat + b f.last 7] ++ leBytes 2 pay.length ++ leBytes 4 f.seq.toNat ++
    leBytes 8 f.corr.toNat
  head ++ leBytes 4 (crc32c head) ++ pay ++ leBytes 4 (crc32c pay)

/-- A Span frame as it leaves a port. -/
def spanMsg (west : Bool) (f : SpanFrame) : Msg := .span west f (spanBytes f)

/-- Bytes 0 to 35 of a Hedgerow frame (R392). -/
def hrHead (endB : Bool) (type instant count first fseq : Nat) (cmd : List Nat) : List Nat :=
  let body := [type, if endB then 0x0B else 0x0A] ++ leBytes 4 instant ++ [count, first] ++ leBytes 2 fseq ++
    List.replicate 6 0 ++ cmd
  body ++ leBytes 4 (crc32c body)

/-- A Hedgerow frame as it leaves an end. -/
def hrMsg (ch : Nat) (endB : Bool) (type instant count first fseq : Nat) (cmd : List Nat) : Msg :=
  .hrFrame ch endB type instant count first fseq cmd (hrHead endB type instant count first fseq cmd)

end Sys2Proof.Machine
end

