-- ==== Sys2Proof/Machine/Channel.lean ====
section
/-! DEFINITION. What the channel chapters share: healthy groups and derated thresholds, SAFE_RUN,
the bus token, entries to the channel states, trips, lockouts and openings. -/

namespace Sys2Proof.Machine

/-! ### Groups and thresholds -/

/-- GROUPS_FITTED (R116). -/
def State.fitted (s : State) (n : Nat) : Nat := s.fld F.PLK_STATE_GROUPS_FITTED n

/-- The mask of healthy groups: fitted and not DAMAGED (R143). -/
def State.healthy (s : State) (n : Nat) : Nat :=
  maskDiff 16 (2 ^ s.fitted n - 1) (s.fld F.PROT_DAMAGED_DAMAGED n)

/-- h (R207). -/
def State.healthyCount (s : State) (n : Nat) : Nat := popCount 16 (s.healthy n)

/-- K_EFF in A²s: K_SLOW × (h / F)² × F_AGE² (R207, R671). -/
def State.kEff (s : State) (n : Nat) : Rat :=
  let fit := s.fitted n
  if fit = 0 then 0
  else
    let r : Rat := (s.healthyCount n : Rat) / (fit : Rat) * (s.fld F.ALM_CH_PLAN_F_AGE n : Rat) / 1000
    1000 * (s.fld F.PROT_SLOW_K_SLOW n : Rat) * r * r

/-- ACC of PROT_SLOWACC[n] (R236): A as a share of K_EFF in 0.01 %.  With K_EFF = 0 the share has no value: the model shows
0 with A = 0, else 10,000 (log 164). -/
def State.showAcc (s : State) (n : Nat) : State :=
  let k := s.kEff n
  let a := (s.prot n).slowA
  let share : Nat := if k = 0 then (if a = 0 then 0 else 10000) else satNat 10000 (roundFree 56 (a * 10000 / k)).toNat
  s.setFld F.PROT_SLOWACC_ACC share n

/-- Thresholds after derating (R207) and ageing (R671), in 0.1 A, each rounded down. -/
def State.derate (s : State) (n : Nat) : State :=
  let fit := s.fitted n
  let h := s.healthyCount n
  let age := s.fld F.ALM_CH_PLAN_F_AGE n
  let d (x : Nat) : Nat := if fit = 0 then 0 else x * h / fit
  let s := s.setFld F.PROT_EFF_ILIM_EFF (d (s.fld F.PROT_ILIM_ILIM n) * age / 1000) n
  let s := s.setFld F.PROT_EFF_ISC_EFF (d (s.fld F.PROT_ILIM_ISC n)) n
  let s := s.setFld F.PROT_SLOWACC_ITRIP_SLOW_EFF (d (s.fld F.PROT_SLOW_ITRIP_SLOW n) * age / 1000) n
  (s.setFld F.PROT_STATE_HEALTHY h n).showAcc n

/-- A current threshold held in 0.1 A, in A. -/
def amps (x : Nat) : Rat := (x : Rat) / 10

/-! ### SAFE_RUN and STR_READY (R611, R171) -/

/-- The Keystone's generator of channel n is enabled (R611): RUN, not Safe-state, no power-down from
P2, the link admitted (or in a re-configuration, R118), and nothing holding it stopped (R216, R217, R44). -/
def State.genEnabled (s : State) (n : Nat) : Bool :=
  s.present n && s.phase == 4 && !s.safe &&
  (s.sup.pd == .none || s.sup.pd == .warned) && !s.sup.softCmd &&
  (s.lstate n == lsAdmitted || (s.lstate n == lsConfigure && s.bit F.PLK_STATE_SAFE_RUN_ON n)) &&
  !s.bit F.PROT_STATE_SR_HELD n && !(s.lk n).srStop && !s.chanFenced n &&
  s.fld F.PROT_STATE_LOCK_CAUSE n != 0x13

/-- Re-evaluate SAFE_RUN[n]: lane A is the generator, lane B the permit P_B[n] (R611, R621).  When the
pulses begin, the device sends CLR_TRIP until the module reports ARMED (R123; log 12).  EXTEST holds the ball
low (R644). -/
def State.safeRun (s : State) (n : Nat) : State :=
  let gen := s.genEnabled n
  let on := gen && bitOf (s.reg .SSI_PERMIT_B) n && s.tg.jtag != .extest
  let s := if on ∧ ¬ s.bit F.PLK_STATE_SAFE_RUN_ON n then s.setLk n { s.lk n with armPending := true }
    else s
  let s := s.setReg .SSI_PERMIT_A 0 0 (bitPut (s.reg .SSI_PERMIT_A) n gen)
  s.setBit F.PLK_STATE_SAFE_RUN_ON on n

/-- Drive STR_READY[n]. -/
def State.strReady (s : State) (n : Nat) (v : Bool) : State := s.setBit F.INS_STATE_STR_READY v n

/-- The bytes of an URGENT_OPEN block (R107): its type, 0x5A, the FRAME_SEQ of the last frame started and its inverse,
and the fixed pattern. -/
def urgentBlock (seq : Nat) : List Nat := [0xA5, 0x5A, seq % 256, 255 - seq % 256, 0x3C, 0xC3, 0x96, 0x69]

/-- Send URGENT_OPEN four times in a row (R107): the module goes to LOCAL_OPEN, so the trim model slews at LOSS_SLEW. -/
def State.urgentOpen (s : State) (n : Nat) : State :=
  let s := s.flag F.PLK_FLAGS_URGENT_SENT n
  let s := s.setTrim n { s.trim n with localOpen := true }
  let m := Msg.urgentOpen n (urgentBlock (s.lk n).seqDown)
  (((s.send m).send m).send m).send m

/-! ### The bus, the token and the queue (R139 to R142) -/

/-- Channel n is in ENHANCE, CONFIRM or READY. -/
def State.holdsBus (s : State) (n : Nat) : Bool := csEnhance ≤ s.cstate n && s.cstate n ≤ csReady

/-- The bus is held as seen from channel n (R142). -/
def State.busHeld (s : State) (n : Nat) : Bool :=
  s.bit F.INS_BUS_PCS_HOLD || s.chans.any fun m => m != n && s.holdsBus m

/-- QPOS of every waiting channel, position 1 first. -/
def State.showQueue (s : State) (q : List Nat) (pos : Nat) : State :=
  match q with
  | [] => s
  | n :: rest => (s.setFld F.INS_STATE_QPOS pos n).showQueue rest (pos + 1)

/-- Show the token, the queue and the present bus-held value in INS_BUS (R191) and INS_STATE (R175). -/
def State.showBus (s : State) : State :=
  let s := s.setBit F.INS_BUS_HELD (s.bit F.INS_BUS_PCS_HOLD || s.chans.any fun m => s.holdsBus m)
  let s := s.setFld F.INS_BUS_TOKEN_CH (s.token.getD 0)
  let s := s.setBit F.INS_BUS_TOKEN_VALID s.token.isSome
  let s := s.setFld F.INS_BUS_QUEUE_LEN s.waitQ.length
  s.showQueue s.waitQ 1

/-- Release the token if channel n holds it (R139). -/
def State.dropToken (s : State) (n : Nat) : State :=
  if s.token = some n then ({ s with token := none }).setBit F.INS_STATE_TOKEN false n else s

/-- Take channel n out of WAIT. -/
def State.dequeue (s : State) (n : Nat) : State :=
  ({ s with waitQ := s.waitQ.filter fun m => m != n }).setFld F.INS_STATE_QPOS 0 n

/-! ### Entries to states -/

/-- A channel that is no member of the sharing set has no handover window, no limit of V_cmd and I_REF = 0 (R254,
R256, R267). -/
def State.shareOut (s : State) (n : Nat) : State :=
  let s := s.setBit F.TRM_STATE_HO_ACTIVE false n
  let s := s.setBit F.TRM_STATE_SAT false n
  let s := s.setBit F.TRM_STATE_SAT_DIR false n
  s.setFld F.TRM_LIVE_I_REF 0 n

/-- The trim leaves for RETURN when the channel leaves the path TRIM_ALIGN to READY, on a reverse
block or on a trim fault (R247). -/
def State.trimReturn (s : State) (n : Nat) : State :=
  if tsAlign ≤ s.tstate n ∧ s.tstate n ≤ tsFreeze then
    let s := (s.setFld F.TRM_STATE_TSTATE tsReturn n).shareOut n
    s.setTrim n { s.trim n with vTgt := 0, hoPending := false }
  else s

/-- Gate commands: groups ON, groups LINEAR, the RAMP of groups on and off, VGS_TGT; K_ON shows the
groups commanded LINEAR (R105, R175). -/
def State.gates (s : State) (n on lin rampOn rampOff vgs : Nat) : State :=
  let s := s.setIns n { s.ins n with onMask := on, linMask := lin, rampOn := rampOn,
                                      rampOff := rampOff, vgs := vgs }
  s.setFld F.INS_STATE_K_ON (popCount 16 lin) n

/-- Every group OFF with the given RAMP. -/
def State.gatesOff (s : State) (n ramp : Nat) : State := s.gates n 0 0 0 ramp 0

/-- Write CSTATE and note the time; a handover not yet made ends with READY (R247, R256). -/
def State.setCstate (s : State) (n st : Nat) : State :=
  let s : State := if s.cstate n = csReady ∧ st ≠ csReady then s.limitsDue n else s
  let s := if s.cstate n = csReady ∧ st ≠ csReady then s.setTrim n { s.trim n with hoPending := false } else s
  let s := s.setFld F.INS_STATE_CSTATE st n
  s.setIns n { s.ins n with stateAt := s.now }

/-- The channel is out of active current limit: the fault timer holds its value (R205). -/
def State.limitOut (s : State) (n : Nat) : State :=
  let q := s.prot n
  let held := if s.bit F.PROT_STATE_IN_LIMIT n then q.fltNs + (s.now - q.fltAt) else q.fltNs
  let s := s.setProt n { q with fltNs := held, exiting := false, exitAt := none, outAt := some s.now }
  let s := s.setBit F.INS_STATE_IN_LIMIT false n
  s.setBit F.PROT_STATE_IN_LIMIT false n

/-- CONDUCT of every group. -/
def State.showConduct (s : State) (n : Nat) : State :=
  (List.range 16).foldl (fun t g => t.setBit F.INS_TJ_CONDUCT (bitOf (s.ins n).rotSet g) n g) s

/-- What ends with a channel's insertion or READY: limit, block, pause, ready line, gates and sets, trim. -/
def State.endRun (s : State) (n ramp : Nat) : State :=
  let s := s.strReady n false
  let s := s.gatesOff n ramp
  let s := (s.setIns n { s.ins n with rotSet := 0, outgoing := 0 }).showConduct n
  let s := if s.bit F.PROT_STATE_IN_LIMIT n then s.limitOut n else s
  let s := s.setBit F.PROT_STATE_BLOCKING false n
  let s := s.setBit F.INS_STATE_PAUSED false n
  let s := s.setBit F.INS_STATE_DERATED false n
  let s := s.setFld F.INS_LIVE_I_SET 0 n
  let s := s.setProt n { s.prot n with reclosing := false }
  s.trimReturn n

/-- The duration in 0.1 ms and the energy in kJ of an insertion that ends, each rounded down (R190).  The worked example
of the spec rounds ENERGY down; that DURATION is rounded down too is the model's choice (log 163). -/
def State.lastInsertion (s : State) (n : Nat) : State :=
  let x := s.ins n
  let s := s.setFld F.INS_LAST_DURATION ((s.now - x.checkAt) / 100000) n
  s.setFld F.INS_LAST_ENERGY (satNat 255 (x.energy / 1000).floor.toNat) n

/-- The insertion record of R145: channel, REQ_TAG, path, cause, state entered. -/
def State.insRecord (s : State) (n cause st : Nat) : State :=
  s.ledger 0x30 [n, (s.ins n).reqTag, s.fld F.INS_STATE_PATH n, cause, st]

/-- An entry to OPEN, TRIPPED or LOCKED (R145): the cause, REFUSED or ABORTED, the record, the token
and the queue; from OPEN only the state and the cause of a lockout change. -/
def State.enterRest (s : State) (n st cause ramp : Nat) : State :=
  let c := s.cstate n
  let s := s.flagIf (c = csCheck || c = csSense) F.INS_FLAGS_REFUSED n
  let s := s.flagIf (csAlign ≤ c && c ≤ csConfirm) F.INS_FLAGS_ABORTED n
  let s := if csCheck ≤ c ∧ c ≤ csConfirm then s.lastInsertion n else s
  let s := s.endRun n ramp
  let s := s.setFld F.INS_STATE_CAUSE cause n
  let s := s.insRecord n cause st
  let s := (s.dropToken n).dequeue n
  let s := s.setCstate n st
  let s := s.setFld F.INS_STATE_PATH 0 n
  (s.showBus).safeRun n

/-- The queue with channel n at its tail; of the channels whose INSERT was acknowledged at the same handshake the lower
number stands first (R140). -/
def State.waitTail (s : State) (n : Nat) (q : List Nat) : List Nat :=
  let later (m : Nat) : Bool := (s.ins n).byCmd && (s.ins m).byCmd && (s.ins m).waitAt == s.now && decide (n < m)
  let k := q.length - (q.reverse.takeWhile later).length
  q.take k ++ n :: q.drop k

/-- Entry to WAIT (R140): at the tail, or at the head (R160, R215). -/
def State.enterWait (s : State) (n : Nat) (head : Bool) : State :=
  let s := s.setIns n { s.ins n with waitAt := s.now, byCmd := (s.ins n).byCmd && !head }
  let s := s.setCstate n csWait
  let s := s.setFld F.INS_STATE_PATH 0 n
  let s := { s with waitQ := if head then n :: s.waitQ else s.waitTail n s.waitQ }
  (s.dropToken n).showBus

/-- Every group reports GSTATE = OFF in the last good frame (R144); groups not fitted count as OFF. -/
def State.allOff (s : State) (n : Nat) : Bool :=
  (List.range (s.fitted n)).all fun g => gtState (s.reg .PLK_GTEL n g) == 0

/-- OPENING ends (R144): a first BUS_CHANGED goes back to the head of WAIT with its request, any other
cause to OPEN. -/
def State.openingDone (s : State) (n : Nat) : State :=
  let x := s.ins n
  let s := s.setProt n { s.prot n with openAt := none, openStage := 0 }
  if x.entryCause = 0x21 ∧ ¬ x.busChangedOnce then
    let s := s.setIns n { s.ins n with busChangedOnce := true }
    let s := s.setFld F.INS_STATE_CAUSE 0x21 n
    (s.insRecord n 0x21 csWait).enterWait n true
  else s.enterRest n csOpen x.entryCause 1

/-- Entry to OPENING (R144, R172) with its cause: all groups OFF with RAMP 0b01.  From TRIM_ALIGN to CONFIRM it sets
ABORTED; an expiry of the inrush timer in CHECK or SENSE sets neither REFUSED nor ABORTED, since the entry to OPEN that
follows comes from OPENING (the model's choice, log 62). -/
def State.beginOpening (s : State) (n cause : Nat) : State :=
  let c := s.cstate n
  let s := s.flagIf (csAlign ≤ c && c ≤ csConfirm) F.INS_FLAGS_ABORTED n
  let s := if csCheck ≤ c ∧ c ≤ csConfirm then s.lastInsertion n else s
  let s := s.endRun n 1
  let s := s.setCstate n csOpening
  let s := s.setIns n { s.ins n with entryCause := cause }
  let s := s.setProt n { s.prot n with openAt := some s.now, openStage := 0 }
  let s := s.showBus
  if s.allOff n then s.openingDone n else s

/-- The inrush timer has run TINRUSH since the entry to CHECK (R147). -/
def State.inrushExpired (s : State) (n : Nat) : Bool :=
  csCheck ≤ s.cstate n && s.cstate n ≤ csConfirm &&
  s.elapsed (s.ins n).checkAt (100000000 * s.fld F.INS_TIMING_TINRUSH n)

/-- An expired inrush timer opens the channel before any exit condition that stands below it in R144. -/
def State.inrushFirst (s : State) (n : Nat) : State :=
  if s.inrushExpired n then (s.flag F.INS_FLAGS_INRUSH_TIMEOUT n).beginOpening n 0x20 else s

/-- BUS_CHANGED (R144, R160): a channel in TRIM_ALIGN, LIMIT_CHARGE or RAMP_CLOSE whose bus-held value is no
longer that of the end of SENSE. -/
def State.busWatch (s : State) : State :=
  s.chans.foldl (fun t n =>
    if csAlign ≤ t.cstate n ∧ t.cstate n ≤ csRamp ∧ t.busHeld n ≠ (t.ins n).heldAtSense then
      if t.inrushExpired n then t.inrushFirst n else (t.flag F.INS_FLAGS_BUS_CHANGED n).beginOpening n 0x21
    else t) s

/-- Every group of the channels that a bus failure opened reports OFF: the 1 ms of R215 step 6 runs. -/
def State.busOffWatch (s : State) : State :=
  if s.bus.ended ∧ s.bus.allOffAt = none ∧ (bitList 32 s.bus.opened).all fun n => s.allOff n then
    { s with bus := { s.bus with allOffAt := some s.now } }
  else s

/-- The outcome of a command that may have moved a channel. -/
def finish (s : State) : Host.Outcome State Fault Refusal := .next (s.busOffWatch).busWatch

/-! ### Trips and lockouts (R197, R216 to R223) -/

/-- How a cause opens the switch (R197, R216). -/
inductive OpenBy
  | module | urgent | frame | already | safeRun
  deriving DecidableEq, Repr

/-- The flag of PROT_FLAGS[n] that a trip or lockout code sets (R238). -/
def causeFlag (code : Nat) : Option Nat :=
  match code with
  | 0x01 => some 0
  | 0x02 => some 1
  | 0x03 => some 2
  | 0x04 => some 4
  | 0x05 => some 5
  | 0x06 => some 6
  | 0x07 => some 7
  | 0x08 => some 8
  | 0x09 => some 9
  | 0x0A => some 15
  | 0x0B => some 15
  | 0x0C => some 13
  | 0x0D => some 14
  | 0x10 => some 18
  | _ => none

/-- Counted causes (R197). -/
def causeCounted (code : Nat) : Bool := code ≤ 0x0D && code != 0x0A && code != 0x0B && code != 0x0C

/-- LAYER of PROT_LAST (R241). -/
def causeLayer (code : Nat) : Nat :=
  match code with
  | 0x01 | 0x02 | 0x0D => 0
  | 0x03 => 1
  | 0x04 => 2
  | 0x05 => 3
  | 0x06 | 0x07 | 0x08 | 0x09 => 4
  | 0x0A | 0x0B => 5
  | 0x0C => 6
  | _ => 7

/-- How a trip code opens (R197). -/
def causeOpening (code : Nat) : OpenBy :=
  match code with
  | 0x01 | 0x02 | 0x0D => .module
  | 0x03 => .urgent
  | 0x0C => .already
  | 0x10 | 0x13 => .safeRun
  | _ => .frame

/-- The groups conducting: commanded ON or LINEAR. -/
def State.conducting (s : State) (n : Nat) : Nat := (s.ins n).onMask ||| (s.ins n).linMask

/-- The five words of PROT_LAST[n] and the same content in the Ledger (R222).  At a RETRY_SPENT lockout the record of
the trip stands (R218). -/
def State.tripRecord (s : State) (n code kind sec ns : Nat) : State :=
  let x := s.ins n
  let cnt := causeCounted code
  let w0 := code + 2 ^ 8 * causeLayer code + (if cnt then 2 ^ 11 else 0) +
    2 ^ 12 * satNat 15 (s.prot n).retryUsed + 2 ^ 16 * s.healthyCount n
  let mask := if causeOpening code = .module then s.fld F.PLK_MODSTAT_DESAT_MASK n else s.conducting n
  let w1 := ofSigned 16 (clampInt (-32768) 32767 (roundFree 21 (x.iprot * 10))) +
    2 ^ 16 * ofSigned 16 (clampInt (-32768) 32767 (roundFree 22 (x.vsw * 10)))
  let w3 := sec / 2 ^ 32 % 2 ^ 16 + 2 ^ 16 * mask
  let s := if code = 0x12 then s else
    ((((s.setReg .PROT_LAST n 0 w0).setReg .PROT_LAST n 1 w1).setReg .PROT_LAST n 2 (sec % 2 ^ 32)).setReg
      .PROT_LAST n 3 w3).setReg .PROT_LAST n 4 ns
  let body := [n, w0, w1, sec % 2 ^ 32, w3, ns]
  if kind = 0x32 then s.ledgerState kind n body else s.ledger kind body

/-- Queue the trip for the coordinated-trip message (R223). -/
def State.queueTrip (s : State) (n code sec ns : Nat) (lock : Bool) : State :=
  { s with tripQ := s.tripQ ++ [⟨n, code, sec, ns, s.now, roundFree 21 ((s.ins n).iprot * 10), causeLayer code, lock⟩] }

/-- Start opening the switch by the method of a cause (R216). -/
def State.openSwitch (s : State) (n : Nat) (how : OpenBy) : State :=
  let s := s.setProt n { s.prot n with openAt := some s.now, openStage := 0 }
  match how with
  | .urgent => s.urgentOpen n
  | .safeRun => s.safeRun n
  | _ => s

/-- A lockout (R144, R221): recorded, kept in the Ledger through reset, every group held OFF.  A channel
already LOCKED keeps its cause; from OPEN only a retired channel is locked out (R48). -/
def State.lockout (s : State) (n code : Nat) : State :=
  if s.cstate n = csLocked ∨ (s.cstate n = csOpen ∧ code ≠ 0x13) then s
  else
    let sec := s.tbSec 0
    let ns := s.tbNs 0
    let s := s.flag F.PROT_FLAGS_LOCKOUT n
    let s := match causeFlag code with
      | some b => s.flag F.PROT_FLAGS_DESAT n b
      | none => s
    let s := s.tripRecord n code 0x32 sec ns
    let s := s.queueTrip n code sec ns true
    let s := s.openSwitch n (causeOpening code)
    let s := s.enterRest n csLocked 0x2C 1
    let s := s.setBit F.PROT_STATE_LOCKED true n
    let s := s.setFld F.PROT_STATE_LOCK_CAUSE code n
    let s := { s with lockLog := sparseSet s.lockLog 0 n code }
    let s := s.setProt n { s.prot n with lockedBeforeReset := false }
    let s := (s.event 0x07 n true).recTrigger 1 n
    s.safeRun n

/-- The retry delay of the k-th counted trip, in s (R219). -/
def retryDelay (delay k : Nat) (backoff : Bool) : Nat :=
  satNat 86400 (if backoff then delay * 2 ^ (k - 1) else delay)

/-- Count a counted trip (R218, R219). -/
def State.countTrip (s : State) (n : Nat) : State :=
  let k := (s.prot n).retryUsed + 1
  let d := retryDelay (s.fld F.PROT_RETRY_RETRY_DELAY n) k (s.bit F.PROT_CFG_BACKOFF n)
  let s := s.setProt n { s.prot n with retryUsed := k, retryAt := some (s.now + d * 1000000000) }
  let s := s.setFld F.PROT_STATE_RETRY_USED (satNat 16 k) n
  let s := s.setFld F.PROT_RETRY_STATE_DELAY_REMAIN d n
  s.setBit F.PROT_STATE_RETRY_PENDING true n

/-- DESAT and a fast trip within the same µs (R224): one trip with both flags.  The cause recorded is the earlier
stamp, the module's on equal stamps. -/
def State.tripBoth (s : State) (n code sec ns : Nat) : State :=
  let old := bitsGet (s.reg .PROT_LAST n 0) 0 8
  let t0 := (s.reg .PROT_LAST n 2 + 2 ^ 32 * bitsGet (s.reg .PROT_LAST n 3) 0 16) * 1000000000 + s.reg .PROT_LAST n 4
  let t1 := sec * 1000000000 + ns
  if s.cstate n ≠ csOpen ∧ old + code = 4 ∧ (code = 1 ∨ code = 3) ∧ t0 < t1 + 1000 ∧ t1 < t0 + 1000 then
    let s := s.flag F.PROT_FLAGS_DESAT n (code - 1)
    if t1 < t0 ∨ (t1 = t0 ∧ code = 1) then
      let s := s.tripRecord n code 0x31 sec ns
      { s with tripQ := s.tripQ.map fun e => if e.ch = n ∧ e.sec * 1000000000 + e.ns = t0 ∧ e.lock = false then
          { e with cause := code, sec := sec, ns := ns, layer := causeLayer code } else e }
    else s
  else s

/-- A protection trip with its detection stamp (R144, R196 to R199, R216 to R222).  A channel in OPEN,
TRIPPED or LOCKED does not trip.  A counted trip with no retry left is locked out at the next handshake. -/
def State.tripAt (s : State) (n code sec ns : Nat) : State :=
  if s.resting n then s.tripBoth n code sec ns
  else
    let counted := causeCounted code
    let s := match causeFlag code with
      | some b => s.flag F.PROT_FLAGS_DESAT n b
      | none => s
    let s := if counted then s.countTrip n else s
    let s := s.setProt n { s.prot n with counted := counted }
    let s := s.tripRecord n code 0x31 sec ns
    let s := s.queueTrip n code sec ns false
    let s := s.openSwitch n (causeOpening code)
    let s := s.enterRest n csTripped 0x29 1
    let s := (s.event 0x06 n false).recTrigger 0 n
    if counted ∧ s.fld F.PROT_RETRY_RETRY_MAX n < (s.prot n).retryUsed then s.lockout n 0x12
    else if s.healthyCount n < s.fld F.PROT_CFG_MIN_GROUPS n then s.lockout n 0x11
    else s

/-- The stamp of a module-layer event: the arrival less d (R199). -/
def State.stampLess (s : State) (n : Nat) : Nat × Nat :=
  let t := s.tbSec 0 * 1000000000 + s.tbNs 0 - (roundFree 23 ((s.lk n).delay / 5)).toNat
  (t / 1000000000, t % 1000000000)

/-- A module-layer trip (R199). -/
def State.tripModule (s : State) (n code : Nat) : State :=
  s.tripAt n code (s.stampLess n).1 (s.stampLess n).2

/-- A trip stamped now. -/
def State.trip (s : State) (n code : Nat) : State := s.tripAt n code (s.tbSec 0) (s.tbNs 0)

/-- TRIPPED is left for OPEN or WAIT: CLR_TRIP goes with SW_MODE = OPEN (R218). -/
def State.clrTrip (s : State) (n : Nat) : State := s.setLk n { s.lk n with clrTrip := true }

/-- Mark group g DAMAGED (R206): sent OFF, excluded everywhere, recorded with the module SERIAL, and the
thresholds derated; below MIN_GROUPS the channel is locked out (R208). -/
def State.damage (s : State) (n g : Nat) : State :=
  if bitOf (s.fld F.PROT_DAMAGED_DAMAGED n) g then s
  else
    let x := s.ins n
    let bit := 2 ^ g
    let s := s.setFld F.PROT_DAMAGED_DAMAGED (s.fld F.PROT_DAMAGED_DAMAGED n ||| bit) n
    let s := s.setBit F.INS_TJ_DAMAGED true n g
    let s := s.flag F.PROT_FLAGS_GROUP_DAMAGED n
    let s := s.flagIf (csAlign ≤ s.cstate n && s.cstate n ≤ csConfirm) F.INS_FLAGS_GROUP_LOST n
    let s := s.gates n (maskDiff 16 x.onMask bit) (maskDiff 16 x.linMask bit) x.rampOn x.rampOff x.vgs
    let s := s.setIns n { s.ins n with rotSet := maskDiff 16 x.rotSet bit,
                                        outgoing := maskDiff 16 x.outgoing bit }
    let s := s.showConduct n
    let s := if s.cstate n = csLimit then
        s.setBit F.INS_STATE_DERATED (popCount 16 (s.ins n).rotSet < s.fld F.INS_ROT_ROT_WIDTH n) n else s
    let serial := (s.lk n).serial
    let s := s.ledgerState 0x33 n ([n, g] ++ serial)
    let marks := s.fld F.PROT_DAMAGED_DAMAGED n
    let s := { s with damageLog := (serial, marks) :: s.damageLog.filter fun e => e.1 != serial }
    let s := s.derate n
    if s.healthyCount n < s.fld F.PROT_CFG_MIN_GROUPS n ∧ s.cstate n ≠ csOpen ∧ s.cstate n ≠ csLocked
    then s.lockout n 0x11 else s

/-- LINK_LOST (R125): SAFE_RUN[n] stops, the channel and the trim leave for OPEN and LOST. -/
def State.linkLoss (s : State) (n : Nat) : State :=
  let s := s.flag F.PLK_FLAGS_LINK_LOST n
  let s := s.flag F.PLK_FLAGS_GAP n
  let s := s.flag F.MEAS_FLAGS_GAP n
  let s := s.setFld F.PLK_STATE_LSTATE lsLost n
  let s := s.setLk n { s.lk n with stateAt := s.now }
  let t := s.trim n
  let s := if s.tstate n ≠ tsOff ∧ s.tstate n ≠ tsLost then
      let s := ((s.setFld F.TRM_STATE_TSTATE tsLost n).flag F.TRM_FLAGS_LOST n).shareOut n
      s.setTrim n { t with lostV := t.vModel, lostAt := s.now, hoPending := false, localOpen := true }
    else s
  let s := if s.resting n then s else s.enterRest n csOpen 0x28 0
  s.safeRun n

end Sys2Proof.Machine
end

