-- ==== Sys2Proof/Machine/Age.lean ====
section
/-! DEFINITION. The items the Almanac plans (spec chapter 18): plan and value in force, records, overrides, and
what an admission and a WARN do to them. -/

namespace Sys2Proof.Machine

/-- The items of R680. -/
inductive AlmItem
  | fAge | rTh | pGroup | shareK | tjDrop | level | stretch | holdQual
  deriving DecidableEq, Repr

def AlmItem.code : AlmItem → Nat
  | .fAge => 0x01
  | .rTh => 0x02
  | .pGroup => 0x03
  | .shareK => 0x04
  | .tjDrop => 0x05
  | .level => 0x10
  | .stretch => 0x20
  | .holdQual => 0x30

def almItems : List AlmItem := [.fAge, .rTh, .pGroup, .shareK, .tjDrop, .level, .stretch, .holdQual]

/-- The five channel items. -/
def chanItems : List AlmItem := [.fAge, .rTh, .pGroup, .shareK, .tjDrop]

/-- The item is one of a channel. -/
def AlmItem.ofChannel (i : AlmItem) : Bool := chanItems.contains i

/-- The register field of an item. -/
def AlmItem.field : AlmItem → Fld
  | .fAge => F.ALM_CH_PLAN_F_AGE
  | .rTh => F.ALM_CH_PLAN_R_TH
  | .pGroup => F.ALM_CH_SOA_PGRP
  | .shareK => F.ALM_CH_SOA_SHARE_K
  | .tjDrop => F.ALM_CH_PLAN_TJ_DROP
  | .level => F.ALM_STATE_LEVEL
  | .stretch => F.ALM_STATE_S
  | .holdQual => F.ALM_STATE_HOLD_QUAL_EFF

/-- The plan of an item (R670, R674, R677, R678). -/
def State.planOf (s : State) (i : AlmItem) (n : Nat) : Nat :=
  match i with
  | .fAge => (s.almCh n).planF
  | .rTh => (s.almCh n).planR
  | .pGroup => (s.almCh n).planP
  | .shareK => (s.almCh n).planK
  | .tjDrop => (s.almCh n).planT
  | .level => s.alm.planLevel
  | .stretch => s.alm.planS
  | .holdQual => s.alm.planHold

def State.setPlan (s : State) (i : AlmItem) (n v : Nat) : State :=
  match i with
  | .fAge => s.setAlmCh n { s.almCh n with planF := v }
  | .rTh => s.setAlmCh n { s.almCh n with planR := v }
  | .pGroup => s.setAlmCh n { s.almCh n with planP := v }
  | .shareK => s.setAlmCh n { s.almCh n with planK := v }
  | .tjDrop => s.setAlmCh n { s.almCh n with planT := v }
  | .level => { s with alm := { s.alm with planLevel := v } }
  | .stretch => { s with alm := { s.alm with planS := v } }
  | .holdQual => { s with alm := { s.alm with planHold := v } }

/-- The stretch S in force in 0.25 (R677, R680). -/
def State.stretch (s : State) : Nat :=
  ((s.alm.overrides.find? fun o => o.item == AlmItem.stretch.code).map fun o => o.value).getD s.alm.planS

/-- The value of an item in force. -/
def State.itemOf (s : State) (i : AlmItem) (n : Nat) : Nat :=
  if i = .stretch then s.stretch else s.fld i.field (if i.ofChannel then n else 0)

/-- S of ALM_STATE; its five bits have no stated pattern for 32 (R683). -/
def State.showStretch (s : State) (v : Nat) : State :=
  (s.setFld F.ALM_STATE_S (if v < 32 then v else s.free 210 % 32)).draw

/-- The code of DIV_NOW for a shedding level (R437, R674). -/
def divLevel (cfg level : Nat) : Nat :=
  if level < 3 then cfg else if level = 3 then max cfg 1 else if level = 4 then max cfg 2 else 3

/-- Stage DIV_NOW for the level in force; it is taken at the next boundary (R437). -/
def State.stageDiv (s : State) : State :=
  let d := divLevel (s.fld F.EST_CFG_DIV_CFG) (s.fld F.ALM_STATE_LEVEL)
  { s with est := { s.est with divNext := if d = s.fld F.EST_STATE_DIV_NOW then none else some d } }

/-- LEVEL takes a value: SHED or RESTORE, the sheds of identification, DIV_NOW (R480, R674). -/
def State.putLevel (s : State) (v : Nat) : State :=
  let old := s.fld F.ALM_STATE_LEVEL
  let s := s.setFld F.ALM_STATE_LEVEL v
  let s := s.flagIf (old < v) F.ALM_FLAGS_SHED
  let s := s.flagIf (v < old) F.ALM_FLAGS_RESTORE
  let s := s.flagIf ((old < 1 && 1 ≤ v) || (old < 2 && 2 ≤ v)) F.LRN_GFLAGS_ID_SHED
  let s := (s.setBit F.LRN_STATE_RLX_SHED (1 ≤ v)).setBit F.LRN_STATE_ID_SHED (2 ≤ v)
  s.stageDiv

/-- An item takes value v after `old`: F_AGE derates at once, SOA items at the next CHECK (R671). -/
def State.putItem (s : State) (i : AlmItem) (n old v : Nat) : State :=
  match i with
  | .fAge => (s.setFld F.ALM_CH_PLAN_F_AGE v n).derate n
  | .level => s.putLevel v
  | .stretch => (s.flagIf (old < v) F.ALM_FLAGS_FLASH_STRETCH).showStretch v
  | i => s.setFld i.field v (if i.ofChannel then n else 0)

/-- Is there an override on the item? -/
def State.overridden (s : State) (i : AlmItem) (n : Nat) : Bool :=
  s.alm.overrides.any fun o => o.item == i.code && (!i.ofChannel || o.unit == n)

/-- The channel has reached AGE_LIMIT, and no override raises its F_AGE: it stays open (R672). -/
def State.agedOut (s : State) (n : Nat) : Bool :=
  (s.almCh n).aged && !(s.overridden .fAge n && decide (s.planOf .fAge n < s.itemOf .fAge n))

/-- An ALMANAC record (R679): ITEM, UNIT, CAUSE, SOURCE, OLD, NEW, MEASURE. -/
def State.almRecord (s : State) (i : AlmItem) (n cause source old new measure : Nat) : State :=
  s.ledger 0x50 [i.code, if i.ofChannel then n else 0xFF, cause, source, old, new, measure]

/-- The plan of an item moves: recorded, and followed by the item unless an override holds it (R673, R680). -/
def State.planItem (s : State) (i : AlmItem) (n v cause measure : Nat) : State :=
  let old := s.planOf i n
  if v = old then s
  else
    let s := (s.setPlan i n v).almRecord i n cause 0 old v measure
    if s.overridden i n then s else s.putItem i n old v

/-- The value of an item without a plan. -/
def AlmItem.unplanned : AlmItem → Nat
  | .fAge => 1000
  | .rTh => 100
  | .pGroup => 0xFFFF
  | .stretch => 4
  | _ => 0

/-- BASED and BASE_DAYS (R688). -/
def State.showBase (s : State) (n : Nat) : State :=
  let a := s.almCh n
  (s.setBit F.ALM_CH_SHUNT_BASED a.base.isSome n).setFld F.ALM_CH_SHUNT_BASE_DAYS
    (if a.base.isSome then 7 else a.baseRon.length) n

/-- Admission (R669): IDENT_CHANGE resets the channel's plan and starts afresh; the baseline that is kept for the
SERIAL is restored at its first admission and when the SERIAL comes back. -/
def State.almAdmit (s : State) (n : Nat) (serial : List Nat) (first changed sameSerial : Bool) : State :=
  if ¬ first ∧ ¬ changed then s
  else
    let kept := ((s.baseLog.find? fun e => e.1 == serial).map fun e => e.2)
    let restore := first || !sameSerial
    let s := if changed then chanItems.foldl (fun t i => t.planItem i n i.unplanned 11 0) s else s
    let a := s.almCh n
    let a : AlmCh := { planF := a.planF, planR := a.planR, planP := a.planP, planK := a.planK, planT := a.planT
                       serial := serial, base := if restore then kept else none
                       aged := a.aged && sameSerial }
    let s := (s.setAlmCh n a).showBase n
    if changed then
      (((s.setReg .ALM_CH_RON n 0 0).setReg .ALM_CH_GATE n 0 0).setSFld F.ALM_CH_SHUNT_DRIFT 0 n)
    else s

/-- The Almanac's block works: not restarting, not retired (R681). -/
def State.almWorks (s : State) : Bool := !s.fenced (unitKey 6 3 0 false)

/-- The WARN of a region reaches the Almanac (R32, R674, R675). -/
def State.almWarn (s : State) (region : Nat) : State :=
  if ¬ s.almWorks then s
  else if 2 ≤ region ∧ region ≤ 4 then { s with alm := { s.alm with warns := s.alm.warns ||| 2 ^ region } }
  else
    let s := s.flagIf (!s.bit F.ALM_STATE_BULK_SHED_ON) F.ALM_FLAGS_SHED
    { s.setBit F.ALM_STATE_BULK_SHED_ON true with alm := { s.alm with bulkAt := some s.now } }

end Sys2Proof.Machine
end

