-- ==== Sys2Proof/Machine/Packets.lean ====
section
/-! DEFINITION. The packet streams (spec chapter 07): weights, tallies, charge counts, lost packets,
window and slice sums, and the fast-path values. -/

namespace Sys2Proof.Machine

/-! ### Weights and admission (R275 to R280) -/

/-- CAL W[s][r] as the module reported it (R115). -/
def Link.calW (l : Link) (st r : Nat) : Nat := l.cal.getD (2 * st + r) 0

/-- How the Charter declares stream 5 of a channel (R277): 0 unused, 1 current, 2 voltage. -/
def State.spareKind (s : State) (n : Nat) : Nat := sparseGet s.charter.spare 0 n % 4

/-- Stream st of channel n is counted (R277). -/
def State.streamUsed (s : State) (n st : Nat) : Bool :=
  st < 5 || ((s.lk n).calW 5 0 != 0 && (s.spareKind n == 1 || s.spareKind n == 2))

/-- The temperature factor of R278 for the current streams 0, 1 and 4. -/
def State.tFactor (s : State) (n : Nat) : Rat :=
  let tref : Rat := (s.sfld F.MEAS_SHUNT_TREF n : Rat) / 10
  let t := ((s.strm n).tLast).getD tref
  1 + (s.sfld F.MEAS_SHUNT_ALPHA n : Rat) / 1000000 * (t - tref)

/-- 20 MHz × W_eff for index 2s + r (R275, R278): pC and pV·s at 50 ns a packet give A and V. -/
def State.weffOf (s : State) (n : Nat) : Vector Rat 12 :=
  Vector.ofFn fun k =>
    let w : Rat := ((s.lk n).cal.getD k.val 0 : Rat) / 50000
    if k.val / 2 = 0 ∨ k.val / 2 = 1 ∨ k.val / 2 = 4 then w * s.tFactor n else w

/-- The nominal weight of R276, where it gives one. -/
def nominalW (st r : Nat) : Option Nat :=
  match st, r with
  | 0, 0 | 1, 0 => some 12500000
  | 0, 1 | 1, 1 | 2, 0 | 3, 0 | 4, 0 => some 125000000
  | _, _ => none

/-- CAL_RANGE for every weight more than 5 % from nominal (R277). -/
def State.calRange (s : State) (n : Nat) : State :=
  (List.range 12).foldl (fun t k =>
    match nominalW (k / 2) (k % 2) with
    | some w =>
      let c := (s.lk n).calW (k / 2) (k % 2)
      t.flagIf (20 * c < 19 * w || 21 * w < 20 * c) F.MEAS_FLAGS_CAL_RANGE n
    | none => t) s

/-- LSTATE enters ADMITTED (R278 to R280): a new epoch, tallies and offsets at 0, T_sh unknown. -/
def State.admitStreams (s : State) (n : Nat) : State :=
  let x := s.strm n
  let s := s.setFld F.MEAS_EPOCH_EPOCH (s.fld F.MEAS_EPOCH_EPOCH n + 1) n
  let s := s.setFld F.MEAS_EPOCH_SPARE_KIND (s.spareKind n) n
  let s := (List.range 4).foldl (fun t i => t.setReg .MEAS_TALLY n i 0) s
  let s := (s.setReg .MEAS_ZERO n 0 0).setReg .MEAS_ZERO n 1 0
  let s := s.setStrm n { ({} : Strm) with
    lastEnd := x.lastEnd, remDis := x.remDis, remChg := x.remChg, updates := x.updates,
    win := x.win, nxt := x.nxt, sl := x.sl, slNext := x.slNext }
  let s := s.setStrm n { s.strm n with weff := s.weffOf n, weffBad := s.weffOf n }
  s.calRange n

/-- The link is one whose packets are counted: ADMITTED, or re-configuring while admitted (R118). -/
def State.counting (s : State) (n : Nat) : Bool :=
  s.lstate n == lsAdmitted || (s.lstate n == lsConfigure && (s.lk n).reconf)

/-- The stream block of channel n is fenced (R48): Measure blocks 12 to 19, four channels each. -/
def State.streamFenced (s : State) (n : Nat) : Bool := s.fenced (unitKey 1 (12 + n / 4) 0 false)

/-! ### Time of packets (R283, R285) -/

/-- Time base 0 as one number of ns. -/
def State.tb0 (s : State) : Int := (s.tbSec 0 : Int) * 1000000000 + (s.tbNs 0 : Int)

def State.tb (s : State) (b : Nat) : TimeBase := sparseGet s.tbs {} b

/-- 10^9 ns in 2^−32 ns. -/
abbrev secUnits : Int := 1000000000 * 2 ^ 32

/-- The rate of a slew per edge, in 2^−64 ns: ADJ_PPM × 10^−6 × 4 ns (R577). -/
def slewRate (ppm : Nat) : Nat := (roundFree 170 ((ppm : Rat) * 4 * 2 ^ 64 / 1000000)).toNat

/-- What the slew of a mark has added after k edges (R577). -/
def TbMark.slewed (m : TbMark) (k : Nat) : Int :=
  let u : Int := min ((m.acc + k * slewRate m.ppm) / 2 ^ 32 : Nat) (m.left.natAbs : Int)
  if m.left < 0 then -u else u

/-- The base k edges after a mark, in 2^−32 ns. -/
def TbMark.after (m : TbMark) (k : Nat) : Int :=
  (m.sec : Int) * secUnits + (m.ns : Int) * 2 ^ 32 + (m.frac : Int) + (k : Int) * ((m.inc : Int) * 2 ^ 32 + (m.incFrac : Int)) +
    (if m.left = 0 then 0 else m.slewed k)

/-- An earlier mark gives a later one: nothing but the edges lies between them. -/
def TbMark.gives (m x : TbMark) : Bool :=
  let k := x.osc - m.osc
  m.inc == x.inc && m.incFrac == x.incFrac && m.after k == x.after 0 &&
  (if m.left = 0 then x.left == 0
   else m.ppm == x.ppm && m.left - m.slewed k == x.left && (x.left == 0 || (m.acc + k * slewRate m.ppm) % 2 ^ 32 == x.acc))

/-- The mark of base b as it stands. -/
def State.tbMark (s : State) (b : Nat) : TbMark :=
  let x := s.tb b
  { osc := s.osc, sec := x.sec, ns := x.ns, frac := x.frac, inc := s.fld F.TB_INC_NS_NS b, incFrac := x.incFrac
    ppm := s.fld F.TB_CFG_ADJ_PPM b, left := x.left, acc := x.acc }

/-- The local instant t (ns) mapped to base b, in ns of it (R581): the base at its edge and the part of an edge after it; from
60 s back the increment in force now counts. -/
def State.tbMap (s : State) (b : Nat) (t : Rat) : Rat :=
  let e := (t / 4).floor
  let old := decide (t + 60000000000 < (s.now : Rat))
  let hit := (s.bel.marks.toList.getD b []).find? fun m => decide ((m.osc : Int) ≤ e)
  let at_ (m : TbMark) (k : Int) (sub : Rat) : Rat :=
    ((m.after k.toNat : Rat) + sub * ((m.inc : Rat) * 2 ^ 32 + (m.incFrac : Rat))) / 2 ^ 32
  match old, hit with
  | false, some m => at_ m (e - (m.osc : Int)) (t / 4 - (e : Rat))
  | _, _ => at_ (s.tbMark b) 0 ((t - (s.now : Rat)) / 4)

/-- Time base 0 at a local instant. -/
def State.tb0At (s : State) (t : Rat) : Rat := s.tbMap 0 t

/-- A packet that starts at t (local ns) belongs to the window after the one in progress (R285). -/
def State.afterEnd (s : State) (t : Rat) : Bool :=
  match s.win.endNs with
  | some e => decide ((e : Rat) ≤ s.tb0At t)
  | none => false

/-- A packet that starts at t (local ns) belongs to a window that has closed (R285); its record holds it as lost. -/
def State.beforeStart (s : State) (t : Rat) : Bool := decide (s.tb0At t < (s.win.startNs : Rat))

/-- A packet that starts at t (local ns) belongs to the slice after the one in progress (R291). -/
def State.afterSlice (s : State) (t : Rat) : Bool :=
  s.inst.nextT.any fun e => decide ((e : Rat) ≤ s.tb0At t)

/-- A packet that starts at t (local ns) belongs to the slice that closed last (R291). -/
def State.beforeSlice (s : State) (t : Rat) : Bool := s.inst.lastK.isSome && decide (s.tb0At t < (s.inst.lastT : Rat))

/-- How many of k packets from t0 (local ns) on start before the time base 0 instant e. -/
def State.slotsBefore (s : State) (k : Nat) (t0 : Rat) (e : Int) : Nat :=
  satNat k ((((e : Rat) - s.tb0At t0) / 50).ceil.toNat)

/-- The slice that closed last takes what comes late: charge in C, lost packets, those that count for R432 (R291). -/
def State.lateSlice (s : State) (n : Nat) (q : Rat) (lost tu : Nat) : State :=
  let c := s.chain n
  s.setChain n { c with recs := c.recs.map fun r =>
    if s.inst.lastK = some r.k ∧ ¬ r.skipped then { r with q := r.q + q, lost := r.lost + lost, lostTu := r.lostTu + tu }
    else r }

/-- The delay filter (R283): the mean of the last 256 delays, approached by at most 0.4 ns a frame. -/
def Strm.filterDelay (x : Strm) (d : Rat) : Strm :=
  let w := (d :: x.dWin).take 256
  let m := w.foldl (· + ·) 0 / (w.length : Rat)
  let f := if x.dWin.isEmpty then d else x.dFilt + clampQ (-(2 / 5)) (2 / 5) (m - x.dFilt)
  { x with dWin := w, dFilt := f }

/-! ### Packets of one half word (R109, R110, R275) -/

/-- Packet j of a half of stream st. -/
def pktOf (x : Strm) (st h j : Nat) : Pkt :=
  let r := if st < 2 then packetRange h j else 0
  let w := x.weff.toList.getD (2 * st + r) 0
  let one := halfBit h j
  { one := one, rng := r, chg := st < 2 && halfRc h && j == halfRcPos h,
    x := if one then w else -w }

/-- The ten packets of a half, earliest first. -/
def pktsOf (x : Strm) (st h : Nat) : List Pkt := (List.range 10).map (pktOf x st h)

/-- Stream 0 or 1 less its offset (R279). -/
def Strm.comp (x : Strm) (st : Nat) (p : Pkt) : Rat := p.x - x.zero.toList.getD (2 * st + p.rng) 0

/-- A 64-bit pair of registers (words j and j + 1). -/
def State.reg64 (s : State) (r : RegName) (i j : Nat) : Nat :=
  s.reg r i j + 2 ^ 32 * s.reg r i (j + 1)
def State.setReg64 (s : State) (r : RegName) (i j : Nat) (v : Nat) : State :=
  (s.setReg r i j (v % 2 ^ 32)).setReg r i (j + 1) (v / 2 ^ 32 % 2 ^ 32)

/-- The net count of ones over zeros of the packets at range r. -/
def netOnes (ps : List Pkt) (r : Nat) : Int :=
  ps.foldl (fun a p => if p.rng = r then (if p.one then a + 1 else a - 1) else a) 0

/-- The tallies of R280 take the ten packets of stream 0. -/
def State.addTally (s : State) (n : Nat) (ps : List Pkt) : State :=
  let add (t : State) (r : Nat) : State :=
    t.setReg64 .MEAS_TALLY n (2 * r)
      (ofSigned 64 (toSigned 64 (t.reg64 .MEAS_TALLY n (2 * r)) + netOnes ps r))
  add (add s 0) 1

/-- The charge counts of R281 take one frame's net charge, in µC; what is below 1 µC is kept. -/
def State.addCharge (s : State) (n : Nat) (ps : List Pkt) : State :=
  let x := s.strm n
  let q : Rat := ps.foldl (fun a p => a + x.comp 0 p) 0 / 20
  if 0 < q then
    let v := x.remDis + q
    let s := s.setReg64 .MEAS_QCOUNT n 0 (s.reg64 .MEAS_QCOUNT n 0 + v.floor.toNat)
    s.setStrm n { x with remDis := v - (v.floor : Rat) }
  else
    let v := x.remChg - q
    let s := s.setReg64 .MEAS_QCOUNT n 2 (s.reg64 .MEAS_QCOUNT n 2 + v.floor.toNat)
    s.setStrm n { x with remChg := v - (v.floor : Rat) }

/-- A window takes one packet of streams 0, 2 and 3. -/
def Acc.take (a : Acc) (i v2 v3 : Rat) (rc stale : Bool) : Acc :=
  { a with sumI := a.sumI + i, numI := a.numI + 1, sumV2 := a.sumV2 + v2, sumV3 := a.sumV3 + v3,
           rc := a.rc || rc, stale := a.stale || stale }

/-- A slice takes one packet of stream 0, in A. -/
def Slice.take (a : Slice) (i : Rat) : Slice := { a with sum := a.sum + i, num := a.num + 1 }

/-- The sums over packets of zero learning (R279). -/
def Strm.takePacket (x : Strm) (ps : List Pkt) : Strm :=
  let p (k : Nat) : Pkt := ps.getD k ⟨false, 0, false, 0⟩
  { x with
    zSum := #v[x.zSum[0] + (p 0).x, x.zSum[1] + (p 1).x]
    zNum := x.zNum + 1
    zSkip := x.zSkip || (p 0).chg || (p 1).chg
    zRng := #v[(p 0).rng, (p 1).rng] }

/-- The window and the slice that hold the packets of the local time t take them (R285, R286, R291). -/
def State.sumPacket (s : State) (n : Nat) (t : Rat) (ps : List Pkt) : State :=
  let x := s.strm n
  let p (k : Nat) : Pkt := ps.getD k ⟨false, 0, false, 0⟩
  let i := x.comp 0 (p 0)
  let add (a : Acc) : Acc := a.take i (p 2).x (p 3).x (p 0).chg x.stale
  let x := if s.beforeStart t then x else if s.afterEnd t then { x with nxt := add x.nxt } else { x with win := add x.win }
  if s.beforeSlice t then (s.setStrm n (x.takePacket ps)).lateSlice n (i / 20000000) 0 0
  else
    let x := if s.afterSlice t then { x with slNext := x.slNext.take i } else { x with sl := x.sl.take i }
    s.setStrm n (x.takePacket ps)

/-- The history of the six filters takes one packet each (R292), newest first. -/
def Strm.pushHist (x : Strm) (ps : List Pkt) : Strm :=
  { x with
    hist := Vector.ofFn fun k => (ps.getD k.val ⟨false, 0, false, 0⟩ :: x.hist[k.val]).take 80
    since := x.since + 1
    newPk := x.newPk + 1 }

/-- A packet that starts at t (local ns) belongs to the sharing period after the one in progress (R249). -/
def State.nextPeriod (s : State) (t : Rat) : Bool := s.share.due.any fun e => decide ((e : Rat) ≤ t)

/-- The 10 ms and period sums of shunt agreement (R212), sharing (R249) and trim comparison (R260) take the packets that
start at t0 (local ns). -/
def State.takeSums (s : State) (n : Nat) (ps : List Pkt) (t0 : Rat) : State :=
  let x := s.strm n
  let p (k : Nat) : Pkt := ps.getD k ⟨false, 0, false, 0⟩
  let i0 := x.comp 0 (p 0)
  let i1 := x.comp 1 (p 1)
  let q := s.prot n
  let t := s.trim n
  let s := s.setProt n { q with sum0 := q.sum0 + i0, sum1 := q.sum1 + i1, sumN := q.sumN + 1 }
  let t := if s.nextPeriod t0 then { t with nextQ := t.nextQ + i0, nextN := t.nextN + 1 }
    else { t with perQ := t.perQ + i0, perN := t.perN + 1 }
  s.setTrim n { t with cmpI := t.cmpI + i0, cmpT := t.cmpT + (p 4).x, cmpN := t.cmpN + 1 }

/-- Packet j of six halves, each stream in turn; an unused stream 5 reads 0. -/
def State.sixPkts (s : State) (n : Nat) (halves : List Nat) (j : Nat) : List Pkt :=
  (List.range 6).map fun st =>
    if s.streamUsed n st then pktOf (s.strm n) st (halves.getD st 0) j else ⟨false, 0, false, 0⟩

/-- The ten packets of one frame, packet 0 starting at t0 (local ns): each is counted once (R280, R281),
summed, and pushed through the filters' history.  A fenced stream block counts nothing (R48). -/
def State.tenPackets (s : State) (n : Nat) (halves : List Nat) (t0 : Rat) : State :=
  let fenced := s.streamFenced n
  let p0 := pktsOf (s.strm n) 0 (halves.getD 0 0)
  let s := s.flagIf (!fenced && p0.any fun p => p.chg) F.MEAS_FLAGS_RANGE_CHANGE n
  let s := if fenced then s else (s.addTally n p0).addCharge n p0
  (List.range 10).foldl (fun t j =>
    let ps := t.sixPkts n halves j
    let u := t0 + 50 * (j : Rat)
    let t := t.setStrm n ((t.strm n).pushHist ps)
    let t := if fenced then t else t.sumPacket n u ps
    let t := t.setStrm n { t.strm n with zSkip := (t.strm n).zSkip || !t.resting n }
    t.takeSums n ps u) s

/-! ### Lost packets (R112, R282) -/

/-- k packets from t0 on (local ns) were lost: they go to GAP_PKT, and to the windows and slices they fall in; a window or
slice that has closed has booked its own.  Of a long loss the first 100 count for R432. -/
def State.losePackets (s : State) (n k : Nat) (t0 : Rat) : State :=
  let x := s.strm n
  let s := s.setFld F.MEAS_GAPCNT_GAP_PKT (satNat 0xFFFFFFFF (s.fld F.MEAS_GAPCNT_GAP_PKT n + k)) n
  let w0 := s.slotsBefore k t0 s.win.startNs
  let w1 : Nat := match s.win.endNs with
    | some e => s.slotsBefore k t0 e
    | none => k
  let tu := satNat 100 k
  let old (m : Nat) : Nat := if s.inst.lastK.isSome then s.slotsBefore m t0 s.inst.lastT else 0
  let now (m : Nat) : Nat := match s.inst.nextT with
    | some e => s.slotsBefore m t0 e
    | none => m
  let s := s.setStrm n { x with
    win := { x.win with lost := x.win.lost + (w1 - w0) }
    nxt := { x.nxt with lost := x.nxt.lost + (k - w1) }
    sl := { x.sl with lost := x.sl.lost + (now k - old k), tu := x.sl.tu + (now tu - old tu) }
    slNext := { x.slNext with lost := x.slNext.lost + (k - now k), tu := x.slNext.tu + (tu - now tu) }
    zSkip := true }
  let t := s.trim n
  s.setTrim n { t with
    gapNow := t.gapNow || !s.nextPeriod t0
    gapNext := t.gapNext || (0 < k && s.nextPeriod (t0 + 50 * ((k : Rat) - 1))) }

/-- k packets from t0 on are lost while the link is counted: those of the slice that closed last go to it. -/
def State.bookLost (s : State) (n k : Nat) (t0 : Rat) : State :=
  let late := if s.inst.lastK.isSome then s.slotsBefore k t0 s.inst.lastT else 0
  (s.lateSlice n 0 late late).losePackets n k t0

/-- Bits are missing from the filters: they restart at the next complete update window (R293). -/
def State.breakFilters (s : State) (n : Nat) : State :=
  s.setStrm n { s.strm n with hist := Vector.replicate 6 [], since := 0, newPk := 0,
                               broken := true, waiting := false }

/-- The bits of consecutive bad frames are lost (R112): `pkts` packets; GAP sets. -/
def State.streamGap (s : State) (n pkts : Nat) : State :=
  if ¬ s.counting n then s
  else
    let t0 := ((s.strm n).lastEnd).getD (s.now : Rat)
    let s := s.flag F.MEAS_FLAGS_GAP n
    let s := s.setIns n { s.ins n with gapAt := some s.now }
    let s := (s.bookLost n pkts t0).breakFilters n
    s.setStrm n { s.strm n with lastEnd := some (t0 + 50 * (pkts : Rat)) }

/-- The interval that ended with the first packet of this frame was not covered (R282): after a link loss
it runs from the last packet received to the first good frame after readmission.  When its start lies more than 60 s back,
mapping it sets MAP_OLD (R581). -/
def State.closeGap (s : State) (n : Nat) (t0 : Rat) : State :=
  match (s.strm n).lastEnd with
  | none => s
  | some e =>
    let k := ((t0 - e) / 50 + 1 / 2).floor.toNat
    if k = 0 then s
    else
      let s := s.setIns n { s.ins n with gapAt := some s.now }
      let s := s.flagIf (decide (e + 60000000000 < (s.now : Rat))) F.TB_FLAGS_MAP_OLD 0
      (s.losePackets n k e).breakFilters n

/-- The temperature reading of a good frame (R278). -/
def Strm.takeNtc (x : Strm) (w : Nat) : Strm :=
  match ntcValue w with
  | some t => { x with tSum := x.tSum + t, tNum := x.tNum + 1 }
  | none => x

/-- The ten packets of the frame before, with the weights that were in force for it (R112, R278). -/
def State.prevPackets (s : State) (n : Nat) (halves : List Nat) (t0 : Rat) : State :=
  let w := (s.strm n).weff
  let s := s.setStrm n { s.strm n with weff := (s.strm n).weffBad }
  let s := s.tenPackets n halves t0
  s.setStrm n { s.strm n with weff := w }

/-- The stream words of a good frame (R112): the frame before is taken from PREV when it alone was bad;
a difference between PREV and bits already counted sets STREAM_MISMATCH.  `t0` is the start of packet 0. -/
def State.streamFrame (s : State) (n : Nat) (words : List Nat) (lag ofs ntc : Nat) : State :=
  let l := s.lk n
  let usePrev := l.badRun = 1
  let differ := l.prevGood && (List.range 6).any fun k => prevHalf (words.getD k 0) != l.curWords.toList.getD k 0
  let s := s.flagIf differ F.PLK_FLAGS_STREAM_MISMATCH n
  if ¬ s.counting n then s
  else
    let d : Rat := ((lag : Rat) - 2 * (ofs : Rat)) / 10
    let s := s.setStrm n (((s.strm n).filterDelay d).takeNtc ntc)
    let t0 : Rat := (s.now : Rat) - (lag : Rat) / 5 + (s.strm n).dFilt - 500
    let s := s.closeGap n (if usePrev then t0 - 500 else t0)
    let s := if usePrev then s.prevPackets n (words.map prevHalf) (t0 - 500) else s
    let s := s.tenPackets n (words.map curHalf) t0
    let fenced := s.streamFenced n
    let s := if fenced then
        let s := if (s.strm n).lastEnd.isSome then s.bookLost n (if usePrev then 20 else 10) (if usePrev then t0 - 500 else t0) else s
        let s := s.setIns n { s.ins n with gapAt := some s.now }
        s.flagIf (!(s.trim n).gapFenced) F.MEAS_FLAGS_GAP n
      else s
    let s := s.setTrim n { s.trim n with gapFenced := fenced }
    s.setStrm n { s.strm n with lastEnd := some (t0 + 500) }

/-! ### Fast values (R292 to R295) -/

/-- Polynomial product of coefficient lists. -/
def conv (a b : List Nat) : List Nat :=
  match a with
  | [] => []
  | x :: rest => addList (b.map (x * ·)) (0 :: conv rest b)
where
  /-- Elementwise sum, the longer list's tail kept. -/
  addList (u v : List Nat) : List Nat :=
    match u, v with
    | [], v => v
    | u, [] => u
    | x :: u, y :: v => (x + y) :: addList u v

/-- The 58 coefficients of R292: three boxcars of length 20 convolved. -/
def sinc3 : List Nat :=
  conv (List.replicate 20 1) (conv (List.replicate 20 1) (List.replicate 20 1))

/-- The filter value over a history, newest first: the sinc3 of 58 packets, or, in the first two values
after a restart, the mean of those received since (R293). -/
def filterValue (ps : List Pkt) (since : Nat) : Rat :=
  let n := satNat ps.length since
  if 58 ≤ n then (List.zipWith (fun h p => (h : Rat) * p.x) sinc3 ps).foldl (· + ·) 0 / 8000
  else if n = 0 then 0
  else (ps.take n).foldl (fun a p => a + p.x) 0 / (n : Rat)

/-- MEAS_FAST of one stream. -/
def State.showFast (s : State) (n st : Nat) (v : Rat) (rng : Nat) (hold stale sat : Bool) (upd : Nat) : State :=
  let s := s.setSatFld F.MEAS_FAST_VALUE (roundFree 50 (v * 10)) n st
  let s := s.setFld F.MEAS_FAST_RANGE rng n st
  let s := s.setBit F.MEAS_FAST_HOLD hold n st
  let s := s.setBit F.MEAS_FAST_STALE stale n st
  let s := s.setBit F.MEAS_FAST_SAT sat n st
  s.setFld F.MEAS_FAST_UPD (upd % 256) n st

/-- One stream's fast value at an update whose newest packet is `skip` packets back (R292, R294, R295).  A saturation counts
in the window of that packet (R289). -/
def State.fastStream (s : State) (n skip st : Nat) : State :=
  let x := s.strm n
  let ps := (x.hist.toList.getD st []).drop skip
  let rng := ((ps.head?).map Pkt.rng).getD 0
  let raw := filterValue ps (x.since - skip)
  let raw := if st < 2 then raw - x.zero.toList.getD (2 * st + rng) 0 else raw
  let span := (ps.take (satNat 58 (x.since - skip))).any Pkt.chg
  let pre := x.vpre.toList.getD st 0
  let hold := st < 2 && span
  let v := if hold ∧ absQ raw < absQ pre then pre else raw
  let w20 := ps.take 20
  let sat := s.streamUsed n st && w20.length == 20 && (w20.all Pkt.one || w20.all fun p => !p.one)
  let was := x.satOn.toList.getD st false
  let wasHold := x.holdOn.toList.getD st false
  let s := s.flagIf (sat && !was && !s.streamFenced n) F.MEAS_FLAGS_SAT n
  let s := s.flagIf (hold && !wasHold && !s.streamFenced n) F.MEAS_FLAGS_FAST_HOLD n
  let late := s.afterEnd ((x.lastEnd).getD 0 - 50 * ((skip : Rat) + 1))
  let hit := sat && st == 0
  let s := s.setStrm n { x with
    fast := Vector.ofFn fun k => if k.val = st then v else x.fast[k.val]
    rng := Vector.ofFn fun k => if k.val = st then rng else x.rng[k.val]
    satOn := Vector.ofFn fun k => if k.val = st then sat else x.satOn[k.val]
    holdOn := Vector.ofFn fun k => if k.val = st then hold else x.holdOn[k.val]
    vpre := Vector.ofFn fun k => if k.val = st ∧ ¬ hold then raw else x.vpre[k.val]
    win := { x.win with sat := x.win.sat || (hit && !late) }
    nxt := { x.nxt with sat := x.nxt.sat || (hit && late) } }
  if s.streamFenced n then s else s.showFast n st v rng hold false sat x.updates

/-- A value that cannot be formed: the last valid one is held, STALE (R293). -/
def State.fastStale (s : State) (n : Nat) : State :=
  let was := s.bit F.MEAS_FAST_STALE n 0
  let s := s.flagIf (!was && !s.streamFenced n) F.MEAS_FLAGS_FAST_STALE n
  if s.streamFenced n then s
  else (List.range 6).foldl (fun t k =>
    (t.setBit F.MEAS_FAST_STALE true n k).setFld F.MEAS_FAST_UPD ((s.strm n).updates % 256) n k) s

/-- The six values of one update, the newest `skip` packets left for the next (R292). -/
def State.fastAll (s : State) (n skip : Nat) : State :=
  let s := (List.range 6).foldl (fun t k => t.fastStream n skip k) s
  s.setStrm n { s.strm n with newPk := skip, broken := false, waiting := false }

/-- One update instant (R292, R293): true when values were formed. -/
def State.fastUpdate (s : State) (n : Nat) : State × Bool :=
  let s := s.setStrm n { s.strm n with updates := (s.strm n).updates + 1 }
  let x := s.strm n
  if 20 ≤ x.newPk then (s.fastAll n 0, true)
  else if x.broken then ((s.fastStale n).breakFilters n, false)
  else ((s.fastStale n).setStrm n { (s.fastStale n).strm n with waiting := true }, false)

/-- A waiting value is formed as soon as the next good frame supplies its bits (R293). -/
def State.fastLate (s : State) (n : Nat) : State × Bool :=
  let x := s.strm n
  if x.waiting ∧ 20 ≤ x.newPk then (s.fastAll n (x.newPk - 20), true) else (s, false)

end Sys2Proof.Machine
end

