-- ==== Sys2Proof/Machine/Cells.lean ====
section
/-! DEFINITION. What estimation and learning share (spec chapters 11 and 12): the cell map, profiles, the
impedance table, contexts in the Granary, seeding, and restoring from the Ledger. -/

namespace Sys2Proof.Machine

/-! ### Map (R11, R395, R426) -/

def State.cell (s : State) (k : Nat) : Cell := sparseGet s.cells {} k
def State.setCell (s : State) (k : Nat) (c : Cell) : State := { s with cells := sparseSet s.cells {} k c }
def State.strE (s : State) (n : Nat) : StrEst := sparseGet s.strEst {} n
def State.setStrE (s : State) (n : Nat) (x : StrEst) : State := { s with strEst := sparseSet s.strEst {} n x }

/-- The Charter's map of position p of chain n. -/
def State.nodeMapOf (s : State) (n p : Nat) : NodeMap := sparseGet s.charter.nodeMap {} (16 * n + p)

/-- The cells of position p, by k. -/
def State.nodeCells (s : State) (n p : Nat) : List Nat :=
  (List.range (s.nodeMapOf n p).cells).map fun j => 512 * n + (s.nodeMapOf n p).base + j

/-- The mapped cells of string n, by k. -/
def State.stringCells (s : State) (n : Nat) : List Nat :=
  (List.range 16).flatMap fun p => s.nodeCells n p

/-- The position and input that a cell is mapped to. -/
def State.cellPlace (s : State) (k : Nat) : Option (Nat × Nat) :=
  let n := k / 512
  let c := k % 512
  ((List.range 16).find? fun p =>
    let m := s.nodeMapOf n p
    m.base ≤ c && c < m.base + m.cells).map fun p => (p, c - (s.nodeMapOf n p).base)

/-- The profile and the temperature sensor of a cell (R429). -/
def State.cellProfile (s : State) (k : Nat) : Profile :=
  match s.cellPlace k with
  | some (p, j) => s.charter.profiles.getD ((s.nodeMapOf (k / 512) p).inputs.getD j (0, 0)).1 {}
  | none => {}
def State.cellSensor (s : State) (k : Nat) : Nat :=
  match s.cellPlace k with
  | some (p, j) => ((s.nodeMapOf (k / 512) p).inputs.getD j (0, 0)).2
  | none => 0

/-- i_bal of a cell's node in A (R410, R431). -/
def State.cellBal (s : State) (k : Nat) : Rat :=
  match s.cellPlace k with
  | some (p, _) => ((s.node (k / 512) p).balI : Rat) / 1000
  | none => 0

/-! ### Profiles (R429): linear in SOC and temperature, the nearest edge outside -/

/-- The index of the grid segment that holds x. -/
def segIndex (xs : List Rat) (x : Rat) : Nat :=
  satNat (xs.length - 2) ((xs.filter fun a => decide (a ≤ x)).length - 1)

/-- Linear interpolation over a grid. -/
def interpAt (xs ys : List Rat) (x : Rat) : Rat :=
  let i := segIndex xs x
  let x0 := xs.getD i 0
  let x1 := xs.getD (i + 1) x0
  let y0 := ys.getD i 0
  let y1 := ys.getD (i + 1) y0
  if x1 ≤ x0 then y0 else y0 + (y1 - y0) * clampQ 0 1 ((x - x0) / (x1 - x0))

end Sys2Proof.Machine

namespace Sys2Proof

open Machine

def Profile.grid (f : Profile) : List Rat := f.temps.map fun (t : Int) => (t : Rat)

/-- A row of 8 values at a temperature. -/
def Profile.atT (f : Profile) (ys : List Rat) (t : Rat) : Rat := interpAt f.grid ys t

/-- hm(T) in V. -/
def Profile.hmAt (f : Profile) (t : Rat) : Rat := f.atT (f.hm.map fun (x : Int) => (x : Rat) / 1000000) t

/-- ocv at grid point i and temperature T, in V. -/
def Profile.ocvPoint (f : Profile) (i : Nat) (t : Rat) : Rat :=
  f.atT (f.ocv.map fun row => (row.getD i 0 : Rat) / 1000000) t

/-- The grid segment of a SOC. -/
def socSeg (soc : Rat) : Nat := satNat 199 (clampQ 0 1 soc * 200).floor.toNat

/-- ocv(SOC, T) in V. -/
def Profile.ocvAt (f : Profile) (soc t : Rat) : Rat :=
  let i := socSeg soc
  let a := f.ocvPoint i t
  a + (f.ocvPoint (i + 1) t - a) * (clampQ 0 1 soc * 200 - (i : Rat))

/-- docv/dsoc in V; beyond the grid the slope of its edge. -/
def Profile.slopeAt (f : Profile) (soc t : Rat) : Rat :=
  let i := socSeg soc
  (f.ocvPoint (i + 1) t - f.ocvPoint i t) * 200

/-- ocv⁻¹(v, T). -/
def Profile.ocvInv (f : Profile) (v t : Rat) : Rat :=
  let row := (List.range 201).map fun i => f.ocvPoint i t
  let i := segIndex row v
  let a := row.getD i 0
  let b := row.getD (i + 1) a
  if b ≤ a then (i : Rat) / 200 else ((i : Rat) + clampQ 0 1 ((v - a) / (b - a))) / 200

end Sys2Proof

namespace Sys2Proof.Machine

/-! ### The impedance table (R470 to R475) -/

/-- An entry of R472, in Ω and s. -/
structure ImpEntry where
  rs : Rat
  ra : Rat
  tauA : Rat
  bandL : Nat
  rb : Rat
  tauB : Rat
  ur : Rat
  n : Nat
  state : Nat
  deriving DecidableEq, Repr

def tableAddr (k e : Nat) : Nat := 0x1000400000 + 2048 * k + 8 * e
def entryNo (t sb b : Nat) : Nat := 32 * t + 4 * sb + b

def decodeEntry (w0 w1 : Nat) : ImpEntry :=
  { rs := (bitsGet w0 0 12 : Rat) / 500000
    ra := (bitsGet w0 12 11 : Rat) / 500000
    tauA := (bitsGet w0 23 7 : Rat) / 10
    bandL := bitsGet w0 30 2
    rb := (bitsGet w1 0 11 : Rat) / 500000
    tauB := 2 * (bitsGet w1 11 8 : Rat)
    ur := (bitsGet w1 19 6 : Rat) / 100
    n := bitsGet w1 25 4
    state := bitsGet w1 29 2 }

/-- A field value, rounded to the nearest step and saturating (R472). -/
def satField (tag width : Nat) (x : Rat) : Nat := satNat (2 ^ width - 1) (roundNear tag x).toNat

def encodeEntry (e : ImpEntry) : Nat × Nat :=
  (satField 90 12 (e.rs * 500000) + 2 ^ 12 * satField 91 11 (e.ra * 500000) +
     2 ^ 23 * max 1 (satField 92 7 (e.tauA * 10)) + 2 ^ 30 * e.bandL,
   satField 93 11 (e.rb * 500000) + 2 ^ 11 * max 1 (satField 94 8 (e.tauB / 2)) +
     2 ^ 19 * satField 95 6 (e.ur * 100) + 2 ^ 25 * satNat 15 e.n + 2 ^ 29 * e.state)

def State.entry (s : State) (k e : Nat) : ImpEntry :=
  decodeEntry (s.word (tableAddr k e)) (s.word (tableAddr k e + 4))

/-- Write an entry; the next journal carries it when it has changed (R490). -/
def State.setEntry (s : State) (k e : Nat) (x : ImpEntry) : State :=
  let w := encodeEntry x
  if s.word (tableAddr k e) = w.1 ∧ s.word (tableAddr k e + 4) = w.2 then s
  else
  let s := s.setWords (tableAddr k e) [w.1, w.2]
  { s with est := { s.est with changed := (k, e) :: s.est.changed.filter fun y => y != (k, e) } }

/-- Bands (R471): a value on an edge belongs to the upper one. -/
def State.tBand (s : State) (t : Rat) : Nat :=
  let edge (j : Nat) : Int := toSigned 8 (bitsGet (s.reg .LRN_TBAND (j / 4)) (8 * (j % 4)) 8)
  ((List.range 7).filter fun j => decide ((edge j : Rat) ≤ t)).length
def socBand (soc : Rat) : Nat := (8 * clampQ 0 (9999 / 10000) soc).floor.toNat
def State.iBand (s : State) (qNom i : Rat) : Nat :=
  let edge (j : Nat) : Nat := bitsGet (s.reg .LRN_IBAND) (8 * j) 8
  ((List.range 3).filter fun j => decide ((edge j : Rat) / 100 * qNom ≤ absQ i)).length

/-- The values of R474 for band b, and whether the entry was used above its learned band. -/
def State.lookupBand (s : State) (k : Nat) (t soc : Rat) (b : Nat) : ImpEntry × Bool :=
  let e := s.entry k (entryNo (s.tBand t) (socBand soc) b)
  let der : Rat := (s.fld F.LRN_BANDCFG_DERATE : Rat) / 100
  let up : Rat := (s.fld F.LRN_BANDCFG_UR_STEP : Rat) / 100
  if e.state ≠ 2 then (e, false)
  else if e.bandL < b then
    let d : Rat := ((b - e.bandL : Nat) : Rat)
    let f := 1 + der * d
    ({ e with rs := e.rs * f, ra := e.ra * f, rb := e.rb * f, ur := e.ur + up * d }, true)
  else ({ e with ur := e.ur + up * ((e.bandL - b : Nat) : Rat) }, false)

/-- The lookup for a temperature, a SOC and a current. -/
def State.lookup (s : State) (k : Nat) (t soc i : Rat) : ImpEntry × Bool :=
  s.lookupBand k t soc (s.iBand (s.cellProfile k).qNom i)

/-- Propagation within a temperature and SOC band (R475). -/
def State.propagate (s : State) (k t sb : Nat) : State :=
  let learned := (List.range 4).filter fun b => (s.entry k (entryNo t sb b)).state == 1
  (List.range 4).foldl (fun u b =>
    if learned.contains b then u
    else
      let far (x : Nat) : Nat := if x < b then b - x else x - b
      let best := learned.foldl (fun (a : Option Nat) x =>
        match a with
        | none => some x
        | some y => if far x < far y then some x else some y) none
      match best with
      | none => u
      | some x =>
        let e := u.entry k (entryNo t sb x)
        u.setEntry k (entryNo t sb b) { e with state := 2 }) s

/-- The seed table of a cell's profile (R473). -/
def State.seedTable (s : State) (k : Nat) : State :=
  let seed := (s.cellProfile k).seed
  let ws := (List.range 256).flatMap fun e => [(seed.getD e (0, 0)).1, (seed.getD e (0, 0)).2]
  s.setWords (tableAddr k 0) ws

/-! ### Contexts (R426, R458, R459, R488) -/

def ctxAddr (k : Nat) : Nat := 0x1000000000 + 256 * k

def Cell.pAt (c : Cell) (i j : Nat) : Rat :=
  let a := min i j
  let b := max i j
  c.p.toList.getD (a * 4 + b - a * (a + 1) / 2) 0

/-- The 64 words of a context. -/
def ctxWords (k qNom2 : Rat) (kn : Nat) (c : Cell) : List Nat :=
  let b (x : Bool) (i : Nat) : Nat := if x then 2 ^ i else 0
  let hdr := kn % 2 ^ 14 + 2 ^ 14 * c.estate + b c.seedWeak 17 + b c.tempStale 18 + b c.outlier 19 +
    b c.chgGap 20 + b c.extrap 21 + b c.notPlant 22 + b c.recovered 23 + b c.sohStale 24 + b c.restored 25
  let efc := if qNom2 = 0 then k else (c.thruDis + c.thruChg) / qNom2
  let lhdr := c.ancKind + b c.rlxActive 2 + b c.capLearned 3 + 2 ^ 8 * satNat 255 c.restMin +
    2 ^ 16 * satNat 0xFFFF c.capUpd
  let pts := (List.range 6).map fun i =>
    let h (j : Nat) : Nat :=
      ofSigned 16 (clampInt (-0x8000) 0x7FFF (roundFree 100 (c.rlxPts.getD j 0 * 20000)))
    h (2 * i) + 2 ^ 16 * h (2 * i + 1)
  [hdr, c.seq % 2 ^ 32, c.stepId % 2 ^ 32] ++ [c.soc, c.va, c.vb, c.h].map f32Pattern ++
  c.p.toList.map f32Pattern ++
  ([c.qCap, c.vMean, c.iCell, c.tCell, c.nu, c.socConv, c.socFloor, c.sigma, c.sohQ, c.sohR] ++
    c.sopD.toList ++ c.sopC.toList ++ [c.eDis, c.eChg]).map f32Pattern ++
  [satNat 0xFFFF c.outRun + 2 ^ 16 * satNat 0xFFFF c.coastRun, lhdr, f32Pattern c.varCap, c.tCap % 2 ^ 32] ++
  [efc, c.thruDis, c.thruChg].map f32Pattern ++
  [c.ancQDis % 2 ^ 32, c.ancQDis / 2 ^ 32 % 2 ^ 32, c.ancQChg % 2 ^ 32, c.ancQChg / 2 ^ 32 % 2 ^ 32] ++
  [f32Pattern c.ancSoc, f32Pattern c.ancSigma, c.ancT % 2 ^ 32, ofSigned 16 c.ancTemp,
   f32Pattern c.ancQBal, f32Pattern c.ancVarQ] ++ pts ++
  [f32Pattern c.rlxDi, c.rlxT0 % 2 ^ 32, c.refT % 2 ^ 32, 0]

/-- Update a cell and its context in the Granary (R458, R459): SEQ has moved on by two. -/
def State.putCell (s : State) (k : Nat) (c : Cell) : State :=
  let c := { c with seq := (c.seq + 2) % 2 ^ 32 }
  (s.setCell k c).setWords (ctxAddr k) (ctxWords 0 (2 * (s.cellProfile k).qNom) k c)

/-- SOH_Q and SOH_R (R448). -/
def State.sohOf (s : State) (k : Nat) (c : Cell) : Cell :=
  let f := s.cellProfile k
  let e := s.entry k (entryNo (s.tBand 25) 4 0)
  let r := e.rs + e.ra + e.rb
  { c with sohQ := if f.qNom = 0 then 0 else c.qCap / f.qNom, sohR := if r = 0 then 0 else f.rNomRef / r }

/-! ### Seeding and admission (R439 to R445, R473, R485) -/

/-- The anchor is dropped (R485). -/
def State.dropAnchor (s : State) (k : Nat) (c : Cell) : State × Cell :=
  (s.flagIf (c.ancKind != 0) F.LRN_FLAGS_ANCHOR_DROP (k / 512),
   { c with ancKind := 0, ancQBal := 0, ancVarQ := 0, lastVirt := c.lastVirt })

/-- Entry to SEEDING. -/
def State.seeding (s : State) (k : Nat) (c : Cell) : State × Cell :=
  let r := s.dropAnchor k c
  (r.1, { r.2 with estate := 3, seedAt := s.now, seedHist := [], outRun := 0, coastRun := 0, restRun := 0,
                   restMin := 0, vHist := [], restored := false, outlier := false })

/-- A fresh cell (R473): seed table, nominal capacity, a cleared learning area. -/
def State.freshCell (s : State) (k : Nat) (c : Cell) : State × Cell :=
  let f := s.cellProfile k
  let s := s.seedTable k
  let c : Cell := { ({} : Cell) with
    estate := c.estate, seq := c.seq, tCell := c.tCell, tempStale := c.tempStale, stepId := c.stepId
    qCap := f.qNom, varCap := f.qNom * f.qNom / 400, tCap := s.tbSec 0 % 2 ^ 32 }
  (s, s.sohOf k c)

/-- The learning of a cell starts fresh while its filter goes on (R445, R473). -/
def State.freshLearn (s : State) (k : Nat) (c : Cell) : State × Cell :=
  let a := s.freshCell k c
  let d := a.2
  (a.1, { c with
    qCap := d.qCap, varCap := d.varCap, tCap := d.tCap, sohQ := d.sohQ, sohR := d.sohR, sohStale := false
    capLearned := false, capUpd := 0, thruDis := 0, thruChg := 0, ancKind := 0, ancQDis := 0, ancQChg := 0
    ancSoc := 0, ancSigma := 0, ancT := 0, ancTemp := 0, ancQBal := 0, ancVarQ := 0, rlxActive := false, rlxPts := []
    rlxDi := 0, rlxT0 := 0, refT := 0, restRun := 0, restMin := 0, lastVirt := none })

/-- The counts of string n in C (R281). -/
def State.qDis (s : State) (n : Nat) : Nat := s.reg64 .MEAS_QCOUNT n 0
def State.qChg (s : State) (n : Nat) : Nat := s.reg64 .MEAS_QCOUNT n 2
def coulombs (u : Nat) : Rat := (u : Rat) / 1000000

/-- Time base 0 is qualified. -/
def State.tb0Good (s : State) : Bool := s.bit F.TB_STATE_QUAL 0

/-- The context of R443 that a persisted record gives now. -/
def State.restored (s : State) (k : Nat) (r : CtxRec) : Cell :=
  let n := k / 512
  let f := s.cellProfile k
  let c := r.cell
  let qc : Rat := 3600 * c.qCap
  let div (x : Rat) : Rat := if qc = 0 then 0 else x / qc
  let dq := (coulombs (s.qDis n) - coulombs r.qDis) - f.etaChg * (coulombs (s.qChg n) - coulombs r.qChg)
  let end_ : Int := sparseGet s.est.reconEnd (r.stamp - 1) n
  let last : Int := if r.stamp ≤ end_ then end_ else s.tb0
  let good := s.tb0Good
  let off : Rat := ((s.tb0 - last : Int) : Rat) / 1000000000
  let offDays := off / 86400
  let run : Rat := ((last - r.stamp : Int) : Rat) / 1000000000
  let sdv := f.sdSigma * (if good then offDays else 30)
  let bal := div (s.cellBal k * run)
  let rec_ := if r.stamp ≤ end_ then div (sparseGet s.est.recon (0, 0) n).2 else 0
  let var := c.pAt 0 0 + sdv * sdv + bal * bal + rec_ * rec_
  let e := (s.lookup k c.tCell c.soc c.iCell).1
  let sd := if good then f.sdMean * offDays else 0
  let sg := Config.sqrtQ var
  let decay (v tau : Rat) : Rat := if good ∧ tau ≠ 0 then v * Config.expNeg (off / tau) else 0
  { c with
    estate := 2, restored := true, coastRun := 0, outRun := 0
    soc := c.soc - div dq - sd
    socConv := clampQ 0 1 (c.socConv - div dq - sd)
    va := decay c.va e.tauA, vb := decay c.vb e.tauB
    p := Vector.ofFn fun i => if i.val = 0 then var else c.p[i]
    sigma := sg, socFloor := clampQ 0 1 (c.soc - div dq - sd - (s.fld F.EST_CFG_Z : Rat) / 10 * sg)
    vHist := [], seedHist := [], restRun := 0, restMin := 0, rlxActive := false, persistAt := s.now }

/-- The learning of a restored cell (R492): the newest learning record, advanced by the string's throughput. -/
def State.restoredLearn (s : State) (k : Nat) (c : Cell) : Cell :=
  match (s.ldgState.learn.find? fun e => e.1 == k).map fun e => e.2 with
  | none => c
  | some r =>
    let l := r.cell
    let n := k / 512
    let est := sparseGet s.est.reconKind 0 n
    { c with
      qCap := l.qCap, capLearned := l.capLearned, capUpd := l.capUpd, varCap := l.varCap, tCap := l.tCap
      thruDis := l.thruDis + (coulombs (s.qDis n) - coulombs r.qDis) / 3600
      thruChg := l.thruChg + (coulombs (s.qChg n) - coulombs r.qChg) / 3600
      ancKind := if est = 1 ∨ est = 3 then 0 else l.ancKind
      ancQDis := l.ancQDis, ancQChg := l.ancQChg, ancSoc := l.ancSoc, ancSigma := l.ancSigma, ancT := l.ancT
      ancTemp := l.ancTemp, ancQBal := l.ancQBal, ancVarQ := l.ancVarQ, refT := l.refT }

/-- The table from the newest snapshot and every newer journal record (R492). -/
def State.restoreTable (s : State) (k : Nat) : State :=
  let s := s.seedTable k
  (sparseGet s.ldgState.tables [] k).foldl (fun t e => t.setWords (tableAddr k e.1) [e.2.1, e.2.2]) s

/-- A cell's context is sought in the Ledger (R440, R443): accepted, or the cell starts fresh in SEEDING. -/
def State.restoreCell (s : State) (k : Nat) : State :=
  let n := k / 512
  match s.cellPlace k with
  | none => s
  | some (p, j) =>
    let fresh (t : State) : State :=
      let a := t.freshCell k (t.cell k)
      let b := a.1.seeding k a.2
      b.1.putCell k b.2
    match (s.ldgState.ctx.find? fun e => e.1 == k).map fun e => e.2 with
    | none => fresh s
    | some r =>
      if r.serial = (s.node n p).serial ∧ r.input = j ∧ sparseGet s.est.reconKind 0 n ≠ 1 then
        let s := s.restoreTable k
        let c := s.restoredLearn k (s.restored k r)
        let had := (s.ldgState.learn.find? fun e => e.1 == k).any fun e => e.2.cell.ancKind != 0
        let s := s.flagIf (had && c.ancKind == 0) F.LRN_FLAGS_ANCHOR_DROP n
        s.putCell k (s.sohOf k { c with seq := (s.cell k).seq })
      else fresh (s.flag F.EST_FLAGS_RESTORE_REJECT n)

/-- Contexts of a node's cells are kept for 10 min, and the cells start fresh (R440, R445). -/
def State.swapCells (s : State) (n p : Nat) : State :=
  let ks := (s.nodeCells n p).filter fun k => 2 ≤ (s.cell k).estate
  let kept : KeptNode :=
    { at_ := s.now, cells := ks.map fun k => (k, s.cell k)
      tables := ks.map fun k => (k, (List.range 256).map fun e =>
        (s.word (tableAddr k e), s.word (tableAddr k e + 4)))
      counts := (s.qDis n, s.qChg n) }
  let s := if ks.isEmpty then s
    else { s with keptNodes := (16 * n + p, kept) :: s.keptNodes.filter fun e => e.1 != 16 * n + p }
  ks.foldl (fun t k =>
    let t := t.flag F.EST_FLAGS_SWAP n
    let d := t.dropAnchor k (t.cell k)
    let a := d.1.freshCell k d.2
    let b := a.1.seeding k a.2
    b.1.putCell k b.2) s

/-- The node at position p has been admitted (R440): absent cells are restored or seeded, a changed SERIAL
swaps, and the same SERIAL carries on. -/
def State.cellsAdmitted (s : State) (n p : Nat) (changed : Bool) : State :=
  let s := if changed then s.swapCells n p else s
  (s.nodeCells n p).foldl (fun t k => if (t.cell k).estate = 1 then t.restoreCell k else t) s

/-- The Charter maps cells (R426, R439): every mapped cell starts ABSENT, and HR_NODE shows the map (R424). -/
def State.mapCells (s : State) : State :=
  s.charter.nodeMap.foldl (fun t e =>
    let n := e.1 / 16
    let p := e.1 % 16
    let t := t.setFld F.HR_NODE_CELLS e.2.cells n p
    let t := t.setFld F.HR_NODE_CELL_BASE e.2.base n p
    (t.nodeCells n p).foldl (fun u k => u.putCell k { u.cell k with estate := 1 }) t) s

end Sys2Proof.Machine
end

