-- ==== Sys2Proof/Machine/Guard.lean ====
section
/-! DEFINITION. What the control and protection tiles do with the 1 µs values: the thermal model's
temperatures and the rotation set (R161 to R167), I_set (R164), and the protection checks of every update
(R193, R201, R203, R210, R154). -/

namespace Sys2Proof.Machine

/-! ### Temperatures and the SOA plan (R161, R162, R671) -/

/-- TJ limits in °C after the plan taken at the last entry to CHECK (R671). -/
def State.tjLin (s : State) (n : Nat) : Int := (s.fld F.INS_THERM_TJ_LIN_MAX n : Int) - ((s.ins n).planDrop : Int)
def State.tjRot (s : State) (n : Nat) : Int := (s.fld F.INS_THERM_TJ_ROT n : Int) - ((s.ins n).planDrop : Int)
def State.tjResume (s : State) (n : Nat) : Int := min (s.fld F.INS_THERM_TJ_RESUME n : Int) (s.tjRot n)
def State.tjStart (s : State) (n : Nat) : Int := min (s.fld F.INS_THERM_TJ_START n : Int) (s.tjResume n)

/-- The lesser of P_GROUP_MAX and its plan, in W; the greater of SHARE_K and its plan, as a factor. -/
def State.pGroupMax (s : State) (n : Nat) : Nat :=
  let p := (s.ins n).planPgrp
  if p = 0xFFFF then s.fld F.INS_PGRP_P_GROUP_MAX n else min (s.fld F.INS_PGRP_P_GROUP_MAX n) p
def State.shareK (s : State) (n : Nat) : Rat :=
  (max (s.fld F.INS_ROT_SHARE_K n) (s.ins n).planShare : Rat) / 100

/-- The model temperature of group g; before a valid reading since admission t_base is TJ_START (R162). -/
def State.tj (s : State) (n g : Nat) : Rat :=
  let x := s.ins n
  (x.tBase).getD (s.tjStart n : Rat) + x.dt1.toList.getD g 0 + x.dt2.toList.getD g 0

/-- Insert group g into a list kept by rising temperature; equal temperatures keep the lower g first. -/
def State.coolInsert (s : State) (n g : Nat) (l : List Nat) : List Nat :=
  match l with
  | [] => [g]
  | h :: rest => if s.tj n g < s.tj n h then g :: h :: rest else h :: s.coolInsert n g rest

/-- The healthy groups at or below a temperature, coolest first, ties to the lower g (R152, R165). -/
def State.coolGroups (s : State) (n : Nat) (limit : Int) : List Nat :=
  ((bitList 16 (s.healthy n)).filter fun g => decide (s.tj n g ≤ (limit : Rat))).foldl
    (fun l g => s.coolInsert n g l) []

/-- A rotation set at a slot boundary (R165, R166): incoming groups go LINEAR at the present VGS_TGT while
the outgoing ones still conduct; with no eligible group the channel pauses, every group OFF. -/
def State.newRotation (s : State) (n : Nat) : State :=
  let x := s.ins n
  let set := (s.coolGroups n (s.tjRot n)).take (s.fld F.INS_ROT_ROT_WIDTH n)
  let mask := maskOf set
  let s := s.setBit F.INS_STATE_DERATED (set.length < s.fld F.INS_ROT_ROT_WIDTH n) n
  let s := s.flagIf (set.length < s.fld F.INS_ROT_ROT_WIDTH n) F.INS_FLAGS_ROT_DERATE n
  if set.isEmpty then
    let s := s.flagIf (!x.paused) F.INS_FLAGS_THERMAL_PAUSE n
    let s := s.setBit F.INS_STATE_PAUSED true n
    let s := s.setIns n { x with paused := true, rotSet := 0, outgoing := 0, slotAt := s.now }
    (s.gates n 0 0 0 1 x.vgs).showConduct n
  else
    let out := maskDiff 16 x.rotSet mask
    let s := s.setBit F.INS_STATE_PAUSED false n
    let s := s.setIns n { x with paused := false, rotSet := mask, outgoing := out, slotAt := s.now }
    (s.gates n 0 (mask ||| out) 1 1 x.vgs).showConduct n

/-- R200: a desaturation in LIMIT_CHARGE of exactly one group of the rotation set, with |I_prot| at or
below IMAX_eff through the last 2 µs, damages that group and restarts the loop; any other is a trip. -/
def State.imaxEff (s : State) (n : Nat) : Nat := min (s.fld F.INS_LIMIT_IMAX n) (s.fld F.PROT_EFF_ILIM_EFF n)

def State.desatEvent (s : State) (n mask : Nat) : State :=
  let gs := bitList 16 mask
  let imax := amps (s.imaxEff n)
  let q := s.prot n
  let single := s.cstate n == csLimit && gs.length == 1 && bitOf (s.ins n).rotSet (gs.getD 0 0) &&
    decide (q.recent.1 ≤ imax) && decide (q.recent.2 ≤ imax)
  if single then
    let s := s.damage n (gs.getD 0 0)
    if s.cstate n = csLimit then
      let s := s.newRotation n
      s.setIns n { s.ins n with vgs := s.fld F.INS_GRAMP_VGS_START n, loopReached := false, loopNew := true }
    else s
  else s.tripModule n 0x01

/-! ### The 1 µs values (R149, R193) -/

/-- Vtrim of R149. -/
def State.vtrim (s : State) (n : Nat) : Rat :=
  if s.bit F.PLK_STATE_TRIM_PRESENT n then (s.trim n).vModel else 0

/-- A check stream is fitted (R193): IDENT CAPS bit 1. -/
def State.hasCheck (s : State) (n : Nat) : Bool := bitOf (idCaps (s.lk n).ident) 1

/-- Vsw, I_str, I_prot and the sums that SENSE, the 10 µs and 1 ms means and the slow breaker take. -/
def State.takeValues (s : State) (n : Nat) : State :=
  let x := s.strm n
  let a := x.fast[0]
  let b := x.fast[1]
  let iprot := if s.hasCheck n ∧ absQ a < absQ b then b else a
  let vdiff := x.fast[3] - x.fast[2]
  let vsw := vdiff - s.vtrim n
  let q := s.prot n
  let lowRun (k : Nat) (v : Rat) : Nat :=
    if x.rng.toList.getD k 0 = 0 ∧ 196 ≤ absQ v then q.satRun.toList.getD k 0 + 1 else 0
  let run := #v[lowRun 0 a, lowRun 1 b]
  let high (k : Nat) (v : Rat) : Bool := x.rng.toList.getD k 0 == 1 && decide (1960 ≤ absQ v)
  let pin := high 0 a || decide (3 ≤ run[0]) || (s.hasCheck n && (high 1 b || decide (3 ≤ run[1])))
  let c := s.cstate n
  let conduct : Option Nat := if s.resting n ∧ 20 < absQ iprot then
      (match q.conductAt with
       | some t => some t
       | none => some s.now)
    else none
  let s := s.setProt n { q with
    satRun := run, pinned := pin, recent := (q.recent.2, absQ iprot), conductAt := conduct
    conducted := q.conducted && conduct.isSome, peak := maxQ q.peak (absQ iprot),
    slowSum := q.slowSum + absQ iprot, slowN := q.slowN + 1 }
  let y := s.ins n
  let p := absQ vsw * absQ a
  let s := s.setIns n { y with
    vsw := vsw, istr := a, iprot := iprot
    energy := if csCheck ≤ c ∧ c ≤ csConfirm then y.energy + p / 1000000 else y.energy
    senseV2 := if c = csSense then y.senseV2 + x.fast[2] else y.senseV2
    senseV3 := if c = csSense then y.senseV3 + x.fast[3] else y.senseV3
    senseN := if c = csSense then y.senseN + 1 else y.senseN
    sum10 := y.sum10 + vsw, n10 := y.n10 + 1
    sum1ms := y.sum1ms + vdiff, n1ms := y.n1ms + 1 }
  s.setFld F.INS_LIVE_P_NOW (satNat 65535 (roundFree 51 p).toNat) n

/-- I_prot counts as at or above a threshold in A (R193). -/
def State.protAtLeast (s : State) (n : Nat) (thr : Rat) : Bool :=
  (s.prot n).pinned || decide (thr ≤ absQ (s.ins n).iprot)

/-- I_set of R164, in A. -/
def State.iSet (s : State) (n : Nat) : Rat :=
  let x := s.ins n
  let k : Rat := (popCount 16 x.rotSet : Rat)
  let fit := s.fitted n
  let p := minQ (s.fld F.INS_LIMIT_PMAX n : Rat)
    (minQ (idPInsert (s.lk n).ident : Rat) (k * (s.pGroupMax n : Rat) / s.shareK n))
  let pe := if fit = 0 then 0 else p * (s.healthyCount n : Rat) / (fit : Rat)
  minQ (amps (s.imaxEff n)) (pe / maxQ (absQ x.vsw) 1)

/-- Entry to active current limit (R203, R171, R247): every healthy group LINEAR at VGS_END. -/
def State.limitEnter (s : State) (n : Nat) : State :=
  let s := s.flag F.PROT_FLAGS_ILIM_ENTER n
  let s : State := if s.cstate n = csReady then s.limitsDue n else s
  let s := s.setBit F.PROT_STATE_IN_LIMIT true n
  let s := s.setBit F.INS_STATE_IN_LIMIT true n
  let s := s.flagIf (s.cstate n = csReady) F.INS_FLAGS_RDY_DROP n
  let s := s.strReady n false
  let s := s.setProt n { s.prot n with fltAt := s.now, outAt := none, exitAt := none, exiting := false }
  let s := s.gates n 0 (s.healthy n) 1 1 (s.fld F.INS_GRAMP_VGS_END n)
  let s := s.setIns n { s.ins n with loopNew := true }
  if s.tstate n = tsShare then
    (s.setFld F.TRM_STATE_TSTATE tsFreeze n).flag F.TRM_FLAGS_FREEZE n
  else s

/-- The fault timer of R205, in ns. -/
def State.faultTimer (s : State) (n : Nat) : Nat :=
  let q := s.prot n
  if s.bit F.PROT_STATE_IN_LIMIT n then q.fltNs + (s.now - q.fltAt) else q.fltNs

/-- The fault timer of a channel in active limit has reached T_FLT (R205). -/
def State.faultDue (s : State) (n : Nat) : Bool :=
  s.bit F.PROT_STATE_IN_LIMIT n && decide (1000 * s.fld F.PROT_TFLT_T_FLT n ≤ s.faultTimer n)

/-- In active limit: the exit window of R204 (VGS_TGT at VGS_END, |I_prot| ≤ 0.95 ILIM_EFF), and a return to
ILIM_EFF during an exit keeps the channel in limit with its loop at the present VGS_TGT. -/
def State.limitWatch (s : State) (n : Nat) : State :=
  let q := s.prot n
  let x := s.ins n
  let lim := amps (s.fld F.PROT_EFF_ILIM_EFF n)
  if q.exiting ∧ s.protAtLeast n lim then
    let s := s.setProt n { q with exiting := false, exitAt := none }
    s.gates n 0 (s.healthy n) 1 1 x.vgs
  else if q.exiting then s
  else
    let ok := x.vgs == s.fld F.INS_GRAMP_VGS_END n && !q.pinned && decide (absQ x.iprot ≤ lim * 95 / 100)
    let e := if ok then
        (match q.exitAt with
         | some t => some t
         | none => some s.now)
      else none
    s.setProt n { q with exitAt := e }

/-- A reverse block (R210): URGENT_OPEN, BLOCKING, STR_READY off; the channel stays READY. -/
def State.reverseBlock (s : State) (n : Nat) : State :=
  let s := (s.urgentOpen n).limitsDue n
  let s := s.flag F.PROT_FLAGS_REV_BLOCK n
  let s := if s.bit F.PROT_STATE_IN_LIMIT n then s.limitOut n else s
  let s := s.setBit F.PROT_STATE_BLOCKING true n
  let s := s.strReady n false
  let s := s.gatesOff n 1
  let s := s.setProt n { s.prot n with reclosing := false, clrSent := false }
  let s := s.setIns n { s.ins n with recloseCnt := 0, revCnt := 0 }
  s.trimReturn n

/-- The checks of one update, fastest layer first (R196, R201, R203, R210, R154, R164, R224).  A switch that a
reverse block holds off neither blocks nor limits; one that recloses does. -/
def State.fastChecks (s : State) (n : Nat) : State :=
  let s := s.takeValues n
  let x := s.ins n
  let c := s.cstate n
  let off := s.bit F.PROT_STATE_BLOCKING n && !(s.prot n).reclosing
  if s.protAtLeast n (amps (s.fld F.PROT_EFF_ISC_EFF n)) then
    let s := s.flagIf (c = csRamp && decide (amps (s.fld F.INS_CLOSE_ICLOSE n) < absQ x.istr)) F.INS_FLAGS_CLOSE_CURRENT n
    s.trip n 0x03
  else if c = csReady ∧ s.bit F.PROT_CFG_DISCHARGE_ONLY n ∧ ¬ off ∧
      x.iprot ≤ -(amps (s.fld F.PROT_REV_IREV n)) then s.reverseBlock n
  else if csEnhance ≤ c ∧ c ≤ csReady ∧ ¬ off then
    if s.bit F.PROT_STATE_IN_LIMIT n then s.limitWatch n
    else if s.protAtLeast n (amps (s.fld F.PROT_EFF_ILIM_EFF n)) then s.limitEnter n
    else s
  else if c = csRamp ∧ amps (s.fld F.INS_CLOSE_ICLOSE n) < absQ x.istr then
    if s.inrushExpired n then s.inrushFirst n else (s.flag F.INS_FLAGS_CLOSE_CURRENT n).beginOpening n 0x22
  else if c = csLimit then
    let i := s.iSet n
    let s := s.setFld F.INS_LIVE_I_SET (roundFree 52 (i * 10)).toNat n
    let first := !x.loopReached && decide (i ≤ absQ x.istr)
    let a := s.almCh n
    let s := if first then s.setAlmCh n { a with
        vth := (x.vgs :: a.vth).take 8
        baseVth := if a.base.isSome then a.baseVth else x.vgs :: a.baseVth } else s
    s.setIns n { x with iset := i, loopReached := x.loopReached || first }
  else s

/-- A value that waited for PREV has been formed by a good frame (R293). -/
def State.lateChecks (s : State) (n : Nat) : State :=
  let r := s.fastLate n
  if r.2 then r.1.fastChecks n else r.1

/-- A channel comes out of FREEZE by a handover at the next period boundary (R247, R256). -/
def State.freezeEnd (s : State) (n : Nat) : State :=
  if s.tstate n = tsFreeze then s.setTrim n { s.trim n with hoPending := true } else s

/-- V_lim of R254. -/
def State.trimLimit (s : State) (n : Nat) : Rat :=
  minQ (amps (s.fld F.TRM_LIMIT_TRIM_VLIM n))
    (minQ (amps (idTrimVmax (s.lk n).ident) - 1)
      ((s.fld F.TRM_LIMIT_TRIM_PMAX n : Rat) * 10 / maxQ (absQ (s.trim n).iMeas) 1))

/-- The voltage-mode target, clamped by the limit of R254. -/
def State.vsetTarget (s : State) (n : Nat) : State :=
  if s.tstate n = tsVolt then
    let l := s.trimLimit n
    s.setTrim n { s.trim n with vTgt := clampQ (-l) l ((s.sfld F.TRM_VSET_VSET n : Rat) / 200) }
  else s

/-- Entry to VOLT: TRM_VSET is loaded with Vmodel (R247); the channel is no member of the sharing set. -/
def State.enterVolt (s : State) (n : Nat) : State :=
  let s := (s.shareOut n).setFld F.TRM_STATE_TSTATE tsVolt n
  let s := s.setSFld F.TRM_VSET_VSET (clampInt (-16000) 16000 (roundFree 43 ((s.trim n).vModel * 200))) n
  (s.setTrim n { s.trim n with hoPending := false }).vsetTarget n

/-- Ready to share (R247): from HOLD or OFF to SHARE by handover, or to VOLT. -/
def State.shareStart (s : State) (n : Nat) : State :=
  if s.bit F.PLK_STATE_TRIM_PRESENT n ∧ (s.tstate n = tsHold ∨ s.tstate n = tsOff) ∧
      s.cstate n = csReady ∧ ¬ s.bit F.PROT_STATE_BLOCKING n ∧ ¬ s.bit F.PROT_STATE_IN_LIMIT n then
    if s.bit F.TRM_CFG_SHARE_EN n then s.setTrim n { s.trim n with hoPending := true }
    else s.enterVolt n
  else s

/-- Entry to ENHANCE (R168): every healthy group ON with RAMP 0b00 in one frame. -/
def State.enterEnhance (s : State) (n : Nat) : State :=
  let x := s.ins n
  let s := s.setIns n { x with
    wasLinear := x.linMask, passed := 0, onAt := s.now, onSent := false, rampDone := true, rotSet := 0, outgoing := 0 }
  let s := s.gates n (s.healthy n) 0 0 0 0
  let s := s.setFld F.INS_LIVE_I_SET 0 n
  let s := s.setBit F.INS_STATE_PAUSED false n
  let s := s.setBit F.INS_STATE_DERATED false n
  ((s.setCstate n csEnhance).showConduct n).showBus

/-- ZERO_REQ of R401: the flag, the alarm and the zero request. -/
def State.hrZeroReq (s : State) (n : Nat) : State :=
  ((s.flag F.HR_FLAGS_ZERO_REQ n).event 0x05 n true).zeroRequest n

/-- A node on chain n was refused for capacity, at a position or for want of one (R146, R401, R409). -/
def State.nodeRefusedCap (s : State) (n : Nat) : Bool :=
  (s.chain n).extra != 0 ||
  (List.range 16).any fun p => s.fld F.HR_NODE_NSTATE n p == 4 && s.fld F.HR_NODE_REFUSE n p == 1

/-- A lead set that lost its last group takes the next coolest eligible one at the present VGS_TGT (R173). -/
def State.leadFix (s : State) (n : Nat) : State :=
  let x := s.ins n
  if s.cstate n = csRamp ∧ x.linMask = 0 then
    match s.coolGroups n (s.tjRot n) with
    | [] => s
    | g :: _ =>
      let s := s.setIns n { x with rotSet := 2 ^ g }
      (s.gates n 0 (2 ^ g) 1 1 x.vgs).showConduct n
  else s

/-- MOD_SR_FAULT (R627): SAFE_RUN_OK in a good frame whose module tick lies 10 µs or more after SSI withheld
SAFE_RUN[n]: SAFE_RUN is held stopped. -/
def State.srWithheld (s : State) (n : Nat) (ok : Bool) : State :=
  match (s.lk n).ssiOffAt with
  | none => s
  | some t =>
    if ok ∧ ¬ s.bit F.PROT_STATE_SR_HELD n ∧
        ((t + 10000 : Nat) : Rat) ≤ ((s.strm n).lastEnd).getD 0 then
      let s := s.flag F.SSI_FLAGS_MOD_SR_FAULT 0
      (s.setBit F.PROT_STATE_SR_HELD true n).safeRun n
    else s

end Sys2Proof.Machine
end

