-- ==== Sys2Proof/Machine/Tally.lean ====
section
/-! DEFINITION. Tally timers (spec chapter 09) and the distribution of trigger events to converters and
groups (R321, R322, R323). -/

namespace Sys2Proof.Machine

/-! ### Trigger events (R321, R322, R324) -/

/-- Queue the trigger of a target for the given delay after an event at `at_` ns; a trigger that arrives while the
target's earlier delay is still pending is dropped, with the overrun flag of the sequence it would have started (R322,
R324); a group's drop counts once (log 158). -/
def State.queueTrig (s : State) (target dly at_ : Nat) : State :=
  if s.trigs.any fun e => e.1 == target then
    if target < 64 then s.flag F.MEAS_SRC_FLAGS_TRIG_OVERRUN
    else if target < 128 then s.flag F.MEAS_SRC_FLAGS_INJ_OVERRUN
    else if s.fld F.MEAS_GRP_TARGET (target - 128) = 1 then s.flag F.MEAS_SRC_FLAGS_INJ_OVERRUN
    else s.flag F.MEAS_SRC_FLAGS_TRIG_OVERRUN
  else { s with trigs := s.trigs ++ [(target, at_ + 10 * dly)] }

/-- Converter a's own regular or injected trigger fields are ignored while a group of its own drives that
sequence (R325). -/
def State.grouped (s : State) (a : Nat) (inj : Bool) : Bool :=
  let g := s.fld F.MEAS_SEQ_CFG_GROUP a
  g != 0 && (s.fld F.MEAS_GRP_TARGET g == (if inj then 1 else 0))

/-- An event of source `code` at `at_` ns reaches every target that selects it (R321): a regular sequence that is not
OFF, an injected one that is enabled, a group. -/
def State.trigEventAt (s : State) (code at_ : Nat) : State :=
  let s := (List.range 48).foldl (fun t a =>
    let t := if t.fld F.MEAS_RTRIG_SRC a = code ∧ t.fld F.MEAS_SEQ_CFG_RMODE a ≠ 0 ∧ ¬ t.grouped a false then
      t.queueTrig a (t.fld F.MEAS_RTRIG_DLY a) at_ else t
    if t.fld F.MEAS_ITRIG_SRC a = code ∧ t.bit F.MEAS_INJ_CFG_IEN a ∧ ¬ t.grouped a true then
      t.queueTrig (64 + a) (t.fld F.MEAS_ITRIG_DLY a) at_ else t) s
  (List.range 15).foldl (fun t k =>
    if t.fld F.MEAS_GRP_SRC (k + 1) = code then t.queueTrig (128 + (k + 1)) (t.fld F.MEAS_GRP_DLY (k + 1)) at_
    else t) s

/-- An event of source `code` now. -/
def State.trigEvent (s : State) (code : Nat) : State := s.trigEventAt code s.now

/-! ### Phase and points (R362, R367) -/

def State.tal (s : State) (t : Nat) : Tally := sparseGet s.tals {} t
def State.setTal (s : State) (t : Nat) (x : Tally) : State := { s with tals := sparseSet s.tals {} t x }

/-- L of R362. -/
def State.talPeriod (s : State) (t : Nat) : Nat :=
  let r := (s.tal t).r
  if s.bit F.TAL_CFG_MODE t then 2 * r else r + 1

/-- H of R367. -/
def State.talWindow (s : State) (t : Nat) : Nat :=
  let r := (s.tal t).r
  if s.bit F.TAL_CFG_MODE t then r / 2 else (r + 1) / 2

/-- The points of compare k: arm bit and phase (R367). -/
def State.talPoints (s : State) (t k : Nat) : List (Nat × Nat) :=
  let c := s.reg .TAL_CMP t k
  let r := (s.tal t).r
  let e := bitsGet (s.fld F.TAL_ACT_EDGE t) (2 * k) 2
  if e = 0 ∨ r < c then []
  else if ¬ s.bit F.TAL_CFG_MODE t then [(2 * k, c)]
  else
    let l := s.talPeriod t
    let up := (2 * k, c)
    let down := (2 * k + 1, (l - c) % l)
    if e = 1 then [up] else if e = 2 then [down]
    else if c = 0 ∨ c = r then [up] else [up, down]

/-- d of a point (R367). -/
def State.talDist (s : State) (t pt : Nat) : Nat :=
  let l := s.talPeriod t
  ((s.tal t).p + l - pt) % l

/-- COUNT and DIR (R362, R375, R376). -/
def State.showTal (s : State) (t : Nat) : State :=
  let x := s.tal t
  let down := s.bit F.TAL_CFG_MODE t && decide (x.r < x.p)
  let s := s.setReg .TAL_COUNT t 0 (if down then s.talPeriod t - x.p else x.p)
  s.setBit F.TAL_STATUS_DIR down t

/-! ### Actions (R369, R370) -/

/-- One edge's actions on OUT: CLEAR wins over SET, both win over TOGGLE, toggles toggle once. -/
def outAfter (acts : List Nat) (o : Bool) : Bool :=
  if acts.contains 2 then false else if acts.contains 1 then true
  else if acts.contains 3 then !o else o

def State.talAct (s : State) (t : Nat) (acts : List Nat) : State :=
  s.setBit F.TAL_STATUS_OUT (outAfter acts (s.bit F.TAL_STATUS_OUT t)) t

/-- The action of compare k, of the zero event. -/
def State.talActOf (s : State) (t k : Nat) : Nat := bitsGet (s.fld F.TAL_ACT_ACT t) (2 * k) 2
def State.talZact (s : State) (t : Nat) : Nat := s.fld F.TAL_ACT_ZACT t

/-- The tally block of timer t is fenced (R372): Measure blocks 20 and 21. -/
def State.talFenced (s : State) (t : Nat) : Bool := s.fenced (unitKey 1 (20 + t / 32) 0 false)

/-- Timer t runs. -/
def State.talRuns (s : State) (t : Nat) : Bool := s.bit F.TAL_CFG_EN t && !s.talFenced t

/-- Timer t runs and takes sync events: with ONCE, only the first since TAL_SYNC was written (R366). -/
def State.talSyncs (s : State) (t : Nat) : Bool :=
  s.talRuns t && !(s.bit F.TAL_SYNC_ONCE t && s.bit F.TAL_STATUS_ONCE_DONE t)

/-- A sync event of source `code` becomes due at every running timer that selects it (R365, R366). -/
def State.syncEvent (s : State) (code : Nat) : State :=
  (List.range 64).foldl (fun u t =>
    if u.fld F.TAL_SYNC_SYNC_SRC t = code ∧ u.talSyncs t then u.setTal t { u.tal t with syncDue := true } else u) s

/-- The converter trigger event of timer t (R370): what = 1 the zero event, 2 to 5 a fire of compare what − 2. -/
def State.talTrig (s : State) (t what : Nat) : State :=
  if s.fld F.TAL_ACT_TRIG_SEL t = what then s.trigEvent (t + 1) else s

/-- Points that fire at this evaluation; a fired point disarms, and a point outside its window rearms (R368). -/
def State.talScan (s : State) (t k : Nat) : State × Bool :=
  (s.talPoints t k).foldl (fun acc e =>
    let u := acc.1
    let x := u.tal t
    if u.talDist t e.2 < u.talWindow t then
      if bitOf x.armed e.1 then (u.setTal t { x with armed := bitPut x.armed e.1 false }, true) else acc
    else (u.setTal t { x with armed := bitPut x.armed e.1 true }, acc.2)) (s, false)

/-- Compare k is at a point with d > 0 at this evaluation. -/
def State.talLateHit (s : State) (t k : Nat) : Bool :=
  (s.talPoints t k).any fun e =>
    bitOf (s.tal t).armed e.1 && decide (s.talDist t e.2 < s.talWindow t) && s.talDist t e.2 != 0

/-- Compares of timer t evaluated at one edge with the actions already due on it (R368, R369). -/
def State.talEval (s : State) (t : Nat) (acts : List Nat) : State :=
  let r := (List.range 4).foldl (fun acc k =>
    let q := acc.1.talScan t k
    if q.2 then (q.1.talTrig t (k + 2), acc.2 ++ [q.1.talActOf t k]) else (q.1, acc.2)) (s, acts)
  (r.1.talAct t r.2).showTal t

/-- The restart rule of R368: a point is armed when d = 0 or d ≥ H. -/
def State.talArmRestart (s : State) (t : Nat) : State :=
  (List.range 4).foldl (fun u k =>
    (u.talPoints t k).foldl (fun v e =>
      let d := v.talDist t e.2
      v.setTal t { v.tal t with armed := bitPut (v.tal t).armed e.1 (d = 0 || v.talWindow t ≤ d) }) u) s

/-- A staged RELOAD takes effect (R363): true when one was staged. -/
def State.takeReload (s : State) (t : Nat) : State × Bool :=
  if s.bit F.TAL_STATUS_RELOAD_PEND t then
    let r := max 2 (s.reg .TAL_RELOAD t)
    ((s.setTal t { s.tal t with r := r }).setBit F.TAL_STATUS_RELOAD_PEND false t, true)
  else (s, false)

/-- P becomes 0 by a tick: zero event, staged RELOAD, ZACT, compares (R362, R363, R373). -/
def State.talZero (s : State) (t : Nat) : State :=
  let s := s.setTal t { s.tal t with p := 0 }
  let r := s.takeReload t
  let s := if r.2 then r.1.talArmRestart t else r.1
  (s.talTrig t 1).talEval t [s.talZact t]

/-- One tick (R362, R368). -/
def State.talTick (s : State) (t : Nat) : State :=
  let x := s.tal t
  if x.p + 1 < s.talPeriod t then (s.setTal t { x with p := x.p + 1 }).talEval t [] else s.talZero t

/-- One source event: the prescaler passes every (PRESCALE + 1)-th as a tick (R361). -/
def State.talSource (s : State) (t : Nat) : State :=
  let x := s.tal t
  if x.pre < s.fld F.TAL_CFG_PRESCALE t then s.setTal t { x with pre := x.pre + 1 }
  else (s.setTal t { x with pre := 0 }).talTick t

/-- A restart by a sync event (R365, R366); `own` says that P becomes 0 at this edge by its own tick. -/
def State.talRestart (s : State) (t : Nat) (own : Bool) : State :=
  let x := s.tal t
  let s := s.flagIf (x.p != 0 && !own) F.TAL_SLIP_SLIP (t / 32) (t % 32)
  let s := s.setTal t { x with p := 0, pre := 0, syncDue := false }
  let s := (s.takeReload t).1
  let s := s.talArmRestart t
  let s := if s.bit F.TAL_SYNC_ONCE t then s.setBit F.TAL_STATUS_ONCE_DONE true t else s
  (s.talTrig t 1).talEval t [s.talZact t]

/-- A source event of its own is present at timer t on this edge: the oscillator, or time base TB_SEL passing a
multiple of 1,000 ns (`tbHit`) (R361). -/
def State.talHasSource (s : State) (t : Nat) (tbHit : Nat → Bool) : Bool :=
  match s.fld F.TAL_CFG_TICK_SRC t with
  | 0 => true
  | 1 => tbHit (s.fld F.TAL_CFG_TB_SEL t)
  | _ => false

/-! ### One edge of every timer (R361, R362, R365, R373)

Zero events of one edge restart the timers that follow them, and tick those they cascade to, on that same edge.  So the
edge is taken in two parts: which timers have a zero event on it, given the timers `z` that have one, and what each timer
then does, once. -/

/-- Timer t is restarted by the zero event of a timer of z (R365). -/
def State.talFollows (s : State) (z : List Nat) (t : Nat) : Bool :=
  s.talSyncs t && z.any fun u => u != t && s.fld F.TAL_SYNC_SYNC_SRC t == u + 1

/-- Timer t has a source event: one of `src`, or the zero event of timer t − 1 where it cascades. -/
def State.talTicks (s : State) (z : List Nat) (src : Nat → Bool) (t : Nat) : Bool :=
  src t || (s.fld F.TAL_CFG_TICK_SRC t == 2 && t != 0 && z.contains (t - 1))

/-- P of timer t becomes 0 by its own tick. -/
def State.talWraps (s : State) (z : List Nat) (src : Nat → Bool) (t : Nat) : Bool :=
  s.talTicks z src t && decide (s.fld F.TAL_CFG_PRESCALE t ≤ (s.tal t).pre) &&
    decide (s.talPeriod t ≤ (s.tal t).p + 1)

/-- The running timers `ts` that have a zero event on this edge: those restarted by a due event (`sync`), by a zero
event, or wrapping; z grows until it stands. -/
def State.talZeros (s : State) (src sync : Nat → Bool) (ts : List Nat) (fuel : Nat) (z : List Nat) : List Nat :=
  match fuel with
  | 0 => z
  | k + 1 =>
    let z' := ts.filter fun t => sync t || s.talFollows z t || s.talWraps z src t
    if z' = z then z else s.talZeros src sync ts k z'

/-- One edge: each running timer restarts, or takes its source event, or stays. -/
def State.talRun (s : State) (src sync : Nat → Bool) : State :=
  let ts := (List.range 64).filter s.talRuns
  let z := s.talZeros src sync ts 65 []
  ts.foldl (fun u t =>
    if sync t || s.talFollows z t then u.talRestart t (s.talWraps z src t)
    else if s.talTicks z src t then u.talSource t
    else u) s

/-- One oscillator edge at every timer (R362). -/
def State.talEdgeAll (s : State) (tbHit : Nat → Bool) : State :=
  s.talRun (fun t => s.talHasSource t tbHit) fun t => (s.tal t).syncDue

/-- A sync event that is due at timer t restarts it before a compare write of the same edge (R373). -/
def State.syncFirst (s : State) (t : Nat) : State :=
  if s.talRuns t ∧ (s.tal t).syncDue then s.talRun (fun _ => false) (fun u => u == t) else s

/-- Register r takes its new word after a restart that is due has used the old one. -/
def State.afterSync (s : State) (r : RegName) (t k old : Nat) : State :=
  ((s.setReg r t k old).syncFirst t).setReg r t k (s.reg r t k)

/-! ### Commands -/

/-- Start under R364. -/
def State.talStart (s : State) (t : Nat) : State :=
  let s := s.setTal t { s.tal t with p := 0, pre := 0, syncDue := false }
  let s := s.setBit F.TAL_STATUS_OUT (s.bit F.TAL_ACT_OUT_INIT t) t
  let s := (s.takeReload t).1
  (s.talArmRestart t).talEval t []

/-- The conditions on a TAL_CFG write (R361, R364). -/
def State.talCfgOk (s : State) (t new : Nat) : Bool :=
  let src := bitsGet new 2 2
  let moved := bitsGet new 1 6 != bitsGet (s.reg .TAL_CFG t) 1 6 || bitsGet new 16 16 != s.fld F.TAL_CFG_PRESCALE t
  src != 3 && !(src == 2 && t == 0) && !(s.bit F.TAL_CFG_EN t && moved)

/-- TAL_ENABLE and TAL_DISABLE: a write of TAL_CFG starts the timer with EN = 1 and stops it with EN = 0. -/
def State.talCfgWrite (s : State) (k t value : Nat) : State :=
  s.sessionWrite k .TAL_CFG t 0 value (s.talCfgOk t)
    fun u => if u.bit F.TAL_CFG_EN t then (if u.talFenced t then u else u.talStart t) else u.setTal t { u.tal t with syncDue := false }

def execTalEnable (sess : Fin 256) (t : Fin 64) (value : Word) (s : State) :
    Host.Outcome State Fault Refusal :=
  .next (s.talCfgWrite sess t (bitPut value.toNat 0 true))

def execTalDisable (sess : Fin 256) (t : Fin 64) (value : Word) (s : State) :
    Host.Outcome State Fault Refusal :=
  .next (s.talCfgWrite sess t (bitPut value.toNat 0 false))

/-- TAL_RELOAD_WRITE: staged until the next zero event (R363). -/
def execTalReloadWrite (sess : Fin 256) (t : Fin 64) (value : Word) (s : State) :
    Host.Outcome State Fault Refusal :=
  .next (s.sessionWrite sess .TAL_RELOAD t 0 value.toNat (fun _ => true)
    fun u => u.setBit F.TAL_STATUS_RELOAD_PEND true t)

/-- A write arms every point of the listed compares and evaluates them at once; LATE when one fires past its
point (R368). -/
def State.talArmWrite (s : State) (t : Nat) (ks : List Nat) : State :=
  let s := ks.foldl (fun u k =>
    u.setTal t { u.tal t with armed := bitPut (bitPut (u.tal t).armed (2 * k) true) (2 * k + 1) true }) s
  if ¬ s.talRuns t then s
  else
    let late := ks.any fun k => s.talLateHit t k
    (s.flagIf late F.TAL_LATE_LATE (t / 32) (t % 32)).talEval t []

def execTalCmpWrite (sess : Fin 256) (t : Fin 64) (k : Fin 4) (value : Word) (s : State) :
    Host.Outcome State Fault Refusal :=
  .next (s.sessionWrite sess .TAL_CMP t k value.toNat (fun _ => true) fun u => (u.afterSync .TAL_CMP t k (s.reg .TAL_CMP t k)).talArmWrite t [k.val])

def execTalActWrite (sess : Fin 256) (t : Fin 64) (value : Word) (s : State) :
    Host.Outcome State Fault Refusal :=
  .next (s.sessionWrite sess .TAL_ACT t 0 value.toNat (fun _ => true)
    fun u => (u.afterSync .TAL_ACT t 0 (s.reg .TAL_ACT t)).talArmWrite t [0, 1, 2, 3])

/-- TAL_SYNC_WRITE: a timer that names itself and codes above 0x61 are refused; ONCE is re-armed (R365, R366). -/
def execTalSyncWrite (sess : Fin 256) (t : Fin 64) (value : Word) (s : State) :
    Host.Outcome State Fault Refusal :=
  .next (s.sessionWrite sess .TAL_SYNC t 0 value.toNat
    (fun new => bitsGet new 0 8 ≤ 0x61 && bitsGet new 0 8 != t.val + 1)
    fun u => (u.setTal t { u.tal t with syncDue := false }).setBit F.TAL_STATUS_ONCE_DONE false t)

/-- TALLY_ZERO_EVENT: the tick at which a running timer's phase returns to 0 (R362). -/
def execTallyZeroEvent (t : Fin 64) (s : State) : Host.Outcome State Fault Refusal :=
  .next (if s.talRuns t ∧ s.talPeriod t ≤ (s.tal t).p + 1 then
    (s.setTal t { s.tal t with pre := s.fld F.TAL_CFG_PRESCALE t }).talRun (fun u => u == t.val)
      fun u => u == t.val && (s.tal u).syncDue
  else s)

/-- TALLY_COMPARE_FIRE: compare k of a running timer is evaluated; an armed point inside its window fires
(R368). -/
def execTallyCompareFire (t : Fin 64) (k : Fin 4) (s : State) : Host.Outcome State Fault Refusal :=
  .next (if s.talRuns t then
    let q := s.talScan t k
    if q.2 then (q.1.talTrig t (k + 2)).talAct t [q.1.talActOf t k] else q.1
  else s)

/-- TALLY_SYNC_RESTART: a sync event that is due restarts the timer (R365). -/
def execTallySyncRestart (t : Fin 64) (s : State) : Host.Outcome State Fault Refusal :=
  .next (s.syncFirst t)

/-- The level of TAL_PIN[p] (R371): none at high impedance. -/
def State.tallyPin (s : State) (p : Nat) : Option Bool :=
  if s.bit F.TAL_PIN_CFG_OE p then
    some (s.bit F.TAL_STATUS_OUT (s.fld F.TAL_PIN_CFG_SEL p) != s.bit F.TAL_PIN_CFG_INV p)
  else none

/-- A trim carrier event of channel n at `at_` ns (R323, R365). -/
def State.carrier (s : State) (n at_ : Nat) : State := (s.trigEventAt (0x41 + n) at_).syncEvent (0x41 + n)

/-- The carrier events whose instant has come, taken at the first edge at or after it (R323, R365). -/
def State.carriersDue (s : State) : State :=
  let due := s.carriers.filter fun e => decide (e.2 ≤ s.now)
  let s := { s with carriers := s.carriers.filter fun e => decide (s.now < e.2) }
  due.foldl (fun t e => t.carrier e.1 e.2) s

end Sys2Proof.Machine
end

