-- ==== Sys2Proof/Machine/Measure.lean ====
section
/-! DEFINITION. Weights over temperature, zero learning and the grid-locked windows (spec chapter 07), with
the coherent reads of its registers. -/

namespace Sys2Proof.Machine

/-! ### Shunt temperature and zero (R278, R279) -/

/-- One 10 ms window of channel n ends: T_sh and the weights of the next frame (R278).  A fenced stream block
delivers no new weights (R292), and its readings are dropped. -/
def State.weffStep (s : State) (n : Nat) : State :=
  if ¬ s.counting n ∨ s.streamFenced n then s.setStrm n { s.strm n with tSum := 0, tNum := 0 }
  else
    let x := s.strm n
    let stale := x.tNum == 0
    let t := if stale then x.tLast else some (x.tSum / (x.tNum : Rat))
    let s := s.flagIf (stale && !x.stale) F.MEAS_FLAGS_TCOMP_STALE n
    let s := s.setStrm n { x with tLast := t, stale := stale, tSum := 0, tNum := 0 }
    s.setStrm n { s.strm n with weff := s.weffOf n }

/-- WEFF_UPDATE: every 10 ms (R278). -/
def execWeffUpdate (s : State) : Host.Outcome State Fault Refusal :=
  .next (s.chans.foldl State.weffStep s)

/-- O[st][r] takes the mean of a period (R279). -/
def State.learnZero (s : State) (n st : Nat) : State :=
  let x := s.strm n
  let r := x.zRng.toList.getD st 0
  let mean := x.zSum.toList.getD st 0 / (x.zNum : Rat)
  let o := x.zero.toList.getD (2 * st + r) 0
  if (s.fld F.MEAS_ZERO_CFG_ZERO_MAX n : Rat) / 10 < absQ mean then s.flag F.MEAS_FLAGS_ZERO_RANGE n
  else
    let o' := o + (mean - o) / 8
    let s := s.setStrm n { x with
      zero := Vector.ofFn fun k => if k.val = 2 * st + r then o' else x.zero[k.val] }
    let ma := roundFree 71 (o' * 1000)
    if st = 0 then s.setSatFld F.MEAS_ZERO_O_MAIN ma n r else s.setSatFld F.MEAS_ZERO_O_CHECK ma n r

/-- One 1 s period of channel n ends (R279): a period with a GAP or a range change, or one that was not
at rest throughout, is skipped. -/
def State.zeroStep (s : State) (n : Nat) : State :=
  let x := s.strm n
  let learn := s.bit F.MEAS_ZERO_CFG_ZERO_EN n && s.resting n && s.lstate n == lsAdmitted &&
    !s.streamFenced n && x.zNum != 0 && !x.zSkip
  let s := if learn then (s.learnZero n 0).learnZero n 1 else s
  s.setStrm n { s.strm n with zSum := Vector.replicate 2 0, zNum := 0, zSkip := false }

/-- ZERO_LEARN: every 1 s (R279). -/
def execZeroLearn (s : State) : Host.Outcome State Fault Refusal :=
  .next (s.chans.foldl State.zeroStep s)

/-! ### Windows (R284 to R290) -/

/-- N / F_NOM in ns, to the nearest ns below (R287). -/
def State.freeLength (s : State) (n : Nat) : Nat :=
  n * 1000000000 / (if s.bit F.MEAS_WIN_CFG_F_NOM then 60 else 50)

/-- WIN_SRC is FREE. -/
def State.winFree (s : State) : Bool := s.bit F.MEAS_WIN_STATE_WIN_SRC

/-- Fallback to FREE (R287): the window in progress ends at its start plus N / F_NOM, or at once if that has
passed; one whose end has already come closes as it is (R299). -/
def State.winFallback (s : State) : State :=
  let w := { s.win with requalAt := none }
  let s := { s with win := w }
  let s := s.setFld F.MEAS_WIN_STATE_REQUAL_LEFT 0
  if s.winFree then s
  else
    let s := (s.setBit F.MEAS_WIN_STATE_WIN_SRC true).flag F.MEAS_GFLAGS_WIN_FREE
    match w.endNs with
    | some _ => s
    | none =>
      { s with win := { w with free := true, resync := false
                               endNs := some (max s.tb0 (w.startNs + (s.freeLength w.cyclesN : Nat))) } }

/-- TB2_QUAL follows the qualification of time base 2 and the length of its last cycle (R287, R301); a loss
falls back, a regaining starts the REQUAL count. -/
def State.tb2Qual (s : State) (q : Bool) : State :=
  let was := s.bit F.MEAS_WIN_STATE_TB2_QUAL
  let s := s.setBit F.MEAS_WIN_STATE_TB2_QUAL q
  if was ∧ ¬ q then s.winFallback
  else if q ∧ ¬ was ∧ s.winFree then
    ({ s with win := { s.win with requalAt := some s.now } }).setFld F.MEAS_WIN_STATE_REQUAL_LEFT
      (s.fld F.MEAS_WIN_CFG_REQUAL)
  else s

/-- Seconds of REQUAL still to run. -/
def State.showRequal (s : State) : State :=
  match s.win.requalAt with
  | none => s
  | some t =>
    let left := s.fld F.MEAS_WIN_CFG_REQUAL * 1000000000 - (s.now - t)
    s.setFld F.MEAS_WIN_STATE_REQUAL_LEFT ((left + 999999999) / 1000000000)

/-- A cycle of 15.000 ms to 25.000 ms (R287). -/
def cycleOk (dt : Nat) : Bool := 15000000 ≤ dt && dt ≤ 25000000

/-- A grid cycle boundary (R284, R285): the seconds of time base 2 have just increased. -/
def State.gridBoundary (s : State) : State :=
  let w := s.win
  let dt := w.cycAt.map fun t => s.now - t
  let s := match dt with
    | some d => s.setFld F.MEAS_WIN_STATE_PERIOD (satNat 0xFFFF (d / 1000))
    | none => s
  let w := { w with cycAt := some s.now, cycles := w.cycles + 1, cycGood := (dt.map cycleOk).getD true }
  let due := !s.winFree && w.endNs.isNone && s.tbSec 2 % w.cyclesN == 0
  let s := { s with win := if due then { w with endNs := some s.tb0 } else w }
  let q := s.bit F.TB_STATE_QUAL 2 && w.cycGood
  let s := (s.tb2Qual q).showRequal
  (s.trigEvent 0x61).syncEvent 0x61

/-- The cycle in progress has lasted more than 25.000 ms (R287). -/
def State.cycleWatch (s : State) : State :=
  match s.win.cycAt with
  | some t => if t + 25000000 < s.now ∧ s.win.cycGood then
      ({ s with win := { s.win with cycGood := false } }).tb2Qual false else s
  | none => s

/-- GRID_CYCLE_BOUNDARY: the seconds of time base 2 increment (R284); its nanoseconds pass a multiple of 1,000, one source
event of the timers that count it (R361). -/
def execGridCycleBoundary (s : State) : Host.Outcome State Fault Refusal :=
  let b := sparseGet s.tbs {} 2
  let b' : TimeBase := { b with sec := (b.sec + 1) % 2 ^ 48, ns := 0, frac := 0 }
  let src := fun t => s.fld F.TAL_CFG_TICK_SRC t == 1 && s.fld F.TAL_CFG_TB_SEL t == 2
  let t := ({ s with tbs := sparseSet s.tbs {} 2 b' }).gridBoundary
  .next (if s.sup.inReset then s else t.talRun src fun u => src u && (t.tal u).syncDue)

/-- Packet intervals of a grid of phase f that start in [a, e) (R285). -/
def packetSlots (f : Rat) (a e : Int) : Nat :=
  ((((e : Rat) - f) / 50).ceil - (((a : Rat) - f) / 50).ceil).toNat

/-- The record of a window (R286, R289). -/
def State.winWords (s : State) (n : Nat) (w : Win) (e : Int) (short : Bool) (cyc : Nat) : List Nat :=
  let x := s.strm n
  let a := x.win
  let q (v : Rat) : Rat := if a.numI = 0 then 0 else v / (a.numI : Rat)
  let sec := w.startNs.toNat / 1000000000
  let bit (b : Bool) (k : Nat) : Nat := if b then 2 ^ k else 0
  let dur := 50 * packetSlots ((x.lastEnd.map s.tb0At).getD 0) w.startNs e
  let lost := satNat 0xFFFFFF a.lost
  [ s.reg .MEAS_WSEQ n, sec % 2 ^ 32, w.startNs.toNat % 1000000000, dur,
    ofSigned 32 (clampInt (-0x80000000) 0x7FFFFFFF (roundFree 72 (q a.sumI * 1000))),
    ofSigned 16 (clampInt (-0x8000) 0x7FFF (roundFree 73 (q a.sumV2 * 10))) +
      2 ^ 16 * ofSigned 16 (clampInt (-0x8000) 0x7FFF (roundFree 74 (q a.sumV3 * 10))),
    sec / 2 ^ 32 % 2 ^ 16 + 2 ^ 16 * ((cyc - 1) % 64),
    lost + bit (a.lost != 0) 24 + bit w.free 25 + bit short 26 + bit a.rc 27 + bit a.stale 28 + bit a.sat 29 ]

/-- A window's point of R_on (R668): −Vsw over I_MEAN, brought to full groups and 25 °C. -/
def State.ronPoint (s : State) (n : Nat) : State :=
  let x := s.strm n
  let a := x.win
  if a.numI = 0 ∨ a.lost ≠ 0 ∨ x.frN = 0 ∨ ¬ x.allOn ∨ s.lstate n ≠ lsAdmitted ∨ s.fitted n = 0 then s
  else
    let num : Rat := a.numI
    let i := a.sumI / num
    let vt := x.vtSum / (x.frN : Rat)
    let tb := x.tbSum / (x.frN : Rat)
    let norm := (s.healthyCount n : Rat) / (s.fitted n : Rat) /
      (1 + (s.fld F.ALM_CFG2_RON_TC : Rat) / 10000 * (tb - 25))
    let y := (a.sumV2 / num + vt - a.sumV3 / num) * norm
    let m := s.almCh n
    s.setAlmCh n { m with
      rN := m.rN + 1, rX := m.rX + i, rY := m.rY + y, rXX := m.rXX + i * i, rXY := m.rXY + i * y
      rLo := if m.rN = 0 then i else minQ m.rLo i
      rHi := if m.rN = 0 then i else maxQ m.rHi i }

/-- The packets of the window that ends at e which channel n has neither received nor counted as lost: from the end of the
last packet accounted for, or from the window's start (R282, R299). -/
def State.uncovered (s : State) (n : Nat) (e : Int) : Nat :=
  match (s.strm n).lastEnd with
  | some t => packetSlots (s.tb0At t) (max s.win.startNs (s.tb0At t).ceil) e
  | none => 0

/-- Channel n closes its window (R286, R290): one ADMITTED at its end, or one whose link was lost in it (R299). -/
def State.closeWindow (s : State) (w : Win) (e : Int) (short : Bool) (cyc : Nat) (n : Nat) : State :=
  let x := s.strm n
  let lostIn := s.lstate n == lsLost && x.lastEnd.any fun t => decide ((w.startNs : Rat) ≤ s.tb0At t)
  let s := s.setStrm n { x with win := { x.win with lost := x.win.lost + s.uncovered n e } }
  let s := if s.lstate n = lsAdmitted ∨ lostIn then
      let ws := s.winWords n w e short cyc
      let seq := s.reg .MEAS_WSEQ n
      let s := if s.granHeld 0x1003E40000 then s
        else s.setWords (0x1003E40000 + n * 0x2000 + 32 * (seq % 256)) ws
      let s := (List.range 8).foldl (fun t k => t.setReg .MEAS_WIN n k (ws.getD k 0)) s
      (s.setReg .MEAS_WSEQ n 0 (seq + 1)).ronPoint n
    else s
  let x := s.strm n
  s.setStrm n { x with win := x.nxt, nxt := {}, vtSum := 0, tbSum := 0, frN := 0, allOn := true }

/-- The window after one that ended at e (R285, R287, R288). -/
def State.nextWindow (s : State) (w : Win) (e : Int) : Win :=
  let n := s.fld F.MEAS_WIN_CFG_WIN_CYCLES
  if s.winFree then
    { w with startNs := e, endNs := some (e + (s.freeLength n : Nat)), cyclesN := n, cycles := 0,
             free := true, resync := false }
  else
    let re := w.free && !w.resync
    { w with startNs := e, endNs := none, cyclesN := n, cycles := 0, free := re, resync := re }

/-- The window that ends at e can close: every admitted channel has accounted for its packets up to e, or the 20 µs of
R286 have passed. -/
def State.windowReady (s : State) (e : Int) : Bool :=
  decide (e ≤ s.tb0) && (decide (e + 20000 ≤ s.tb0) ||
    s.chans.all fun n => s.lstate n != lsAdmitted || (s.strm n).lastEnd.any fun t => decide ((e : Rat) ≤ s.tb0At t))

/-- WINDOW_END: the window in progress has reached its end, and its packets are in (R285 to R288). -/
def execWindowEnd (s : State) : Host.Outcome State Fault Refusal :=
  let w := s.win
  .next (match w.endNs with
  | none => s
  | some e =>
    if ¬ s.windowReady e then s
    else
      let held := if w.resync then w.cycles - 1 else w.cycles
      let short := (!w.free || w.resync) && decide (held < w.cyclesN)
      let cyc := if w.free then w.cyclesN else w.cycles
      let s := s.flagIf short F.MEAS_GFLAGS_WIN_SHORT
      let s := s.chans.foldl (fun t n => t.closeWindow w e short cyc n) s
      { s with win := s.nextWindow w e })

/-- WIN_REQUAL: time base 2 has been qualified without a break for REQUAL (R287). -/
def execWinRequal (s : State) : Host.Outcome State Fault Refusal :=
  .next (match s.win.requalAt with
  | none => s
  | some t =>
    if s.winFree ∧ s.bit F.MEAS_WIN_STATE_TB2_QUAL ∧
        s.elapsed t (s.fld F.MEAS_WIN_CFG_REQUAL * 1000000000) then
      let s := (s.setBit F.MEAS_WIN_STATE_WIN_SRC false).flag F.MEAS_GFLAGS_WIN_LOCKED
      ({ s with win := { s.win with requalAt := none } }).setFld F.MEAS_WIN_STATE_REQUAL_LEFT 0
    else s)

/-! ### Coherent reads (R308, R311) -/

/-- MEAS_TALLY_READ: word 0 of MEAS_TALLY or MEAS_QCOUNT loads the shadows of words 1 to 3. -/
def execMeasTallyRead (who : Fin 384) (ch : Fin 32) (charge : Bool) (s : State) :
    Host.Outcome State Fault Refusal :=
  let r : RegName := if charge then .MEAS_QCOUNT else .MEAS_TALLY
  .next (s.loadingRead who r ch 0 [(r, ch.val, 1), (r, ch.val, 2), (r, ch.val, 3)])

/-- MEAS_WIN_READ: word 0 of MEAS_WIN loads the shadows of words 1 to 7. -/
def execMeasWinRead (who : Fin 384) (ch : Fin 32) (s : State) : Host.Outcome State Fault Refusal :=
  .next (s.loadingRead who .MEAS_WIN ch 0 ((List.range 7).map fun k => (.MEAS_WIN, ch.val, k + 1)))

end Sys2Proof.Machine
end

