-- ==== Sys2Proof/Machine/Hedgerow.lean ====
section
/-! DEFINITION. Hedgerow chains and field nodes (spec chapter 10): sample instants, sweeps, records, breaks,
roll call, commands and delays. -/

namespace Sys2Proof.Machine

def State.split (s : State) (n : Nat) : Bool := s.bit F.HR_STATE_SPLIT n
def State.expect (s : State) (n : Nat) : Nat := s.fld F.HR_CHAIN_CFG_EXPECT n

/-- The Hedgerow port block of chain n is fenced (R48). -/
def State.hrFenced (s : State) (n : Nat) : Bool := s.fenced (unitKey 2 (n / 4) 0 false)

/-- ADMITTED, REFUSED and CELLS of HR_STATE, and SIDE of each node (R421, R424). -/
def State.showChain (s : State) (n : Nat) : State :=
  let adm := s.nodesIn n ndAdmitted
  let ref := (s.nodesIn n ndRefused).length + (s.chain n).extra
  let s := s.setFld F.HR_STATE_ADMITTED adm.length n
  let s := s.setFld F.HR_STATE_REFUSED (satNat 31 ref) n
  s.setFld F.HR_STATE_CELLS ((adm.map fun p => s.fld F.HR_NODE_CELLS n p).foldl (· + ·) 0) n

def State.setNstate (s : State) (n p st : Nat) : State :=
  let s := if st = ndAdmitted ∨ st = ndRefused then s.judge (partnerNode n p) else s
  (s.setFld F.HR_NODE_NSTATE st n p).showChain n

/-- A chain enters a state of R403. -/
def State.setHstate (s : State) (n st : Nat) : State :=
  let s := s.setFld F.HR_STATE_CSTATE st n
  s.setChain n { s.chain n with stateAt := s.now }

/-- The check byte of a four-character set: the inverse of the XOR of its bytes 1 and 2 (R383). -/
def setCheck (a b : Nat) : Nat := 255 - (a ^^^ b) % 256

/-! ### Reach (R392, R399, R405) -/

/-- End A or end B reaches position p. -/
def State.reaches (s : State) (n p : Nat) (endB : Bool) : Bool :=
  let x := s.chain n
  if endB then (match x.bFirst with
    | some b => b ≤ p && p < x.nNow
    | none => false)
  else (match x.aLast with
    | some a => p ≤ a
    | none => false)

/-- The end that serves position p: end A where it reaches it, else end B. -/
def State.servedByB (s : State) (n p : Nat) : Bool := !s.reaches n p false

/-- A command outstanding for a node that the other end serves now waits there, before the commands that wait already. -/
def State.requeue (s : State) (n : Nat) : State :=
  let x := s.chain n
  let moved (o : Option NodeOut) (endB : Bool) : Bool := o.any fun y => s.servedByB n y.cmd.pos != endB
  let a := moved x.out[0] false
  let b := moved x.out[1] true
  s.setChain n { x with
    out := #v[if a then none else x.out[0], if b then none else x.out[1]]
    cmds := ((if a then x.out[0].toList else []) ++ (if b then x.out[1].toList else [])).map (fun y => y.cmd) ++ x.cmds }

/-- A_LAST, SIDE and the outstanding commands follow the reach. -/
def State.showReach (s : State) (n : Nat) : State :=
  let s := s.requeue n
  let x := s.chain n
  let s := s.setFld F.HR_STATE_A_LAST (x.aLast.getD 0x1F) n
  (List.range 16).foldl (fun t p =>
    t.setBit F.HR_NODE_SIDE (!t.reaches n p false && t.reaches n p true) n p) s

/-! ### Zero requests and capacity (R401, R409) -/

/-- Refuse a node for capacity (R409). -/
def State.capacity (s : State) (n : Nat) : State :=
  let s := (s.flag F.HR_FLAGS_CAPACITY n).event 0x02 n true
  if s.cstate n = csReady then s.hrZeroReq n else s

/-! ### Commands (R406, R407) -/

/-- The bytes of the command area. -/
def cmdBytes (c : NodeCmd) (tag : Nat) : List Nat :=
  ([c.pos, c.op, tag, c.word] ++ c.data ++ List.replicate 12 0).take 16

/-- Drop the commands of a node, waiting and outstanding. -/
def State.dropCmds (s : State) (n p : Nat) : State :=
  let x := s.chain n
  s.setChain n { x with
    cmds := x.cmds.filter fun c => c.pos != p
    out := Vector.ofFn fun e => match x.out[e] with
      | some o => if o.cmd.pos = p then none else some o
      | none => none }

/-- Refuse the node at position p with a cause of R424 (R408): RETIRE is sent, and the state of a node already
admitted does not change. -/
def State.refuseNode (s : State) (n p cause : Nat) : State :=
  if s.nstate n p = ndAdmitted then s
  else
    let s := (s.dropCmds n p).flag F.HR_FLAGS_NODE_REFUSED n
    let s := (s.setFld F.HR_NODE_REFUSE cause n p).setNstate n p ndRefused
    let s := s.nodeCmd n p 0x04 0 []
    if cause = 1 then s.capacity n else s

/-- TIMING for a node from its delays (R389, R407). -/
def State.sendTiming (s : State) (n p : Nat) : State :=
  let d := (s.node n p).delay
  let w (x : Option Rat) : Nat := match x with
    | some y => (clampInt 0 0xFFFFFFFE (roundFree 110 (20000 - y))).toNat
    | none => 0xFFFFFFFF
  s.nodeCmd n p 0x02 0 (leBytes 4 (w d[0]) ++ leBytes 4 (w d[1]))

/-- Ask a node for its IDENT (R403, R408): words 0 to 11 in turn.  Its time without admission runs on (R401). -/
def State.identify (s : State) (n p : Nat) : State :=
  let s := (s.dropCmds n p).setNode n p { s.node n p with
    ident := [], liveFrom := none, missed := [], outAt := some ((s.node n p).outAt.getD s.now) }
  let s := (s.setFld F.HR_NODE_REFUSE 0 n p).setNstate n p ndIdent
  s.nodeCmd n p 0x01 0 []

/-! ### Roll call (R403 to R411) -/

/-- N_ring of R405. -/
def State.ringCount (s : State) (n : Nat) : Nat := (s.chain n).nRing.getD (s.expect n)

/-- The ENUM frames of both ends (R405). -/
def State.sendEnum (s : State) (n : Nat) (bToo : Bool) : State :=
  let x := s.chain n
  let base := s.ringCount n + 255
  let s := s.injSend 1 n 0 (hrMsg n false 0x53 0 0 0 x.fseq[0] (List.replicate 16 0))
  let s := s.setChain n { x with fseq := #v[(x.fseq[0] + 1) % 2 ^ 16, x.fseq[1]] }
  if ¬ bToo then s
  else
    let x := s.chain n
    let s := s.injSend 1 n 0 (hrMsg n true 0x53 0 0 (base % 256) x.fseq[1] (List.replicate 16 0))
    s.setChain n { x with fseq := #v[x.fseq[0], (x.fseq[1] + 1) % 2 ^ 16] }

/-- Entry to ENUMERATE. -/
def State.enterEnum (s : State) (n : Nat) : State :=
  let s := s.setChain n { s.chain n with
    enums := Vector.replicate 2 none, cmds := [], out := Vector.replicate 2 none, extra := 0
    healing := false, healNext := false, recs := (s.chain n).recs }
  (s.setHstate n hrEnum).sendEnum n true

/-- Entry to LINK_UP (R403): a receiver that has lock moves the chain on. -/
def State.enterLinkUp (s : State) (n : Nat) : State :=
  let x := s.chain n
  let s := s.setHstate n hrLinkUp
  if x.lock[0] ∨ x.lock[1] then s.enterEnum n else s

/-- Entry to ROLL_CALL, or CHAIN_EN set: an enabled chain leaves DOWN (R403). -/
def State.chainUp (s : State) (n : Nat) : State :=
  if s.present n ∧ s.hstate n = hrDown ∧ s.bit F.HR_CHAIN_CFG_CHAIN_EN n ∧ (s.phase = 3 ∨ s.phase = 4) ∧
      ¬ s.hrFenced n then s.enterLinkUp n else s

/-- DOWN (R403): no node is positioned.  Records not yet final stay open (R396). -/
def State.chainDown (s : State) (n : Nat) : State :=
  let x := s.chain n
  let s := s.setChain n { ({} : Chain) with
    lock := x.lock, nRing := x.nRing, fseq := x.fseq, cellOut := x.cellOut, nextSeq := x.nextSeq, recs := x.recs }
  let s := (List.range 16).foldl (fun t p =>
    ((t.setFld F.HR_NODE_NSTATE 0 n p).setFld F.HR_NODE_REFUSE 0 n p)) s
  let s := s.setBit F.HR_STATE_SPLIT false n
  ((s.setHstate n hrDown).showReach n).showChain n

/-- Every node with a position is identified or refused: TIMING begins (R403). -/
def State.identDone (s : State) (n : Nat) : State :=
  if s.hstate n = hrIdent ∧ (s.nodesIn n ndFound).isEmpty ∧ (s.nodesIn n ndIdent).isEmpty then
    s.setHstate n hrTiming else s

/-- Entry to RUN: expected nodes without admission start their time (R401). -/
def State.enterRun (s : State) (n : Nat) : State :=
  let s := (s.setHstate n hrRun).setChain n { (s.setHstate n hrRun).chain n with lastReach := s.now }
  (List.range (s.expect n)).foldl (fun t p =>
    if t.nstate n p = ndAdmitted then t
    else t.setNode n p { t.node n p with outAt := some ((t.node n p).outAt.getD t.now) }) s

/-- TIMING has been written to every node not refused: RUN (R403). -/
def State.timingDone (s : State) (n : Nat) : State :=
  if s.hstate n = hrTiming ∧ (s.nodesIn n ndAdmitted).all fun p => (s.node n p).timed then s.enterRun n else s

/-- Healing ends when every position has been admitted afresh (R402): the ring returns at the next instant. -/
def State.healCheck (s : State) (n : Nat) : State :=
  if (s.chain n).healing ∧ (s.nodesIn n ndFound).isEmpty ∧ (s.nodesIn n ndIdent).isEmpty then
    s.setChain n { s.chain n with healing := false, healNext := true } else s

/-- IDENT fields of R410. -/
def ndSerial (id : List Nat) : List Nat := (id.drop 12).take 16

/-- Why IDENT is refused under R408: 0 admitted, else the code of R424. -/
def State.judgeNode (s : State) (n p : Nat) (id : List Nat) : Nat :=
  if s.expect n ≤ p then 1
  else if id.getD 3 0 ≠ 2 ∨ id.getD 30 0 ≠ 1 then 3
  else if ¬ s.charter.nodeRules.any fun r => r.oui == leNat id 0 3 && r.model == leNat id 4 2 then 4
  else if ¬ bitOf (id.getD 31 0) 1 then 5
  else if id.getD 28 0 ≠ (s.nodeMapOf n p).cells then 2
  else 0

/-- IDENT of a node has been read: it is admitted or refused (R408, R411).  A delay measured before this roll call, or on
the node it replaces, counts no more, so that the next one measured is written (R389). -/
def State.admitNode (s : State) (n p : Nat) : State :=
  let x := s.node n p
  let id := x.ident
  let why := s.judgeNode n p id
  let s := if why ≠ 0 then s.refuseNode n p why
    else
      let changed := x.everAdmitted && x.serial != ndSerial id
      let s := if changed then
          let s := (s.flag F.HR_FLAGS_IDENT_CHANGE n).ledger 0x35 ([n, p] ++ x.serial)
          s.ledger 0x34 ([n, p] ++ x.serial ++ ndSerial id)
        else s
      let s := s.setNode n p { x with
        serial := ndSerial id, everAdmitted := true, liveFrom := none, missed := [], outAt := none, timed := false
        delay := if s.hstate n = hrRun ∧ ¬ changed then x.delay else Vector.replicate 2 none
        balI := leNat id 32 2, caps := id.getD 31 0 }
      let s := (s.setNstate n p ndAdmitted).flag F.HR_FLAGS_NODE_ADMIT n
      let s := if s.hstate n = hrRun ∧ ((s.node n p).delay[0].isSome ∨ (s.node n p).delay[1].isSome) then
          s.sendTiming n p else s
      (s.nodeCmd n p 0x03 0 []).cellsAdmitted n p changed
  ((s.identDone n).timingDone n).healCheck n

/-- Nodes are admitted or refused in ascending position: one whose IDENT is read waits for those below it that an end reaches
(R408). -/
def State.admitReady (s : State) (n : Nat) : State :=
  (List.range 16).foldl (fun t p =>
    if t.nstate n p = ndIdent ∧ (t.node n p).ident.length = 48 ∧
        ¬ ((List.range p).any fun q => t.nstate n q == ndIdent && (t.reaches n q false || t.reaches n q true)) then
      t.admitNode n p else t) s

/-- Positions found by an enumeration of `count` nodes, those at or above 16 without one (R405, R408). -/
def State.foundNodes (s : State) (n : Nat) (ps : List Nat) : State :=
  (List.range 16).foldl (fun t p =>
    if ps.contains p then t.identify n p
    else (t.setNode n p { t.node n p with outAt := some ((t.node n p).outAt.getD t.now) }).setNstate n p ndAbsent) s

/-- Nodes that took no position are refused for capacity (R408, R409). -/
def State.extraNodes (s : State) (n count : Nat) : State :=
  let s := s.setChain n { s.chain n with extra := count }
  let s := if count = 0 then s else ((s.flag F.HR_FLAGS_NODE_REFUSED n).capacity n)
  s.showChain n

/-- ENUMERATE ends in RING operation with `count` nodes. -/
def State.enumRing (s : State) (n count : Nat) : State :=
  let pos := satNat 16 count
  let s := s.setChain n { s.chain n with
    nRing := some pos, nNow := pos, aLast := if pos = 0 then none else some (pos - 1)
    bFirst := if pos = 0 then none else some 0 }
  let s := (s.setBit F.HR_STATE_SPLIT false n).setHstate n hrIdent
  let s := (s.foundNodes n (List.range pos)).extraNodes n (count - pos)
  ((s.showReach n).identDone n).timingDone n

/-- ENUMERATE ends in SPLIT operation: end A counted a nodes, end B counted b. -/
def State.enumSplit (s : State) (n a b : Nat) : State :=
  let ring := s.ringCount n
  let a' := satNat 16 a
  let b' := satNat ring b
  let s := s.setChain n { s.chain n with
    nNow := if b = 0 then a' else max ring a'
    aLast := if a' = 0 then none else some (a' - 1)
    bFirst := if b' = 0 then none else some (ring - b') }
  let s := s.flagIf (!s.split n) F.HR_FLAGS_BREAK n
  let s := (s.setBit F.HR_STATE_SPLIT true n).setHstate n hrIdent
  let ps := (List.range 16).filter fun p => decide (p < a') || (decide (ring - b' ≤ p) && decide (p < ring) && b != 0)
  let s := (s.foundNodes n ps).extraNodes n ((a - a') + (b - b'))
  ((s.showReach n).identDone n).timingDone n

/-- The ring closes again with every ADMITTED node at its position: nodes that left it are known no more, those that joined it
or that this enumeration places below EXPECT after a capacity refusal, are identified, and the others stay as they are (R402,
R408, R409). -/
def State.ringKept (s : State) (n count : Nat) : State :=
  let pos := satNat 16 count
  let s := s.setChain n { s.chain n with nRing := some pos, nNow := pos, healNext := true }
  let s := (List.range 16).foldl (fun t p =>
    if p < pos then
      (if t.nstate n p = ndAbsent ∨
          (t.nstate n p = ndRefused ∧ t.fld F.HR_NODE_REFUSE n p = 1 ∧ p < t.expect n) then t.identify n p else t)
    else if t.nstate n p = ndRefused then (t.dropCmds n p).setNstate n p ndAbsent else t) s
  if (s.chain n).extra = 0 ∧ count ≤ pos then s else s.extraNodes n (count - pos)

/-- ENUM from A has arrived at B in RUN: the ring has closed again (R402).  An ADMITTED node answers at its position when the
ring is long enough to hold it (log 170). -/
def State.enumHeal (s : State) (n count : Nat) : State :=
  if ¬ s.split n ∨ (s.chain n).healing ∨ (s.chain n).healNext then s
  else
    let held := (s.nodesIn n ndAdmitted).all fun p => decide (p < count)
    let pos := satNat 16 count
    if held then s.ringKept n count
    else
      let s := s.setChain n { s.chain n with nRing := some pos, nNow := pos, healing := true }
      let s := (s.foundNodes n (List.range pos)).extraNodes n (count - pos)
      s.healCheck n

/-- An ENUM frame of one end arrives at an end with its COUNT (R403, R405). -/
def State.enumRx (s : State) (n : Nat) (fromB atB : Bool) (count : Nat) (good : Bool) : State :=
  if ¬ s.present n ∨ ¬ good ∨ s.hrFenced n then s
  else if s.hstate n = hrEnum then
    if ¬ fromB ∧ atB then s.enumRing n count
    else if fromB = atB then
      let x := s.chain n
      let e := if fromB then #v[x.enums[0], some count] else #v[some count, x.enums[1]]
      let s := s.setChain n { x with enums := e }
      let doneA := e[0].isSome || !x.lock[0]
      let doneB := e[1].isSome || !x.lock[1]
      if doneA && doneB then s.enumSplit n (e[0].getD 0) (e[1].getD 0) else s
    else s
  else if s.hstate n = hrRun ∧ ¬ fromB ∧ atB then s.enumHeal n count
  else s

/-! ### Breaks (R399, R403, R416) -/

/-- SPLIT operation begins or its reach changes; a break during roll call restarts ENUMERATE. -/
def State.breakChain (s : State) (n : Nat) (a b : Option Nat) : State :=
  let h := s.hstate n
  if h = hrEnum ∨ h = hrIdent ∨ h = hrTiming then s.enterEnum n
  else if h ≠ hrRun then s
  else
    let s := s.flagIf (!s.split n) F.HR_FLAGS_BREAK n
    let s := s.setBit F.HR_STATE_SPLIT true n
    let s := s.setChain n { s.chain n with aLast := a, bFirst := b, healing := false, healNext := false }
    (s.showReach n).admitReady n

/-- HR_LOCK_LOST: a receiver of the device loses lock when `loss.errors` of its last 16 characters, 4 or more, are code or
disparity errors, or no valid character has come for 2 µs (R384, R399). -/
def execHrLockLost (ch : Fin 32) (loss : LockLoss) (s : State) : Host.Outcome State Fault Refusal :=
  let n := ch.val
  let endB := loss.endB
  .next (if ¬ s.present n ∨ (loss.errors.val < 4 ∧ loss.quietNs < 2000) then s
  else
    let x := s.chain n
    let s := s.setChain n { x with lock := if endB then #v[x.lock[0], false] else #v[false, x.lock[1]] }
    let first : Option Nat := if x.nNow = 0 then none else some 0
    if endB then s.breakChain n (if s.split n then x.aLast else if x.nNow = 0 then none else some (x.nNow - 1)) none
    else s.breakChain n none (if s.split n then x.bFirst else first))

/-- HR_LOOP_RX: a LOOP of node p arrives at an end; `deadB` is the dead side it names (R383, R399).  A set whose check
byte fails is not acted on (log 168). -/
def execHrLoopRx (ch : Fin 32) (endB : Bool) (set : LoopSet) (deadB : Bool) (s : State) :
    Host.Outcome State Fault Refusal :=
  let n := ch.val
  .next (if ¬ s.present n ∨ endB = deadB ∨ set.check.val ≠ setCheck (set.node.val + if deadB then 16 else 0) 0 then s
  else
    let x := s.chain n
    let p := set.node.val
    if ¬ endB then
      let b := if s.split n then x.bFirst else if p + 1 < x.nNow then some (p + 1) else none
      s.breakChain n (some p) b
    else
      let a := if s.split n then x.aLast else if 0 < p then some (p - 1) else none
      s.breakChain n a (some p))

/-- HR_LOCK_GAINED: a receiver of the device gains lock after 64 consecutive valid characters (R384, R403). -/
def execHrLockGained (ch : Fin 32) (run : LockRun) (s : State) : Host.Outcome State Fault Refusal :=
  let n := ch.val
  let endB := run.endB
  .next (if s.sup.inReset ∨ ¬ s.present n ∨ run.valid < 64 then s
  else
    let x := s.chain n
    let s := s.setChain n { x with lock := if endB then #v[x.lock[0], true] else #v[true, x.lock[1]] }
    if s.hstate n = hrLinkUp then s.enterEnum n
    else if s.hstate n = hrFault then s.enterLinkUp n
    else if s.hstate n = hrRun ∧ s.split n then s.sendEnum n false
    else s)

/-- HR_LINK_TIMEOUT: 100 ms in LINK_UP without lock, with nodes expected (R403). -/
def execHrLinkTimeout (ch : Fin 32) (s : State) : Host.Outcome State Fault Refusal :=
  let x := s.chain ch
  .next (if s.present ch ∧ s.hstate ch = hrLinkUp ∧ ¬ x.lock[0] ∧ ¬ x.lock[1] ∧ 0 < s.expect ch ∧
      s.elapsed x.stateAt 100000000 then s.setHstate ch hrFault else s)

/-- HR_NO_NODE_TIMEOUT: neither end has reached any node for 100 ms in RUN (R403). -/
def execHrNoNodeTimeout (ch : Fin 32) (s : State) : Host.Outcome State Fault Refusal :=
  .next (if s.present ch ∧ s.hstate ch = hrRun ∧ s.elapsed (s.chain ch).lastReach 100000000 then
    s.enterLinkUp ch else s)

/-- HR_CHAIN_CFG_WRITE: refused when EXPECT changes while the channel is not OPEN (R420). -/
def execHrChainCfgWrite (sess : Fin 256) (ch : Fin 32) (value : Word) (s : State) :
    Host.Outcome State Fault Refusal :=
  .next (s.sessionWrite sess .HR_CHAIN_CFG ch 0 value.toNat
    (fun new => bitsGet new 8 5 == s.expect ch || s.cstate ch == csOpen)
    fun t => if t.bit F.HR_CHAIN_CFG_CHAIN_EN ch then t.chainUp ch
      else if t.hstate ch = hrDown then t else t.chainDown ch)

/-! ### Sample instants (R385 to R387) -/

/-- F in Hz for a RATE code; 5 to 7 are treated as 4 (R417). -/
def rateHz (c : Nat) : Nat := 500 * 2 ^ satNat 4 c

/-- T_s in ns for a RATE code (R385). -/
def ratePeriod (c : Nat) : Nat := 1000000000 / rateHz c

/-- T_s in ns at the rate in force. -/
def State.samplePeriod (s : State) : Nat := ratePeriod (s.fld F.HR_CFG_RATE_NOW)

/-- The RATE code in force at a time base 0 time: a staged one from its boundary on (R386). -/
def State.rateCode (s : State) (t : Int) : Nat :=
  if s.inst.rateDue.any fun d => decide (d ≤ t) then satNat 4 (s.fld F.HR_CFG_RATE) else s.fld F.HR_CFG_RATE_NOW

/-- The number of the instant at a time base 0 time (R385). -/
def State.instantNo (s : State) (t : Int) : Nat :=
  (t / 1000000000).toNat * rateHz (s.rateCode t) + (t % 1000000000).toNat / ratePeriod (s.rateCode t)

/-- The first multiple of a period at or after t. -/
def gridUp (period : Nat) (t : Int) : Int := -((-t) / (period : Int)) * (period : Int)

/-- The first sample instant at or after a time base 0 time, across a rate change still to come (R385, R386). -/
def State.nextInstant (s : State) (t : Int) : Int :=
  let i := gridUp s.samplePeriod t
  match s.inst.rateDue with
  | some d => if i < d then i else gridUp (ratePeriod (s.rateCode d)) (max t d)
  | none => i

/-- TRIGGER_SEND: the next instant I is triggered from both ends of every chain, when the present character boundary e is
the one of R387, I − 20,047.5 ns < e ≤ I − 19,997.5 ns; FINE tells how far it lies from I − 20,000 ns, and RATE and k are
those in force at I.  A second instant within T_s / 2 is cancelled. -/
def execTriggerSend (s : State) : Host.Outcome State Fault Refusal :=
  let e := s.tb0
  let i := s.nextInstant (e + 19998)
  let k := s.instantNo i
  let fine := (((i - e - 20000) * 2 + 5) / 10).toNat
  let at_ := s.now + (i - e).toNat
  .next (if s.sup.inReset ∨ e + 20047 < i ∨ s.inst.trigK = some k then s
  else if s.inst.trigK.isSome ∧ 2 * at_ < 2 * s.inst.trigAt + min s.samplePeriod (ratePeriod (s.rateCode i)) then
    ({ s with inst := { s.inst with trigK := some k, skipK := some k } }).flag F.HR_GFLAGS_INSTANT_SKIP
  else
    let s := { s with inst := { s.inst with trigK := some k, trigAt := at_ } }
    s.chans.foldl (fun t n =>
      if t.hstate n = hrDown ∨ t.hrFenced n then t
      else
        let ctrl := fine + 16 * s.rateCode i
        t.send (.hrTrigger n (k % 256) ctrl (setCheck (k % 256) ctrl))) s)

/-- What a lost link leaves uncovered in the slice that ends at t: the packets from the end of the last one accounted for, or
from the slice's start, and how many of them lie in the first 5 µs of the loss (R282, R432). -/
def State.sliceGap (s : State) (n : Nat) (t : Int) : Nat × Nat :=
  match (s.strm n).lastEnd with
  | some e =>
    if s.counting n then (0, 0)
    else
      let a := (s.tb0At e).ceil
      let a' := if s.inst.lastK.isSome then max s.inst.lastT a else a
      (packetSlots (s.tb0At e) a' t, packetSlots (s.tb0At e) a' (min t (a + 5000)))
  | none => (0, 0)

/-- Close the charge slice of string n at this instant (R291). -/
def State.closeSlice (s : State) (n k : Nat) (t : Int) : State :=
  let x := s.strm n
  let g := s.sliceGap n t
  let len := if s.inst.lastK.isSome ∧ s.inst.lastT < t then (t - s.inst.lastT).toNat else s.samplePeriod
  let r : Rec :=
    { seq := (s.chain n).nextSeq, k := k, tns := t, at_ := s.now, notPlant := !s.tb0Good, skipped := false, taken := []
      q := x.sl.sum / 20000000, lost := x.sl.lost + g.1, lostTu := x.sl.tu + g.2, len := len, final := false
      counts := (s.qDis n, s.qChg n) }
  let s := s.setStrm n { x with sl := x.slNext, slNext := {} }
  let s := s.setProt n { s.prot n with peak := 0 }
  let c := s.chain n
  let heal := c.healNext
  let s := s.setChain n { c with recs := c.recs ++ [r], nextSeq := c.nextSeq + 1, healNext := false }
  if heal then
    let s := (s.setBit F.HR_STATE_SPLIT false n).flag F.HR_FLAGS_HEAL n
    let m := (s.chain n).nNow
    let s := s.setChain n { s.chain n with
      aLast := if m = 0 then none else some (m - 1), bFirst := if m = 0 then none else some 0 }
    s.showReach n
  else s

/-- Two parts of one slice. -/
def Slice.join (a b : Slice) : Slice := ⟨a.sum + b.sum, a.num + b.num, a.lost + b.lost, a.tu + b.tu⟩

/-- A cancelled instant: a record whose every entry is to be missing, and no slice: the one in progress runs on (R387,
R457). -/
def State.skipInstant (s : State) (n k : Nat) (t : Int) : State :=
  let c := s.chain n
  let r : Rec :=
    { seq := c.nextSeq, k := k, tns := t, at_ := s.now, notPlant := !s.tb0Good, skipped := true, taken := []
      q := 0, lost := 0, lostTu := 0, len := 0, final := false }
  let x := s.strm n
  let s := s.setStrm n { x with sl := x.sl.join x.slNext, slNext := {} }
  s.setChain n { c with recs := c.recs ++ [r], nextSeq := c.nextSeq + 1 }

/-- What the recorder keeps of channel n at an instant (R516); a slice without a packet has no stated mean. -/
def State.snapOf (s : State) (n : Nat) : Snap :=
  let x := s.strm n
  { ch := n, cst := s.cstate n, flags := bitsGet (s.reg .PROT_FLAGS n) 0 8
    mean := if x.sl.num = 0 then toSigned 32 (s.free 112) else roundFree 113 (x.sl.sum * 1000 / (x.sl.num : Rat))
    vstr := x.fast[2], vbus := x.fast[3], peak := (s.prot n).peak }

/-- Instant k waits for its recorder frame (R515). -/
def State.recInstant (s : State) (k : Nat) (t : Int) (skipped : Bool) : State :=
  let r : RecInst := { k := k, tns := t, notPlant := !s.tb0Good, skipped := skipped, snaps := s.chans.map fun n => s.snapOf n }
  ({ s with recorder := { s.recorder with insts := s.recorder.insts ++ [r] } }).draw

/-- SAMPLE_INSTANT: every string's slice closes, and every chain's record of the instant opens (R291, R385).  A
cancelled instant closes none: its slice runs on (R457). -/
def execSampleInstant (s : State) : Host.Outcome State Fault Refusal :=
  let ts := ratePeriod (s.rateCode s.tb0)
  let t := s.tb0 / (ts : Int) * (ts : Int)
  let k := s.instantNo t
  .next (if s.sup.inReset ∨ s.inst.lastK = some k then s
  else if s.inst.skipK = some k then
    let s := s.recInstant k t true
    let s := s.chans.foldl (fun u n => u.skipInstant n k t) s
    { s with inst := { s.inst with lastK := some k, nextT := some (t + ts) } }
  else
    let s := s.recInstant k t false
    let s := s.chans.foldl (fun u n => u.closeSlice n k t) s
    { s with inst := { s.inst with lastK := some k, lastT := t, nextT := some (t + ts) } })

/-- The first seconds boundary of time base 0 at least 10 ms from now (R386). -/
def State.rateBoundary (s : State) : Int := ((s.tb0 + 10000000 + 999999999) / 1000000000) * 1000000000

/-- RATE_APPLY: a staged RATE takes effect (R386). -/
def execRateApply (s : State) : Host.Outcome State Fault Refusal :=
  .next (match s.inst.rateDue with
  | some d =>
    if s.tb0 < d then s
    else
      let s := s.setFld F.HR_CFG_RATE_NOW (satNat 4 (s.fld F.HR_CFG_RATE))
      let s := { s with inst := { s.inst with
        rateDue := none, nextT := some (s.tb0 / (s.samplePeriod : Int) * (s.samplePeriod : Int) + s.samplePeriod) } }
      s.flag F.HR_GFLAGS_RATE_APPLIED
  | none => s)

/-! ### Sweeps (R392, R400, R406) -/

/-- The waiting command an end serves next: of its nodes with one, the next after the node served last, round robin, and that
node's first (R412). -/
def State.turnCmd (s : State) (n : Nat) (endB : Bool) : Option NodeCmd :=
  let x := s.chain n
  let last := if endB then x.turn[1] else x.turn[0]
  let mine := x.cmds.filter fun c => s.servedByB n c.pos == endB
  (List.range 16).findSome? fun j => mine.find? fun c => c.pos == (last + 1 + j) % 16

/-- The command an end's next frame carries: a resend, or the waiting command whose turn it is (R406, R412). -/
def State.nextCmd (s : State) (n : Nat) (endB : Bool) : State × List Nat :=
  let x := s.chain n
  let e : Fin 2 := if endB then 1 else 0
  let set (o : Option NodeOut) (y : Chain) : Chain :=
    { y with out := if endB then #v[y.out[0], o] else #v[o, y.out[1]] }
  match x.out[e] with
  | some o =>
    if o.resend then
      (s.setChain n (set (some { o with resend := false, frames := 1 }) x), cmdBytes o.cmd o.tag)
    else (s.setChain n (set (some { o with frames := o.frames + 1 }) x), List.replicate 16 0)
  | none =>
    match s.turnCmd n endB with
    | none => (s, List.replicate 16 0)
    | some c =>
      let tag := x.tag % 255 + 1
      let y := { x with
        tag := tag, cmds := x.cmds.erase c, turn := if endB then #v[x.turn[0], c.pos] else #v[c.pos, x.turn[1]] }
      let s := if c.op = 0x03 then s.setNode n c.pos { s.node n c.pos with liveFrom := some s.now } else s
      (s.setChain n (set (some ⟨c, tag, 1, 0, false⟩) y), cmdBytes c tag)

/-- One end sends a frame over positions first to first + count − 1. -/
def State.sendFrame (s : State) (n : Nat) (endB : Bool) (type k first count : Nat) (cmd : List Nat) : State :=
  let x := s.chain n
  let e : Fin 2 := if endB then 1 else 0
  let s := s.injSend 1 n 0 (hrMsg n endB type (k % 2 ^ 32) count first x.fseq[e] cmd)
  s.setChain n { x with fseq :=
    if endB then #v[x.fseq[0], (x.fseq[1] + 1) % 2 ^ 16] else #v[(x.fseq[0] + 1) % 2 ^ 16, x.fseq[1]] }

/-- One end's SWEEP frame, when it reaches nodes. -/
def State.sweepEnd (s : State) (n k : Nat) (endB : Bool) : State :=
  let ps := (List.range 16).filter fun p => s.reaches n p endB && (s.split n || !endB)
  match ps with
  | [] => s
  | p :: _ =>
    let r := s.nextCmd n endB
    r.1.sendFrame n endB 0x51 k p ps.length r.2

/-- SWEEP_SEND: the frames of the last instant (R392); in SPLIT operation an ENUM from end A looks for a closed
ring (R402). -/
def execSweepSend (ch : Fin 32) (s : State) : Host.Outcome State Fault Refusal :=
  let n := ch.val
  .next (if ¬ s.present n ∨ s.hrFenced n ∨ s.hstate n < hrIdent ∨ s.hstate n = hrFault then s
  else
    let k := s.inst.lastK.getD 0
    let s := (s.sweepEnd n k false).sweepEnd n k true
    if s.split n ∧ s.hstate n = hrRun then s.sendEnum n false else s)

/-- Positions an end is to ask again for a record (R400). -/
def State.askAgain (s : State) (n : Nat) (r : Rec) (endB : Bool) : List Nat :=
  (s.nodesIn n ndAdmitted).filter fun p =>
    s.reaches n p endB && s.servedByB n p == endB && !(r.taken.any fun t => t.pos == p)

/-- RECOVER_SEND: a RECOVER frame for each record not yet final, from each end that reaches a missing node
(R400). -/
def execRecoverSend (ch : Fin 32) (s : State) : Host.Outcome State Fault Refusal :=
  let n := ch.val
  let one (endB : Bool) (t : State) (r : Rec) : State :=
    match t.askAgain n r endB with
    | [] => t
    | p :: rest => t.sendFrame n endB 0x52 r.k p ((p :: rest).getLastD p - p + 1) (List.replicate 16 0)
  .next (if ¬ s.present n ∨ s.hrFenced n ∨ s.hstate n < hrIdent ∨ s.hstate n = hrFault then s
  else
    let rs := (s.chain n).recs.filter fun r => !r.final
    rs.foldl (one true) (rs.foldl (one false) s))

/-! ### Answers and slots (R393, R395, R406, R412) -/

/-- Put word w of a node's IDENT in place, and go on (R407). -/
def State.identWord (s : State) (n p w v : Nat) : State :=
  let x := s.node n p
  if s.nstate n p ≠ ndIdent then s
  else
    let s := s.setNode n p { x with ident := x.ident.take (4 * w) ++ leBytes 4 v }
    if w < 11 then s.nodeCmd n p 0x01 (w + 1) [] else s.admitReady n

/-- A node's answer to the outstanding command of its end (R406, R412). -/
def State.nodeAnswer (s : State) (n p result tag data : Nat) : State :=
  let x := s.chain n
  let endB := s.servedByB n p
  let e : Fin 2 := if endB then 1 else 0
  match x.out[e] with
  | none => s
  | some o =>
    if o.cmd.pos ≠ p ∨ o.tag % 16 ≠ tag ∨ result = 0 then s
    else
      let s := s.setChain n { x with out := if endB then #v[x.out[0], none] else #v[none, x.out[1]] }
      match o.cmd.op with
      | 0x01 => if result = 1 then s.identWord n p o.cmd.word data else s
      | 0x02 => if result = 1 then (s.setNode n p { s.node n p with timed := true }).timingDone n else s
      | 0x10 => s.flagIf (2 ≤ result && result ≤ 4) F.HR_FLAGS_BAL_REFUSED n
      | _ => s

/-- Signed cell values of a slot; 0x80_0000 is no value. -/
def slotValues (x : Slot) : List Int := x.cells.toList.map fun c => toSigned 24 c.toNat

/-- A slot is taken into the record of its instant (R395, R396). -/
def State.takeSlot (s : State) (n : Nat) (recover : Bool) (r : Rec) (x : Slot) : State :=
  let p := x.pos.val
  let t : Taken :=
    { pos := p, flags := x.flags.toNat, recovered := recover, cells := slotValues x, balOn := x.balOn.toNat }
  let c := s.chain n
  let s := s.setChain n { c with recs := c.recs.map fun y =>
    if y.k = r.k then { y with taken := y.taken ++ [t] } else y }
  let s := s.flagIf (bitOf x.flags.toNat 0) F.HR_FLAGS_FLYWHEEL n
  let s := s.flagIf (bitOf x.flags.toNat 1) F.HR_FLAGS_SKEW n
  let s := s.flagIf recover F.HR_FLAGS_RECOVERED n
  let s := s.setReg .HR_BAL n p x.balOn.toNat
  let y := s.node n p
  let temps := if x.temp = 0x8000 then y.temps
    else (x.tempIdx.val, toSigned 16 x.temp.toNat, s.now) :: y.temps.filter fun e => e.1 != x.tempIdx.val
  s.setNode n p { y with temps := temps, lastFlags := x.flags.toNat }

/-- One slot of a received frame (R395, R401). -/
def State.slotRx (s : State) (n k : Nat) (recover hdrGood : Bool) (x : Slot) : State :=
  let p := x.pos.val
  if ¬ x.good ∨ ¬ hdrGood then s.flag F.HR_FLAGS_SLOT_CRC n
  else
    let s := s.setChain n { s.chain n with lastReach := s.now }
    let s := s.nodeAnswer n p x.rspResult x.rspTag x.rspData.toNat
    if s.nstate n p = ndLost then s.identify n p
    else if ¬ x.filled ∨ s.nstate n p ≠ ndAdmitted ∨ x.inst16.toNat ≠ k % 2 ^ 16 then s
    else
      match (s.chain n).recs.find? fun r => r.k % 2 ^ 32 == k && !r.final && !r.skipped with
      | none => s
      | some r => if r.taken.any fun t => t.pos == p then s else s.takeSlot n recover r x

/-- A returning SWEEP or RECOVER frame (R395). -/
def State.sweepRx (s : State) (n : Nat) (recover : Bool) (k : Nat) (hdrGood : Bool) (slots : List Slot) : State :=
  if ¬ s.present n ∨ s.hrFenced n ∨ s.hstate n < hrIdent ∨ s.hstate n = hrFault then s
  else slots.foldl (fun t x => t.slotRx n k recover hdrGood x) s

/-- NODE_CMD_RETRY: a command without an answer after 4 frames is sent again; after 3 repeats the node is refused
(R406). -/
def execNodeCmdRetry (ch : Fin 32) (endB : Bool) (s : State) : Host.Outcome State Fault Refusal :=
  let n := ch.val
  let e : Fin 2 := if endB then 1 else 0
  let x := s.chain n
  .next (match x.out[e] with
  | none => s
  | some o =>
    if o.frames < 4 then s
    else if o.repeats < 3 then
      let o' : NodeOut := { o with repeats := o.repeats + 1, frames := 0, resend := true }
      s.setChain n { x with out := if endB then #v[x.out[0], some o'] else #v[some o', x.out[1]] }
    else
      let s := s.setChain n { x with out := if endB then #v[x.out[0], none] else #v[none, x.out[1]] }
      ((((s.refuseNode n o.cmd.pos 6).identDone n).timingDone n).healCheck n).admitReady n)

/-! ### Final records (R396, R397, R401) -/

/-- The latest-cell entry of input j of a position at a final record (R397). -/
def latestWord (r : Rec) (t : Option Taken) (j : Nat) : Nat :=
  let b (c : Bool) (k : Nat) : Nat := if c then 2 ^ k else 0
  match t with
  | none => 0x01800000 + b r.notPlant 28
  | some x =>
    let v := x.cells.getD j (-0x800000)
    ofSigned 24 v + b (v == -0x800000) 24 + b (bitOf x.flags 0) 25 + b x.recovered 26 + b (bitOf x.flags 1) 27 +
      b r.notPlant 28

/-- A final record without a slot of node p: at 3 consecutive instants without one the node is LOST, in whatever order their
records became final (R401).  Instants before its ADMIT went out do not count (log 169). -/
def State.missNode (s : State) (n p : Nat) (r : Rec) : State :=
  let x := s.node n p
  let m := r.seq :: x.missed.take 31
  let at3 (i : Nat) : Bool := m.contains i && m.contains (i + 1) && m.contains (i + 2)
  if ¬ x.liveFrom.any fun t => decide (t < r.at_) then s
  else if ¬ (at3 r.seq ∨ at3 (r.seq - 1) ∨ at3 (r.seq - 2)) then s.setNode n p { x with missed := m }
  else
    let s := (s.dropCmds n p).setNode n p { s.node n p with outAt := some s.now }
    (s.setNstate n p ndLost).flag F.HR_FLAGS_NODE_LOST n

/-- The latest-cell table takes a final record (R397). -/
def State.putLatest (s : State) (n : Nat) (r : Rec) : State :=
  (List.range 16).foldl (fun t p =>
    let m := t.nodeMapOf n p
    let x := r.taken.find? fun y => y.pos == p
    (List.range m.cells).foldl (fun u j =>
      u.setWord (0x1003F00000 + 4 * (512 * n + m.base + j)) (latestWord r x j)) t) s

/-- A cell value of the record lies outside [V_MIN, V_MAX] of EST_VLIM (R517). -/
def State.recOut (s : State) (n : Nat) (r : Rec) : Bool :=
  r.taken.any fun t => (t.cells.take (s.nodeMapOf n t.pos).cells).any fun v =>
    v != -0x800000 && (decide (v < 1000 * (s.fld F.EST_VLIM_V_MIN : Int)) || decide (1000 * (s.fld F.EST_VLIM_V_MAX : Int) < v))

/-- The record becomes final (R396).  The first one with a cell value out of its limits triggers the recorder (R517, log
173). -/
def State.finalise (s : State) (n : Nat) (r : Rec) : State :=
  let adm := s.nodesIn n ndAdmitted
  let gone := adm.filter fun p => !(r.taken.any fun t => t.pos == p)
  let novals (t : Taken) : Nat :=
    ((t.cells.take (s.nodeMapOf n t.pos).cells).filter fun v => v == -0x800000).length
  let miss := (gone.map fun p => (s.nodeMapOf n p).cells).foldl (· + ·) 0 +
    (r.taken.map novals).foldl (· + ·) 0
  let s := s.flagIf (gone.any fun p => (s.nodeMapOf n p).cells != 0) F.HR_FLAGS_MISSING n
  let s := s.setFld F.HR_MISS_CNT_COUNT (satNat 0xFFFFFFFF (s.fld F.HR_MISS_CNT_COUNT n + miss)) n
  let s := s.setReg .HR_SWEEP n 0 (r.k % 2 ^ 32)
  let s := s.setFld F.HR_SWEEP_STAT_MISSING (satNat 512 miss) n
  let s := s.setBit F.HR_SWEEP_STAT_RECOVERED (r.taken.any fun t => t.recovered) n
  let s := s.setBit F.HR_SWEEP_STAT_FLYWHEEL (r.taken.any fun t => bitOf t.flags 0) n
  let s := s.setBit F.HR_SWEEP_STAT_NOT_PLANT r.notPlant n
  let s := s.setFld F.HR_SWEEP_STAT_LATENCY (satNat 0xFFFF (roundFree 109 (((s.now - r.at_ : Nat) : Rat) / 1000)).toNat) n
  let s := s.setBit F.HR_STATE_COMPLETE (miss == 0) n
  let s := if s.granHeld 0x1003F00000 then s else s.putLatest n r
  let s := gone.foldl (fun t p => t.missNode n p r) s
  let c := s.chain n
  let out := s.recOut n r
  let s := if out ∧ ¬ c.cellOut then s.recTrigger 7 n else s
  s.setChain n { c with cellOut := out, recs := c.recs.map fun y => if y.k = r.k then { y with final := true } else y }

/-- An open record becomes final when every ADMITTED node's slot has been taken, or FINAL_WIN periods after its instant
(R396). -/
def State.recDue (s : State) (n : Nat) (r : Rec) : Bool :=
  !r.final && (((s.nodesIn n ndAdmitted).all fun p => r.taken.any fun t => t.pos == p) ||
    s.elapsed r.at_ (s.fld F.HR_CFG_FINAL_WIN * s.samplePeriod))

/-- SWEEP_FINAL: the oldest record that is due becomes final, be an older one still waiting or not (R396). -/
def execSweepFinal (ch : Fin 32) (s : State) : Host.Outcome State Fault Refusal :=
  let n := ch.val
  .next (if ¬ s.present n then s
  else
    match (s.chain n).recs.find? fun r => s.recDue n r with
    | none => s
    | some r => s.finalise n r)

/-- NODE_LOSS_TIMEOUT: an expected node has been without admission for NODE_LOSS_T while channel n is READY
(R401). -/
def execNodeLossTimeout (ch : Fin 32) (node : Fin 16) (s : State) : Host.Outcome State Fault Refusal :=
  let n := ch.val
  let p := node.val
  .next (match (s.node n p).outAt with
  | some t =>
    if s.present n ∧ p < s.expect n ∧ s.nstate n p ≠ ndAdmitted ∧ s.cstate n = csReady ∧
        s.elapsed t (100000000 * s.fld F.HR_CHAIN_CFG_NODE_LOSS_T n) then s.hrZeroReq n else s
  | none => s)

/-! ### Delays (R389) -/

/-- PROBE_CYCLE: 16 probes to every node from each side that reaches it. -/
def execProbeCycle (ch : Fin 32) (s : State) : Host.Outcome State Fault Refusal :=
  let n := ch.val
  .next (if ¬ s.present n ∨ s.hrFenced n ∨ ¬ (s.hstate n = hrTiming ∨ s.hstate n = hrRun) then s
  else
    let s := (s.nodesIn n ndAdmitted).foldl (fun t p =>
      let t := t.setNode n p { t.node n p with dSum := Vector.replicate 2 0, dNum := Vector.replicate 2 0 }
      [false, true].foldl (fun u e =>
        if u.reaches n p e then (List.range 16).foldl (fun v i => v.injSend 1 n 0 (.hrProbe n e p i (setCheck p i))) u else u) t) s
    s.timingDone n)

/-- The delay of node p on a side has been measured: TIMING is rewritten when it moved by more than 2 ns. -/
def State.newDelay (s : State) (n p : Nat) (endB : Bool) (d : Rat) : State :=
  let x := s.node n p
  let e : Fin 2 := if endB then 1 else 0
  let v := satNat 0xFFFE (roundFree 111 d).toNat
  let s := if endB then s.setFld F.HR_DELAY_D_B v n p else s.setFld F.HR_DELAY_D_A v n p
  if (x.delay[e]).any fun o => decide (absQ (d - o) ≤ 2) then s
  else
    let y := { x with delay := if endB then #v[x.delay[0], some d] else #v[some d, x.delay[1]] }
    let s := s.setNode n p y
    let other : Fin 2 := if endB then 0 else 1
    if y.delay[other].isSome ∨ ¬ s.reaches n p (!endB) then s.sendTiming n p else s

/-- A PROBE of node p returns to an end after a round trip (R389). -/
def State.probeRx (s : State) (n : Nat) (endB : Bool) (p roundTripNs : Nat) : State :=
  if ¬ s.present n ∨ s.hrFenced n ∨ ¬ (s.hstate n = hrTiming ∨ s.hstate n = hrRun) ∨
      s.nstate n p ≠ ndAdmitted then s
  else
    let x := s.node n p
    let e : Fin 2 := if endB then 1 else 0
    let sum := x.dSum[e] + (roundTripNs - 200)
    let num := x.dNum[e] + 1
    let put (a b : Nat) : Node := { x with
      dSum := if endB then #v[x.dSum[0], a] else #v[a, x.dSum[1]]
      dNum := if endB then #v[x.dNum[0], b] else #v[b, x.dNum[1]] }
    if num < 16 then s.setNode n p (put sum num)
    else (s.setNode n p (put 0 0)).newDelay n p endB ((sum : Rat) / 32)

/-! ### Frames received, and injection on them (R556) -/

/-- One received Hedgerow frame, `good` unless an injection corrupted it. -/
def State.hrTake (s : State) (i : Instr) (good : Bool) : State :=
  match i with
  | .enumRx ch fromB atB count g => s.enumRx ch fromB atB count (g && good)
  | .sweepFrameRx ch recover instant h slots => s.sweepRx ch recover instant.toNat (h && good) slots
  | .probeRx ch endB p rt => if good ∧ p.check.val = setCheck p.node p.seq then s.probeRx ch endB p.node rt else s
  | _ => s

/-- A Hedgerow frame i arrives on chain n: it passes, is dropped, is corrupted, or is held until after the next
one. -/
def State.hrRx (s : State) (n : Nat) (i : Instr) : State :=
  let r := s.injReceive 1 n 0 i
  let s := if r.2.1 = 1 ∨ r.2.1 = 3 then r.1 else r.1.hrTake i (r.2.1 == 0)
  match r.2.2 with
  | some j => s.hrTake j true
  | none => s

/-- ENUM_RX. -/
def execEnumRx (ch : Fin 32) (fromB atB : Bool) (count : Fin 256) (good : Bool) (s : State) :
    Host.Outcome State Fault Refusal :=
  .next (s.hrRx ch (.enumRx ch fromB atB count good))

/-- SWEEP_FRAME_RX. -/
def execSweepFrameRx (ch : Fin 32) (recover : Bool) (instant : Word) (hdrGood : Bool) (slots : List Slot)
    (s : State) : Host.Outcome State Fault Refusal :=
  .next (s.hrRx ch (.sweepFrameRx ch recover instant hdrGood slots))

/-- PROBE_RX: a PROBE whose check byte fails is not acted on (R383, log 168). -/
def execProbeRx (ch : Fin 32) (endB : Bool) (set : ProbeSet) (roundTripNs : Nat) (s : State) :
    Host.Outcome State Fault Refusal :=
  .next (s.hrRx ch (.probeRx ch endB set roundTripNs))

end Sys2Proof.Machine
end

