-- ==== Sys2Proof/Machine/Learn.lean ====
section
/-! DEFINITION. Capacity, impedance and life learning (spec chapter 12). -/

namespace Sys2Proof.Machine

/-! ### Records (R489 to R491) -/

/-- The context record of a cell as it stands (R444, R491). -/
def State.ctxRecord (s : State) (k : Nat) : CtxRec :=
  let n := k / 512
  let pl := (s.cellPlace k).getD (0, 0)
  let t := (s.strE n).stepT.getD s.tb0
  let c := ((s.strE n).latches.find? fun e => e.1 == t).map fun e => e.2
  let q := c.getD (s.qDis n, s.qChg n)
  { cell := s.cell k, stamp := t, qDis := q.1, qChg := q.2, serial := (s.node n pl.1).serial, input := pl.2 }

/-- Replace the newest record under a key. -/
def newest {α : Type} (m : List (Nat × α)) (k : Nat) (v : α) : List (Nat × α) :=
  (k, v) :: m.filter fun e => e.1 != k

/-- A learning record (R491): bytes 152 to 255, Q_CAP, the stamp and the latched counts. -/
def State.learnRecord (s : State) (k : Nat) : State :=
  let r := s.ctxRecord k
  let words := (List.range 26).map fun i => s.word (ctxAddr k + 152 + 4 * i)
  let s := s.ledgerBulk 0x44 k (words ++ [s.word (ctxAddr k + 68), r.stamp.toNat, r.qDis, r.qChg])
  { s with ldgState := { s.ldgState with learn := newest s.ldgState.learn k r } }

/-! ### Updates of the table (R478) -/

/-- The weight, the raised value and the new u_r of an accepted measurement. -/
def updGain (n nAvg : Nat) : Rat := 1 / ((min (n + 2) nAvg : Nat) : Rat)
def updUr (g ur old meas floor : Rat) : Rat :=
  maxQ floor ((1 - g) * ur + g * (if old = 0 then 0 else absQ (meas - old) / old))

/-- The entry an update starts from: the stored one when LEARNED, else the lookup's with N = 0 (R478). -/
def State.updBase (s : State) (k : Nat) (t soc : Rat) (b : Nat) : ImpEntry :=
  let e := s.entry k (entryNo (s.tBand t) (socBand soc) b)
  if e.state = 1 then e else { (s.lookupBand k t soc b).1 with n := 0 }

/-- Store an updated entry as LEARNED in its own band, propagate, and refresh SOH_R when it is the reference
entry of R448. -/
def State.storeLearned (s : State) (k : Nat) (t soc : Rat) (b : Nat) (e : ImpEntry) : State :=
  let tb := s.tBand t
  let sb := socBand soc
  let ref := s.entry k (entryNo tb sb 0)
  let s := s.setEntry k (entryNo tb sb b) { e with n := min (e.n + 1) 15, state := 1, bandL := b }
  let s := s.propagate k tb sb
  if tb = s.tBand 25 ∧ sb = 4 ∧ (b = 0 ∨ s.entry k (entryNo tb sb 0) ≠ ref) then
    let c := s.sohOf k (s.cell k)
    s.putCell k { c with refT := s.tbSec 0 % 2 ^ 32 }
  else s

/-- UR_FLOOR and N_AVG. -/
def State.urFloor (s : State) : Rat := (s.fld F.LRN_BANDCFG_UR_FLOOR : Rat) / 100
def State.nAvg (s : State) : Nat := s.fld F.LRN_ID_N_AVG

/-- An accepted ripple measurement of Rs. -/
def State.updateRs (s : State) (k : Nat) (t soc : Rat) (b : Nat) (meas : Rat) : State :=
  let e := s.updBase k t soc b
  let g := updGain e.n s.nAvg
  let s := s.storeLearned k t soc b
    { e with rs := e.rs + g * (meas - e.rs), ur := updUr g e.ur e.rs meas s.urFloor }
  s.flag F.LRN_FLAGS_RS_UPDATE (k / 512)

/-- An accepted relaxation fit: u_r is judged on Ra + Rb. -/
def State.updateRc (s : State) (k : Nat) (t soc : Rat) (b : Nat) (ra ta rb tb : Rat) : State :=
  let e := s.updBase k t soc b
  let g := updGain e.n s.nAvg
  let s := s.storeLearned k t soc b { e with
    ra := e.ra + g * (ra - e.ra), tauA := e.tauA + g * (ta - e.tauA)
    rb := e.rb + g * (rb - e.rb), tauB := e.tauB + g * (tb - e.tauB)
    ur := updUr g e.ur (e.ra + e.rb) (ra + rb) s.urFloor }
  s.flag F.LRN_FLAGS_RC_UPDATE (k / 512)

/-! ### Relaxation (R479) -/

/-- t_m of R479, in s. -/
def State.rlxTime (s : State) (m : Nat) : Rat :=
  Config.expQ ((m : Rat) / 11 * Config.lnQ (10 * (s.fld F.LRN_ID_T_RLX : Rat))) / 10

/-- The hold of a cell ends without an update. -/
def State.rlxReject (s : State) (k : Nat) : State :=
  (s.putCell k { s.cell k with rlxActive := false }).flag F.LRN_FLAGS_ID_REJECT (k / 512)

/-- A hold that has lasted T_RLX is fitted (R479). -/
def State.relaxFit (s : State) (k : Nat) : State :=
  let c := s.cell k
  let last := (s.strE (k / 512)).stepT.getD c.rlxStart
  if ¬ c.rlxActive ∨ last < c.rlxStart + 1000000000 * (s.fld F.LRN_ID_T_RLX : Int) then s
  else if c.rlxSum.length < 12 ∨ c.rlxSum.any (fun x => x.2 == 0) then s.rlxReject k
  else
    let pts := c.rlxSum.map fun x => x.1 / (x.2 : Rat)
    let f := s.cellProfile k
    let b := s.iBand f.qNom c.rlxI
    let e := (s.lookupBand k c.rlxTemp c.rlxSoc b).1
    let r := Config.relaxFit pts c.rlxDi ((List.range 12).map s.rlxTime ++ [e.ra, e.tauA, e.rb, e.tauB])
    let ra := r.getD 0 0
    let ta := r.getD 1 0
    let rb := r.getD 2 0
    let tb := r.getD 3 0
    let s := s.putCell k { c with rlxActive := false, rlxPts := pts }
    if r.getD 4 0 ≤ 2 * f.sigmaV ∧ 1 / 10 ≤ ta ∧ ta ≤ 127 / 10 ∧ 2 ≤ tb ∧ tb ≤ 510 ∧ 5 * ta ≤ tb ∧
        0 ≤ ra ∧ ra ≤ 4094 / 1000000 ∧ 0 ≤ rb ∧ rb ≤ 4094 / 1000000 then
      s.updateRc k c.rlxTemp c.rlxSoc b ra ta rb tb
    else s.flag F.LRN_FLAGS_ID_REJECT (k / 512)

/-- RELAX_FIT: the hold of a cell has lasted T_RLX (R479). -/
def execRelaxFit (cell : Fin 16384) (s : State) : Host.Outcome State Fault Refusal := .next (s.relaxFit cell)

/-! ### Ripple (R476, R477) -/

/-- A complex number as a pair. -/
abbrev Cx := Rat × Rat
def cxMul (a b : Cx) : Cx := (a.1 * b.1 - a.2 * b.2, a.1 * b.2 + a.2 * b.1)
def cxDiv (a b : Cx) : Cx :=
  let d := b.1 * b.1 + b.2 * b.2
  if d = 0 then (0, 0) else ((a.1 * b.1 + a.2 * b.2) / d, (a.2 * b.1 - a.1 * b.2) / d)
def cxAbs2 (a : Cx) : Rat := a.1 * a.1 + a.2 * a.2

/-- The Hann-windowed DFT of N_w values at line m. -/
def hannDft (xs : List Rat) (m : Nat) : Cx :=
  let nw := xs.length
  (List.range nw).foldl (fun (a : Cx) (i : Nat) =>
    let w := (1 - Config.cosTurn ((i : Rat) / (nw : Rat))) / 2
    let x := w * xs.getD i 0
    let ph : Rat := ((m * i : Nat) : Rat) / (nw : Rat)
    (a.1 + x * Config.cosTurn ph, a.2 - x * Config.sinTurn ph)) (0, 0)

/-- The valid value of a cell at an instant, in V (R431, R477). -/
def Rec.cellValue (r : Rec) (p j : Nat) : Option Rat :=
  match r.taken.find? fun t => t.pos == p with
  | none => none
  | some t =>
    let v := t.cells.getD j (-0x800000)
    if v = -0x800000 ∨ bitOf t.flags 2 ∨ bitOf t.flags 3 then none else some ((v : Rat) / 1000000)

/-- The two lines with the largest amplitude, when both reach I_RIP_MIN (R476). -/
def State.rippleLines (s : State) (cur : List Rat) (f : Nat) : List Nat :=
  let nw := cur.length
  let tid := s.fld F.LRN_ID_T_ID
  let lines := (List.range (nw + 1)).filter fun m =>
    1 ≤ m && s.fld F.LRN_ID_F_RIP_LO * tid ≤ 10 * m && 4 * 10 * m ≤ f * tid
  let amp2 (m : Nat) : Rat := 4 * cxAbs2 (hannDft cur m) / ((nw * nw : Nat) : Rat)
  let lim : Rat := (s.fld F.LRN_ID_I_RIP_MIN : Rat)
  let best (skip : Option Nat) : Option Nat := lines.foldl (fun (a : Option Nat) m =>
    if skip = some m then a
    else match a with
      | none => some m
      | some x => if amp2 x < amp2 m then some m else some x) none
  match best none with
  | none => []
  | some a =>
    match best (some a) with
    | none => []
    | some b => if lim * lim ≤ amp2 a ∧ lim * lim ≤ amp2 b then [a, b] else []

/-- rs_meas of one line (R477). -/
def rsMeasured (e : ImpEntry) (vs cur : List Rat) (m : Nat) (f : Rat) (fs : Nat) : Rat :=
  let x := f / (fs : Rat)
  let sinc := if x = 0 then 1 else Config.sinTurn (x / 2) / (Config.piQ * x)
  let v := hannDft vs m
  let turn : Cx := (Config.cosTurn (x / 2), -Config.sinTurn (x / 2))
  let z := cxDiv (cxMul (-v.1 * sinc, -v.2 * sinc) turn) (hannDft cur m)
  let w (r tau : Rat) : Rat := r / (1 + (2 * Config.piQ * f * tau) * (2 * Config.piQ * f * tau))
  z.1 - w e.ra e.tauA - w e.rb e.tauB

/-- One cell's window (R477). -/
def State.rippleCell (s : State) (k : Nat) (win : List Rec) (cur : List Rat) (lines : List Nat) (fs : Nat) :
    State :=
  let n := k / 512
  let c := s.cell k
  match s.cellPlace k with
  | none => s
  | some (p, j) =>
    let vs := win.filterMap fun r => r.cellValue p j
    let t := if c.wN = 0 then c.tCell else c.wT / (c.wN : Rat)
    let mean := (cur.foldl (fun a x => a + absQ x) 0) / (cur.length : Rat)
    let b := s.iBand (s.cellProfile k).qNom mean
    let e := (s.lookupBand k t c.wSoc b).1
    let rs := lines.map fun m => rsMeasured e vs cur m ((10 * m : Nat) / (s.fld F.LRN_ID_T_ID : Rat)) fs
    let a := rs.getD 0 0
    let d := rs.getD 1 0
    let avg := (a + d) / 2
    if vs.length ≠ win.length ∨ (win.any fun r => r.lost != 0) ∨ c.wPaused ∨ a ≤ 0 ∨ d ≤ 0 ∨
        avg < 10 * absQ (a - d) then s.flag F.LRN_FLAGS_ID_REJECT n
    else s.updateRs k t c.wSoc b avg

/-- The end on time base 0, in ns, of the identification window [S, S + T_ID) that holds an instant; S is a
multiple of T_ID (R476). -/
def State.idEnd (s : State) (t : Int) : Int :=
  let span : Int := 100000000 * (s.fld F.LRN_ID_T_ID : Int)
  (t / span + 1) * span

/-- RIPPLE_ID_WINDOW: the identification window of string n that holds its oldest instant has ended (R476, R477,
R480).  DEDUCED (log 149): a window that does not hold every instant of its span yields nothing. -/
def execRippleIdWindow (ch : Fin 32) (s : State) : Host.Outcome State Fault Refusal :=
  let n := ch.val
  let x := s.strE n
  let fs := rateHz (s.fld F.HR_CFG_RATE_NOW)
  let nw := s.fld F.LRN_ID_T_ID * fs / 10
  let first := ((x.win.head?.map fun r => r.tns).getD 0)
  let last := ((x.win.getLast?.map fun r => r.tns).getD 0)
  let e := s.idEnd first
  let win := x.win.filter fun r => decide (r.tns < e)
  .next (if ¬ s.present n ∨ x.win.isEmpty ∨ last + s.samplePeriod < e then s
  else
    let cur := win.map fun r => if r.len = 0 then 0 else r.q * 1000000000 / (r.len : Rat)
    let run := s.cstate n == csReady && s.bit F.LRN_ID2_ID_EN && !s.bit F.LRN_STATE_ID_SHED
    let lines := if run ∧ nw ≠ 0 ∧ win.length = nw then s.rippleLines cur fs else []
    let cells := (s.stringCells n).filter fun k => 2 ≤ (s.cell k).estate && (s.cell k).estate != 3
    -- a fit that falls due comes before the ripple update (R494)
    let s := if lines.isEmpty then s else cells.foldl (fun t k => (t.relaxFit k).rippleCell k win cur lines fs) s
    let s := (s.stringCells n).foldl (fun t k =>
      t.setCell k { t.cell k with wT := 0, wN := 0, wSoc := (t.cell k).soc, wPaused := false }) s
    s.setStrE n { s.strE n with win := x.win.filter fun r => decide (e ≤ r.tns) })

/-! ### Capacity (R481 to R486) -/

/-- A new point becomes the anchor; a learning record goes with every anchor change (R483, R491). -/
def State.setAnchor (s : State) (k : Nat) (soc sg : Rat) (kind : Nat) : State :=
  let r := s.ctxRecord k
  let c := s.cell k
  let s := s.putCell k { c with
    ancKind := kind, ancSoc := soc, ancSigma := sg, ancT := (r.stamp / 1000000000).toNat % 2 ^ 32
    ancTemp := roundFree 101 (c.tCell * 10), ancQDis := r.qDis, ancQChg := r.qChg, ancQBal := 0, ancVarQ := 0 }
  s.learnRecord k

/-- The pair of a new point with the anchor: q_meas and var_meas in Ah and Ah² (R483), when its ΔS suffices. -/
def State.anchorPair (s : State) (k : Nat) (soc sg : Rat) : Option (Rat × Rat) :=
  let c := s.cell k
  let f := s.cellProfile k
  let r := s.ctxRecord k
  let days : Rat := ((r.stamp / 1000000000 % 2 ^ 32 - (c.ancT : Int) : Int) : Rat) / 86400
  let ds := c.ancSoc - soc - f.sdMean * days
  let dsMin : Rat := (s.fld F.LRN_CFG_DSOC_MIN : Rat) / 100
  if c.ancKind = 0 ∨ absQ ds < dsMin ∨ ds = 0 then none
  else
    let ah (a b : Nat) : Rat := (coulombs a - coulombs b) / 3600
    let dq := ah r.qDis c.ancQDis - f.etaChg * ah r.qChg c.ancQChg + c.ancQBal
    let q := dq / ds
    let sd := f.sdSigma * days
    some (q, (q * q * (c.ancSigma * c.ancSigma + sg * sg + sd * sd) + c.ancVarQ) / (ds * ds))

/-- An accepted pair updates the capacity; any other is rejected (R484). -/
def State.capUpdate (s : State) (k : Nat) (qm vm : Rat) (virt : Nat) : State :=
  let n := k / 512
  let c := s.cell k
  let q0 := (s.cellProfile k).qNom
  let d := qm - c.qCap
  if 0 < qm ∧ q0 / 2 ≤ qm ∧ qm ≤ 6 * q0 / 5 ∧ d * d ≤ 16 * (c.varCap + vm) then
    let vr : Rat := (s.fld F.LRN_CFG_VR_GAIN : Rat) / 100
    let g : Rat := if virt = 0 then 1 else if virt = 1 then vr else vr * vr
    let kk := if c.varCap + vm = 0 then 0 else g * c.varCap / (c.varCap + vm)
    let c := { c with
      qCap := clampQ (q0 / 2) (6 * q0 / 5) (c.qCap + kk * d)
      varCap := (1 - kk) * (1 - kk) * c.varCap + kk * kk * vm
      tCap := ((s.ctxRecord k).stamp / 1000000000).toNat % 2 ^ 32, capUpd := c.capUpd + 1, capLearned := true, sohStale := false }
    ((s.putCell k (s.sohOf k c)).flag F.LRN_FLAGS_CAP_UPDATE n).learnRecord k
  else s.flag F.LRN_FLAGS_CAP_REJECT n

/-- A rest point, real (1) or virtual (2): a pair is formed and judged, then the point is the anchor (R483). -/
def State.takePoint (s : State) (k : Nat) (soc sg : Rat) (kind : Nat) : State :=
  let c := s.cell k
  let virt := (if kind = 2 then 1 else 0) + (if c.ancKind = 2 then 1 else 0)
  let s := match s.anchorPair k soc sg with
    | some (q, v) => s.capUpdate k q v virt
    | none => s
  s.setAnchor k soc sg kind

/-- A real rest point (R481). -/
def State.restPoint (s : State) (k : Nat) (v : Rat) : State :=
  let c := s.cell k
  let f := s.cellProfile k
  let hm := f.hmAt c.tCell
  let soc := f.ocvInv (v - hm * c.h) c.tCell
  let so := f.slopeAt soc c.tCell
  let sg := if so = 0 then 1 else (hm * (1 - absQ c.h) + 1 / 1000) / so
  (s.flag F.LRN_FLAGS_REST_POINT (k / 512)).takePoint k soc sg 1

/-- A virtual rest point, when R482 allows one: i is the cell current of the step, t its boundary. -/
def State.virtualRest (s : State) (k : Nat) (v i : Rat) (t : Int) : State :=
  let c := s.cell k
  let f := s.cellProfile k
  let b := s.iBand f.qNom i
  let st := (s.entry k (entryNo (s.tBand c.tCell) (socBand c.soc) b)).state
  let e := (s.lookupBand k c.tCell c.soc b).1
  let gap : Int := 3600000000000 * (s.fld F.LRN_CFG2_VR_MIN_T : Int)
  let due := match c.lastVirt with
    | some x => decide (x + gap ≤ t)
    | none => true
  if c.estate ≠ 4 ∨ t < c.trackT + 600000000000 ∨ s.fld F.LRN_CFG2_VR_BAND < b ∨ st ≠ 1 ∨
      1 / 10 < e.ur ∨ due = false ∨ s.fld F.LRN_CFG_VR_GAIN = 0 then s
  else
    let hm := f.hmAt c.tCell
    let soc := f.ocvInv (v + c.va + c.vb + e.rs * i - hm * c.h) c.tCell
    let so := f.slopeAt soc c.tCell
    let sg := if so = 0 then 1 else (e.ur * (e.rs + e.ra + e.rb) * absQ i + 1 / 1000) / so
    let far := c.ancKind != 0 && decide ((s.fld F.LRN_CFG_DSOC_MIN : Rat) / 100 ≤ absQ (soc - c.ancSoc))
    if sg ≤ (s.fld F.LRN_CFG_VR_SIGMA : Rat) / 1000 ∧ far then
      let s := s.setCell k { c with lastVirt := some t }
      (s.flag F.LRN_FLAGS_VIRTUAL_REST (k / 512)).takePoint k soc sg 2
    else s

/-- SOH_STALE_TIMEOUT: the time since T_CAP has reached SOH_STALE_T (R486). -/
def execSohStaleTimeout (cell : Fin 16384) (s : State) : Host.Outcome State Fault Refusal :=
  let k := cell.val
  let c := s.cell k
  let age := (s.tbSec 0 + 2 ^ 32 - c.tCap) % 2 ^ 32
  .next (if 2 ≤ c.estate ∧ ¬ c.sohStale ∧ 86400 * s.fld F.LRN_CFG2_SOH_STALE_T ≤ age then
    (s.putCell k { c with sohStale := true }).flag F.LRN_FLAGS_SOH_STALE (k / 512) else s)

/-! ### Persistence and reconciliation (R489 to R493) -/

/-- The charge counts of a channel as a record at a stamp. -/
def State.countsAt (s : State) (n : Nat) (stamp : Int) : Counts :=
  { stamp := stamp, qDis := s.qDis n, qChg := s.qChg n, iMean := toSigned 32 (s.reg .MEAS_WIN n 4)
    ilimEff := s.fld F.PROT_EFF_ILIM_EFF n, cstate := s.cstate n }

/-- CHARGE_CHECKPOINT: one for each channel admitted since reset, with the counts latched at its boundary (R438, R489). -/
def execChargeCheckpoint (s : State) : Host.Outcome State Fault Refusal :=
  let per : Int := 1000000000 * (s.fld F.LRN_PERSIST_CKPT_T : Int)
  let stamp := s.tb0 / per * per
  .next (if s.bulkFull then s else s.chans.foldl (fun t n =>
    if t.fld F.MEAS_EPOCH_EPOCH n = 0 then t
    else
      let at_ := ((t.strE n).latches.find? fun e => e.1 == stamp).map fun e => e.2
      let q := at_.getD (t.qDis n, t.qChg n)
      let c : Counts := { t.countsAt n stamp with qDis := q.1, qChg := q.2 }
      let t := t.ledgerBulk 0x41 n
        [n, stamp.toNat, c.qDis, c.qChg, ofSigned 32 c.iMean, c.ilimEff, c.cstate]
      let t := { t with ldgState := { t.ldgState with ckpt := newest t.ldgState.ckpt n c } }
      t.flagIf (stamp + 2000000000 < t.tb0) F.LRN_GFLAGS_JOURNAL_LATE) s)

/-- Write an entry into what the Ledger holds of a cell's table. -/
def State.keepEntry (s : State) (k e : Nat) : State :=
  let old := sparseGet s.ldgState.tables [] k
  let new := old.filter (fun x => x.1 != e) ++ [(e, s.word (tableAddr k e), s.word (tableAddr k e + 4))]
  { s with ldgState := { s.ldgState with tables := sparseSet s.ldgState.tables [] k new } }

/-- JOURNAL_WRITE: each cell block whose entries changed writes one record with the latest values (R490). -/
def execJournalWrite (s : State) : Host.Outcome State Fault Refusal :=
  let ch := if s.bulkFull then [] else s.est.changed
  let blocks := (List.range 128).filter fun b => ch.any fun e => e.1 / 128 == b
  let s := blocks.foldl (fun t b =>
    t.ledgerBulk 0x42 b ((ch.filter fun e => e.1 / 128 == b).flatMap fun e =>
      [e.1, e.2, t.word (tableAddr e.1 e.2), t.word (tableAddr e.1 e.2 + 4)])) s
  let s := ch.foldl (fun t e => t.keepEntry e.1 e.2) s
  .next { s with est := { s.est with changed := if ch = [] then s.est.changed else [] } }

/-- SNAPSHOT_WRITE: a cell's whole table, and its learning record with it (R490, R491). -/
def execSnapshotWrite (cell : Fin 16384) (s : State) : Host.Outcome State Fault Refusal :=
  let k := cell.val
  .next (if (s.cell k).estate < 2 ∨ s.bulkFull then s
  else
    let es := (List.range 256).map fun e => (e, s.word (tableAddr k e), s.word (tableAddr k e + 4))
    let s := s.ledgerBulk 0x43 k (es.flatMap fun e => [e.2.1, e.2.2])
    let s := { s with ldgState := { s.ldgState with tables := sparseSet s.ldgState.tables [] k es } }
    s.learnRecord k)

/-- Show a reconciliation (R503) and record it. -/
def State.showRecon (s : State) (n kind tu : Nat) (dq sg : Rat) : State :=
  let s := s.setFld F.LRN_STR_RECON_KIND kind n 0
  let s := s.setFld F.LRN_STR_RECON_T_U (satNat 0xFFFF tu) n 0
  let s := s.setSatFld F.LRN_STR_RECON_DQ (roundFree 102 (dq / 360)) n 1
  let s := s.setFld F.LRN_STR_RECON_SIGMA (satNat 0xFFFF (roundFree 103 (sg / 36)).toNat) n 1
  s.ledgerBulk 0x45 n [n, kind, tu, ofSigned 32 (roundFree 102 (dq / 360)), (roundFree 103 (sg / 36)).toNat,
    s.qDis n, s.qChg n]

/-- RECONCILE: a channel's counts at start-up (R493): EXACT, ESTIMATED or NONE. -/
def execReconcile (ch : Fin 32) (s : State) : Host.Outcome State Fault Refusal :=
  let n := ch.val
  let find (m : List (Nat × Counts)) : Option Counts := (m.find? fun e => e.1 == n).map fun e => e.2
  let set (t : State) (kind : Nat) (dq sg : Rat) (end_ : Option Int) : State :=
    { t with est := { t.est with
      reconKind := newest t.est.reconKind n kind, recon := newest t.est.recon n (dq, sg)
      reconEnd := match end_ with
        | some e => newest t.est.reconEnd n e
        | none => t.est.reconEnd } }
  let exact := match find s.ldgState.final, find s.ldgState.ckpt with
    | some f, some c => if c.stamp / 1000000000 ≤ f.stamp / 1000000000 then some f else none
    | some f, none => some f
    | none, _ => none
  .next (if s.sup.inReset ∨ ¬ s.present n ∨ sparseGet s.est.reconKind 0 n ≠ 0 ∨ s.fld F.MEAS_EPOCH_EPOCH n ≠ 0 then s
  else
    match exact with
    | some f =>
      let s := (s.setReg64 .MEAS_QCOUNT n 0 f.qDis).setReg64 .MEAS_QCOUNT n 2 f.qChg
      (set s 2 0 0 (some f.stamp)).showRecon n 1 0 0 0
    | none =>
      match find s.ldgState.ckpt with
      | some c =>
        let tu := s.fld F.LRN_PERSIST_CKPT_T + 3
        let dq : Rat := (c.iMean : Rat) / 1000 * (tu : Rat) / 2
        let sg : Rat := amps c.ilimEff * (tu : Rat) / 4
        let u := (roundFree 104 (absQ dq * 1000000)).toNat
        let s := s.setReg64 .MEAS_QCOUNT n 0 (c.qDis + if 0 < dq then u else 0)
        let s := s.setReg64 .MEAS_QCOUNT n 2 (c.qChg + if dq < 0 then u else 0)
        let s := (s.flag F.LRN_FLAGS_RECONCILED n).flag F.LRN_GFLAGS_RECONCILED
        (set s 3 dq sg (some c.stamp)).showRecon n 2 tu dq sg
      | none =>
        let s := (s.setReg64 .MEAS_QCOUNT n 0 0).setReg64 .MEAS_QCOUNT n 2 0
        (set s 1 0 0 none).showRecon n 0 0 0 0)

end Sys2Proof.Machine
end

