-- ==== Sys2Proof/Machine/Estimate.lean ====
section
/-! DEFINITION. Cell state estimation (spec chapter 11): filter steps, seeding, power, energy, aggregates,
pauses, persistence, swaps. -/

namespace Sys2Proof.Machine

def State.blkE (s : State) (b : Nat) : BlkEst := sparseGet s.blkEst {} b
def State.setBlkE (s : State) (b : Nat) (x : BlkEst) : State := { s with blkEst := sparseSet s.blkEst {} b x }

/-- The divisor for a code (R437). -/
def divOf (c : Nat) : Nat := [1, 2, 5, 10].getD c 10

/-- The length in ns of the step that ends at a time base 0 time: a new divisor counts after the boundary that took it. -/
def State.stepLen (s : State) (t : Int) : Int :=
  10000000 * (divOf (if s.est.divAt.any fun a => decide (t ≤ a) then s.est.divOld else s.fld F.EST_STATE_DIV_NOW) : Int)

/-- Z of R446 and R449. -/
def State.estZ (s : State) : Rat := (s.fld F.EST_CFG_Z : Rat) / 10

/-! ### Inputs of a step (R431 to R433) -/

/-- The inputs that the cells of one string share: the records, boundary, dt in s, q in C, t_u in s. -/
structure StepIn where
  recs : List Rec
  t : Int
  dt : Rat
  q : Rat
  tu : Rat
  deriving DecidableEq, Repr

/-- T_c of a cell, and whether it is stale (R433). -/
def State.cellTemp (s : State) (k : Nat) (old : Rat) : Rat × Bool :=
  match s.cellPlace k with
  | none => (old, true)
  | some (p, _) =>
    let fresh := (s.node (k / 512) p).temps.filter fun e => s.now ≤ e.2.2 + 10000000000
    match fresh.find? fun e => e.1 == s.cellSensor k with
    | some e => ((e.2.1 : Rat) / 10, false)
    | none =>
      if fresh.isEmpty then (old, true)
      else ((fresh.foldl (fun a e => a + (e.2.1 : Rat) / 10) 0) / (fresh.length : Rat), false)

/-- v_mean and m_v of a cell in a step, and the marks RECOVERED and NOT_PLANT of its samples. -/
def StepIn.samples (x : StepIn) (p j : Nat) : Rat × Nat × Bool × Bool :=
  let vs := x.recs.filterMap fun r => r.cellValue p j
  let used := x.recs.filter fun r => (r.cellValue p j).isSome
  let recd := used.any fun r => r.taken.any fun t => t.pos == p && t.recovered
  (if vs.isEmpty then 0 else vs.foldl (· + ·) 0 / (vs.length : Rat), vs.length, recd,
   used.any fun r => r.notPlant)

/-- d_on of a cell: the fraction of the step's periods in which its node reported its switch on. -/
def StepIn.dOn (x : StepIn) (p j : Nat) : Rat :=
  let on := x.recs.filter fun r => r.taken.any fun t => t.pos == p && bitOf t.balOn j
  if x.recs.isEmpty then 0 else (on.length : Rat) / (x.recs.length : Rat)

/-! ### Prediction and correction (R428, R435) -/

/-- f · P · fᵀ with a diagonal f, and q added on the diagonal. -/
def predictP (c : Cell) (f q : List Rat) : Vector Rat 10 :=
  let ix : List (Nat × Nat) := [(0, 0), (0, 1), (0, 2), (0, 3), (1, 1), (1, 2), (1, 3), (2, 2), (2, 3), (3, 3)]
  Vector.ofFn fun m =>
    let e := ix.getD m.val (0, 0)
    f.getD e.1 0 * f.getD e.2 0 * c.pAt e.1 e.2 + (if e.1 = e.2 then q.getD e.1 0 else 0)

/-- P · hᵀ. -/
def pTimes (c : Cell) (h : List Rat) : List Rat :=
  (List.range 4).map fun i => (List.range 4).foldl (fun a j => a + c.pAt i j * h.getD j 0) 0

/-- a · P · aᵀ + kg · r · kgᵀ with a = 1 − kg · h. -/
def correctP (c : Cell) (kg h : List Rat) (r : Rat) : Vector Rat 10 :=
  let a (i j : Nat) : Rat := (if i = j then 1 else 0) - kg.getD i 0 * h.getD j 0
  let ix : List (Nat × Nat) := [(0, 0), (0, 1), (0, 2), (0, 3), (1, 1), (1, 2), (1, 3), (2, 2), (2, 3), (3, 3)]
  Vector.ofFn fun m =>
    let e := ix.getD m.val (0, 0)
    (List.range 4).foldl (fun x u => (List.range 4).foldl (fun y v =>
      y + a e.1 u * c.pAt u v * a e.2 v) x) 0 + kg.getD e.1 0 * r * kg.getD e.2 0

/-- dot product of lists of four. -/
def dot4 (u v : List Rat) : Rat := (List.range 4).foldl (fun a i => a + u.getD i 0 * v.getD i 0) 0

/-- The prediction of R428 for charge q over dt, with the process noise of R435 and extra SOC variance. -/
def State.predictCell (s : State) (k : Nat) (c : Cell) (q dt extraVar : Rat) : Cell × Bool :=
  let f := s.cellProfile k
  let qc := 3600 * c.qCap
  let div (x : Rat) : Rat := if qc = 0 then 0 else x / qc
  let eta := if 0 ≤ q then 1 else f.etaChg
  let i := if dt = 0 then 0 else q / dt
  let soc := c.soc - eta * div q
  let e := s.lookup k c.tCell soc i
  let fa := if e.1.tauA = 0 then 0 else Config.expNeg (dt / e.1.tauA)
  let fb := if e.1.tauB = 0 then 0 else Config.expNeg (dt / e.1.tauB)
  let fh := Config.expNeg (f.gamma * absQ (div q))
  let p := predictP c [1, fa, fb, fh]
    [f.sQ * f.sQ * dt + extraVar, f.sA * f.sA * dt, f.sB * f.sB * dt, f.sH * f.sH * dt]
  ({ c with
      soc := soc
      va := c.va * fa + e.1.ra * (1 - fa) * i
      vb := c.vb * fb + e.1.rb * (1 - fb) * i
      h := c.h * fh - sgnQ q * (1 - fh)
      p := p, iCell := i
      socConv := c.socConv - eta * div q }, e.2)

/-- v_model of R428. -/
def State.modelV (s : State) (k : Nat) (c : Cell) : Rat :=
  let f := s.cellProfile k
  let e := (s.lookup k c.tCell c.soc c.iCell).1
  f.ocvAt c.soc c.tCell + f.hmAt c.tCell * c.h - c.va - c.vb - e.rs * c.iCell

/-- The outcome of a correction. -/
inductive Corr
  | predictOnly | outlier | corrected
  deriving DecidableEq, Repr

/-- The correction of R435. -/
def State.correctCell (s : State) (k : Nat) (c : Cell) (v : Rat) (m : Nat) : Cell × Corr :=
  if m = 0 then (c, .predictOnly)
  else
    let f := s.cellProfile k
    let h := [f.slopeAt c.soc c.tCell, -1, -1, f.hmAt c.tCell]
    let nu := v - s.modelV k c
    let r := f.sigmaV * f.sigmaV / (m : Rat)
    let ph := pTimes c h
    let sv := dot4 h ph + r
    let g : Rat := (s.fld F.EST_CFG2_GATE : Rat)
    if g * g * sv < nu * nu then ({ c with nu := nu }, .outlier)
    else
      let kg := ph.map fun x => if sv = 0 then 0 else x / sv
      ({ c with
          soc := c.soc + kg.getD 0 0 * nu, va := c.va + kg.getD 1 0 * nu
          vb := c.vb + kg.getD 2 0 * nu, h := c.h + kg.getD 3 0 * nu
          p := correctP c kg h r, nu := nu, vMean := v }, .corrected)

/-- The limits of R435 and the reported values of R446. -/
def State.reportCell (s : State) (c : Cell) (dt : Rat) : Cell :=
  let soc := clampQ (-1 / 10) (11 / 10) c.soc
  let rate : Rat := (s.fld F.EST_CFG_CONV_RATE : Rat) / 600000 * dt
  let sg := Config.sqrtQ (c.pAt 0 0)
  { c with
    soc := soc, h := clampQ (-1) 1 c.h, sigma := sg
    socConv := clampQ 0 1 (c.socConv + clampQ (-rate) rate (soc - c.socConv))
    socFloor := clampQ 0 1 (soc - s.estZ * sg)
    seedWeak := c.seedWeak && decide (1 / 400 ≤ c.pAt 0 0) }

/-! ### Seeding (R441, R442) -/

/-- The seed of a cell at a SOC with a SOC variance. -/
def State.seedAt (s : State) (c : Cell) (soc var : Rat) (t : Int) : Cell :=
  let c := { c with
    estate := 4, trackT := t, persistAt := s.now, soc := soc, va := 0, vb := 0, h := 0, socConv := soc, outRun := 0, coastRun := 0
    p := Vector.ofFn fun m => if m.val = 0 then var else if m.val = 4 ∨ m.val = 7 then 1 / 40000
      else if m.val = 9 then 33 / 100 else 0 }
  s.reportCell c 0

/-- A step of a cell in SEEDING (R441). -/
def State.seedStep (s : State) (k : Nat) (c : Cell) (v i dt : Rat) (m : Nat) (t : Int) : State :=
  let lim := amps (s.fld F.EST_REST_I_REST)
  let len : Rat := (s.fld F.EST_REST_SEED_T : Rat) / 10
  if m = 0 ∨ lim < absQ i then s.putCell k { c with seedHist := [], iCell := i }
  else
    let hist := (dt, v) :: c.seedHist.takeWhile fun e => decide (absQ (e.2 - v) ≤ 2 / 1000)
    let c := { c with seedHist := hist, iCell := i }
    if hist.foldl (fun a e => a + e.1) 0 < len then s.putCell k c
    else
      let f := s.cellProfile k
      let soc := f.ocvInv v c.tCell
      let so := f.slopeAt soc c.tCell
      let hm := f.hmAt c.tCell
      let var := if so = 0 then 9 / 100 else minQ (hm / so * (hm / so) + 2 / 1000 / so * (2 / 1000 / so)) (9 / 100)
      (s.putCell k { s.seedAt c soc var t with vMean := v }).flag F.EST_FLAGS_SEEDED (k / 512)

/-- The median of a list; of an even number, the mean of the middle two. -/
def medianO (xs : List Rat) : Option Rat :=
  let ys := xs.mergeSort fun a b => decide (a ≤ b)
  let n := ys.length
  if n = 0 then none
  else if n % 2 = 1 then some (ys.getD (n / 2) 0)
  else some ((ys.getD (n / 2 - 1) 0 + ys.getD (n / 2) 0) / 2)

/-- SEED_WAIT_TIMEOUT: the cells of string n that have been in SEEDING for SEED_WAIT are seeded weakly (R442). -/
def execSeedWaitTimeout (ch : Fin 32) (s : State) : Host.Outcome State Fault Refusal :=
  let n := ch.val
  let wait := 1000000000 * s.fld F.EST_CFG2_SEED_WAIT
  let soc := (medianO (((s.stringCells n).filter fun k => (s.cell k).estate == 4).map fun k =>
    (s.cell k).soc)).getD (1 / 2)
  let due := (s.stringCells n).filter fun k => (s.cell k).estate == 3 && s.elapsed (s.cell k).seedAt wait
  .next (due.foldl (fun t k =>
    let c := { t.seedAt (t.cell k) soc (9 / 100) t.tb0 with seedWeak := true }
    ((t.putCell k c).flag F.EST_FLAGS_SEEDED n).flag F.EST_FLAGS_SEED_WEAK n) s)

/-! ### Relaxation holds (R479) -/

/-- The step's part in a cell's hold: `i` is the string's mean current over the step, `past` its mean over the
preceding 10 s.  A hold is abandoned at the first step at which the current is out of tolerance or the node is
LOST. -/
def State.holdStep (s : State) (k p j : Nat) (x : StepIn) (i : Rat) (past : Option Rat) (before : Cell) : State :=
  let c := s.cell k
  let q0 := (s.cellProfile k).qNom
  let tol := maxQ (absQ c.rlxI / 20) 2
  let lost := s.nstate (k / 512) p == ndLost
  let s := if c.rlxActive ∧ (lost ∨ tol < absQ (i - c.rlxI)) then s.rlxReject k else s
  let c := s.cell k
  let c : Cell := if c.rlxActive then c else
    match past with
    | none => c
    | some a =>
      let di := i - a
      if s.bit F.LRN_ID2_RLX_EN ∧ ¬ s.bit F.LRN_STATE_RLX_SHED ∧ ¬ lost ∧ 2 ≤ c.estate ∧ c.estate ≠ 3 ∧
          (s.fld F.LRN_ID2_I_STEP : Rat) / 100 * q0 ≤ absQ di then
        { c with
          rlxActive := true, rlxDi := di, rlxI := i, rlxStart := x.t - (x.dt * 1000000000).floor
          rlxT0 := (x.t / 10000000).toNat % 2 ^ 32, rlxSoc := c.soc, rlxTemp := c.tCell
          rlxVa := before.va, rlxVb := before.vb, rlxSum := List.replicate 12 (0, 0) }
      else c
  if c.rlxActive then
    let e := (s.lookup k c.tCell c.soc i).1
    let f := s.cellProfile k
    let sums := x.recs.foldl (fun (acc : List (Rat × Nat)) r =>
      match r.cellValue p j with
      | none => acc
      | some v =>
        let t : Rat := ((r.tns - c.rlxStart : Int) : Rat) / 1000000000
        let dec (v0 tau : Rat) : Rat := if tau = 0 then 0 else v0 * Config.expNeg (t / tau)
        let y := v - (f.ocvAt c.soc c.tCell + f.hmAt c.tCell * c.h - dec c.rlxVa e.tauA - dec c.rlxVb e.tauB -
          e.rs * i)
        acc.mapIdx fun m z => if -1 / 20 ≤ t - s.rlxTime m ∧ t - s.rlxTime m < 1 / 20 then (z.1 + y, z.2 + 1) else z) c.rlxSum
    s.setCell k { c with rlxSum := sums }
  else s

/-! ### Rests (R481, R482) -/

/-- Rest and virtual rest at a step with mean voltage v and m samples. -/
def State.restStep (s : State) (k : Nat) (x : StepIn) (v i : Rat) (m : Nat) (was : Rat) : State :=
  let c := s.cell k
  let hist := if m = 0 then c.vHist else (x.t, v) :: c.vHist.filter fun e => decide (x.t - 600000000000 < e.1)
  let lo := hist.foldl (fun a e => minQ a e.2) v
  let hi := hist.foldl (fun a e => maxQ a e.2) v
  let calm := m != 0 && decide (absQ i ≤ amps (s.fld F.EST_REST_I_REST)) && !c.tempStale &&
    decide (hi - lo ≤ 1 / 1000)
  let run := if calm then was + x.dt else 0
  let restT : Rat := 60 * (s.fld F.LRN_CFG_REST_T : Rat)
  let s := s.setCell k { c with vHist := hist, restRun := run, restMin := (run / 60).floor.toNat }
  if c.estate < 2 ∨ c.estate = 3 then s
  else if calm ∧ (was / restT).floor < (run / restT).floor then s.restPoint k v
  else if m = 0 then s
  else s.virtualRest k v i x.t

/-! ### A filter step (R430 to R440) -/

/-- The growth of var_cap over a charge in Ah and a time in s (R484). -/
def State.capGrowth (s : State) (k : Nat) (ah dt : Rat) : Rat :=
  let q0 := (s.cellProfile k).qNom
  let cyc := if q0 = 0 then 0 else absQ ah / (2 * q0)
  q0 * q0 / 1000000 * cyc + q0 * q0 / 250000 * (dt / 2592000)

/-- Throughput, balancing charge, count variance and the growth of var_cap over a step (R483, R484, R487). -/
def State.throughput (s : State) (k : Nat) (c : Cell) (x : StepIn) (q bal : Rat) : Cell :=
  let ah := q / 3600
  let lost := x.tu * amps (s.fld F.PROT_EFF_ILIM_EFF (k / 512)) / 3600
  { c with
    thruDis := c.thruDis + maxQ 0 ah, thruChg := c.thruChg + maxQ 0 (-ah)
    ancQBal := c.ancQBal + bal / 3600, ancVarQ := c.ancVarQ + lost * lost
    varCap := c.varCap + s.capGrowth k ah x.dt }

/-- The next state of an estimate after a step; a reseed at that step goes before STALE (R440, R457). -/
def State.nextEstate (s : State) (n : Nat) (c : Cell) (r : Corr) (t : Int) : State × Cell :=
  match r with
  | .corrected =>
    let s := s.flagIf (c.estate == 2) F.EST_FLAGS_RESTORED n
    (s, { c with estate := 4, trackT := if c.estate = 4 then c.trackT else t, coastRun := 0, outRun := 0,
                 restored := false, outlier := false })
  | _ =>
    let out := r == .outlier
    let s := s.flagIf out F.EST_FLAGS_OUTLIER n
    let run := c.coastRun + 1
    let reseed := out && s.fld F.EST_CFG2_OUT_MAX ≤ c.outRun + 1
    let stale := c.estate == 5 && s.fld F.EST_CFG2_STALE_STEPS ≤ run && !reseed
    let c := { c with coastRun := satNat 0xFFFF run, outlier := out, outRun := if out then c.outRun + 1 else c.outRun }
    if c.estate = 4 then (s, { c with estate := 5 })
    else if stale then (s.flag F.EST_FLAGS_STALE n, { c with estate := 6, staleAt := s.now })
    else (s, c)

/-- One cell's step (R431 to R446). -/
def State.cellStep (s : State) (k : Nat) (x : StepIn) (past : Option Rat) : State :=
  let n := k / 512
  let c := s.cell k
  match s.cellPlace k with
  | none => s
  | some (p, j) =>
    if c.estate < 2 ∨ (s.blkE (k / 128)).paused then s
    else
      let tc := s.cellTemp k c.tCell
      let s := s.flagIf (tc.2 && !c.tempStale) F.EST_FLAGS_TEMP_STALE n
      let sm := x.samples p j
      let bal := s.cellBal k * x.dOn p j * x.dt
      let q := x.q + bal
      let i := if x.dt = 0 then 0 else q / x.dt
      let istr := if x.dt = 0 then 0 else x.q / x.dt
      let gap := decide (0 < x.tu)
      let s := s.flagIf gap F.EST_FLAGS_CHG_GAP n
      let c := { c with
        tCell := tc.1, tempStale := tc.2, chgGap := gap, recovered := sm.2.2.1, notPlant := sm.2.2.2
        stepId := (x.t / 10000000).toNat % 2 ^ 32, wT := c.wT + tc.1, wN := c.wN + 1 }
      let was := c.restRun
      if c.estate = 3 then
        (s.seedStep k (s.throughput k c x q bal) sm.1 i x.dt sm.2.1 x.t).restStep k x sm.1 i sm.2.1 was
      else
        let qc := 3600 * c.qCap
        let u := if qc = 0 then 0 else x.tu * amps (s.fld F.PROT_EFF_ILIM_EFF n) / qc
        let before := c
        let pr := s.predictCell k (s.throughput k c x q bal) q x.dt (u * u)
        let s := s.flagIf pr.2 F.EST_FLAGS_BAND_EXTRAP n
        let cr := s.correctCell k { pr.1 with extrap := pr.2 } sm.1 sm.2.1
        let c := s.reportCell cr.1 x.dt
        let s := s.flagIf ((c.soc < 0 || 1 < c.soc) && (0 ≤ before.soc && before.soc ≤ 1))
          F.EST_FLAGS_SOC_LIMIT n
        let ne := s.nextEstate n c cr.2 x.t
        if s.fld F.EST_CFG2_OUT_MAX ≤ ne.2.outRun then
          let sd := (ne.1.flag F.EST_FLAGS_RESEED n).seeding k ne.2
          sd.1.putCell k sd.2
        else
          ((ne.1.putCell k ne.2).holdStep k p j x istr past before).restStep k x sm.1 i sm.2.1 was

/-! ### Power (R449 to R453) -/

/-- The terms of R449 for a direction: +1 discharge, −1 charge. -/
structure PowIn where
  dir : Rat
  t : Rat
  soc : Rat
  vLim : Rat
  socLim : Rat
  iLim : Rat
  deriving DecidableEq, Repr

/-- Horizons in s. -/
def horizon (h : Nat) : Rat := [2, 10, 60, 900].getD h 900

/-- The cell's terminal voltage at the end of a horizon with current i in the direction (R449). -/
def State.vEnd (s : State) (k : Nat) (c : Cell) (e : ImpEntry) (x : PowIn) (i : Rat) : Rat :=
  let f := s.cellProfile k
  let ea := if e.tauA = 0 then 0 else Config.expNeg (x.t / e.tauA)
  let eb := if e.tauB = 0 then 0 else Config.expNeg (x.t / e.tauB)
  let rt := (e.rs + e.ra * (1 - ea) + e.rb * (1 - eb)) * (1 + s.estZ * e.ur)
  let qc := 3600 * c.qCap
  let soc := x.soc - x.dir * (if qc = 0 then 0 else i * x.t / qc)
  f.ocvAt soc c.tCell - x.dir * f.hmAt c.tCell - c.va * ea - c.vb * eb - x.dir * i * rt

/-- The greatest multiple of 0.1 A below hi that keeps the voltage inside its limit, by bisection (R449). -/
def State.solveV (s : State) (k : Nat) (c : Cell) (e : ImpEntry) (x : PowIn) (fuel lo hi : Nat) : Nat :=
  match fuel with
  | 0 => lo
  | m + 1 =>
    if hi ≤ lo + 1 then lo
    else
      let mid := (lo + hi) / 2
      let v := s.vEnd k c e x ((mid : Rat) / 10)
      if (if x.dir = 1 then x.vLim ≤ v else v ≤ x.vLim) then s.solveV k c e x m mid hi
      else s.solveV k c e x m lo mid

/-- i_cell with one entry, and the term that set it: 0 voltage, 1 SOC, 2 current limit. -/
def State.cellCurrent (s : State) (k : Nat) (c : Cell) (e : ImpEntry) (x : PowIn) : Rat × Nat :=
  let v0 := s.vEnd k c e x 0
  let ok0 := if x.dir = 1 then decide (x.vLim ≤ v0) else decide (v0 ≤ x.vLim)
  let iv : Rat := if ok0 then (s.solveV k c e x 24 0 1000000 : Rat) / 10 else 0
  let is := (x.soc - x.socLim) * x.dir * 3600 * c.qCap / x.t
  let m := maxQ 0 (minQ iv (minQ is x.iLim))
  (m, if iv ≤ is ∧ iv ≤ x.iLim then 0 else if is ≤ x.iLim then 1 else 2)

/-- R450: from the band of the present current, again with a higher band's entry, at most three times, keeping
the lowest current; the entry kept and whether one was used above its learned band. -/
def State.bandCurrent (s : State) (k : Nat) (c : Cell) (x : PowIn) (fuel b : Nat) : (Rat × Nat) × ImpEntry × Bool :=
  let e := s.lookupBand k c.tCell c.soc b
  let r := s.cellCurrent k c e.1 x
  match fuel with
  | 0 => (r, e)
  | m + 1 =>
    let b' := s.iBand (s.cellProfile k).qNom r.1
    if b < b' then
      let q := s.bandCurrent k c x m b'
      if q.1.1 ≤ r.1 then (q.1, q.2.1, q.2.2 || e.2) else (r, e.1, q.2.2 || e.2)
    else (r, e)

/-- The inputs of R449 for horizon h and a direction. -/
def State.powIn (s : State) (k : Nat) (c : Cell) (h : Nat) (dir : Rat) : PowIn :=
  let f := s.cellProfile k
  let t := horizon h
  let row := if dir = 1 then (if h < 2 then f.pulseD else f.contD) else (if h < 2 then f.pulseC else f.contC)
  { dir := dir, t := t, soc := c.soc - dir * s.estZ * c.sigma
    vLim := (if dir = 1 then (s.fld F.EST_VLIM_V_MIN : Rat) else (s.fld F.EST_VLIM_V_MAX : Rat)) / 1000
    socLim := (if dir = 1 then (s.fld F.EST_SOCLIM_SOC_MIN : Rat) else (s.fld F.EST_SOCLIM_SOC_MAX : Rat)) / 1000
    iLim := f.atT row c.tCell }

end Sys2Proof.Machine

namespace Sys2Proof

open Machine

/-- The integral of ocv from soc a down or up to b by the trapezoid rule on steps of at most 0.5 %, in V. -/
def Profile.integral (f : Profile) (a b t : Rat) : Rat :=
  let m := (absQ (b - a) * 200).ceil.toNat
  let w := (b - a) / (m : Rat)
  if m = 0 then 0
  else (List.range m).foldl (fun x i =>
    x + (f.ocvAt (a + w * (i : Rat)) t + f.ocvAt (a + w * ((i : Rat) + 1)) t) / 2 * absQ w) 0

end Sys2Proof

namespace Sys2Proof.Machine

/-- A cell's energy in Wh over a charge dq in C from the bound of a direction, at current i_ref (R453). -/
def State.cellEnergy (s : State) (k : Nat) (c : Cell) (x : PowIn) (dq iref : Rat) : Rat :=
  let f := s.cellProfile k
  let e := (s.lookup k c.tCell c.soc iref).1
  let qc := 3600 * c.qCap
  let d := if qc = 0 then 0 else dq / qc
  (f.integral x.soc (x.soc - x.dir * d) c.tCell - x.dir * iref * (e.rs + e.ra + e.rb) * d) * qc / 3600

/-- The charge a cell can still give (take) in C (R453). -/
def Cell.room (c : Cell) (x : PowIn) : Rat := maxQ 0 ((x.soc - x.socLim) * x.dir * 3600 * c.qCap)

/-- i_ref of a string (R453). -/
def State.iRefOf (s : State) (n : Nat) : Rat :=
  let caps := (s.stringCells n).map fun k => (s.cell k).qCap
  (s.fld F.EST_REST_C_REF : Rat) / 100 * caps.foldl minQ (caps.headD 0)

/-- SOP_EVAL: power and energy of one cell at a 100 ms boundary (R449, R450, R453). -/
def State.powerCell (s : State) (k : Nat) (iref : Rat) : State :=
  let c := s.cell k
  if c.estate < 2 ∨ c.estate = 3 ∨ (s.blkE (k / 128)).paused then s
  else
    let b := s.iBand (s.cellProfile k).qNom c.iCell
    let run (h : Nat) (dir : Rat) : (Rat × Nat) × ImpEntry × Bool := s.bandCurrent k c (s.powIn k c h dir) 3 b
    let pw (h : Nat) (dir : Rat) : Rat :=
      let r := run h dir
      r.1.1 * s.vEnd k c r.2.1 (s.powIn k c h dir) r.1.1
    let ext := (s.lookup k c.tCell c.soc iref).2 || (List.range 4).any fun h => (run h 1).2.2 || (run h (-1)).2.2
    let xd := s.powIn k c 3 1
    let xc := s.powIn k c 3 (-1)
    let s' := s.flagIf ext F.EST_FLAGS_BAND_EXTRAP (k / 512)
    s'.putCell k { c with
      sopD := Vector.ofFn fun h => pw h.val 1
      sopC := Vector.ofFn fun h => pw h.val (-1)
      iD := Vector.ofFn fun h => (run h.val 1).1.1
      iC := Vector.ofFn fun h => (run h.val (-1)).1.1
      byD := (run 1 1).1.2
      extrap := c.extrap || ext
      eDis := s.cellEnergy k c xd (c.room xd) iref
      eChg := s.cellEnergy k c xc (c.room xc) iref }

/-! ### EST_STEP (R430, R436, R437) -/

/-- The records of the next step, when all are final: up to and with the first that lies on a boundary. -/
def stepRecs (len : Int → Int) (rs : List Rec) : Option (List Rec × List Rec) :=
  match rs with
  | [] => none
  | r :: rest =>
    if ¬ r.final then none
    else if ¬ r.skipped ∧ r.tns % len r.tns = 0 then some ([r], rest)
    else (stepRecs len rest).map fun e => (r :: e.1, e.2)

/-- DIV_NOW takes a staged divisor at a boundary that is a multiple of 100 ms (R437). -/
def State.takeDiv (s : State) (t : Int) : State :=
  match s.est.divNext with
  | none => s
  | some d =>
    if t % 100000000 ≠ 0 then s
    else
      let s := s.flagIf (s.fld F.EST_STATE_DIV_NOW < d) F.EST_GFLAGS_RATE_CUT
      ({ s with est := { s.est with
        divNext := none, divOld := s.fld F.EST_STATE_DIV_NOW, divAt := some t } }).setFld F.EST_STATE_DIV_NOW d

/-- Step 3's bound has passed since the boundary of record r (R436). -/
def State.stepLate (s : State) (r : Rec) : Bool :=
  s.elapsed r.at_ (s.fld F.HR_CFG_FINAL_WIN * s.samplePeriod + 5000000)

/-- The step of string n that ends at t is late: LATE_STEP sets once, and the Almanac learns of it (R436). -/
def State.markLate (s : State) (n : Nat) (t : Int) : State :=
  if (s.strE n).lateT = some t then s
  else
    let s := s.setStrE n { s.strE n with lateT := some t }
    ({ s with alm := { s.alm with lateStep := true } }).flag F.EST_GFLAGS_LATE_STEP

/-- EST_STEP: the next filter step of string n, once the records of all its instants are final (R436). -/
def execEstStep (ch : Fin 32) (s : State) : Host.Outcome State Fault Refusal :=
  let n := ch.val
  .next (if ¬ s.present n then s
  else
    match stepRecs s.stepLen (s.chain n).recs with
    | none => s
    | some (rs, rest) =>
      let e := rs.getLastD ⟨0, 0, 0, 0, false, false, [], 0, 0, 0, 0, true, (0, 0)⟩
      let used := rs.filter fun r => !r.skipped
      let x : StepIn :=
        { recs := used, t := e.tns
          dt := ((used.map fun r => r.len).foldl (· + ·) 0 : Rat) / 1000000000
          q := (used.map fun r => r.q).foldl (· + ·) 0
          tu := ((used.map fun r => r.lostTu).foldl (· + ·) 0 : Rat) * 50 / 1000000000 }
      let s := s.setChain n { s.chain n with recs := rest }
      let y := s.strE n
      let old := y.iHist.filter fun h => decide (x.t - 10000000000 ≤ h.1)
      let past := if old.isEmpty then none
        else some (old.foldl (fun a h => a + h.2) 0 / (old.length : Rat))
      let q := e.counts
      let s := s.setStrE n { y with
        stepT := some x.t
        latches := (x.t, q) :: y.latches.filter fun l => decide (x.t - 60000000000 ≤ l.1)
        iHist := (x.t, if x.dt = 0 then 0 else x.q / x.dt) :: old
        win := y.win ++ used }
      let s := (s.stringCells n).foldl (fun t k => t.cellStep k x past) s
      let s := if x.t % 100000000 = 0 then
          let i := s.iRefOf n
          (s.stringCells n).foldl (fun t k => t.powerCell k i) s
        else s
      let s := (List.range 4).foldl (fun t b =>
        let z := t.blkE (4 * n + b)
        if z.paused then t else t.setBlkE (4 * n + b) { z with stepT := some x.t, own := some q }) s
      let lag := (roundFree 108 (((s.now - e.at_ : Nat) : Rat) / 100000)).toNat
      let s := s.setFld F.EST_STATE_LAG_MAX (satNat 0xFFFF (max lag (s.fld F.EST_STATE_LAG_MAX)))
      let s := if s.stepLate e then s.markLate n x.t else s
      s.takeDiv x.t)

/-- LATE_STEP: a step of string n is not complete FINAL_WIN × T_s + 5 ms after its boundary (R436). -/
def execLateStep (ch : Fin 32) (s : State) : Host.Outcome State Fault Refusal :=
  let n := ch.val
  .next (match (s.chain n).recs.find? fun r => !r.skipped && decide (r.tns % s.stepLen r.tns = 0) with
  | none => s
  | some r => if s.present n ∧ s.stepLate r then s.markLate n r.tns else s)

/-! ### Pauses (R438, R440) -/

/-- The cells of a cell block. -/
def State.blockCells (s : State) (b : Nat) : List Nat :=
  ((List.range 128).map fun i => 128 * b + i).filter fun k => (s.cellPlace k).isSome

/-- The cell blocks that an engine serves (R427). -/
def State.engineBlocks (s : State) (e : Nat) : List Nat :=
  (List.range 128).filter fun b => s.fld F.EST_BLKMAP_ENGINE b == e

/-- An engine pauses: its cells go STALE, holds and windows break (R440, R477, R479). -/
def State.enginePause (s : State) (e : Nat) : State :=
  (s.engineBlocks e).foldl (fun t b =>
    let t := t.setBlkE b { t.blkE b with paused := true }
    (t.blockCells b).foldl (fun u k =>
      let c := u.cell k
      let u : State := if c.rlxActive then u.rlxReject k else u
      let c : Cell := { u.cell k with wPaused := true }
      if c.estate = 2 ∨ c.estate = 4 ∨ c.estate = 5 then
        (u.putCell k { c with estate := 6, staleAt := u.now }).flag F.EST_FLAGS_STALE (k / 512)
      else u.setCell k c) t) s

/-- One prediction-only step of a cell over a pause, from counts q0 to q1 over dt (R438). -/
def State.bridgeCell (s : State) (k : Nat) (c : Cell) (q0 q1 : Nat × Nat) (t1 : Int) (dt : Rat) : Cell :=
  let f := s.cellProfile k
  let dis := coulombs q1.1 - coulombs q0.1
  let chg := coulombs q1.2 - coulombs q0.2
  let qc := 3600 * c.qCap
  let bal := if qc = 0 then 0 else s.cellBal k * dt / qc
  -- the charge part counts with its efficiency, the model's other terms with the net charge
  let net := dis - chg
  let r := (s.predictCell k c net dt (bal * bal)).1
  let fix := if qc = 0 then 0 else (dis - f.etaChg * chg) / qc
  let c' := { r with soc := c.soc - fix, socConv := c.socConv - fix
                     thruDis := c.thruDis + dis / 3600, thruChg := c.thruChg + chg / 3600
                     varCap := c.varCap + s.capGrowth k ((dis + chg) / 3600) dt
                     stepId := (t1 / 10000000).toNat % 2 ^ 32, coastRun := satNat 0xFFFF (c.coastRun + 1)
                     restRun := 0, restMin := 0 }
  s.reportCell c' dt

/-- A cell block resumes after a pause: one prediction over it, and a long pause drops anchors (R438, R485).  The start counts are
the engine's own copy, else the latch of that boundary while it is held, else the cells are restored. -/
def State.blockResume (s : State) (b : Nat) : State :=
  let z := s.blkE b
  if ¬ z.paused then s
  else
    let n := b / 4
    let now := s.strE n
    let t1 := now.stepT.getD 0
    let q1 := (((now.latches.find? fun l => l.1 == t1).map fun l => l.2)).getD (s.qDis n, s.qChg n)
    let s := s.setBlkE b { stepT := some t1, own := some q1, paused := false }
    let own := match z.own with
      | some q => some q
      | none => (now.latches.find? fun l => z.stepT == some l.1).map fun l => l.2
    match z.stepT, own with
    | some t0, some q0 =>
      if t1 ≤ t0 then s
      else
        let dt : Rat := ((t1 - t0 : Int) : Rat) / 1000000000
        (s.blockCells b).foldl (fun t k =>
          let c := t.cell k
          if c.estate < 2 then t
          else if c.estate = 3 then t.setCell k { c with seedHist := [], restRun := 0, restMin := 0 }
          else
            let r := if 60 < dt then t.dropAnchor k c else (t, c)
            r.1.putCell k (r.1.bridgeCell k r.2 q0 q1 t1 dt)) s
    | _, _ => (s.blockCells b).foldl (fun t k => if 2 ≤ (t.cell k).estate then t.restoreCell k else t) s

/-- ENGINE_RESUME_PREDICT: an engine resumes after a pause (R438). -/
def execEngineResumePredict (engine : Fin 128) (s : State) : Host.Outcome State Fault Refusal :=
  .next (if s.fenced (unitKey 3 (engine / 16) 0 false) ∨ s.tg.halted.contains engine.val then s
  else (s.engineBlocks engine).foldl State.blockResume s)

/-! ### Restoring, persisting, swapping (R443 to R445) -/

/-- CONTEXT_RESTORE: a mapped cell whose node is admitted and that has no context is sought in the Ledger. -/
def execContextRestore (cell : Fin 16384) (s : State) : Host.Outcome State Fault Refusal :=
  let k := cell.val
  .next (match s.cellPlace k with
  | some (p, _) => if s.nstate (k / 512) p = ndAdmitted ∧ (s.cell k).estate = 1 then s.restoreCell k else s
  | none => s)

/-- CONTEXT_PERSIST: the contexts of a cell block on its turn (R444), or none while the bulk share is full. -/
def execContextPersist (block : Fin 128) (s : State) : Host.Outcome State Fault Refusal :=
  let per := 2500000000 * min (4 * 8640) (s.fld F.EST_PERSIST_PERSIST_T * s.stretch)
  let ks := (s.blockCells block).filter fun k => 2 ≤ (s.cell k).estate && (s.cell k).estate != 3
  let late (t : State) (k : Nat) : State := t.flagIf (t.elapsed (t.cell k).persistAt (2 * per)) F.EST_GFLAGS_PERSIST_LATE
  .next (if s.bulkFull then ks.foldl late s else ks.foldl (fun t k =>
    let r := t.ctxRecord k
    let words := (List.range 18).map (fun i => t.word (ctxAddr k + 4 * i)) ++ [t.word (ctxAddr k + 88)]
    let t := late t k
    let t := t.ledgerBulk 0x40 k (words ++ [r.stamp.toNat, r.qDis, r.qChg])
    let t := t.setCell k { t.cell k with persistAt := t.now }
    { t with ldgState := { t.ldgState with ctx := newest t.ldgState.ctx k r } }) s)

/-- The contexts kept for a position (R445). -/
def State.keptAt (s : State) (n p : Nat) : Option KeptNode :=
  (s.keptNodes.find? fun e => e.1 == 16 * n + p).map fun e => e.2

def State.dropKept (s : State) (n p : Nat) : State :=
  { s with keptNodes := s.keptNodes.filter fun e => e.1 != 16 * n + p }

/-- The word of an EST_SWAP_CMD write. -/
def swapWord (ch pos action key : Nat) : Nat := ch + 2 ^ 8 * pos + 2 ^ 12 * action + 2 ^ 16 * key

/-- An EST_SWAP_CMD write (R445, R465): refused without its KEY, or without kept contexts. -/
def State.swapCmd (s : State) (k n p action key : Nat) (act : State → State) : State :=
  s.sessionCommand k .EST_SWAP_CMD 0 0 (swapWord n p action key) (key == 0x5C0A && (s.keptAt n p).isSome) act

/-- SWAP_KEEP: the cells return to their kept contexts, advanced by one step, and continue in STALE. -/
def execSwapKeep (sess : Fin 256) (ch : Fin 32) (pos : Fin 16) (key : BitVec 16) (s : State) :
    Host.Outcome State Fault Refusal :=
  .next (s.swapCmd sess ch pos 1 key.toNat fun t =>
    match t.keptAt ch pos with
    | none => t
    | some kp =>
      let dt : Rat := ((t.now - kp.at_ : Nat) : Rat) / 1000000000
      let t := kp.tables.foldl (fun u e =>
        u.setWords (tableAddr e.1 0) (e.2.flatMap fun w => [w.1, w.2])) t
      let t := kp.cells.foldl (fun u e =>
        let c := u.bridgeCell e.1 { e.2 with seq := (u.cell e.1).seq } kp.counts (u.qDis ch, u.qChg ch) (((u.strE ch).stepT).getD u.tb0) dt
        (u.putCell e.1 { c with estate := 6, staleAt := u.now, persistAt := u.now }).flag F.EST_FLAGS_STALE ch) t
      t.dropKept ch pos)

/-- SWAP_FRESH: the kept contexts are discarded at once; the anchors of the position's cells go, and their learning starts
fresh, while their filters go on (R445, R473, R485). -/
def execSwapFresh (sess : Fin 256) (ch : Fin 32) (pos : Fin 16) (key : BitVec 16) (s : State) :
    Host.Outcome State Fault Refusal :=
  .next (s.swapCmd sess ch pos 2 key.toNat fun t =>
    ((t.nodeCells ch pos).foldl (fun u k =>
      let a := u.dropAnchor k (u.cell k)
      let b := a.1.freshLearn k a.2
      b.1.putCell k b.2) t).dropKept ch pos)

/-- SWAP_KEEP_EXPIRY: 10 min after a swap the kept contexts are discarded (R445). -/
def execSwapKeepExpiry (ch : Fin 32) (pos : Fin 16) (s : State) : Host.Outcome State Fault Refusal :=
  .next (match s.keptAt ch pos with
  | some kp => if s.elapsed kp.at_ 600000000000 then s.dropKept ch pos else s
  | none => s)

/-- EST_SOCLIM_WRITE: EST_SOCLIM or EST_VLIM; inverted limits are refused (R462). -/
def execEstSoclimWrite (sess : Fin 256) (vlim : Bool) (value : Word) (s : State) :
    Host.Outcome State Fault Refusal :=
  .next (if vlim then
    s.sessionWrite sess .EST_VLIM 0 0 value.toNat (fun w => decide (bitsGet w 0 16 < bitsGet w 16 16)) id
  else
    s.sessionWrite sess .EST_SOCLIM 0 0 value.toNat (fun w => bitsGet w 0 10 + 50 ≤ bitsGet w 16 10) id)

/-! ### Aggregates (R451 to R456) -/

/-- A string's values, exact. -/
structure StrAgg where
  valid : Bool
  qd : Rat
  qc : Rat
  cd : Nat
  cc : Nat
  deriving DecidableEq, Repr

/-- SOC_r of a cell (R447). -/
def State.socR (s : State) (c : Cell) : Rat := if s.bit F.EST_CFG_SOC_MODE then c.socFloor else c.socConv

/-- The least of f over cells, with the first cell that sets it. -/
def minOver (ks : List Nat) (f : Nat → Rat) : Rat × Nat :=
  match ks with
  | [] => (0, 0)
  | k :: rest => rest.foldl (fun a j => if f j < a.1 then (f j, j) else a) (f k, k)

/-- VALID of R454; a string without mapped cells is not VALID. -/
def State.strValid (s : State) (n : Nat) : Bool :=
  let ks := s.stringCells n
  let hold := 1000000 * s.fld F.EST_PERSIST_SOP_HOLD
  !ks.isEmpty && ks.all fun k =>
    let c := s.cell k
    c.estate != 1 && c.estate != 3 && !(c.estate == 6 && c.staleAt + hold < s.now)

/-- i_brk of R451. -/
def State.iBreaker (s : State) (n : Nat) (t : Rat) : Rat :=
  let i := amps (s.fld F.PROT_SLOWACC_ITRIP_SLOW_EFF n)
  Config.sqrtQ (i * i + 9 / 10 * maxQ 0 (s.kEff n - (s.prot n).slowA) / t)

/-- The string current of a horizon and direction, and the term that set it (R451): codes of SOP_BY. -/
def State.strCurrent (s : State) (n h : Nat) (dir : Rat) : Rat × Nat × Nat :=
  let ks := s.stringCells n
  let cur (k : Nat) : Rat := if dir = 1 then (s.cell k).iD.toList.getD h 0 else (s.cell k).iC.toList.getD h 0
  let m := minOver ks cur
  let b := s.iBreaker n (horizon h)
  let l := 95 / 100 * amps (s.fld F.PROT_EFF_ILIM_EFF n)
  (minQ m.1 (minQ b l),
   if m.1 ≤ b ∧ m.1 ≤ l then (s.cell m.2).byD else if b ≤ l then 3 else 4, m.2)

/-- The string power in W: i_str times the sum of its cells' end voltages (R451). -/
def State.strPower (s : State) (n h : Nat) (dir i : Rat) : Rat :=
  i * (s.stringCells n).foldl (fun a k =>
    let c := s.cell k
    a + s.vEnd k c (s.lookup k c.tCell c.soc i).1 (s.powIn k c h dir) i) 0

/-- The string energy in Wh of a direction: the common charge of its cells (R453). -/
def State.strEnergy (s : State) (n : Nat) (dir : Rat) : Rat :=
  let ks := s.stringCells n
  let dq := (minOver ks fun k => (s.cell k).room (s.powIn k (s.cell k) 3 dir)).1
  let i := s.iRefOf n
  ks.foldl (fun a k => a + s.cellEnergy k (s.cell k) (s.powIn k (s.cell k) 3 dir) dq i) 0

/-- A value in a step of its register, to the nearest, saturating at 16 bits. -/
def u16 (tag : Nat) (x : Rat) : Nat := satNat 0xFFFF (roundNear tag x).toNat

/-- LRN_STR registers of a string (R503). -/
def State.showLearn (s : State) (n : Nat) : State :=
  let ks := s.stringCells n
  let q0 := (s.cellProfile (512 * n)).qNom
  let efc := if q0 = 0 then 0 else (coulombs (s.qDis n) + coulombs (s.qChg n)) / (7200 * q0)
  let s := s.setReg .LRN_STR_EFC n 0 (roundFree 105 (efc * 100)).toNat
  let s := s.setFld F.LRN_STR_CAP_CAP_MIN (u16 106 ((minOver ks fun k => (s.cell k).qCap).1 * 10)) n
  let s := s.setFld F.LRN_STR_CAP_STALE ((ks.filter fun k => (s.cell k).sohStale).length) n
  let age (k : Nat) : Nat := (s.tbSec 0 + 2 ^ 32 - (s.cell k).tCap) % 2 ^ 32 / 86400
  let s := s.setFld F.LRN_STR_AGE_DAYS_CAP (satNat 0xFFFF (ks.foldl (fun a k => max a (age k)) 0)) n
  let learned := ks.foldl (fun a k =>
    a + ((List.range 256).filter fun e => (s.entry k e).state == 1).length) 0
  s.setFld F.LRN_STR_AGE_LEARNED
    (if ks.isEmpty then 0 else u16 107 ((learned : Rat) * 10000 / ((256 * ks.length : Nat) : Rat))) n

/-- The registers of string n for the aggregate instant a (R451 to R456, R467). -/
def State.aggString (s : State) (n : Nat) (a : Int) : State :=
  let ks := s.stringCells n
  let valid := s.strValid n
  let cnt (f : Nat → Bool) : Nat := (ks.filter fun k => f (s.cell k).estate).length
  let qd := minOver ks fun k => s.socR (s.cell k) * (s.cell k).qCap
  let qc := minOver ks fun k => (1 - s.socR (s.cell k)) * (s.cell k).qCap
  let tot := qd.1 + qc.1
  let zero := !valid || s.cstate n == csLocked
  let noChg := zero || s.bit F.PROT_CFG_DISCHARGE_ONLY n
  let s0 := s
  let s := s.setFld F.EST_STR_SOC_SOC (if tot = 0 then 0 else u16 120 (qd.1 / tot * 10000)) n
  let s := s.setFld F.EST_STR_SOC_SIGMA (u16 121 ((s0.cell qd.2).sigma * 10000)) n
  let s := s.setFld F.EST_STR_SOH_SOH_Q (u16 122 ((minOver ks fun k => (s0.cell k).sohQ).1 * 10000)) n
  let s := s.setFld F.EST_STR_SOH_SOH_R (u16 123 ((minOver ks fun k => (s0.cell k).sohR).1 * 10000)) n
  let s := (List.range 4).foldl (fun t h =>
    let d := (s0.strCurrent n h 1).1
    let c := (s0.strCurrent n h (-1)).1
    let t := t.setFld F.EST_STR_SOPD_P (if zero then 0 else u16 124 (s0.strPower n h 1 d / 100)) n h
    let t := t.setFld F.EST_STR_SOPD_I (if zero then 0 else u16 125 (d * 10)) n h
    let t := t.setFld F.EST_STR_SOPC_P (if noChg then 0 else u16 126 (s0.strPower n h (-1) c / 100)) n h
    t.setFld F.EST_STR_SOPC_I (if noChg then 0 else u16 127 (c * 10)) n h) s
  let s := s.setFld F.EST_STR_E_E_DIS (u16 128 (s0.strEnergy n 1 / 100)) n
  let s := s.setFld F.EST_STR_E_E_CHG (u16 129 (s0.strEnergy n (-1) / 100)) n
  let s := s.setFld F.EST_STR_CNT_TRACK (cnt (· == 4)) n
  let s := s.setFld F.EST_STR_CNT_COAST_STALE (cnt fun e => e == 5 || e == 6) n
  let s := s.setFld F.EST_STR_CNT_NO_EST (cnt fun e => e == 1 || e == 3) n
  let s := s.setBit F.EST_STR_CNT_VALID valid n
  let s := s.setFld F.EST_STR_LIM_C_DIS (qd.2 % 512) n
  let s := s.setFld F.EST_STR_LIM_C_CHG (qc.2 % 512) n
  let by_ := s0.strCurrent n 1 1
  let s := s.setFld F.EST_STR_LIM_C_SOP (by_.2.2 % 512) n
  let s := s.setFld F.EST_STR_LIM_SOP_BY (if zero then 5 else by_.2.1) n
  let s := s.setReg .EST_STR_STAMP n 0 ((a / 100000000) % 2 ^ 32).toNat
  let y := s.strE n
  let s := s.flagIf (y.wasValid && !valid) F.EST_FLAGS_INVALID n
  let s := if valid then s else s.balStop n
  (s.setStrE n { y with wasValid := valid }).showLearn n

/-- The container registers (R455, R469). -/
def State.aggContainer (s : State) (a : Int) : State :=
  let en := s.chans.filter fun n => s.bit F.EST_STR_CNT_VALID n && s.cstate n != csLocked
  let pw := en.filter fun n => s.cstate n == csReady
  let qd (n : Nat) : Rat := (minOver (s.stringCells n) fun k => s.socR (s.cell k) * (s.cell k).qCap).1
  let qc (n : Nat) : Rat := (minOver (s.stringCells n) fun k => (1 - s.socR (s.cell k)) * (s.cell k).qCap).1
  let sd := (en.map qd).foldl (· + ·) 0
  let st := sd + (en.map qc).foldl (· + ·) 0
  let sum (ns : List Nat) (f : Nat → Nat) : Nat := (ns.map f).foldl (· + ·) 0
  let s0 := s
  let s := s.setFld F.EST_CTR_SOC_SOC (if st = 0 then 0 else u16 130 (sd / st * 10000))
  let s := s.setFld F.EST_CTR_SOC_STRINGS en.length
  let s := (List.range 4).foldl (fun t h =>
    (t.setReg .EST_CTR_SOPD h 0 (sum pw fun n => s0.fld F.EST_STR_SOPD_P n h)).setReg .EST_CTR_SOPC h 0
      (sum pw fun n => s0.fld F.EST_STR_SOPC_P n h)) s
  let s := s.setReg .EST_CTR_E 0 0 (sum en fun n => s0.fld F.EST_STR_E_E_DIS n)
  let s := s.setReg .EST_CTR_E 1 0 (sum en fun n => s0.fld F.EST_STR_E_E_CHG n)
  let s := s.setReg .EST_CTR_SET 0 0 (maskOf en)
  let s := s.setReg .EST_CTR_SOPSET 0 0 (maskOf pw)
  s.setReg .EST_CTR_STAMP 0 0 ((a / 100000000) % 2 ^ 32).toNat

/-- AGGREGATE: the values for the last 100 ms instant (R456). -/
def execAggregate (s : State) : Host.Outcome State Fault Refusal :=
  let a := s.tb0 / 100000000 * 100000000
  .next (if s.sup.inReset then s else (s.chans.foldl (fun t n => t.aggString n a) s).aggContainer a)

/-- EST_STR_SOC_READ: the other registers of string n go to shadows (R456). -/
def execEstStrSocRead (who : Fin 384) (ch : Fin 32) (s : State) : Host.Outcome State Fault Refusal :=
  let n := ch.val
  .next (s.loadingRead who .EST_STR_SOC n 0
    ([(.EST_STR_SOH, n, 0), (.EST_STR_E, n, 0), (.EST_STR_CNT, n, 0), (.EST_STR_LIM, n, 0),
      (.EST_STR_STAMP, n, 0)] ++ (List.range 4).flatMap fun h =>
      [(.EST_STR_SOPD, n, h), (.EST_STR_SOPC, n, h)]))

/-- EST_CTR_SOC_READ: the container registers go to shadows (R456). -/
def execEstCtrSocRead (who : Fin 384) (s : State) : Host.Outcome State Fault Refusal :=
  .next (s.loadingRead who .EST_CTR_SOC 0 0
    ([(.EST_CTR_E, 0, 0), (.EST_CTR_E, 1, 0), (.EST_CTR_SET, 0, 0), (.EST_CTR_SOPSET, 0, 0),
      (.EST_CTR_STAMP, 0, 0)] ++ (List.range 4).flatMap fun h =>
      [(.EST_CTR_SOPD, h, 0), (.EST_CTR_SOPC, h, 0)]))

end Sys2Proof.Machine
end

