-- ==== Sys2Proof/Machine/Insertion.lean ====
section
/-! DEFINITION. String insertion (spec chapter 04): requests, the token, the checks, the three paths,
the thermal model and rotation, enhancement and confirmation. -/

namespace Sys2Proof.Machine

/-! ### Requests (R140, R141, R174) -/

/-- An accepted INSERT (R140). -/
def State.acceptInsert (s : State) (n value : Nat) : State :=
  let s := s.injInsert n
  let s := s.setIns n { s.ins n with
    reqTag := bitsGet value 16 16, noLimit := bitOf value 4, noTrim := bitOf value 5,
    busChangedOnce := false, byCmd := true }
  s.enterWait n false

/-- INSERT: accepted in OPEN, else refused with cause BUSY; with an OPEN at the same handshake the OPEN
takes effect and the INSERT is refused (R141). -/
def execInsert (sess : Fin 256) (ch : Fin 32) (value : Word) (withOpen : Bool) (s : State) :
    Host.Outcome State Fault Refusal :=
  let busy := withOpen || s.cstate ch != csOpen
  let res := s.writeResult sess .INS_CMD ch 0 (s.reg .INS_CMD ch 0) true
  if s.present ch ∧ ¬ s.regHeld .INS_CMD ch ∧ res = 0 ∧ busy then
    finish ((s.refuse sess .INS_CMD ch 0 4 value.toNat).setFld F.INS_STATE_CAUSE 0x08 ch)
  else finish (s.sessionCommand sess .INS_CMD ch 0 value.toNat true fun t => t.acceptInsert ch value.toNat)

/-- What an OPEN command does in each state (R141, R144, R172, R218); at the handshake of a trip it has no further effect
(R224). -/
def State.openCommand (s : State) (n : Nat) : State :=
  let c := s.cstate n
  if c = csOpen ∨ c = csOpening ∨ c = csLocked then s
  else if c = csTripped ∧ (s.ins n).stateAt = s.now then s
  else if c = csTripped then (s.clrTrip n).enterRest n csOpen 0x27 1
  else if c ≤ csSense then s.enterRest n csOpen 0x27 1
  else
    let s := s.flagIf (c = csReady && decide (20 < absQ (s.ins n).istr)) F.INS_FLAGS_OPEN_HIGH_I n
    s.beginOpening n 0x27

/-- OPEN: accepted in every state. -/
def execOpenCmd (sess : Fin 256) (ch : Fin 32) (value : Word) (s : State) :
    Host.Outcome State Fault Refusal :=
  finish (s.sessionCommand sess .INS_CMD ch 0 value.toNat true fun t => t.openCommand ch)

/-! ### The token and the checks (R139, R146) -/

/-- The plan of R671 that a channel takes at its entry to CHECK. -/
def State.takePlan (s : State) (n : Nat) : State :=
  s.setIns n { s.ins n with
    planRth := s.fld F.ALM_CH_PLAN_R_TH n
    planDrop := s.fld F.ALM_CH_PLAN_TJ_DROP n
    planPgrp := s.fld F.ALM_CH_SOA_PGRP n
    planShare := s.fld F.ALM_CH_SOA_SHARE_K n }

/-- Entry to CHECK (R139, R147). -/
def State.enterCheck (s : State) (n : Nat) : State :=
  let s := s.dequeue n
  let s := ({ s with token := some n }).setBit F.INS_STATE_TOKEN true n
  let s := s.takePlan n
  let s := s.setIns n { s.ins n with checkAt := s.now, energy := 0 }
  (s.setCstate n csCheck).showBus

/-- The channel to which the free token goes: the head of WAIT, unless a bus failure withholds it (R139, R215). -/
def State.grantDue (s : State) : Option Nat :=
  match s.token, s.waitQ, s.bus.cause with
  | none, n :: _, none => some n
  | _, _, _ => none

/-- TOKEN_GRANT. -/
def execTokenGrant (s : State) : Host.Outcome State Fault Refusal :=
  match s.grantDue with
  | some n => finish (s.enterCheck n)
  | none => .next s

/-- Every field node the Charter expects on chain n is admitted, none was refused for capacity, and its
last sweep is complete (R146). -/
def State.chainOk (s : State) (n : Nat) : Bool :=
  ((List.range (s.fld F.HR_CHAIN_CFG_EXPECT n)).all fun p => s.fld F.HR_NODE_NSTATE n p == 3) &&
  !s.nodeRefusedCap n && s.bit F.HR_STATE_COMPLETE n

/-- The cool-down of R220. -/
def State.coolOk (s : State) (n : Nat) : Bool :=
  ((bitList 16 (s.healthy n)).all fun g => decide (s.tj n g ≤ (s.tjStart n : Rat))) &&
  decide ((s.prot n).slowA * 2 ≤ s.kEff n) &&
  s.fld F.PLK_NTC_NTC_LO n 0 != 0x8000 && s.fld F.PLK_NTC_NTC_HI n 0 != 0x8000 &&
  !bitOf (s.fld F.PLK_MODSTAT_STATUS n) stOvertemp

/-- A retry delay or cool-down is pending (R219). -/
def State.retryPending (s : State) (n : Nat) : Bool :=
  s.bit F.PROT_STATE_RETRY_PENDING n &&
  !(((s.prot n).retryAt.all fun t => decide (t ≤ s.now)) && s.coolOk n)

/-- The first check of R146 that fails, in table order; 0 when all pass. -/
def State.checkVerdict (s : State) (n : Nat) : Nat :=
  if s.phase ≠ 4 ∨ s.safe then 0x01
  else if s.lstate n ≠ lsAdmitted ∨ ¬ s.bit F.PLK_STATE_MOD_ARMED n ∨ s.bit F.PLK_STATE_MOD_LOCAL_OPEN n ∨
      ¬ s.bit F.PLK_STATE_SAFE_RUN_ON n then 0x02
  else if ¬ s.chainOk n then 0x03
  else if s.bit F.PROT_STATE_LOCKED n then 0x04
  else if s.retryPending n then 0x0E
  else if s.healthyCount n < s.fld F.PROT_CFG_MIN_GROUPS n then 0x05
  else if bitOf (s.reg .SSI_DEMAND) n ∨ bitOf (s.reg .SSI_LATCH) n then 0x07
  else if (s.ins n).gapAt.any fun t => !s.elapsed t 10000000 then 0x0D
  else if 1650 < absQ (s.strm n).fast[2] ∨ 1650 < absQ (s.strm n).fast[3] then 0x0B
  else 0

/-- Entry to SENSE (R148). -/
def State.enterSense (s : State) (n : Nat) : State :=
  let s := s.setIns n { s.ins n with senseV2 := 0, senseV3 := 0, senseN := 0 }
  (s.setCstate n csSense).showBus

/-- CHECK_EVAL: the first failing check ends CHECK; with all passed, CHECK waits for the trim model to be
within 0.1 V of 0 V (R146).  An expired inrush timer stands above both (R144). -/
def execCheckEval (ch : Fin 32) (s : State) : Host.Outcome State Fault Refusal :=
  if s.cstate ch ≠ csCheck then .next s
  else if s.inrushExpired ch then finish (s.inrushFirst ch)
  else
    let v := s.checkVerdict ch
    if v ≠ 0 then finish (s.enterRest ch csOpen v 1)
    else if s.bit F.PLK_STATE_TRIM_PRESENT ch ∧ 1 / 10 < absQ (s.trim ch).vModel then .next s
    else finish (s.enterSense ch)

/-- QUEUE_TIMEOUT: QUEUE_MAX in WAIT ends in OPEN (R140), unless the token is due to the channel at that handshake
(R144). -/
def execQueueTimeout (ch : Fin 32) (s : State) : Host.Outcome State Fault Refusal :=
  if s.cstate ch = csWait ∧ s.elapsed (s.ins ch).waitAt (100000000 * s.fld F.INS_QCFG_QUEUE_MAX) then
    if s.grantDue = some ch.val then finish (s.enterCheck ch)
    else finish ((s.flag F.INS_FLAGS_QUEUE_TIMEOUT ch).enterRest ch csOpen 0x09 1)
  else .next s

/-! ### The paths (R148 to R153, R156, R164, R165) -/

/-- VTRIM_LIM of R150, in V. -/
def State.vtrimLim (s : State) (n : Nat) : Rat :=
  minQ 75 ((idTrimVmax (s.lk n).ident : Rat) / 10 - 5)

/-- A trim target as the 5 mV code it is sent as (R156). -/
def code5mV (v : Rat) : Rat := (roundNear 44 (v * 200) : Rat) / 200

/-- Send the trim target of TRIM_ALIGN, clamped to ±VTRIM_LIM (R156). -/
def State.alignTarget (s : State) (n : Nat) (v : Rat) : State :=
  let l := s.vtrimLim n
  s.setTrim n { s.trim n with vTgt := code5mV (clampQ (-l) l v) }

/-- Entry to RAMP_CLOSE (R152, R153): the coolest lead groups go LINEAR; an aligned trim is held (R247). -/
def State.enterRamp (s : State) (n path : Nat) : State :=
  let lead := maskOf ((s.coolGroups n (s.tjRot n)).take (s.fld F.INS_ROT_ROT_WIDTH n))
  let s := s.setIns n { s.ins n with rotSet := lead, outgoing := 0, rampFrames := 0, rampDone := false }
  let s := s.gates n 0 lead 1 1 (s.fld F.INS_GRAMP_VGS_START n)
  let s := s.setFld F.INS_STATE_PATH path n
  let s := if s.tstate n = tsAlign then s.setFld F.TRM_STATE_TSTATE tsHold n else s
  ((s.setCstate n csRamp).showConduct n).showBus

/-- Entry to TRIM_ALIGN (R156): a trim in OFF enters ALIGN (R247); the first target is VDIFF_SENSE as the register holds it. -/
def State.enterAlign (s : State) (n : Nat) : State :=
  let s := s.setFld F.INS_STATE_PATH 2 n
  let s := if s.tstate n = tsOff then s.setFld F.TRM_STATE_TSTATE tsAlign n else s
  let s := s.alignTarget n ((s.sfld F.INS_VDIFF_VDIFF_SENSE n : Rat) / 10)
  let s := s.setIns n { s.ins n with alignCnt := 0, sum1ms := 0, n1ms := 0 }
  (s.setCstate n csAlign).showBus

/-- Entry to LIMIT_CHARGE (R164, R165): the first slot starts, VGS_TGT at VGS_START. -/
def State.enterLimit (s : State) (n : Nat) : State :=
  let s := s.setFld F.INS_STATE_PATH 3 n
  let s := s.setIns n { s.ins n with
    rotSet := 0, outgoing := 0, paused := false, limitCnt := 0, loopReached := false,
    vgs := s.fld F.INS_GRAMP_VGS_START n, loopNew := true }
  ((s.setCstate n csLimit).newRotation n).showBus

/-- NTC[0] and NTC[1] of the last good frame. -/
def State.ntc (s : State) (n i : Nat) : Option Rat :=
  ntcValue (if i = 0 then s.fld F.PLK_NTC_NTC_LO n 0 else s.fld F.PLK_NTC_NTC_HI n 0)

/-- The thermal start condition of R161. -/
def State.thermalStart (s : State) (n : Nat) : Bool :=
  (s.ntc n 0).isSome && (s.ntc n 1).isSome &&
  decide (s.fld F.INS_ROT_ROT_WIDTH n ≤ (s.coolGroups n (s.tjStart n)).length)

/-- The path chosen at the end of SENSE (R150, R151). -/
def State.choosePath (s : State) (n : Nat) (v : Rat) (held : Bool) : State :=
  let x := s.ins n
  let cool := !(s.coolGroups n (s.tjRot n)).isEmpty
  let vmatch := amps (s.fld F.INS_CFG_VMATCH n)
  if absQ v ≤ vmatch then
    if cool then s.enterRamp n 1 else s.enterRest n csOpen 0x06 1
  else if held ∧ absQ v ≤ s.vtrimLim n ∧ s.bit F.PLK_STATE_TRIM_PRESENT n ∧
      s.bit F.INS_CFG_ALLOW_TRIM n ∧ ¬ x.noTrim then
    if cool then s.enterAlign n else s.enterRest n csOpen 0x06 1
  else if held then
    ((s.flag F.INS_FLAGS_DV_REFUSED n).event 0x01 n false).enterRest n csOpen 0x0A 1
  else if s.bit F.INS_CFG_ALLOW_LIMIT n ∧ ¬ x.noLimit ∧ s.thermalStart n then s.enterLimit n
  else if ¬ s.thermalStart n then s.enterRest n csOpen 0x06 1
  else s.enterRest n csOpen 0x0C 1

/-- The means of SENSE are written and the path is chosen (R148). -/
def State.senseDone (s : State) (n : Nat) : State :=
  let x := s.ins n
  let v : Rat := if x.senseN = 0 then (s.strm n).fast[3] - (s.strm n).fast[2]
    else (x.senseV3 - x.senseV2) / (x.senseN : Rat)
  let held := s.busHeld n
  let s := s.setIns n { x with vdiffSense := v, heldAtSense := held }
  (s.setSatFld F.INS_VDIFF_VDIFF_SENSE (roundFree 53 (v * 10)) n).choosePath n v held

/-- SENSE_END: TSENSE has passed; an expired inrush timer stands above its exits (R144). -/
def execSenseEnd (ch : Fin 32) (s : State) : Host.Outcome State Fault Refusal :=
  if s.cstate ch = csSense ∧ s.elapsed (s.ins ch).stateAt (100000 * s.fld F.INS_CFG_TSENSE ch) then
    finish (if s.inrushExpired ch then s.inrushFirst ch else s.senseDone ch)
  else .next s

/-- INRUSH_TIMEOUT: TINRUSH since the entry to CHECK (R147). -/
def execInrushTimeout (ch : Fin 32) (s : State) : Host.Outcome State Fault Refusal :=
  if s.inrushExpired ch then
    finish ((s.flag F.INS_FLAGS_INRUSH_TIMEOUT ch).beginOpening ch 0x20)
  else .next s

/-- TRIM_TARGET_UPDATE: every 1 ms in TRIM_ALIGN the target is the mean Vdiff of the last 1 ms (R156). -/
def execTrimTargetUpdate (ch : Fin 32) (s : State) : Host.Outcome State Fault Refusal :=
  let x := s.ins ch
  if s.cstate ch = csAlign ∧ x.n1ms ≠ 0 then
    let s := s.alignTarget ch (x.sum1ms / (x.n1ms : Rat))
    .next (s.setIns ch { x with sum1ms := 0, n1ms := 0 })
  else .next s

/-- ALIGN_TIMEOUT: 100 ms in TRIM_ALIGN (R144). -/
def execAlignTimeout (ch : Fin 32) (s : State) : Host.Outcome State Fault Refusal :=
  if s.cstate ch = csAlign ∧ s.elapsed (s.ins ch).stateAt 100000000 then
    finish (if s.inrushExpired ch then s.inrushFirst ch
      else (s.flag F.INS_FLAGS_ALIGN_TIMEOUT ch).beginOpening ch 0x23)
  else .next s

/-! ### The 10 µs means (R149, R156, R211) -/

/-- A count of consecutive 10 µs steps in band. -/
def bandCount (ok : Bool) (k : Nat) : Nat := if ok then k + 1 else 0

/-- Reclose after a reverse block (R211): every healthy group ON with RAMP 0b01. -/
def State.reclose (s : State) (n : Nat) : State :=
  let s := s.setProt n { s.prot n with reclosing := true }
  let s := s.setIns n { s.ins n with passed := 0, wasLinear := 0, onAt := s.now, onSent := false, recloseCnt := 0 }
  s.gates n (s.healthy n) 0 1 1 0

/-- The steps of a blocking channel on Vsw_10 (R211). -/
def State.blockStep (s : State) (n : Nat) (v : Rat) : State :=
  let x := s.ins n
  let vmatch := amps (s.fld F.INS_CFG_VMATCH n)
  let vfwd := amps (s.fld F.PROT_REV_VFWD n)
  let only := s.bit F.PROT_CFG_DISCHARGE_ONLY n
  let ok := decide (absQ v ≤ vmatch) && (!only || decide (vfwd ≤ -v))
  let rc := bandCount ok x.recloseCnt
  let rv := bandCount (decide (vmatch < -v)) x.revCnt
  let s := s.setIns n { x with recloseCnt := rc, revCnt := rv }
  if 10 ≤ rv then s.trip n 0x0C
  else if 10 ≤ rc ∧ s.bit F.PLK_STATE_MOD_ARMED n then s.reclose n
  else s

/-- What a new Vsw_10 does in each state; an expired inrush timer stands above the exits (R144, R173). -/
def State.vsw10Step (s : State) (n : Nat) (v : Rat) : State :=
  let x := s.ins n
  let c := s.cstate n
  if c = csAlign then
    let k := bandCount (decide (absQ v ≤ amps (s.fld F.INS_TRIM_VALIGN n))) x.alignCnt
    let s := s.setIns n { x with alignCnt := k }
    if 100 ≤ k ∧ ¬ s.inrushExpired n then s.enterRamp n 2 else s
  else if c = csLimit then
    let k := bandCount (decide (absQ v ≤ amps (s.fld F.INS_CFG_VMATCH n))) x.limitCnt
    let s := s.setIns n { x with limitCnt := k }
    if 100 ≤ k ∧ ¬ s.inrushExpired n then s.enterEnhance n else s
  else if c = csReady ∧ s.bit F.PROT_STATE_BLOCKING n ∧ ¬ (s.prot n).reclosing then s.blockStep n v
  else s

/-- VSW10_UPDATE: the mean of the 1 µs values since the last step (R149). -/
def execVsw10Update (ch : Fin 32) (s : State) : Host.Outcome State Fault Refusal :=
  let x := s.ins ch
  if s.present ch ∧ x.n10 ≠ 0 then
    let v := x.sum10 / (x.n10 : Rat)
    let s := s.setIns ch { x with vsw10 := v, sum10 := 0, n10 := 0 }
    let s := s.setSatFld F.INS_VDIFF_VSW_NOW (roundFree 54 (v * 10)) ch
    finish (s.vsw10Step ch v)
  else .next s

/-- INS_BUS_WRITE: PCS_HOLD changes the bus-held value (R142, R191). -/
def execInsBusWrite (sess : Fin 256) (value : Word) (s : State) : Host.Outcome State Fault Refusal :=
  finish (s.sessionWrite sess .INS_BUS 0 0 value.toNat (fun _ => true) fun t => t.showBus)

/-! ### Enhancement and confirmation (R168 to R171) -/

/-- GATE_RISE_TIMEOUT: 100 µs in ENHANCE (R144). -/
def execGateRiseTimeout (ch : Fin 32) (s : State) : Host.Outcome State Fault Refusal :=
  if s.cstate ch = csEnhance ∧ s.elapsed (s.ins ch).stateAt 100000 then
    finish (if s.inrushExpired ch then s.inrushFirst ch else s.beginOpening ch 0x25)
  else .next s

/-- Entry to READY (R145, R158, R170).  Its record carries the last CAUSE of INS_STATE[n], since READY itself has no cause
(the model's choice, log 162).  A string whose block is retired, of a channel at its age limit, or with a node refused
for capacity on its chain, is held at zero from here (R48, R173, R401, R672). -/
def State.enterReady (s : State) (n : Nat) : State :=
  let s := s.lastInsertion n
  let s := s.setCstate n csReady
  let s := s.flag F.INS_FLAGS_READY_REACHED n
  let s := (s.dropToken n).strReady n true
  let s := s.insRecord n (s.fld F.INS_STATE_CAUSE n) csReady
  let s := s.setProt n { s.prot n with readyAt := s.now }
  let s := s.shareStart n
  let s := if s.blockGone n || s.agedOut n then s.zeroRequest n else s
  (if s.nodeRefusedCap n then s.hrZeroReq n else s).showBus

/-- CONFIRM_DONE: the conditions of R169 have held for TCONFIRM. -/
def execConfirmDone (ch : Fin 32) (s : State) : Host.Outcome State Fault Refusal :=
  if s.cstate ch = csConfirm ∧ ¬ s.inrushExpired ch ∧ ¬ s.bit F.PROT_STATE_IN_LIMIT ch ∧
      ((s.ins ch).confirmAt.any fun t => s.elapsed t (100000 * s.fld F.INS_CFG_TCONFIRM ch)) then
    finish (s.enterReady ch)
  else .next s

/-! ### The thermal model and rotation (R161 to R166) -/

/-- The link is up: admitted, or in a re-configuration (R118). -/
def State.linkUp (s : State) (n : Nat) : Bool :=
  s.lstate n == lsAdmitted || (s.lstate n == lsConfigure && (s.lk n).reconf)

/-- t_base of R162: the higher of the valid NTC readings; the last value when none is valid or the link is down. -/
def State.baseTemp (s : State) (n : Nat) : Option Rat :=
  if ¬ s.linkUp n then (s.ins n).tBase
  else
    match s.ntc n 0, s.ntc n 1 with
    | some a, some b => some (maxQ a b)
    | some a, none => some a
    | none, some b => some b
    | none, none => (s.ins n).tBase

/-- The power attributed to group g (R163). -/
def State.groupPower (s : State) (n g : Nat) : Rat :=
  let x := s.ins n
  let p := absQ x.vsw * absQ x.istr
  if ¬ s.linkUp n then 0
  else if s.bit F.PROT_STATE_IN_LIMIT n then
    if bitOf (s.healthy n) g then s.shareK n * p / (s.healthyCount n : Rat) else 0
  else if bitOf x.linMask g then s.shareK n * p / (popCount 16 x.linMask : Rat)
  else if bitOf x.onMask g then p / (popCount 16 x.onMask : Rat)
  else 0

/-- One 10 µs step of one pole for every group (R162, R671). -/
def State.poleStep (s : State) (n j : Nat) (dt : Vector Rat 16) : Vector Rat 16 :=
  let rth : Rat := (s.fld F.INS_ZTH_RTH n j : Rat) / 10000 * ((s.ins n).planRth : Rat) / 100
  let tau : Rat := (s.fld F.INS_ZTH_TAU n j : Rat)
  Vector.ofFn fun g =>
    if s.fitted n ≤ g.val then dt[g.val]
    else dt[g.val] + (s.groupPower n g.val * rth - dt[g.val]) / tau

/-- INS_TJ of every group (R189); one that is not fitted reads 0. -/
def State.showTj (s : State) (n : Nat) : State :=
  (List.range 16).foldl (fun t g =>
    if g < s.fitted n then
      let t := t.setSatFld F.INS_TJ_TJ (roundFree 55 (s.tj n g * 10)) n g
      t.setBit F.INS_TJ_ELIGIBLE (bitOf (s.healthy n) g && decide (s.tj n g ≤ (s.tjRot n : Rat))) n g
    else t.setReg .INS_TJ n g 0) s

/-- A pause begins (R162, R166): every group OFF. -/
def State.pauseLimit (s : State) (n : Nat) : State :=
  let x := s.ins n
  if x.paused then s
  else
    let s := s.flag F.INS_FLAGS_THERMAL_PAUSE n
    let s := s.setBit F.INS_STATE_PAUSED true n
    let s := s.setBit F.INS_STATE_DERATED true n
    let s := s.setIns n { x with paused := true, rotSet := 0, outgoing := 0, slotAt := s.now }
    (s.gates n 0 0 0 1 x.vgs).showConduct n

/-- What the new temperatures do in LIMIT_CHARGE and in active limit (R162, R166, R196); a fault timer that expires at the
same handshake names the trip (R224). -/
def State.thermalActs (s : State) (n : Nat) : State :=
  let x := s.ins n
  let hot (m : Nat) : Bool := (bitList 16 m).any fun g => decide ((s.tjLin n : Rat) ≤ s.tj n g)
  let blind := (s.ntc n 0).isNone && (s.ntc n 1).isNone
  if s.cstate n = csLimit then
    if blind then s.pauseLimit n
    else if x.paused then
      if (bitList 16 (s.healthy n)).any fun g => decide (s.tj n g ≤ (s.tjResume n : Rat)) then s.newRotation n
      else s
    else if hot x.rotSet then s.newRotation n
    else s
  else if s.bit F.PROT_STATE_IN_LIMIT n ∧ hot (s.healthy n) then s.trip n (if s.faultDue n then 0x04 else 0x06)
  else s

/-- THERMAL_MODEL_UPDATE: one 10 µs step of the model of R162, from the admission of the module on. -/
def execThermalModelUpdate (ch : Fin 32) (s : State) : Host.Outcome State Fault Refusal :=
  if s.present ch ∧ (s.lk ch).admittedOnce then
    let s := s.setIns ch { s.ins ch with
      tBase := s.baseTemp ch
      dt1 := s.poleStep ch 0 (s.ins ch).dt1
      dt2 := s.poleStep ch 1 (s.ins ch).dt2 }
    let s := s.showTj ch
    let s := s.setBit F.PROT_STATE_COOL_OK (s.coolOk ch) ch
    finish (s.thermalActs ch)
  else .next s

/-- ROTATION_SLOT: TSLOT since the slot began (R165). -/
def execRotationSlot (ch : Fin 32) (s : State) : Host.Outcome State Fault Refusal :=
  let x := s.ins ch
  if s.cstate ch = csLimit ∧ ¬ x.paused ∧ s.elapsed x.slotAt (100000 * s.fld F.INS_TIMING_TSLOT ch) then
    finish (s.newRotation ch)
  else .next s

/-- ROTATION_OUTGOING_OFF: 10 µs after the slot boundary (R165). -/
def execRotationOutgoingOff (ch : Fin 32) (s : State) : Host.Outcome State Fault Refusal :=
  let x := s.ins ch
  if s.cstate ch = csLimit ∧ x.outgoing ≠ 0 ∧ s.elapsed x.slotAt 10000 then
    let s := s.setIns ch { x with outgoing := 0 }
    .next (s.gates ch 0 x.rotSet 1 1 x.vgs)
  else .next s

/-! ### Register writes (R177, R181, R184) -/

/-- INS_CFG_WRITE: refused when VMATCH would fall below VFWD. -/
def execInsCfgWrite (sess : Fin 256) (ch : Fin 32) (value : Word) (s : State) :
    Host.Outcome State Fault Refusal :=
  .next (s.sessionWrite sess .INS_CFG ch 0 value.toNat
    (fun new => s.fld F.PROT_REV_VFWD ch ≤ bitsGet new 0 8) fun t => t)

/-- INS_THERM_WRITE: refused when it breaks TJ_START ≤ TJ_RESUME ≤ TJ_ROT ≤ TJ_LIN_MAX − 5 °C. -/
def execInsThermWrite (sess : Fin 256) (ch : Fin 32) (value : Word) (s : State) :
    Host.Outcome State Fault Refusal :=
  .next (s.sessionWrite sess .INS_THERM ch 0 value.toNat
    (fun new => bitsGet new 24 8 ≤ bitsGet new 16 8 && bitsGet new 16 8 ≤ bitsGet new 8 8 &&
      bitsGet new 8 8 + 5 ≤ bitsGet new 0 8) fun t => t)

/-- INS_GRAMP_WRITE: refused when VGS_END is not above VGS_START. -/
def execInsGrampWrite (sess : Fin 256) (ch : Fin 32) (value : Word) (s : State) :
    Host.Outcome State Fault Refusal :=
  .next (s.sessionWrite sess .INS_GRAMP ch 0 value.toNat
    (fun new => bitsGet new 0 12 < bitsGet new 16 12) fun t => t)

end Sys2Proof.Machine
end

