-- ==== Sys2Proof/Machine/PierLink.lean ====
section
/-! DEFINITION. The pier link (spec chapter 03): block lock, downlink frames, uplink frames, the
mailbox, admission, link loss, and the link's register writes. -/

namespace Sys2Proof.Machine

/-! ### Link state machine (R126) -/

/-- Move the link of channel n to another state. -/
def State.setLstate (s : State) (n st : Nat) : State :=
  let s := s.setFld F.PLK_STATE_LSTATE st n
  (s.setLk n { s.lk n with stateAt := s.now, mbxOp := 0, rx := [], rxFrags := 0, rxDone := false }).safeRun n

/-- Entry to FRAME_SYNC: its four good frames are counted from here (R126). -/
def State.enterFrame (s : State) (n : Nat) : State :=
  (s.setLk n { s.lk n with goodRun := 0 }).setLstate n lsFrame

/-- Entry to BLOCK_SYNC, which a link that still holds block lock passes at once (R126). -/
def State.enterBlock (s : State) (n : Nat) : State :=
  let s := s.setLstate n lsBlock
  if (s.lk n).blockLock then s.enterFrame n else s

/-- Entry to REFUSED with its code (R127, R129); without block lock REFUSED is left at once (R126). -/
def State.linkRefuse (s : State) (n code : Nat) : State :=
  let s := s.setFld F.PLK_STATE_REFUSE code n
  let s := s.flag F.PLK_FLAGS_REFUSED n
  let s := ((s.judge (partnerLink n)).setLk n { s.lk n with reconf := false }).setLstate n lsRefused
  if (s.lk n).blockLock then s else s.enterBlock n

/-- Start a mailbox transaction (R113, R114): OP 1 READ or 2 WRITE of an object. -/
def State.mbxStart (s : State) (n op obj : Nat) : State :=
  s.setLk n { s.lk n with mbxOp := op, mbxObj := obj, mbxTag := ((s.lk n).mbxTag + 1) % 16,
                          mbxTries := 0, mbxFrag := 0, mbxAt := s.now, rx := [], rxFrags := 0,
                          rxDone := false }

/-- The 32 bytes of PARAM (R117) from their source fields (R118). -/
def State.paramBytes (s : State) (n : Nat) : List Nat :=
  leBytes 2 (s.fld F.PROT_MOD_DESAT_BLANK n) ++ leBytes 2 (s.fld F.PROT_DIDT_DIDT_THR n) ++
  leBytes 2 (s.fld F.PROT_MOD_VGS_ON_MIN n) ++ leBytes 2 (s.fld F.PLK_PARAM2_LOSS_SLEW n) ++
  leBytes 2 (s.fld F.PLK_PARAM2_TRIM_SLEW_MAX n) ++ leBytes 2 (s.fld F.PLK_PARAM_RANGE_UP n) ++
  leBytes 2 (s.fld F.PLK_PARAM_RANGE_DOWN n) ++ List.replicate 14 0 ++
  leBytes 4 ((s.lk n).paramGen % 2 ^ 32)

/-- LOSS_SLEW and TRIM_SLEW_MAX in force: those of the last PARAM read back equal, before one those of PLK_PARAM2
(R118). -/
def State.lossSlew (s : State) (n : Nat) : Nat :=
  if (s.lk n).paramOn = [] then s.fld F.PLK_PARAM2_LOSS_SLEW n else leNat (s.lk n).paramOn 6 2
def State.slewMax (s : State) (n : Nat) : Nat :=
  if (s.lk n).paramOn = [] then s.fld F.PLK_PARAM2_TRIM_SLEW_MAX n else leNat (s.lk n).paramOn 8 2

/-- VGS_ON_MIN in force, likewise (R118). -/
def State.vgsOnMin (s : State) (n : Nat) : Nat :=
  if (s.lk n).paramOn = [] then s.fld F.PROT_MOD_VGS_ON_MIN n else leNat (s.lk n).paramOn 4 2

/-- Entry to CONFIGURE: PARAM is written with a new PARAM_GEN (R117, R118). -/
def State.configure (s : State) (n : Nat) (reconf : Bool) : State :=
  let s := s.setFld F.PLK_STATE_LSTATE lsConfigure n
  let s := s.setLk n { s.lk n with stateAt := s.now, reconf := reconf, paramGen := (s.lk n).paramGen + 1 }
  let s := s.setLk n { s.lk n with paramSent := s.paramBytes n }
  (s.mbxStart n 2 0x10).safeRun n

/-- The refusal code that IDENTIFY meets first, in the order of REFUSE (R126, R127, R129); 0 admits.  GROUPS_FITTED
outside 1 to 16 (R116) is refused with the code of too few groups, whatever the Charter requires: the spec names no
refusal for it, and the choice is the model's (log 159). -/
def State.identVerdict (s : State) (n : Nat) : Nat :=
  let id := (s.lk n).ident
  match s.charter.modules.find? fun r => r.oui == leNat id 0 3 && r.model == leNat id 4 2 with
  | none => 1
  | some r =>
    if (s.lk n).chanEcho ≠ n then 2
    else if idProto id ≠ 1 then 3
    else if ¬ bitOf (s.fld F.PLK_MODSTAT_STATUS n) stCalValid then 4
    else if idGroups id < r.minGroups ∨ idGroups id = 0 ∨ 16 < idGroups id then 7
    else 0

/-- What a fresh SERIAL starts from (R162, R209, R229): the thermal model and the slow accumulator at
zero, and the DAMAGED marks that the Ledger keeps for the SERIAL. -/
def State.newModule (s : State) (n : Nat) (serial : List Nat) (same : Bool) : State :=
  let s := if same then s
    else
      let s := s.setIns n { s.ins n with dt1 := Vector.replicate 16 0, dt2 := Vector.replicate 16 0,
                                          tBase := none }
      let s := s.setProt n { s.prot n with slowA := 0 }
      s.setTrim n { s.trim n with zeroAt := none }
  let marks := ((s.damageLog.find? fun e => e.1 == serial).map Prod.snd).getD 0
  let s := s.setFld F.PROT_DAMAGED_DAMAGED marks n
  (List.range 16).foldl (fun t g => t.setBit F.INS_TJ_DAMAGED (bitOf marks g) n g) s

/-- The IDENT words of PLK_IDENT[n] (R138). -/
def State.showIdent (s : State) (n : Nat) (id : List Nat) : State :=
  (List.range 16).foldl (fun t i => t.setReg .PLK_IDENT n i (leNat id (4 * i) 4)) s

/-- h has fallen below MIN_GROUPS in a state other than OPEN or LOCKED (R208); `was` is h before. -/
def State.groupsWatch (s : State) (n was : Nat) : State :=
  let least := s.fld F.PROT_CFG_MIN_GROUPS n
  if least ≤ was ∧ s.healthyCount n < least ∧ s.cstate n ≠ csOpen ∧ s.cstate n ≠ csLocked then s.lockout n 0x11 else s

/-- Admission (R126, R127): the module's identity, groups and trim are taken, a change of SERIAL or
TRIM_SERIAL is flagged and recorded with the retirement of the previous module, the admission is counted (R309),
and SAFE_RUN[n] may run.  "The last one admitted" is the last since reset: what was admitted before a reset is not
remembered (the model's choice, log 159). -/
def State.linkAdmit (s : State) (n : Nat) : State :=
  let l := s.lk n
  let id := l.ident
  let was := s.healthyCount n
  let same := l.admittedOnce && l.serial == idSerial id
  let changed := l.admittedOnce && (l.serial != idSerial id || l.trimSerial != idTrimSerial id)
  let s := s.setFld F.PLK_STATE_GROUPS_FITTED (idGroups id) n
  let s := s.setBit F.PLK_STATE_TRIM_PRESENT (idTrimFitted id) n
  let s := s.setFld F.PLK_STATE_REFUSE 0 n
  let s := s.showIdent n id
  let s := if changed then
      let s := (s.flag F.PLK_FLAGS_IDENT_CHANGE n).ledger 0x35 ([n] ++ l.serial ++ l.trimSerial)
      s.ledger 0x34 ([n] ++ l.serial ++ idSerial id ++ l.trimSerial ++ idTrimSerial id)
    else s
  let s := s.newModule n (idSerial id) same
  let s := s.almAdmit n (idSerial id) (!l.admittedOnce) changed (l.serial == idSerial id)
  let s := s.setLk n { s.lk n with serial := idSerial id, trimSerial := idTrimSerial id,
                                    admittedOnce := true, reconf := false }
  let s := s.setFld F.PLK_DELAY_D_MAX (s.fld F.PLK_DELAY_D_NOW n) n
  let s := if s.tstate n = tsLost then s
    else s.setTrim n { s.trim n with vModel := 0, modelAt := s.now, cmd := {}, sent := [], vTgt := 0, localOpen := false }
  let s := (s.derate n).groupsWatch n was
  let s := s.admitStreams n
  (s.judge (partnerLink n)).setLstate n lsAdmitted

/-! ### Block lock (R101, R126) -/

/-- BLOCK_LOCK_GAINED: BLOCK_SYNC and LOST move to FRAME_SYNC (R101, R126). -/
def State.blockGained (s : State) (n : Nat) : State :=
  let s := s.setLk n { s.lk n with blockLock := true }
  if s.lstate n = lsBlock ∨ s.lstate n = lsLost then s.enterFrame n else s

def execBlockLockGained (ch : Fin 32) (s : State) : Host.Outcome State Fault Refusal :=
  .next (if s.present ch ∧ s.lstate ch ≠ lsDown then s.blockGained ch else s)

/-- BLOCK_LOCK_LOST: BLOCK_ERR sets; an ADMITTED link (or one in re-configuration) is LOST (R125), a
REFUSED one goes back to BLOCK_SYNC (R101, R126); before admission the link has no lock to work on. -/
def State.blockLost (s : State) (n : Nat) : State :=
  let s := s.flag F.PLK_FLAGS_BLOCK_ERR n
  let s := s.flag F.PLK_FLAGS_FRAME_BAD n
  let s := s.setLk n { s.lk n with blockLock := false, goodRun := 0, prevGood := false }
  if s.lstate n = lsAdmitted ∨ (s.lstate n = lsConfigure ∧ (s.lk n).reconf) then s.linkLoss n
  else if s.lstate n = lsRefused then s.enterBlock n
  else s

def execBlockLockLost (ch : Fin 32) (s : State) : Host.Outcome State Fault Refusal :=
  finish (if s.present ch ∧ s.lstate ch ≠ lsDown then s.blockLost ch else s)

/-! ### The downlink frame (R102 to R106, R124, R153, R164, R203) -/

/-- The code steps of one frame of RAMP_CLOSE (R153): equal steps rounded down, the last exactly
VGS_END; one frame after VGS_END was sent the ramp is complete. -/
def State.rampFrame (s : State) (n : Nat) : State :=
  let x := s.ins n
  let a := s.fld F.INS_GRAMP_VGS_START n
  let b := s.fld F.INS_GRAMP_VGS_END n
  let frames := 20 * s.fld F.INS_CLOSE_TRAMP n
  let k := x.rampFrames
  if frames < k then
    if s.inrushExpired n then s.inrushFirst n else s.enterEnhance n
  else
    let v := if k = frames then b else a + k * ((b - a) / frames)
    let s := s.setIns n { x with rampFrames := k + 1, vgs := v }
    s

/-- LIMIT_CHARGE: the common code starts at VGS_START, which the first frame carries, rises by at most 10 codes a frame until I_set is
first reached, and is then the loop's own choice (R164; the code is free, log 7). -/
def State.limitFrame (s : State) (n : Nat) : State :=
  let x := s.ins n
  if x.paused then s
  else if x.loopNew then s.setIns n { x with loopNew := false }
  else if x.loopReached then (s.setIns n { x with vgs := s.free 30 % 4096 }).draw
  else (s.setIns n { x with vgs := satNat 4095 (x.vgs + s.free 31 % 11) }).draw

/-- Active current limit (R203): the first frame carries VGS_END; then at or below 0.95 × ILIM_EFF the code rises by 20 or to VGS_END; else it
moves by at most 20 codes, the loop's own choice. -/
def State.ilimFrame (s : State) (n : Nat) : State :=
  let x := s.ins n
  let e := s.fld F.INS_GRAMP_VGS_END n
  let lim := amps (s.fld F.PROT_EFF_ILIM_EFF n)
  if (s.prot n).exiting then s
  else if x.loopNew then s.setIns n { x with loopNew := false }
  else if absQ x.iprot ≤ lim * 95 / 100 then
    s.setIns n { x with vgs := if e ≤ x.vgs + 20 then e else x.vgs + 20 }
  else (s.setIns n { x with vgs := satNat 4095 (x.vgs - 20 + s.free 32 % 41) }).draw

/-- The slew limit sent, in 0.1 V/ms (R246). -/
def State.trimSlew (s : State) (n : Nat) : Nat :=
  let t := s.tstate n
  if t = tsShare ∨ t = tsVolt ∨ t = tsFreeze then s.fld F.TRM_CFG_SHARE_SLEW n else s.fld F.INS_TRIM_TRIM_SLEW n

/-- The trim is enabled by the present trim state (R246). -/
def State.trimEn (s : State) (n : Nat) : Bool := tsAlign ≤ s.tstate n && s.tstate n ≤ tsFreeze

/-- The trim model moved on to the local time u in ns (R123, R124, R155, R248): towards the target of the command in
force, 0 V when TRIM_EN = 0 or in LOCAL_OPEN, at the slew limit in force, `loss` or at most `most` in 0.1 V/ms. -/
def Trim.slewTo (t : Trim) (loss most : Nat) (u : Rat) : Trim :=
  let tgt : Rat := if t.cmd.en ∧ ¬ t.localOpen then t.cmd.tgt else 0
  let slew := if t.localOpen then loss else satNat most t.cmd.slew
  let st := maxQ 0 ((slew : Rat) / 10000000 * (u - t.modelAt))
  { t with vModel := t.vModel + clampQ (-st) st (tgt - t.vModel), modelAt := u }

/-- The trim model up to time u, each command sent taking over at its instant (R155). -/
def Trim.follow (t : Trim) (loss most : Nat) (u : Rat) (cs : List TrimCmd) : Trim :=
  match cs with
  | [] => { t.slewTo loss most u with sent := [] }
  | c :: rest =>
    if c.at_ ≤ u then Trim.follow { t.slewTo loss most c.at_ with cmd := c } loss most u rest
    else { t.slewTo loss most u with sent := c :: rest }

/-- The trim model of R155 at a frame tick.  RETURN ends within 0.1 V of 0 (R247). -/
def State.trimFrame (s : State) (n : Nat) : State :=
  let t := (s.trim n).follow (s.lossSlew n) (s.slewMax n) (s.now : Rat) (s.trim n).sent
  let v := t.vModel
  let s := s.setTrim n t
  let s := s.setSatFld F.TRM_STATE_V_MODEL (roundFree 40 (v * 100)) n
  if s.tstate n = tsReturn ∧ absQ v ≤ 1 / 10 then (s.setFld F.TRM_STATE_TSTATE tsOff n).shareStart n
  else if s.tstate n = tsLost ∧ s.lstate n = lsAdmitted ∧
      s.elapsed t.lostAt (1000000 + (absQ t.lostV * 10000000 / (s.lossSlew n : Rat)).ceil.toNat) then
    let s := s.setTrim n { s.trim n with vModel := 0, vTgt := 0, localOpen := false }
    (s.setFld F.TRM_STATE_TSTATE tsOff n).shareStart n
  else s

/-- GATE_CMD of group g: ACTION, RAMP, VGS_TGT (R105). -/
def gateCmd (x : Ins) (g : Nat) : Nat × Nat × Nat :=
  if bitOf x.linMask g then (2, x.rampOn, x.vgs)
  else if bitOf x.onMask g then (1, x.rampOn, 0)
  else (0, x.rampOff, 0)

/-- How many fragments the outstanding request takes (R113). -/
def Link.mbxFrags (l : Link) : Nat := if l.mbxOp = 2 then (l.paramSent.length + 11) / 12 else 1

/-- The mailbox bytes of this frame (R113): OP and TAG, FRAG and LAST, the object, 12 bytes of data. -/
def mbxBytes (l : Link) : List Nat :=
  let frags := l.mbxFrags
  if l.mbxOp = 0 ∨ frags ≤ l.mbxFrag then List.replicate 16 0
  else
    let d := if l.mbxOp = 2 then (l.paramSent.drop (12 * l.mbxFrag)).take 12 else []
    [l.mbxOp + 16 * l.mbxTag, l.mbxFrag + (if l.mbxFrag + 1 = frags then 16 else 0)] ++
      leBytes 2 l.mbxObj ++ d ++ List.replicate (12 - d.length) 0

/-- SW_MODE is GATED in the gated states, except while a reverse block holds the switch off (R143, R210). -/
def State.swGated (s : State) (n : Nat) : Bool :=
  s.gated n && !(s.bit F.PROT_STATE_BLOCKING n && !(s.prot n).reclosing)

/-- CLR_TRIP in this frame: asked for once, or until the module reports ARMED; only with SW_MODE = OPEN. -/
def State.clrNow (s : State) (n : Nat) : Bool :=
  !s.swGated n && ((s.lk n).clrTrip || ((s.lk n).armPending && s.bit F.PLK_STATE_SAFE_RUN_ON n))

/-- TICK_OFS of the next frame (R102, R103): 500 ns are 1,250 line bits, 62 more than 18 blocks of 66, so the delay from
the tick to the block boundary grows by 4 modulo 66 from frame to frame.  Where the first boundary lies is free. -/
def State.nextOfs (s : State) (n : Nat) : Nat :=
  match (s.lk n).tickOfs with
  | some o => (o + 4) % 66
  | none => s.free 33 % 66

/-- The frame of channel n (R104). -/
def State.frameOf (s : State) (n : Nat) : DownFrame :=
  let l := s.lk n
  let x := s.ins n
  { seq := (l.seqDown + 1) % 256
    tickOfs := s.nextOfs n
    ack := l.ackUp
    gated := s.swGated n
    rangePol := s.fld F.PLK_CFG_RANGE_POL n
    trimEn := s.trimEn n
    clrTrip := s.clrNow n
    chan := n
    gates := (List.range 16).map (gateCmd x)
    vtgt := clampInt (-16000) 16000 (roundNear 41 ((s.trim n).vTgt * 200))
    slew := satNat 1000 (s.trimSlew n)
    mbx := mbxBytes l }

/-- The 144 bytes of a frame (R104, R105): TYPE, bytes 1 to 139 with every reserved byte 0, and their CRC. -/
def DownFrame.bytes (f : DownFrame) : List Nat :=
  let mode := (if f.gated then 1 else 0) + 4 * f.rangePol + (if f.trimEn then 16 else 0)
  let body := [f.seq, f.tickOfs, f.ack, mode, if f.clrTrip then 1 else 0, f.chan, 0] ++
    f.gates.flatMap (fun g => leBytes 2 (g.1 + 4 * g.2.1 + 16 * g.2.2)) ++
    leBytes 2 (ofSigned 16 f.vtgt) ++ leBytes 2 f.slew ++ List.replicate 16 0 ++ f.mbx ++ List.replicate 64 0
  0xD2 :: body ++ leBytes 4 (crc32c body)

/-- The trim command of a frame waits for its instant (R155): the departure of the frame's last block, 18 block times of
26.4 ns after its start, then the filtered delay of R283 and 100 ns for the module's check. -/
def State.trimSent (s : State) (n : Nat) (f : DownFrame) : State :=
  let u : Rat := (s.now : Rat) + (f.tickOfs : Rat) * 2 / 5 + 18 * (132 / 5) + (s.strm n).dFilt + 100
  let t := s.trim n
  s.setTrim n { t with sent := t.sent ++ [{ at_ := u, tgt := (f.vtgt : Rat) / 200, slew := f.slew, en := f.trimEn }] }

/-- One frame tick on link n: the loops and the trim model step, and the frame goes out. -/
def State.linkTick (s : State) (n : Nat) : State :=
  let s := if s.cstate n = csRamp then s.rampFrame n else s
  let s := if s.cstate n = csLimit then s.limitFrame n else s
  let s := if s.bit F.PROT_STATE_IN_LIMIT n then s.ilimFrame n else s
  let s := s.trimFrame n
  let f := s.frameOf n
  let l := s.lk n
  let s := s.setLk n { l with seqDown := f.seq, tickOfs := some f.tickOfs, clrTrip := false,
                              mbxFrag := l.mbxFrag + 1
                              mbxAt := if l.mbxFrag + 1 = l.mbxFrags then s.now else l.mbxAt }
  let s := s.trimSent n f
  let s := s.setSFld F.TRM_LOOP_V_CMD f.vtgt n
  let s := if (s.ins n).onSent then s else s.setIns n { s.ins n with onAt := s.now, onSent := true }
  (s.injSend 0 n 0 (.downlink n f f.bytes)).draw

/-- The trim carrier event of channel n at frame tick k (R323). -/
def State.carrierHit (s : State) (n k : Nat) : Bool :=
  let p := 2 ^ s.fld F.MEAS_TCAR_P_LOG2 n
  s.bit F.MEAS_TCAR_CAR_EN n && s.lstate n == lsAdmitted && s.trimEn n && k % p == s.fld F.MEAS_TCAR_PHASE n % p

/-- A trim carrier event of channel n occurs at T + d, with the filtered one-way delay d of R283 (R323). -/
def State.carrierAhead (s : State) (n : Nat) : State :=
  { s with carriers := s.carriers ++ [(n, ((s.now : Rat) + (s.strm n).dFilt).ceil.toNat)] }

/-- FRAME_TICK: the count of ticks advances, every enabled link sends a frame, and the trim carrier
events of this tick follow after their delays (R102, R323). -/
def execFrameTick (s : State) : Host.Outcome State Fault Refusal :=
  let t := s.chans.foldl (fun t n => if t.lstate n = lsDown then t else t.linkTick n) s
  let t := t.chans.foldl (fun t n => if t.carrierHit n (t.lk n).seqDown then t.carrierAhead n else t) t
  finish (if s.sup.inReset then s else { t with frames := t.frames + 1 })

/-! ### The uplink frame (R108 to R112, R120, R125) -/

/-- A mailbox fragment of a good uplink frame is taken when it is the next one of the outstanding
transaction (R113, R114); anything else in the middle of an object, NONE too, means a missed fragment and discards the
partial object.  A complete reply stays until it is used. -/
def State.takeMbx (s : State) (n : Nat) (b : Vector Byte 16) : State :=
  let bs := b.toList.map BitVec.toNat
  let l := s.lk n
  let op := bs.getD 0 0 % 16
  let tag := bs.getD 0 0 / 16
  let frag := bs.getD 1 0 % 16
  let last := bs.getD 1 0 / 16 % 2 = 1
  let obj := leNat bs 2 2
  if l.mbxOp = 0 ∨ l.rxDone then s
  else if 3 ≤ op ∧ tag = l.mbxTag ∧ obj = l.mbxObj ∧ frag = l.rxFrags then
    s.setLk n { l with rx := l.rx ++ bs.drop 4, rxFrags := frag + 1, rxDone := last, rxOp := op, rxObj := obj }
  else s.setLk n { l with rx := [], rxFrags := 0 }

/-- The delay of R120 in units of 0.2 ns: (A − T − TICK_OFS × 0.4 ns) / 2. -/
def State.takeDelay (s : State) (n lag ofs : Nat) : State :=
  let d : Rat := ((lag : Rat) - 2 * (ofs : Rat)) / 2
  let v := satNat 4095 (roundFree 42 d).toNat
  let s := s.setFld F.PLK_DELAY_D_NOW v n
  let s := if s.fld F.PLK_DELAY_D_MAX n < v then s.setFld F.PLK_DELAY_D_MAX v n else s
  s.setLk n { s.lk n with delay := d }

/-- Telemetry, temperatures and status of a good frame as the registers show them (R129, R133, R136, R137). -/
def State.takeTel (s : State) (n : Nat) (f : UplinkFrame) : State :=
  let st := f.status.toNat
  let s := s.flagIf (bitOf st stLocalOpen && !s.bit F.PLK_STATE_MOD_LOCAL_OPEN n) F.PLK_FLAGS_LOCAL_OPEN n
  let s := s.setReg .PLK_MODSTAT n 0 (st + 2 ^ 16 * f.desat.toNat)
  let s := s.setBit F.PLK_STATE_MOD_ARMED (bitOf st stArmed) n
  let s := s.setBit F.PLK_STATE_MOD_LOCAL_OPEN (bitOf st stLocalOpen) n
  let s := s.setBit F.PLK_STATE_RANGE_MAIN (bitOf f.applied.toNat 2) n
  let s := s.setBit F.PLK_STATE_RANGE_CHECK (bitOf f.applied.toNat 3) n
  let s := (List.range 16).foldl (fun t g => t.setReg .PLK_GTEL n g ((f.gtel.toList.getD g 0).toNat)) s
  let ntc (i : Nat) : Nat := (f.ntc.toList.getD i 0x8000).toNat
  let s := s.setReg .PLK_NTC n 0 (ntc 0 + 2 ^ 16 * ntc 1)
  let s := s.setReg .PLK_NTC n 1 (ntc 2 + 2 ^ 16 * ntc 3)
  let s := s.flagIf ((s.lk n).dnBad.any fun d => d != f.dnBad.toNat) F.PLK_FLAGS_DN_BAD n
  s.setLk n { s.lk n with
    dnBad := some f.dnBad.toNat
    chanEcho := f.chan.toNat
    armPending := (s.lk n).armPending && !bitOf st stArmed }

/-- The reported LOCAL_OPEN and the trim model (R155): when the module reports LOCAL_OPEN and its trim has idled, the model
is 0 V; when LOCAL_OPEN clears, the model follows commands again.  The trim counts as idled once the model is within
one frame's slew at LOSS_SLEW of 0 V (the model's choice, log 161). -/
def State.trimLocal (s : State) (n : Nat) (st : Nat) : State :=
  let t := s.trim n
  if bitOf st stLocalOpen then
    let idle := t.localOpen && decide (absQ t.vModel ≤ (s.lossSlew n : Rat) / 20000)
    s.setTrim n { t with localOpen := true, vModel := if idle then 0 else t.vModel }
  else s.setTrim n { t with localOpen := false }

/-- Module-layer trips shown by a good frame (R197, R199, R200, R159): DESAT and DIDT newly set, OVERTEMP,
TRIM_FAULT, LOCAL_OPEN, which is expected only while a reverse block holds the switch off.  `old` is PLK_MODSTAT[n] of the frame before, whose mask a further desaturation joins. -/
def State.moduleTrips (s : State) (n old : Nat) (f : UplinkFrame) : State :=
  let st := f.status.toNat
  let newBit (b : Nat) : Bool := bitOf st b && !bitOf old b
  let further := bitOf st stDesat && maskDiff 16 f.desat.toNat (bitsGet old 16 16) != 0
  let s :=
    if s.gated n ∧ newBit stDidt then s.tripModule n 0x02
    else if s.gated n ∧ (newBit stDesat ∨ further) then s.desatEvent n f.desat.toNat
    else if s.resting n ∧ newBit stDesat then s.tripModule n 0x01
    else s
  let s := if s.gated n ∧ bitOf st stOvertemp then s.trip n 0x07 else s
  let s := if bitOf st stTrimFault ∧ csRamp ≤ s.cstate n ∧ s.cstate n ≤ csReady then s.trip n 0x08 else s
  let s := if bitOf st stTrimFault ∧ s.cstate n = csAlign then
      if s.inrushExpired n then s.inrushFirst n else s.beginOpening n 0x24 else s
  let s := if bitOf st stTrimFault then s.trimReturn n else s
  if s.gated n ∧ bitOf st stLocalOpen ∧ (¬ s.bit F.PROT_STATE_BLOCKING n ∨ (s.prot n).reclosing) then s.tripModule n 0x0D else s

/-- The Almanac keeps T_RISE of each group at each ENHANCE (R668). -/
def State.keepRise (s : State) (n g r : Nat) : State :=
  let a := s.almCh n
  if s.cstate n = csEnhance then
    s.setAlmCh n { a with
      rise := Vector.ofFn fun k => if k.val = g then (r :: a.rise[k.val]).take 16 else a.rise[k.val] }
  else s

/-- A group has passed R168. -/
def State.passGroup (s : State) (n g : Nat) : State :=
  s.setIns n { s.ins n with passed := (s.ins n).passed ||| 2 ^ g }

/-- A gate-rise check of R168 runs: in ENHANCE, at an exit from active limit, at a reclose. -/
def State.gateChecking (s : State) (n : Nat) : Bool :=
  s.cstate n == csEnhance || (s.prot n).exiting || (s.prot n).reclosing

/-- The gate checks of a good frame (R168, R206): driver faults, groups ON that fall out for two frames,
the gate-rise check of groups sent ON.  `on`, `lin` and `checking` are the groups commanded ON and LINEAR and the check
that ran when the frame arrived: a trip that the same frame shows does not excuse a group (R206, R224). -/
def State.gateCheck (s : State) (n on lin : Nat) (checking : Bool) (g : Nat) : State :=
  let w := s.reg .PLK_GTEL n g
  let x := s.ins n
  let onC := bitOf on g
  let conduct := onC || bitOf lin g
  let von := s.vgsOnMin n
  let trise := s.fld F.PROT_MOD_T_RISE_MAX n
  if ¬ conduct then s.setProt n { s.prot n with badOnce := maskDiff 16 (s.prot n).badOnce (2 ^ g) }
  else if gtState w = 3 then s.damage n g
  else if checking ∧ onC ∧ ¬ bitOf x.passed g then
    let ripe := x.onSent && decide (((x.onAt + 852 + 100 * trise : Nat) : Rat) ≤ ((s.strm n).lastEnd).getD 0)
    let late := gtRise w ≠ 0xFFF ∧ 50 * trise < gtRise w
    if bitOf x.wasLinear g then
      if ¬ ripe then s
      else if von ≤ gtVgs w then s.passGroup n g
      else s.damage n g
    else if late then s.damage n g
    else if gtRise w ≠ 0xFFF then (s.passGroup n g).keepRise n g (gtRise w)
    else s
  else if onC ∧ (gtState w ≠ 2 ∨ gtVgs w < von) then
    if bitOf (s.prot n).badOnce g then s.damage n g
    else s.setProt n { s.prot n with badOnce := (s.prot n).badOnce ||| 2 ^ g }
  else s.setProt n { s.prot n with badOnce := maskDiff 16 (s.prot n).badOnce (2 ^ g) }

/-- Every remaining healthy group has passed R168. -/
def State.allPassed (s : State) (n : Nat) : Bool := maskDiff 16 (s.healthy n) (s.ins n).passed == 0

/-- What follows when every healthy group has passed: ENHANCE enters CONFIRM, or OPENING when its 100 µs or the inrush timer
have run out, whose rows stand above (R144); an exit from active limit
is complete (R204, R171), a reclose is complete (R211). -/
def State.passedNext (s : State) (n : Nat) : State :=
  if ¬ s.allPassed n then s
  else if s.cstate n = csEnhance ∧ s.inrushExpired n then s.inrushFirst n
  else if s.cstate n = csEnhance ∧ s.elapsed (s.ins n).stateAt 100000 then s.beginOpening n 0x25
  else if s.cstate n = csEnhance then
    let s := s.setIns n { s.ins n with confirmAt := none }
    (s.setCstate n csConfirm).showBus
  else if (s.prot n).exiting then
    let s := s.setProt n { s.prot n with reclosing := false }
    let s := s.setBit F.PROT_STATE_BLOCKING false n
    let s := s.limitOut n
    let s := s.strReady n (s.cstate n = csReady)
    (s.freezeEnd n).shareStart n
  else if (s.prot n).reclosing then
    let s := s.setProt n { s.prot n with reclosing := false }
    let s := s.setBit F.PROT_STATE_BLOCKING false n
    (s.strReady n (s.cstate n = csReady)).shareStart n
  else s

/-- The groups' reports, against the commands of the frame's arrival: checks, OPENING's end, the end of a trip's opening, the block's CLR_TRIP, the
TRIPPED states that leave for OPEN, the CONFIRM conditions, and MOD_SR_FAULT (R144, R169, R210, R216,
R218, R627). -/
def State.groupReports (s : State) (n on lin : Nat) (checking : Bool) : State :=
  let s := (List.range 16).foldl (fun t g => if g < t.fitted n then t.gateCheck n on lin checking g else t) s
  let s := s.passedNext n
  let s := if s.allOff n then
      let s := if s.cstate n = csOpening then s.openingDone n else s
      let s := if (s.prot n).openStage = 0 then s.setProt n { s.prot n with openAt := none } else s
      let s := if s.cstate n = csTripped ∧ ¬ (s.prot n).counted then
          (s.clrTrip n).enterRest n csOpen 0x29 1 else s
      if s.bit F.PROT_STATE_BLOCKING n ∧ ¬ (s.prot n).reclosing ∧ ¬ (s.prot n).clrSent then
        (s.clrTrip n).setProt n { s.prot n with clrSent := true } else s
    else s
  let s := if s.cstate n = csConfirm then
      let h := s.healthy n
      let ok := (List.range 16).all fun g => !bitOf h g ||
        (gtState (s.reg .PLK_GTEL n g) == 2 && s.vgsOnMin n ≤ gtVgs (s.reg .PLK_GTEL n g))
      let ok := ok && !s.bit F.PROT_STATE_IN_LIMIT n && s.fld F.PROT_CFG_MIN_GROUPS n ≤ s.healthyCount n
      if ok then
        match (s.ins n).confirmAt with
        | some _ => s
        | none => s.setIns n { s.ins n with confirmAt := some s.now }
      else s.setIns n { s.ins n with confirmAt := none }
    else s
  s

/-- Frames that carry no new acknowledgement (R125). -/
def State.ackWatch (s : State) (n ack : Nat) : State :=
  let l := s.lk n
  if ack = l.ackSeen then s.setLk n { l with ackSame := l.ackSame + 1 }
  else s.setLk n { l with ackSeen := ack, ackSame := 0 }

/-- What the Almanac gathers of a frame for the window's R_on point (R668). -/
def State.frameMeasure (s : State) (n : Nat) : State :=
  let x := s.strm n
  let on := s.cstate n == csReady && !s.bit F.PROT_STATE_IN_LIMIT n && !s.bit F.PROT_STATE_BLOCKING n &&
    (s.ins n).onMask == s.healthy n
  s.setStrm n { x with
    vtSum := x.vtSum + s.vtrim n, tbSum := x.tbSum + ((s.ins n).tBase).getD 25, frN := x.frN + 1
    allOn := x.allOn && on }

/-- A good uplink frame (R103, R110, R112, R120). -/
def State.goodFrame (s : State) (n : Nat) (f : UplinkFrame) : State :=
  let l := s.lk n
  let old := s.reg .PLK_MODSTAT n 0
  let x := s.ins n
  let checking := s.gateChecking n
  let words := f.streams.toList.map BitVec.toNat
  let s := s.streamFrame n words f.lag f.tickOfs.toNat (f.ntc.toList.getD 3 0x8000).toNat
  let l2 := s.lk n
  let consec := l.prevGood && f.seq.toNat == (l.ackUp + 1) % 256
  let s := s.setLk n { l2 with
    ackUp := f.seq.toNat, prevGood := true, badRun := 0
    goodRun := if consec then l.goodRun + 1 else 1
    curWords := Vector.ofFn fun i => curHalf (words.getD i.val 0) }
  let s := s.takeDelay n f.lag f.tickOfs.toNat
  let s := s.takeTel n f
  let s := s.lateChecks n
  let s := s.takeMbx n f.mbx
  let s := s.ackWatch n f.ack.toNat
  let s := s.trimLocal n f.status.toNat
  if s.lstate n = lsFrame ∧ 4 ≤ (s.lk n).goodRun then
    (s.setLstate n lsIdentify).mbxStart n 1 0x0001
  else if s.lstate n = lsAdmitted ∨ s.lstate n = lsConfigure then
    let s := s.moduleTrips n old f
    let s := ((s.groupReports n x.onMask x.linMask checking).leadFix n).frameMeasure n
    s.srWithheld n (bitOf f.status.toNat stSafeRunOk)
  else s

/-- A bad or missing frame (R103, R112, R114, R125): no field is used; a partial mailbox object is discarded, a complete
one stays. -/
def State.badFrame (s : State) (n : Nat) : State :=
  let s := s.flag F.PLK_FLAGS_FRAME_BAD n
  let l := s.lk n
  let s := s.setLk n { l with prevGood := false, badRun := l.badRun + 1, goodRun := 0,
                              ackSame := l.ackSame + 1
                              rx := if l.rxDone then l.rx else []
                              rxFrags := if l.rxDone then l.rxFrags else 0 }
  let s := s.setStrm n { s.strm n with weffBad := (s.strm n).weff }
  if 1 ≤ l.badRun then (s.flag F.PLK_FLAGS_GAP n).streamGap n (if l.badRun = 1 then 20 else 10) else s

/-- A frame is good when it checks and no range position is above 9 (R103, R110). -/
def frameGood (f : UplinkFrame) : Bool :=
  f.good && f.streams.toList.all fun w => halfRcPos (curHalf w.toNat) ≤ 9

/-- A frame, or the lack of one, as link n receives it (R100, R112, R130). -/
def State.uplinkRx (s : State) (n : Nat) (frame : Option UplinkFrame) : State :=
  match frame with
  | some f =>
    let s := s.flagIf f.blockErr F.PLK_FLAGS_BLOCK_ERR n
    if frameGood f then s.goodFrame n f else s.badFrame n
  | none => s.badFrame n

/-- The held uplink frame of an injection is passed (R556). -/
def State.uplinkHeld (s : State) (i : Option Instr) : State :=
  match i with
  | some (.uplinkFrame c f) => s.uplinkRx c f
  | _ => s

/-- UPLINK_FRAME (R112): a frame arrives and is judged, or is withheld, corrupted or passed late by an injection
(R556). -/
def execUplinkFrame (ch : Fin 32) (frame : Option UplinkFrame) (s : State) :
    Host.Outcome State Fault Refusal :=
  finish (if s.present ch ∧ s.lstate ch ≠ lsDown ∧ s.lstate ch ≠ lsBlock then
    match frame with
    | none => s.uplinkRx ch none
    | some f =>
      let r := s.injReceive 0 ch 0 (.uplinkFrame ch frame)
      let s := if r.2.1 = 1 ∨ r.2.1 = 3 then r.1.uplinkRx ch none
        else r.1.uplinkRx ch (some { f with good := f.good && r.2.1 == 0 })
      s.uplinkHeld r.2.2
  else s)

/-- URGENT_EVENT_RX (R107, R130, R199): URGENT_RCVD sets on any link that is not DOWN, and an admitted channel in a gated state trips with the module's cause.  In
LIMIT_CHARGE a first desaturation waits for the DESAT_MASK of the next good frame (R200). -/
def execUrgentEventRx (ch : Fin 32) (didt : Bool) (s : State) : Host.Outcome State Fault Refusal :=
  finish (if s.present ch ∧ s.lstate ch ≠ lsDown then
    let s := s.flag F.PLK_FLAGS_URGENT_RCVD ch
    if s.lstate ch ≠ lsAdmitted then s
    else if ¬ s.gated ch then (if s.resting ch ∧ ¬ didt then s.tripModule ch 0x01 else s)
    else if didt then s.tripModule ch 0x02
    else if s.cstate ch = csLimit ∧ ¬ bitOf (s.fld F.PLK_MODSTAT_STATUS ch) stDesat then s
    else s.tripModule ch 0x01
  else s)

/-! ### The mailbox (R113 to R118) -/

/-- A complete reply in IDENTIFY or CONFIGURE moves the link on (R114, R126); PARAM is read back after an ERROR to its
WRITE too (R117). -/
def State.mbxDone (s : State) (n : Nat) : State :=
  let l := s.lk n
  let st := s.lstate n
  if st = lsIdentify ∧ l.rxOp = 3 ∧ l.rxObj = 0x0001 then
    let s := s.setLk n { l with ident := l.rx.take 64 }
    s.mbxStart n 1 0x0002
  else if st = lsIdentify ∧ l.rxOp = 3 ∧ l.rxObj = 0x0002 then
    let w := (List.range 12).map fun i => leNat l.rx (4 * i) 4
    let s := s.setLk n { l with cal := w, mbxOp := 0 }
    let v := s.identVerdict n
    if v = 0 then s.configure n false else s.linkRefuse n v
  else if st = lsConfigure ∧ (l.rxOp = 4 ∨ (l.rxOp = 5 ∧ l.mbxOp = 2)) then s.mbxStart n 1 0x0010
  else if st = lsConfigure ∧ l.rxOp = 3 then
    if l.rx.take 32 = l.paramSent then
      let s := s.setLk n { l with reconf := false, paramOn := l.paramSent }
      if l.reconf then (s.admitStreams n).setLstate n lsAdmitted
      else s.linkAdmit n
    else s.linkRefuse n 5
  else s

/-- MBX_REPLY: the complete reply that the uplink frames brought is used (R114). -/
def execMbxReply (ch : Fin 32) (s : State) : Host.Outcome State Fault Refusal :=
  .next (if s.present ch ∧ (s.lk ch).rxDone then s.mbxDone ch else s)

/-- MBX_REPLY_TIMEOUT: 1 ms after the request's last fragment without a reply repeats the request; after three repeats MBX_TIMEOUT sets and
the link is REFUSED (R114, R126). -/
def execMbxReplyTimeout (ch : Fin 32) (s : State) : Host.Outcome State Fault Refusal :=
  let l := s.lk ch
  .next (if s.present ch ∧ l.mbxOp ≠ 0 ∧ ¬ l.rxDone ∧ l.mbxFrags ≤ l.mbxFrag ∧ s.elapsed l.mbxAt 1000000 then
    if l.mbxTries < 3 then
      s.setLk ch { l with mbxTries := l.mbxTries + 1, mbxFrag := 0, mbxAt := s.now, rx := [], rxFrags := 0 }
    else
      let s := s.flag F.PLK_FLAGS_MBX_TIMEOUT ch
      if s.lstate ch = lsIdentify ∨ s.lstate ch = lsConfigure then s.linkRefuse ch 6
      else s.setLk ch { l with mbxOp := 0 }
  else s)

/-! ### Link loss and the timers of R126 -/

/-- LINK_LOST (R125): LOSS_DEV frame periods without a good frame or with ACK_SEQ unchanged, or block
lock lost, on an ADMITTED link. -/
def execLinkLost (ch : Fin 32) (s : State) : Host.Outcome State Fault Refusal :=
  let l := s.lk ch
  let dev := s.fld F.PLK_CFG_LOSS_DEV ch
  finish (if s.present ch ∧ (s.lstate ch = lsAdmitted ∨ (s.lstate ch = lsConfigure ∧ l.reconf)) ∧
      (dev ≤ l.badRun ∨ dev ≤ l.ackSame ∨ ¬ l.blockLock) then s.linkLoss ch else s)

/-- FRAME_SYNC_TIMEOUT: 100 ms in FRAME_SYNC goes back to BLOCK_SYNC, and on to FRAME_SYNC while block lock is held
(R126). -/
def execFrameSyncTimeout (ch : Fin 32) (s : State) : Host.Outcome State Fault Refusal :=
  .next (if s.present ch ∧ s.lstate ch = lsFrame ∧ s.elapsed (s.lk ch).stateAt 100000000 then
    s.enterBlock ch else s)

/-- LOST_RESYNC: block lock held for 100 µs after entry to LOST goes to FRAME_SYNC (R126). -/
def execLostResync (ch : Fin 32) (s : State) : Host.Outcome State Fault Refusal :=
  .next (if s.present ch ∧ s.lstate ch = lsLost ∧ (s.lk ch).blockLock ∧
      s.elapsed (s.lk ch).stateAt 100000 then s.enterFrame ch else s)

/-! ### Register writes (R131, R134, R135) -/

/-- LINK_EN set or cleared takes its effect on the link (R126): 0 goes DOWN, 1 leaves DOWN and REFUSED
for BLOCK_SYNC, once roll call has started (R71, R81).  Any accepted write of PLK_CFG with LINK_EN = 1 re-enables a
REFUSED link, one that changes nothing too (the model's choice, log 159). -/
def State.linkEnable (s : State) (n : Nat) : State :=
  if ¬ s.bit F.PLK_CFG_LINK_EN n then
    (s.setLk n { s.lk n with blockLock := false, reconf := false, tickOfs := none }).setLstate n lsDown
  else if (s.lstate n = lsDown ∨ s.lstate n = lsRefused) ∧ (s.phase = 3 ∨ s.phase = 4) then s.enterBlock n
  else s

/-- PLK_CFG_WRITE (R131): refused when it clears LINK_EN outside OPEN, TRIPPED and LOCKED. -/
def execPlkCfgWrite (sess : Fin 256) (ch : Fin 32) (value : Word) (s : State) :
    Host.Outcome State Fault Refusal :=
  .next (s.sessionWrite sess .PLK_CFG ch 0 value.toNat
    (fun new => !(s.bit F.PLK_CFG_LINK_EN ch && !bitOf new 0 && !s.resting ch))
    (fun t => t.linkEnable ch))

/-- A write of a source field of PARAM sends an ADMITTED link to CONFIGURE, and starts a CONFIGURE that runs again with
the new value (R118, R126). -/
def State.reParam (s : State) (n : Nat) : State :=
  if s.lstate n = lsAdmitted then s.configure n true
  else if s.lstate n = lsConfigure then s.configure n (s.lk n).reconf
  else s

/-- PLK_PARAM_WRITE (R134): refused outside OPEN and when RANGE_DOWN + 10.0 A exceeds RANGE_UP. -/
def execPlkParamWrite (sess : Fin 256) (ch : Fin 32) (value : Word) (s : State) :
    Host.Outcome State Fault Refusal :=
  .next (s.sessionWrite sess .PLK_PARAM ch 0 value.toNat
    (fun new => s.cstate ch == csOpen && bitsGet new 16 16 + 100 ≤ bitsGet new 0 16)
    (fun t => t.reParam ch))

/-- PLK_PARAM2_WRITE (R135): refused outside OPEN. -/
def execPlkParam2Write (sess : Fin 256) (ch : Fin 32) (value : Word) (s : State) :
    Host.Outcome State Fault Refusal :=
  .next (s.sessionWrite sess .PLK_PARAM2 ch 0 value.toNat (fun _ => s.cstate ch == csOpen)
    (fun t => t.reParam ch))

end Sys2Proof.Machine
end

