-- ==== Sys2Proof/Machine/Protection.lean ====
section
/-! DEFINITION. String protection, breaker and retry (spec chapter 05): the 1 µs update, active limit,
the slow breaker, shunt agreement, bus failure, opening checks, retry, lockout clears. -/

namespace Sys2Proof.Machine

/-- FAST_PATH_UPDATE (R292): the fast values of a channel whose packets are counted, and the 1 µs checks. -/
def execFastPathUpdate (ch : Fin 32) (s : State) : Host.Outcome State Fault Refusal :=
  if s.present ch ∧ s.counting ch then
    let r := s.fastUpdate ch
    finish (if r.2 then r.1.fastChecks ch else r.1)
  else .next s

/-! ### Active current limit (R203 to R205) -/

/-- ILIM_EXIT: the window of R204 held for 20 µs, so every healthy group is sent ON with RAMP 0b00. -/
def execIlimExit (ch : Fin 32) (s : State) : Host.Outcome State Fault Refusal :=
  let q := s.prot ch
  if s.bit F.PROT_STATE_IN_LIMIT ch ∧ ¬ q.exiting ∧ q.exitAt.any (fun t => s.elapsed t 20000) then
    let s := s.setProt ch { q with exiting := true }
    let s := s.setIns ch { s.ins ch with passed := 0, wasLinear := (s.ins ch).linMask, onAt := s.now, onSent := false }
    .next (s.gates ch (s.healthy ch) 0 0 0 (s.ins ch).vgs)
  else .next s

/-- ILIM_TIMEOUT: the fault timer reaches T_FLT in active current limit. -/
def execIlimTimeout (ch : Fin 32) (s : State) : Host.Outcome State Fault Refusal :=
  if s.faultDue ch then
    finish (s.trip ch 0x04)
  else .next s

/-- FLT_TIMER_RESET: out of limit for 10 ms without a break. -/
def execFltTimerReset (ch : Fin 32) (s : State) : Host.Outcome State Fault Refusal :=
  let q := s.prot ch
  if ¬ s.bit F.PROT_STATE_IN_LIMIT ch ∧ q.outAt.any (fun t => s.elapsed t 10000000) then
    .next (s.setProt ch { q with fltNs := 0 })
  else .next s

/-! ### The slow breaker (R229) -/

/-- A after 100 µs at mean current i against a threshold (R229). -/
def slowStep (a i thr : Rat) : Rat := maxQ 0 (a + (i * i - thr * thr) / 10000)

/-- SLOW_ACC_UPDATE: one 100 µs step; with the link down the mean current is 0.  COOL_OK and the whole seconds left of
the retry delay are shown with it (R220, R239). -/
def State.slowUpdate (s : State) (n : Nat) : State :=
  let q := s.prot n
  let i : Rat := if s.counting n ∧ q.slowN ≠ 0 then q.slowSum / (q.slowN : Rat) else 0
  let a := slowStep q.slowA i (amps (s.fld F.PROT_SLOWACC_ITRIP_SLOW_EFF n))
  let s := s.setProt n { q with slowA := a, slowSum := 0, slowN := 0 }
  let k := s.kEff n
  let s := s.showAcc n
  let s := s.setBit F.PROT_STATE_COOL_OK (s.coolOk n) n
  let left : Nat := match q.retryAt with
    | some t => (t - s.now + 999999999) / 1000000000
    | none => 0
  let s := s.setFld F.PROT_RETRY_STATE_DELAY_REMAIN left n
  if s.gated n ∧ k ≤ a then s.trip n 0x05 else s

def execSlowAccUpdate (ch : Fin 32) (s : State) : Host.Outcome State Fault Refusal :=
  if s.present ch ∧ (s.lk ch).admittedOnce then finish (s.slowUpdate ch) else .next s

/-! ### Shunt agreement (R212, R213) -/

/-- SHUNT_COMPARE: the 10 ms means of streams 0 and 1. -/
def State.shuntCompare (s : State) (n : Nat) : State :=
  let q := s.prot n
  let i0 := q.sum0 / (q.sumN : Rat)
  let i1 := q.sum1 / (q.sumN : Rat)
  let d := absQ (i0 - i1)
  let m := maxQ (absQ i0) (absQ i1)
  let dr := bandCount (decide (maxQ (m / 100) 2 < d)) q.drift
  let dis := bandCount (decide (maxQ (m / 10) 20 < d) && s.gated n) q.disagree
  let s := s.setProt n { q with sum0 := 0, sum1 := 0, sumN := 0, drift := dr, disagree := dis }
  let a := s.almCh n
  let s := if 200 ≤ m then s.setAlmCh n { a with driftSum := a.driftSum + (i0 - i1) / m, driftN := a.driftN + 1 }
    else s
  let s := s.flagIf (dr = 100) F.PROT_FLAGS_SHUNT_DRIFT n
  if 10 ≤ dis ∧ s.gated n then s.trip n 0x09 else s

def execShuntCompare (ch : Fin 32) (s : State) : Host.Outcome State Fault Refusal :=
  if s.present ch ∧ s.counting ch ∧ s.hasCheck ch ∧ (s.prot ch).sumN ≠ 0 then finish (s.shuntCompare ch)
  else .next s

/-! ### Bus failure (R214, R215) -/

/-- Insert into a rising list. -/
def rising (x : Rat) (l : List Rat) : List Rat :=
  match l with
  | [] => [x]
  | y :: rest => if x ≤ y then x :: y :: rest else y :: rising x rest

/-- The median; of an even number the mean of the two in the middle. -/
def medianQ (l : List Rat) : Rat :=
  let r := l.foldl (fun acc x => rising x acc) []
  let n := r.length
  if n % 2 = 1 then r.getD (n / 2) 0 else (r.getD (n / 2 - 1) 0 + r.getD (n / 2) 0) / 2

/-- The lead of R89, in µs; 0 on the smaller variants. -/
def State.lead (s : State) : Nat :=
  if s.variant = .gk6432 then s.fld F.SUP_FEED_CFG_FAILWARN_LEAD else 0

/-- The bus cause ends (R215): FAILWARN_N releases unless R83 holds it, and the token is free again. -/
def State.busEnd (s : State) : State :=
  let s := s.setBit F.PROT_BUS_STATE_UV_ACTIVE false
  let s := s.setBit F.PROT_BUS_STATE_OV_ACTIVE false
  let s := s.setBit F.PROT_BUS_STATE_WARN false
  ({ s with bus := {} }).showFailwarn

/-- VBUS_MED_UPDATE: the median of stream 3 over the admitted channels, the qualification counts and the
cancelling of a warning whose bus is back in window before the lead ends. -/
def State.vbusUpdate (s : State) : State :=
  let vs := (s.chans.filter fun n => s.lstate n == lsAdmitted).map fun n => (s.strm n).fast[3]
  let armed := s.bit F.PROT_BUS_CFG_BUS_EN && s.chans.any fun n => s.holdsBus n
  let s := s.setBit F.PROT_BUS_STATE_ARMED armed
  if vs.isEmpty then { s with bus := { s.bus with uvCnt := 0, ovCnt := 0 } }
  else
    let m := medianQ vs
    let uv : Rat := (s.fld F.PROT_BUS_CFG_BUS_UV : Rat)
    let ov : Rat := (s.fld F.PROT_BUS_CFG_BUS_OV : Rat)
    let s := s.setSatFld F.PROT_BUS_STATE_VBUS_MED (roundFree 57 (m * 10))
    let s := { s with bus := { s.bus with
      uvCnt := bandCount (armed && decide (m < uv)) s.bus.uvCnt
      ovCnt := bandCount (armed && decide (ov < m)) s.bus.ovCnt } }
    if s.bus.cause.isSome ∧ ¬ s.bus.ended ∧ uv + 20 ≤ m ∧ m ≤ ov - 20 then
      (s.busEnd).flag F.PROT_BUS_FLAGS_WARN_CANCEL
    else s

def execVbusMedUpdate (s : State) : Host.Outcome State Fault Refusal := finish s.vbusUpdate

/-- Step 3 of R215: every channel from TRIM_ALIGN to READY trips with the bus cause. -/
def State.busTrip (s : State) (code : Nat) : State :=
  let ns := s.chans.filter fun n => csAlign ≤ s.cstate n && s.cstate n ≤ csReady
  let s := s.flagIf (!ns.isEmpty) F.PROT_BUS_FLAGS_BUS_OPENED
  let s := { s with bus := { s.bus with ended := true, opened := maskOf ns,
                                         allOffAt := if ns.isEmpty then some s.now else none } }
  ns.foldl (fun t n => t.trip n code) s

/-- BUS_FAILURE_QUALIFIED: steps 1 and 2 of R215; with no lead step 3 follows at once.  A second cause that qualifies
before the first has ended shows its flag and its ACTIVE bit; the steps in progress keep their cause and deadline (the
model's choice, log 165). -/
def State.busQualified (s : State) : State :=
  let t := s.fld F.PROT_BUS_CFG_BUS_T
  let uv := decide (t ≤ s.bus.uvCnt) && !s.bit F.PROT_BUS_STATE_UV_ACTIVE
  let ov := decide (t ≤ s.bus.ovCnt) && !s.bit F.PROT_BUS_STATE_OV_ACTIVE
  let code := if uv then 0x0A else 0x0B
  let s := if uv then (s.flag F.PROT_BUS_FLAGS_BUS_UV).setBit F.PROT_BUS_STATE_UV_ACTIVE true else s
  let s := if ov then (s.flag F.PROT_BUS_FLAGS_BUS_OV).setBit F.PROT_BUS_STATE_OV_ACTIVE true else s
  if s.bus.cause.isSome ∨ (uv = false ∧ ov = false) then s
  else
    let s := { s with bus := { s.bus with cause := some code, leadAt := s.now, ended := false,
                                           opened := 0, allOffAt := none } }
    let s := s.recTrigger 2 0
    let s := if s.variant = .gk6432 then (s.setBit F.PROT_BUS_STATE_WARN true).showFailwarn else s
    let s := s.chans.foldl (fun t n =>
      if t.cstate n = csCheck ∨ t.cstate n = csSense then t.enterWait n true else t) s
    if s.lead = 0 then s.busTrip code else s

def execBusFailureQualified (s : State) : Host.Outcome State Fault Refusal := finish s.busQualified

/-- BUS_LEAD_END: FAILWARN_LEAD after FAILWARN_N asserted. -/
def execBusLeadEnd (s : State) : Host.Outcome State Fault Refusal :=
  match s.bus.cause with
  | some code =>
    if ¬ s.bus.ended ∧ s.elapsed s.bus.leadAt (1000 * s.lead) then finish (s.busTrip code) else .next s
  | none => .next s

/-- BUS_FAILWARN_RELEASE: 1 ms after the last opened channel reports every group OFF. -/
def execBusFailwarnRelease (s : State) : Host.Outcome State Fault Refusal :=
  if s.bus.ended ∧ s.bus.allOffAt.any (fun t => s.elapsed t 1000000) then finish s.busEnd else .next s

/-! ### Opening checks (R216, R217) -/

/-- OPEN_FAIL_TIMEOUT: 100 µs after the open decision URGENT_OPEN goes and SAFE_RUN stops; a further 100 µs
later the channel is locked out unless every group is OFF and |I_prot| ≤ 20 A. -/
def State.openFail (s : State) (n : Nat) : State :=
  let q := s.prot n
  match q.openAt with
  | none => s
  | some t =>
    if q.openStage = 0 then
      if ¬ s.elapsed t 100000 then s
      else if s.allOff n then
        let s := s.setProt n { q with openAt := none }
        (s.setLk n { s.lk n with srStop := false }).safeRun n
      else
        let s := s.setProt n { q with openAt := some s.now, openStage := 1 }
        let s := s.urgentOpen n
        (s.setLk n { s.lk n with srStop := true }).safeRun n
    else if ¬ s.elapsed t 100000 then s
    else if s.allOff n ∧ absQ (s.ins n).iprot ≤ 20 then
      let s := s.setProt n { q with openAt := none, openStage := 0 }
      (s.setLk n { s.lk n with srStop := false }).safeRun n
    else
      let s := s.setProt n { q with openAt := none, openStage := 0 }
      let s := s.setBit F.PROT_STATE_SR_HELD true n
      let s := s.lockout n 0x10
      (s.setProt n { s.prot n with openAt := none }).safeRun n

def execOpenFailTimeout (ch : Fin 32) (s : State) : Host.Outcome State Fault Refusal :=
  finish (s.openFail ch)

/-- SWITCH_CONDUCT: |I_prot| > 20 A for 100 µs while commanded open. -/
def execSwitchConduct (ch : Fin 32) (s : State) : Host.Outcome State Fault Refusal :=
  let q := s.prot ch
  if s.resting ch ∧ ¬ q.conducted ∧ q.conductAt.any (fun t => s.elapsed t 100000) then
    let s := s.setProt ch { q with conducted := true }
    let s := s.flag F.PROT_FLAGS_SWITCH_CONDUCT ch
    let s := s.setBit F.PROT_STATE_SR_HELD true ch
    finish ((s.event 0x03 ch true).safeRun ch)
  else .next s

/-! ### Retry (R218 to R220) -/

/-- RETRY_READY: delay elapsed and cool-down met; TRIPPED goes to WAIT at the tail, or to OPEN. -/
def State.retryGo (s : State) (n : Nat) : State :=
  let s := s.setBit F.PROT_STATE_RETRY_PENDING false n
  let s := s.setFld F.PROT_RETRY_STATE_DELAY_REMAIN 0 n
  let s := s.setProt n { s.prot n with retryAt := none }
  if s.cstate n ≠ csTripped then s
  else
    let s := s.clrTrip n
    if s.bit F.PROT_CFG_RETRY_AUTO n then
      let s := s.flag F.PROT_FLAGS_RETRY_START n
      let s := s.setIns n { s.ins n with reqTag := 0xFFFF, noLimit := false, noTrim := false,
                                          busChangedOnce := false, byCmd := false }
      s.enterWait n false
    else s.enterRest n csOpen 0x29 1

def execRetryReady (ch : Fin 32) (s : State) : Host.Outcome State Fault Refusal :=
  if s.present ch ∧ s.bit F.PROT_STATE_RETRY_PENDING ch ∧ ¬ s.retryPending ch ∧
      (s.cstate ch ≠ csTripped ∨ (s.prot ch).counted) then finish (s.retryGo ch)
  else .next s

/-- RETRY_HEAL: RETRY_HEAL minutes in READY without a break. -/
def execRetryHeal (ch : Fin 32) (s : State) : Host.Outcome State Fault Refusal :=
  let q := s.prot ch
  if s.cstate ch = csReady ∧ q.retryUsed ≠ 0 ∧
      s.elapsed q.readyAt (60000000000 * s.fld F.PROT_RETRY_RETRY_HEAL ch) then
    let s := s.setProt ch { q with retryUsed := 0 }
    .next ((s.setFld F.PROT_STATE_RETRY_USED 0 ch).flag F.PROT_FLAGS_HEAL ch)
  else .next s

/-! ### PROT_CLEAR (R209, R221, R240) -/

/-- KEY of PROT_CLEAR. -/
def clearKey (value : Word) : Bool := bitsGet value.toNat 4 12 == 0x7E1

/-- The condition of R221 for the lock cause. -/
def State.lockClearOk (s : State) (n : Nat) : Bool :=
  s.cstate n == csLocked &&
  match s.fld F.PROT_STATE_LOCK_CAUSE n with
  | 0x11 => s.fld F.PROT_CFG_MIN_GROUPS n ≤ s.healthyCount n
  | 0x10 => s.allOff n && decide (absQ (s.ins n).iprot ≤ 20)
  | 0x13 => (s.prot n).lockedBeforeReset
  | _ => true

/-- A lockout is cleared to OPEN (R221): retries and delays at 0, CLR_TRIP, recorded with the session. -/
def State.clearLockout (s : State) (sess n : Nat) : State :=
  let s := s.clrTrip n
  let s := s.setBit F.PROT_STATE_LOCKED false n
  let s := s.setFld F.PROT_STATE_LOCK_CAUSE 0 n
  let s := s.setFld F.PROT_STATE_RETRY_USED 0 n
  let s := s.setBit F.PROT_STATE_RETRY_PENDING false n
  let s := s.setFld F.PROT_RETRY_STATE_DELAY_REMAIN 0 n
  let s := s.setProt n { s.prot n with retryUsed := 0, retryAt := none, openAt := none, openStage := 0 }
  let s := s.setLk n { s.lk n with srStop := false }
  let s := { s with lockLog := sparseSet s.lockLog 0 n 0 }
  let s := s.ledgerState 0x32 n [n, 0, sess, (s.session sess).certId]
  (s.enterRest n csOpen 0 1).safeRun n

/-- PROT_CLEAR_LOCKOUT: ACTION 1. -/
def execProtClearLockout (sess : Fin 256) (ch : Fin 32) (value : Word) (s : State) :
    Host.Outcome State Fault Refusal :=
  finish (s.sessionCommand sess .PROT_CLEAR ch 0 value.toNat (clearKey value && s.lockClearOk ch)
    fun t => t.clearLockout sess ch)

/-- The marks of a mask are cleared (R209) and the thresholds follow. -/
def State.clearDamaged (s : State) (sess n mask : Nat) : State :=
  let marks := maskDiff 16 (s.fld F.PROT_DAMAGED_DAMAGED n) mask
  let s := s.setFld F.PROT_DAMAGED_DAMAGED marks n
  let s := (List.range 16).foldl (fun t g => t.setBit F.INS_TJ_DAMAGED (bitOf marks g) n g) s
  let serial := (s.lk n).serial
  let rest := s.damageLog.filter fun e => e.1 != serial
  let s := { s with damageLog := if marks = 0 then rest else (serial, marks) :: rest }
  let s := s.ledgerState 0x33 n ([n, marks, sess, (s.session sess).certId] ++ serial)
  s.derate n

/-- PROT_CLEAR_DAMAGED: ACTION 2, in OPEN or LOCKED. -/
def execProtClearDamaged (sess : Fin 256) (ch : Fin 32) (value : Word) (s : State) :
    Host.Outcome State Fault Refusal :=
  .next (s.sessionCommand sess .PROT_CLEAR ch 0 value.toNat
    (clearKey value && (s.cstate ch == csOpen || s.cstate ch == csLocked))
    fun t => t.clearDamaged sess ch (bitsGet value.toNat 16 16))

/-- PROT_CLEAR_SR_RELEASE: ACTION 3, with |I_prot| ≤ 20 A and every group OFF.  It releases what R216 and R217 hold: not a
fence, nor a stop whose opening check still runs; a later conduction is a new happening of R217. -/
def execProtClearSrRelease (sess : Fin 256) (ch : Fin 32) (value : Word) (s : State) :
    Host.Outcome State Fault Refusal :=
  .next (s.sessionCommand sess .PROT_CLEAR ch 0 value.toNat
    (clearKey value && decide (absQ (s.ins ch).iprot ≤ 20) && s.allOff ch)
    fun t =>
      let t := t.setBit F.PROT_STATE_SR_HELD false ch
      let t := t.setProt ch { t.prot ch with conductAt := none, conducted := false }
      (t.setLk ch { t.lk ch with srStop := (t.prot ch).openAt.isSome && (t.lk ch).srStop }).safeRun ch)

/-! ### Register writes (R226 to R233, R242) -/

/-- PROT_ILIM_WRITE: ISC ≥ ILIM + 10.0 A and ILIM ≥ ITRIP_SLOW + 10.0 A; the effective values follow (R195). -/
def execProtIlimWrite (sess : Fin 256) (ch : Fin 32) (value : Word) (s : State) :
    Host.Outcome State Fault Refusal :=
  .next (s.sessionWrite sess .PROT_ILIM ch 0 value.toNat
    (fun new => bitsGet new 0 16 + 100 ≤ bitsGet new 16 16 &&
      s.fld F.PROT_SLOW_ITRIP_SLOW ch + 100 ≤ bitsGet new 0 16)
    fun t => t.derate ch)

/-- PROT_SLOW_WRITE: ITRIP_SLOW ≤ ILIM − 10.0 A. -/
def execProtSlowWrite (sess : Fin 256) (ch : Fin 32) (value : Word) (s : State) :
    Host.Outcome State Fault Refusal :=
  .next (s.sessionWrite sess .PROT_SLOW ch 0 value.toNat
    (fun new => bitsGet new 0 16 + 100 ≤ s.fld F.PROT_ILIM_ILIM ch) fun t => t.derate ch)

/-- PROT_REV_WRITE: VFWD ≤ VMATCH. -/
def execProtRevWrite (sess : Fin 256) (ch : Fin 32) (value : Word) (s : State) :
    Host.Outcome State Fault Refusal :=
  .next (s.sessionWrite sess .PROT_REV ch 0 value.toNat
    (fun new => bitsGet new 16 8 ≤ s.fld F.INS_CFG_VMATCH ch) fun t => t)

/-- PROT_MOD_WRITE: PROT_MOD, or PROT_DIDT, in OPEN only; the module receives a new PARAM. -/
def execProtModWrite (sess : Fin 256) (ch : Fin 32) (value : Word) (didt : Bool) (s : State) :
    Host.Outcome State Fault Refusal :=
  .next (s.sessionWrite sess (if didt then .PROT_DIDT else .PROT_MOD) ch 0 value.toNat
    (fun _ => s.cstate ch == csOpen) fun t => t.reParam ch)

/-- PROT_BUS_CFG_WRITE: BUS_UV + 100 V ≤ BUS_OV. -/
def execProtBusCfgWrite (sess : Fin 256) (value : Word) (s : State) :
    Host.Outcome State Fault Refusal :=
  .next (s.sessionWrite sess .PROT_BUS_CFG 0 0 value.toNat
    (fun new => bitsGet new 0 11 + 100 ≤ bitsGet new 11 11) fun t => t)

/-- PROT_LAST_READ: a read of word 0 copies words 1 to 4 into the reader's shadows (R222). -/
def execProtLastRead (sess : Fin 256) (ch : Fin 32) (s : State) : Host.Outcome State Fault Refusal :=
  .next (s.loadingRead sess .PROT_LAST ch 0 ([1, 2, 3, 4].map fun j => (RegName.PROT_LAST, ch.val, j)))

/-! ### The coordinated-trip message (R223) -/

/-- The stamp of a trip as one number of ns. -/
def TripEntry.stamp (e : TripEntry) : Nat := e.sec * 1000000000 + e.ns

/-- The earliest stamp not yet sent. -/
def firstStamp (q : List TripEntry) : Option Nat :=
  q.foldl (fun m e => match m with
    | none => some e.stamp
    | some t => some (min t e.stamp)) none

/-- Entries in ascending stamp order (R549); equal stamps keep their order. -/
def insertTrip (e : TripEntry) (l : List TripEntry) : List TripEntry :=
  match l with
  | [] => [e]
  | x :: rest => if e.stamp < x.stamp then e :: x :: rest else x :: insertTrip e rest
def sortTrips (l : List TripEntry) : List TripEntry := l.foldl (fun a e => insertTrip e a) []

/-- The payload of a COORD_TRIP frame (R549). -/
def tripPayload (es : List TripEntry) : List Byte :=
  let head := [es.length, if es.any fun e => e.lock then 1 else 0, 0, 0]
  let one (e : TripEntry) : List Nat :=
    [e.ch, e.cause] ++ leBytes 2 (ofSigned 16 (clampInt (-0x8000) 0x7FFF e.iTrip)) ++ leBytes 6 e.sec ++
      leBytes 4 e.ns ++ [e.layer, 0]
  (head ++ es.flatMap one).map fun b => BitVec.ofNat 8 b

/-- A Span frame of this device (R545, R547): SRC, HOPS = RING_N − 1. -/
def State.spanFrame (s : State) (west dual : Bool) (cls kind dst seq : Nat) (payload : List Byte) : SpanFrame :=
  { version := 1, cls := BitVec.ofNat 3 cls, frag := false, kind := BitVec.ofNat 8 kind
    src := BitVec.ofNat 6 (s.fld F.SPAN_CFG_SPAN_ID), west := west, dual := dual, dst := BitVec.ofNat 8 dst
    hops := BitVec.ofNat 8 (s.fld F.SPAN_STATE_RING_N - 1), fragIdx := 0, last := false
    seq := BitVec.ofNat 32 seq, corr := 0, payload := payload }

/-- A Span port in UP. -/
def State.spanUp (s : State) (west : Bool) : Bool := s.fld F.COM_PORT_STATE_PSTATE (if west then 3 else 2) == 4

/-- The message leaves both Span ports that are UP, with one SEQ (R548). -/
def State.sendCoord (s : State) (es : List TripEntry) : State :=
  let q := s.tripSeq
  let s := ({ s with tripSeq := q + 1 }).send (.coordTrip q es)
  [false, true].foldl (fun t w =>
    if t.spanUp w then t.injSend 3 (if w then 1 else 0) 0 (spanMsg w (t.spanFrame w true 0 0x01 0xFF q (tripPayload es)))
    else t) s

/-- COORD_TRIP_SEND: at t0 + 2.5 µs the message of the trips stamped in [t0, t0 + 2 µs) is closed and sent; entries beyond the
32 of a message wait for the next one (R549). -/
def execCoordTripSend (s : State) : Host.Outcome State Fault Refusal :=
  match firstStamp s.tripQ with
  | none => .next s
  | some t0 =>
    if t0 + 2500 ≤ s.tbSec 0 * 1000000000 + s.tbNs 0 then
      let due := sortTrips (s.tripQ.filter fun e => e.stamp < t0 + 2000)
      let rest := s.tripQ.filter fun e => !(e.stamp < t0 + 2000)
      .next (({ s with tripQ := due.drop 32 ++ rest }).sendCoord (due.take 32))
    else .next s

end Sys2Proof.Machine
end

