-- ==== Sys2Proof/Machine/Trim.lean ====
section
/-! DEFINITION. Trim control and string current sharing (spec chapter 06): the sharing period with its
fractions, caps, loop and handovers, and the trim's register writes. -/

namespace Sys2Proof.Machine

/-- PERIOD in s (R270). -/
def State.sharePeriod (s : State) : Rat := (s.fld F.SHR_CFG_PERIOD : Rat) / 10000

/-- The sharing set: SHARE and FREEZE (R249). -/
def State.shareMember (s : State) (n : Nat) : Bool := s.tstate n == tsShare || s.tstate n == tsFreeze
def State.shareMembers (s : State) : List Nat := s.chans.filter fun n => s.shareMember n

/-- The current of the period just ended (R249); a GAP keeps the last good value (R259). -/
def State.takePeriod (s : State) (n : Nat) : State :=
  let t := s.trim n
  let gap := t.gapNow || t.perN == 0
  let i := if gap then t.iGood else t.perQ / (t.perN : Rat)
  let member := s.shareMember n
  let run := if gap then t.gapRun + 1 else 0
  let s := s.flagIf (gap && member) F.TRM_FLAGS_GAP_SKIP n
  let back := member && t.gapFrozen && !gap
  let s := s.setTrim n { t with
    iMeas := i, iGood := i, perQ := t.nextQ, perN := t.nextN, nextQ := 0, nextN := 0, gapNow := t.gapNext
    gapNext := false, gapRun := run
    gapFrozen := member && (if gap then t.gapFrozen || decide (3 ≤ run) else false)
    hoPending := t.hoPending || (back && s.tstate n == tsShare)
    gapSkip := gap }
  s.setSatFld F.TRM_LIVE_I_MEAS (roundFree 60 (i * 10)) n

/-- A channel whose handover is pending and that is ready to share enters SHARE (R256 steps 1 and 4). -/
def State.handover (s : State) (n : Nat) : State :=
  let t := s.trim n
  if ¬ t.hoPending ∨ ¬ s.bit F.PLK_STATE_TRIM_PRESENT n ∨ s.cstate n ≠ csReady ∨ s.bit F.PROT_STATE_BLOCKING n ∨ s.bit F.PROT_STATE_IN_LIMIT n then s
  else if ¬ s.bit F.TRM_CFG_SHARE_EN n then s.enterVolt n
  else
    let s := s.setFld F.TRM_STATE_TSTATE tsShare n
    let s := s.setBit F.TRM_STATE_HO_ACTIVE true n
    let s := s.flag F.TRM_FLAGS_HANDOVER n
    s.setTrim n { t with hoPending := false, hoAt := s.now, vInt := t.vModel, vCmd := t.vModel, gapFrozen := false }

/-- A member whose target is 0 whatever the weights: a zero request (R510), or DISCHARGE_ONLY while charging (R250). -/
def State.shareNone (s : State) (itot : Rat) (n : Nat) : Bool :=
  (s.trim n).zeroAt.isSome || (decide (itot < 0) && s.bit F.PROT_CFG_DISCHARGE_ONLY n)

/-- The weight of a member before normalizing (R250, R510). -/
def State.shareWeight (s : State) (itot : Rat) (n : Nat) : Rat :=
  if s.shareNone itot n then 0
  else if s.bit F.SHR_CFG_SRC then (s.fld F.SHR_W_W n : Rat) / 1000
  else (s.trim n).fDsp

/-- Target fractions: normalized weights; equal when every weight is 0 (R250).  Where the only weights are those of members
held at 0, the others share equally, so that the fractions sum to 1; with every member held at 0 all do (the model's
choice, log 166). -/
def State.shareTargets (s : State) (itot : Rat) (ms : List Nat) : List (Nat × Rat) :=
  let ws := ms.map fun n => (n, s.shareWeight itot n)
  let sum := ws.foldl (fun a e => a + e.2) 0
  let free := (ms.filter fun n => !s.shareNone itot n).length
  if sum ≠ 0 then ws.map fun e => (e.1, e.2 / sum)
  else if free = 0 then ms.map fun n => (n, 1 / (ms.length : Rat))
  else ms.map fun n => (n, if s.shareNone itot n then 0 else 1 / (free : Rat))

/-- Fractions are held to 2^−24 (R251). -/
def frac24 (x : Rat) : Rat := (roundFree 61 (x * 16777216) : Rat) / 16777216

/-- SHR_FRAC (R274), F_eff and F_tgt rounded to 1/65,536. -/
def State.showFrac (s : State) (n : Nat) : State :=
  let t := s.trim n
  let s := s.setFld F.SHR_FRAC_F_EFF (satNat 65535 (roundNear 62 (t.fEff * 65536)).toNat) n
  s.setFld F.SHR_FRAC_F_TGT (satNat 65535 (roundNear 63 (t.fTgt * 65536)).toNat) n

/-- Every member's F_eff reseeded (R256 step 2). -/
def State.reseedAll (s : State) (itot : Rat) (ms : List Nat) (tg : List (Nat × Rat)) : State :=
  let small := decide (absQ itot < amps (s.fld F.SHR_CFG2_I_SH_MIN))
  ms.foldl (fun t n =>
    let x := t.trim n
    let f := if small then frac24 (((tg.find? fun e => e.1 == n).map Prod.snd).getD 0) else frac24 (x.iMeas / itot)
    t.setTrim n { x with fEff := f }) s

/-- Start an interpolation from the present F_eff to the targets (R251, R510). -/
def State.startMove (s : State) (itot : Rat) (tg : List (Nat × Rat)) : State :=
  let far := tg.foldl (fun m e => maxQ m (absQ (e.2 - (s.trim e.1).fEff) * absQ itot)) 0
  let p := s.sharePeriod
  let time := if s.share.forced then 4 / 5 else maxQ p (far / (s.fld F.SHR_CFG_SHR_RAMP : Rat))
  let s := tg.foldl (fun t e => t.setTrim e.1 { t.trim e.1 with fStart := (t.trim e.1).fEff, fTgt := frac24 e.2 }) s
  let s := { s with share := { s.share with moveLeft := time, moveTotal := time, forced := false } }
  s.setBit F.SHR_STATE_MOVING true

/-- One period of a running interpolation (R251). -/
def State.advanceMove (s : State) (ms : List Nat) : State :=
  if ¬ s.bit F.SHR_STATE_MOVING then s
  else
    let left := maxQ 0 (s.share.moveLeft - s.sharePeriod)
    let tot := s.share.moveTotal
    let s := { s with share := { s.share with moveLeft := left } }
    let s := ms.foldl (fun t n =>
      let x := t.trim n
      let f := if left = 0 ∨ tot = 0 then x.fTgt else frac24 (x.fTgt - (x.fTgt - x.fStart) * (left / tot))
      t.setTrim n { x with fEff := f }) s
    s.setBit F.SHR_STATE_MOVING (left != 0)

/-- The cap of R252 in A. -/
def State.shareCap (s : State) (n : Nat) : Rat := amps (s.fld F.PROT_SLOWACC_ITRIP_SLOW_EFF n) * 95 / 100

/-- Reference currents with the one pass over the caps (R252): I_SAT marks the members that the pass pushes over their cap,
SHARE_SAT that any member is held at its cap. -/
def State.references (s : State) (itot : Rat) (ms : List Nat) : State :=
  let raw := ms.map fun n => (n, (s.trim n).fEff * itot)
  let capped (e : Nat × Rat) : Bool := decide (s.shareCap e.1 < absQ e.2)
  let excess := raw.foldl (fun a e => if capped e then a + (absQ e.2 - s.shareCap e.1) * sgnQ e.2 else a) 0
  let room := raw.foldl (fun a e => if capped e then a else a + (s.trim e.1).fEff) 0
  let s := raw.foldl (fun t e =>
    let cap := t.shareCap e.1
    let f := (t.trim e.1).fEff
    let i := if capped e then cap * sgnQ e.2 else if room = 0 then e.2 else e.2 + excess * f / room
    let pushed := decide (cap < absQ i)
    let i := if pushed then cap * sgnQ i else i
    let t := t.flagIf (pushed && !(t.trim e.1).iSat) F.TRM_FLAGS_I_SAT e.1
    let t := t.setTrim e.1 { t.trim e.1 with iRef := i, iSat := pushed }
    t.setSatFld F.TRM_LIVE_I_REF (roundFree 64 (i * 10)) e.1) s
  let any := raw.any fun e => capped e || (s.trim e.1).iSat
  let was := s.bit F.SHR_STATE_SHARE_SAT
  let s := s.setBit F.SHR_STATE_SHARE_SAT any
  if any ∧ ¬ was then s.event 0x04 0 false else s

/-- V_cmd is sent as a 5 mV code; SAT, SAT_DIR and TRIM_SAT follow (R253, R254). -/
def State.sendVcmd (s : State) (n : Nat) (v lim : Rat) : State :=
  let c := clampQ (-lim) lim v
  let sat := decide (lim ≤ absQ c)
  let low := sat && decide (c < 0)
  let new := !s.bit F.TRM_STATE_SAT n || s.bit F.TRM_STATE_SAT_DIR n != low
  let s := s.flagIf (sat && new) F.TRM_FLAGS_TRIM_SAT n
  let s := s.setBit F.TRM_STATE_SAT sat n
  let s := s.setBit F.TRM_STATE_SAT_DIR low n
  s.setTrim n { s.trim n with vCmd := c, vTgt := code5mV c }

/-- One update of one member in SHARE (R253, R257, R259). -/
def State.shareUpdate (s : State) (n : Nat) : State :=
  let t := s.trim n
  if s.tstate n ≠ tsShare ∨ t.gapSkip ∨ t.gapFrozen then s
  else
    let e := t.iRef - t.iMeas
    let bump := s.bit F.TRM_STATE_HO_ACTIVE n && decide (amps (s.fld F.TRM_CFG_DI_HANDOVER n) < absQ e)
    let s := s.flagIf bump F.TRM_FLAGS_HO_BUMP n
    let s := if bump then s.setSatFld F.TRM_LIVE_I_REF (roundFree 64 (t.iMeas * 10)) n else s
    let t := if bump then { t with iRef := t.iMeas, vInt := t.vModel } else t
    let e := if bump then 0 else e
    let ki : Rat := (s.fld F.TRM_GAIN_KI n : Rat) / 10000
    let kp : Rat := (s.fld F.TRM_GAIN_KP n : Rat) / 10000
    let dir : Rat := if s.bit F.TRM_STATE_SAT_DIR n then -1 else 1
    let hold := s.bit F.TRM_STATE_SAT n && decide (sgnQ e = dir)
    let vi := if hold then t.vInt else t.vInt + ki * e * (1000 * s.sharePeriod)
    let s := s.setTrim n { t with vInt := vi }
    s.sendVcmd n (vi + kp * e) (s.trimLimit n)

/-- The common step of every V_int in SHARE towards a mean of 0 V (R255), and TRM_LOOP; a member that a GAP freezes is
treated as FREEZE (R259). -/
def State.centre (s : State) (ms : List Nat) : State :=
  let sh := ms.filter fun n => s.tstate n == tsShare && !(s.trim n).gapFrozen
  if sh.isEmpty then s
  else
    let m := (sh.foldl (fun a n => a + (s.trim n).vInt) 0) / (sh.length : Rat)
    let step := sgnQ m * minQ (absQ m) ((s.fld F.SHR_CFG2_CENTRE_RATE : Rat) / 100 * s.sharePeriod)
    sh.foldl (fun t n =>
      let v := (t.trim n).vInt - step
      (t.setTrim n { t.trim n with vInt := v }).setSatFld F.TRM_LOOP_V_INT (roundFree 65 (v * 100)) n) s

/-- The boundary that SHARE_PERIOD stands for (R249): the one that is due, where it is less than a period ago, else now;
the next period ends one PERIOD later. -/
def State.nextDue (s : State) : Nat :=
  let p := 100000 * s.fld F.SHR_CFG_PERIOD
  match s.share.due with
  | some e => if e ≤ s.now ∧ s.now < e + p then e + p else s.now + p
  | none => s.now + p

/-- One sharing period boundary (R249 to R259). -/
def State.shareBoundary (s : State) : State :=
  let s := { s with share := { s.share with due := some s.nextDue } }
  let s := s.chans.foldl (fun t n => if t.lstate n = lsAdmitted then t.takePeriod n else t) s
  let waiting := s.chans.filter fun n => (s.trim n).hoPending
  let s := s.chans.foldl (fun t n => (t.handover n).vsetTarget n) s
  let ms := s.shareMembers
  let mask := maskOf ms
  let changed := mask != s.share.members
  let s := { s with share := { s.share with members := mask } }
  let s := s.setFld F.SHR_STATE_MEMBERS ms.length
  let itot := ms.foldl (fun a n => a + (s.trim n).iMeas) 0
  let s := s.setSatFld F.SHR_ITOT_I_TOT (roundFree 66 (itot * 10))
  if ms.isEmpty then (s.setBit F.SHR_STATE_MOVING false).setBit F.SHR_STATE_SHARE_SAT false
  else
    let tg := s.shareTargets itot ms
    let took := waiting.any fun n => s.tstate n == tsShare && !(s.trim n).hoPending
    let reseed := took || (changed && s.bit F.SHR_STATE_MOVING)
    let s := if reseed then s.reseedAll itot ms tg else s
    let moved := tg.any fun e => frac24 e.2 != (s.trim e.1).fTgt
    let s := if reseed || moved || changed || s.share.forced then s.startMove itot tg else s.advanceMove ms
    let s := s.references itot ms
    let s := ms.foldl (fun t n => t.shareUpdate n) s
    let s := s.centre ms
    ms.foldl (fun t n => t.showFrac n) s

/-- SHARE_PERIOD. -/
def execSharePeriod (s : State) : Host.Outcome State Fault Refusal := .next s.shareBoundary

/-- HANDOVER_WINDOW_END: 20 ms after a handover (R256). -/
def execHandoverWindowEnd (ch : Fin 32) (s : State) : Host.Outcome State Fault Refusal :=
  .next (if s.bit F.TRM_STATE_HO_ACTIVE ch ∧ s.elapsed (s.trim ch).hoAt 20000000 then
    s.setBit F.TRM_STATE_HO_ACTIVE false ch else s)

/-- A write of SHARE_EN (R247): SHARE to VOLT, VOLT to SHARE by handover; a channel in HOLD or OFF that is ready to share
takes the path that the new value chooses (R261). -/
def State.shareEnWritten (s : State) (n : Nat) : State :=
  if s.bit F.TRM_CFG_SHARE_EN n then
    if s.tstate n = tsVolt then s.setTrim n { s.trim n with hoPending := true } else s.shareStart n
  else if s.tstate n = tsShare then s.enterVolt n
  else if s.tstate n = tsVolt then s.setTrim n { s.trim n with hoPending := false }
  else s.shareStart n

/-- TRM_CFG_WRITE. -/
def execTrmCfgWrite (sess : Fin 256) (ch : Fin 32) (value : Word) (s : State) :
    Host.Outcome State Fault Refusal :=
  .next (s.sessionWrite sess .TRM_CFG ch 0 value.toNat (fun _ => true) fun t => t.shareEnWritten ch)

/-- TRM_VSET_WRITE (R245, R254, R265). -/
def execTrmVsetWrite (sess : Fin 256) (ch : Fin 32) (value : Word) (s : State) :
    Host.Outcome State Fault Refusal :=
  .next (s.sessionWrite sess .TRM_VSET ch 0 value.toNat (fun _ => true) fun t => t.vsetTarget ch)

/-- The 10 ms means of streams 4 and 0 (R260). -/
def State.trimCompare (s : State) (n : Nat) : State :=
  let t := s.trim n
  let a := t.cmpI / (t.cmpN : Rat)
  let b := t.cmpT / (t.cmpN : Rat)
  let st := s.tstate n
  let bad := decide (maxQ (maxQ (absQ a) (absQ b) / 20) 10 < absQ (a - b)) &&
    (st == tsShare || st == tsVolt || st == tsFreeze)
  let k := bandCount bad t.imis
  let s := s.setTrim n { t with cmpI := 0, cmpT := 0, cmpN := 0, imis := k }
  if k = 10 then
    (s.flag F.TRM_FLAGS_TRIM_IMISMATCH n).setAlmCh n { s.almCh n with imis := (s.almCh n).imis + 1 }
  else s

/-- TRIM_CURRENT_COMPARE. -/
def execTrimCurrentCompare (ch : Fin 32) (s : State) : Host.Outcome State Fault Refusal :=
  if s.present ch ∧ s.counting ch ∧ s.bit F.PLK_STATE_TRIM_PRESENT ch ∧ (s.trim ch).cmpN ≠ 0 then
    .next (s.trimCompare ch)
  else .next s

end Sys2Proof.Machine
end

