-- ==== Sys2Proof/Machine/Services.lean ====
section
/-! DEFINITION. Dispatch and container services (spec chapter 13): requests, fractions and limits, zero
requests, events, balancing, HVAC requests and the event recorder. -/

namespace Sys2Proof.Machine

/-! ### Requests (R504, R519) -/

/-- Dispatch turns requests away (R504). -/
def State.reqClosed (s : State) : Bool :=
  s.phase != 4 || s.safe || s.sup.pd != .none || s.bit F.PROT_BUS_STATE_WARN

/-- The last 100 ms instant A of time base 0 (R456). -/
def State.aggInstant (s : State) : Int := s.tb0 / 100000000 * 100000000

/-- A request accepted after the instant A leaves the earlier one in force for A's pass (R519). -/
def State.keepRequest (s : State) : State :=
  if s.dsp.reqAt = s.aggInstant then s
  else { s with dsp := { s.dsp with reqAt := s.aggInstant, reqOld := s.reg .DSP_REQ } }

/-- DSP_REQ_WRITE: refused with REQ_REFUSED in the cases of R504. -/
def execDspReqWrite (sess : Fin 256) (value : Word) (s : State) : Host.Outcome State Fault Refusal :=
  let bad := s.reqClosed
  let old := s.keepRequest.dsp
  .next (((s.sessionWrite sess .DSP_REQ 0 0 value.toNat (fun _ => !bad) fun t => { t with dsp := old })).flagIf
    (bad && !s.sup.inReset) F.DSP_FLAGS_REQ_REFUSED)

/-- DSP_REQ as it was at the instant A (R519). -/
def State.reqAt (s : State) (a : Int) : Nat :=
  if s.dsp.reqAt = a ∧ a ≠ 0 then s.dsp.reqOld else s.reg .DSP_REQ

/-! ### Available currents (R505) -/

/-- The READY channels. -/
def State.readyChans (s : State) : List Nat := s.chans.filter fun n => s.cstate n == csReady

/-- A_n in A for a horizon and direction; strings of `gone` count 0 (R505, R509). -/
def State.available (s : State) (gone n h : Nat) (charge : Bool) : Rat :=
  if s.cstate n ≠ csReady ∨ bitOf gone n ∨ ¬ s.bit F.EST_STR_CNT_VALID n ∨ s.bit F.PROT_STATE_BLOCKING n ∨
      (charge ∧ s.bit F.PROT_CFG_DISCHARGE_ONLY n) then 0
  else
    let i := if charge then s.fld F.EST_STR_SOPC_I n h else s.fld F.EST_STR_SOPD_I n h
    minQ (amps i) (s.shareCap n)

/-- Vbus_med in V (R214). -/
def State.vbusMed (s : State) : Rat := (s.sfld F.PROT_BUS_STATE_VBUS_MED : Rat) / 10

/-- I_tot over the sharing set (R249). -/
def State.iTot (s : State) : Rat := (s.shareMembers.map fun n => (s.trim n).iMeas).foldl (· + ·) 0

/-! ### Fractions (R506) -/

/-- A list of weights as fractions; equal ones when every weight is 0. -/
def normalize (ws : List Rat) : List Rat :=
  let t := ws.foldl (· + ·) 0
  if t = 0 then ws.map fun _ => 1 / (ws.length : Rat) else ws.map fun w => w / t

/-- String SOC of R454. -/
def State.strSoc (s : State) (n : Nat) : Rat := (s.fld F.EST_STR_SOC_SOC n : Rat) / 10000

/-- The SOC weight w_n. -/
def State.socWeight (s : State) (a socM : Rat) (n : Nat) (charge : Bool) : Rat :=
  let d := (s.fld F.DSP_CFG_KSOC : Rat) / 10 * (s.strSoc n - socM)
  a * clampQ (1 / 2) (3 / 2) (if charge then 1 - d else 1 + d)

/-- F at β = b / 16. -/
def blend (b : Nat) (fw fa : List Rat) : List Rat :=
  let x : Rat := (b : Rat) / 16
  List.zipWith (fun w a => (1 - x) * w + x * a) fw fa

/-- Every member stays within its A_n. -/
def fits (iDem : Rat) (f a : List Rat) : Bool := (List.zipWith (fun x y => decide (iDem * x ≤ y)) f a).all id

/-- The smallest β in 1/16 that fits, if any. -/
def leastBeta (iDem : Rat) (fw fa a : List Rat) : Option Nat :=
  (List.range 17).find? fun b => fits iDem (blend b fw fa) a

/-! ### Limits (R508) -/

/-- Net charge of a channel in C. -/
def State.netCharge (s : State) (n : Nat) : Rat := coulombs (s.qDis n) - coulombs (s.qChg n)

/-- The share of READY non-member n in the container current: over the last 5 s, or 1 / READY strings when I_tot is
small (R508).  Where the container carried no charge the spec states no share. -/
def State.nonShare (s : State) (ready : List Nat) (n : Nat) : Rat :=
  if absQ s.iTot < amps (s.fld F.SHR_CFG2_I_SH_MIN) then 1 / (ready.length : Rat)
  else
    let old := (s.dsp.hist.getLast?.map fun e => e.2).getD []
    let d (m : Nat) : Rat := s.netCharge m - old.getD m 0
    let t := (ready.map d).foldl (· + ·) 0
    if t = 0 then (s.free 140 : Rat) else d n / t

/-- The least of some values, if any. -/
def leastOf (xs : List Rat) : Option Rat :=
  match xs with
  | [] => none
  | x :: rest => some (rest.foldl minQ x)

/-- I_C for a horizon and direction. -/
def State.limitCurrent (s : State) (gone h : Nat) (charge : Bool) : Rat :=
  let ready := s.readyChans
  if ready.isEmpty ∨ s.phase ≠ 4 then 0
  else
    let ms := s.shareMembers
    let non := ready.filter fun n => !(ms.contains n)
    let a (n : Nat) : Rat := s.available gone n h charge
    let shares := non.map fun n => (n, s.nonShare ready n)
    let sNon : Rat := (shares.map fun e => e.2).foldl (· + ·) 0
    let first : List Rat := if ms.isEmpty ∨ 1 ≤ sNon then [] else [((ms.map a).foldl (· + ·) 0) / (1 - sNon)]
    let second := (shares.filter fun e => e.2 != 0).map fun e => a e.1 / e.2
    (leastOf (first ++ second ++ [(ready.map a).foldl (· + ·) 0])).getD 0

/-- Compute and publish the limits; `gone` are the strings whose A_n is 0 until the next pass (R508, R509). -/
def State.publishLimits (s : State) (gone : Nat) : State :=
  let v := s.vbusMed
  let hz := s.fld F.DSP_CFG_HZN
  let lim (h : Nat) (c : Bool) : Nat :=
    satNat 0xFFFFFFFF (roundFree 141 (s.limitCurrent gone h c * v / 100)).toNat
  let cur (c : Bool) : Nat := satNat 0xFFFF (roundFree 142 (s.limitCurrent gone hz c)).toNat
  let dis := (List.range 4).map fun h => lim h false
  let chg := (List.range 4).map fun h => lim h true
  let s' := (List.range 4).foldl (fun t h =>
    (t.setReg .DSP_LIM_DIS h 0 (dis.getD h 0)).setReg .DSP_LIM_CHG h 0 (chg.getD h 0)) s
  let s' := s'.setFld F.DSP_LIM_I_I_DIS (cur false)
  let s' := s'.setFld F.DSP_LIM_I_I_CHG (cur true)
  (s'.publish .pcsLimits (dis ++ chg ++ [cur false, cur true, s'.reg .DSP_LIM_STAMP])).draw

/-- |P_REQ| exceeds the published limit of HZN_REQ in its direction (R509). -/
def State.reqExceeds (s : State) (req : Nat) : Bool :=
  let p := toSigned 24 (bitsGet req 0 24)
  let h := bitsGet req 24 2
  let lim := if p < 0 then s.reg .DSP_LIM_CHG h else s.reg .DSP_LIM_DIS h
  decide ((lim : Int) < 10 * (p.natAbs : Int))

/-- The REQ_LIMITED condition holds: LIMITED shows it, REQ_LIMITED sets and its event is queued as it begins (R37, R509,
R522), and in charge it suspends balancing (R513). -/
def State.reqLimited (s : State) : State :=
  let s := if s.bit F.DSP_STATE_LIMITED then s
    else ((s.flag F.DSP_FLAGS_REQ_LIMITED).event 0x08 0 false).setBit F.DSP_STATE_LIMITED true
  if s.bit F.DSP_STATE_DIR then s.chans.foldl State.balStop s else s

/-! ### The pass (R505 to R508) -/

/-- Note the net charges of this pass, and keep those of the last 5 s. -/
def State.noteCharge (s : State) : State :=
  let now := s.tb0
  let e := (now, (List.range 32).map fun n => s.netCharge n)
  { s with dsp := { s.dsp with hist := e :: s.dsp.hist.filter fun x => decide (now - 5000000000 ≤ x.1) } }

/-- One dispatch pass for the instant a. -/
def State.dispatchPass (s : State) (a : Int) : State :=
  let req := s.reqAt a
  let p : Rat := (toSigned 24 (bitsGet req 0 24) : Rat)
  let iTot := s.iTot
  let charge := decide (if p = 0 then iTot < 0 else p < 0)
  let v := s.vbusMed
  -- with Vbus_med = 0 the spec states no quotient
  let iReq : Rat := if v = 0 then (s.free 143 : Rat) else absQ (p * 1000 / v)
  let iDem := maxQ iReq (absQ iTot)
  let hz := s.fld F.DSP_CFG_HZN
  let ms := s.shareMembers
  let av := ms.map fun n => s.available 0 n hz charge
  let socM := if ms.isEmpty then 0 else ((ms.map fun n => s.strSoc n).foldl (· + ·) 0) / (ms.length : Rat)
  let fw := normalize (ms.map fun n => s.socWeight (s.available 0 n hz charge) socM n charge)
  let fa := normalize av
  let best := leastBeta iDem fw fa av
  let b := best.getD 16
  let f := blend b fw fa
  let hyst : Rat := (s.fld F.DSP_CFG_HYST : Rat) / 4096
  let moved := (List.zipWith (fun n x => decide (hyst ≤ absQ (x - (s.trim n).fTgt))) ms f).any id
  let write := !s.bit F.SHR_CFG_SRC && (moved || maskOf ms != s.dsp.members || charge != s.dsp.charge)
  let s := s.draw
  let s := if write then (List.zip ms f).foldl (fun t e => t.setTrim e.1 { t.trim e.1 with fDsp := e.2 }) s else s
  let s := s.chans.foldl (fun t n =>
    let t := t.setFld F.DSP_STR_A_A (satNat 0xFFFF (roundFree 144 (10 * s.available 0 n hz charge)).toNat) n
    t.setFld F.DSP_STR_A_I_CAP (satNat 0xFFFF (roundFree 145 (10 * s.shareCap n)).toNat) n) s
  let s := s.noteCharge
  let s := { s with dsp := { s.dsp with charge := charge, members := maskOf ms, due := 0, affected := 0 } }
  let s := s.flagIf (b != 0 && s.fld F.DSP_STATE_BETA == 0) F.DSP_FLAGS_BAL_YIELD
  let s := s.setFld F.DSP_STATE_BETA b
  let s := s.setBit F.DSP_STATE_DIR charge
  let s := s.setFld F.DSP_STATE_MEMBERS ms.length
  let s := s.setFld F.DSP_STATE_I_DEM (satNat 0xFFFF (roundFree 146 iDem).toNat)
  let s := s.setReg .DSP_LIM_STAMP 0 0 ((a / 100000000) % 2 ^ 32).toNat
  let s := s.publishLimits 0
  if best.isNone || s.reqExceeds req then s.reqLimited else s.setBit F.DSP_STATE_LIMITED false

/-- DISPATCH_PASS: at the last aggregate instant, while dispatch is enabled. -/
def execDispatchPass (s : State) : Host.Outcome State Fault Refusal :=
  .next (if ¬ s.sup.inReset ∧ s.bit F.DSP_CFG_DSP_EN then s.dispatchPass s.aggInstant else s)

/-- LIMIT_REPUBLISH: a READY channel left READY, entered limit or started BLOCKING; its A_n counts 0 until the
next pass (R509). -/
def execLimitRepublish (ch : Fin 32) (s : State) : Host.Outcome State Fault Refusal :=
  .next (if ¬ bitOf s.dsp.due ch then s
  else
    let s := { s with dsp := { s.dsp with due := bitPut s.dsp.due ch false } }
    let s := (s.flag F.DSP_FLAGS_LIMIT_EVENT).publishLimits s.dsp.affected
    if s.reqExceeds (s.reg .DSP_REQ) then s.reqLimited else s)

/-- ZERO_REQ_OPEN: OPEN at |I_meas| ≤ 20 A, at the latest 1 s after the request; a non-member at 1 s (R510). -/
def execZeroReqOpen (ch : Fin 32) (s : State) : Host.Outcome State Fault Refusal :=
  let t := s.trim ch
  match t.zeroAt with
  | none => .next s
  | some z =>
    let low := s.shareMember ch && decide (absQ t.iMeas ≤ 20)
    if s.cstate ch ≠ csReady then .next (s.setTrim ch { t with zeroAt := none })
    else if low ∨ s.elapsed z 1000000000 then
      finish ((s.setTrim ch { t with zeroAt := none }).openCommand ch)
    else .next s

/-! ### Events (R511) -/

/-- DSP_EVT_READ: the oldest word is returned and removed; an empty FIFO reads 0. -/
def execDspEvtRead (who : Fin 384) (s : State) : Host.Outcome State Fault Refusal :=
  let s := if who.val < 256 then s.touch who else s
  .next (if ¬ s.reader who then s.answer .refused
  else match s.evtFifo with
    | [] => s.answer (.ok 0)
    | w :: rest => ({ s with evtFifo := rest }).answer (.ok w))

/-- DSP_ACK_WRITE: the pending events of this code and channel are acknowledged. -/
def execDspAckWrite (sess : Fin 256) (value : Word) (s : State) : Host.Outcome State Fault Refusal :=
  let e := (bitsGet value.toNat 0 8, bitsGet value.toNat 8 5)
  .next (s.sessionCommand sess .DSP_ACK 0 0 value.toNat true fun t =>
    { t with evtPending := t.evtPending.filter fun x => x != e })

/-! ### Balancing (R512, R513) -/

/-- Eligible to bleed, against the lowest filter soc. -/
def State.balEligible (s : State) (k : Nat) : Bool :=
  let c := s.cell k
  match s.cellPlace k with
  | none => false
  | some (p, _) =>
    let n := k / 512
    let x := s.node n p
    c.estate == 4 && decide (c.sigma ≤ (s.fld F.DSP_BAL_CFG2_BAL_SIGMA : Rat) / 1000) &&
    decide (c.tCell ≤ (s.fld F.DSP_BAL_CFG2_BAL_TMAX : Rat)) &&
    s.nstate n p == ndAdmitted && bitOf x.caps 0 && !bitOf x.lastFlags 4

/-- The cell is to bleed: it starts at BAL_DSOC above the reference and goes on until half of it. -/
def State.balWants (s : State) (ref : Rat) (k : Nat) : Bool :=
  let d : Rat := (s.fld F.DSP_BAL_CFG_BAL_DSOC : Rat) / 1000
  let x := (s.cell k).soc - ref
  s.balEligible k && (if s.dsp.bleeding.contains k then decide (d / 2 < x) else decide (d ≤ x))

/-- Insert by falling soc; equal ones keep their order. -/
def insertSoc (s : State) (k : Nat) (ks : List Nat) : List Nat :=
  match ks with
  | [] => [k]
  | j :: rest => if (s.cell j).soc < (s.cell k).soc then k :: j :: rest else j :: insertSoc s k rest

/-- The cells of a node that bleed after this pass: the highest soc first, at most BAL_MAXN. -/
def State.balChoose (s : State) (ref : Rat) (n p : Nat) : List Nat :=
  let ks := (s.nodeCells n p).filter fun k => s.balWants ref k
  (ks.foldl (fun l k => insertSoc s k l) []).take (s.fld F.DSP_BAL_CFG_BAL_MAXN)

/-- The node's BAL or BAL_STOP after its cells change from `old` to `new` (R412, R413). -/
def State.balSend (s : State) (n p : Nat) (old new : List Nat) : State :=
  let mask := maskOf (new.filterMap fun k => (s.cellPlace k).map fun e => e.2)
  let time := 10 * s.fld F.DSP_BAL_CFG_BAL_ON_T
  if ¬ new.isEmpty then s.nodeCmd n p 0x10 0 (leBytes 4 mask ++ leBytes 2 time)
  else if ¬ old.isEmpty then s.nodeCmd n p 0x11 0 []
  else s

/-- Balancing of string n is suspended (R513). -/
def State.balSuspended (s : State) (n : Nat) : Bool :=
  (s.trim n).zeroAt.isSome || !s.bit F.EST_STR_CNT_VALID n ||
  (s.bit F.DSP_STATE_LIMITED && s.bit F.DSP_STATE_DIR)

/-- The balancing pass of string n. -/
def State.balString (s : State) (n : Nat) : State :=
  let others := s.dsp.bleeding.filter fun k => k / 512 != n
  if s.balSuspended n then s.balStop n
  else
    let s := s.setBit F.DSP_STR_BAL_SUSPENDED false n
    let track := (s.stringCells n).filter fun k => (s.cell k).estate == 4
    let ref := (minOver track fun k => (s.cell k).soc).1
    let picks := (s.balNodes n).map fun p => (p, s.balChoose ref n p)
    let t := picks.foldl (fun t e =>
      t.balSend n e.1 (s.dsp.bleeding.filter fun k => (s.nodeCells n e.1).contains k) e.2) s
    let new := picks.flatMap fun e => e.2
    ({ t with dsp := { t.dsp with bleeding := others ++ new } }).setFld F.DSP_STR_BAL_BLEEDING new.length n

/-- BAL_PASS: every string whose chain is in RUN, with BAL_MODE = 1. -/
def execBalPass (s : State) : Host.Outcome State Fault Refusal :=
  .next (if s.fld F.DSP_BAL_CFG_BAL_MODE ≠ 1 then s
  else s.chans.foldl (fun t n => if t.hstate n = hrRun ∧ ¬ t.hrFenced n then t.balString n else t) s)

/-- DSP_BAL_CFG_WRITE: DSP_BAL_CFG or DSP_BAL_CFG2; BAL_ON_T below 2 × BAL_PERIOD is refused (R526). -/
def execDspBalCfgWrite (sess : Fin 256) (second : Bool) (value : Word) (s : State) :
    Host.Outcome State Fault Refusal :=
  let per := s.fld F.DSP_BAL_CFG2_BAL_PERIOD
  let on := s.fld F.DSP_BAL_CFG_BAL_ON_T
  .next (if second then
    s.sessionWrite sess .DSP_BAL_CFG2 0 0 value.toNat (fun w => 2 * bitsGet w 16 8 ≤ on) id
  else s.sessionWrite sess .DSP_BAL_CFG 0 0 value.toNat (fun w => 2 * per ≤ bitsGet w 24 8) id)

/-! ### HVAC requests (R514) -/

/-- The mapped cells of the device. -/
def State.mappedCells (s : State) : List Nat := s.chans.flatMap fun n => s.stringCells n

/-- The mode that follows from the temperatures, and whether COOL and HEAT are due together. -/
def State.hvacMode (s : State) (was : Nat) (hi lo : Rat) : Nat × Bool :=
  let c : Rat := (s.sfld F.DSP_HVAC_CFG_T_COOL_ON : Rat)
  let h : Rat := (s.sfld F.DSP_HVAC_CFG_T_HEAT_ON : Rat)
  let y : Rat := (s.fld F.DSP_HVAC_CFG_HYST : Rat)
  let cool := decide (c ≤ hi) || (was == 1 && !decide (hi ≤ c - y))
  let heat := decide (lo ≤ h) || (was == 2 && !decide (h + y ≤ lo))
  (if cool then 1 else if heat then 2 else 0, decide (c ≤ hi) && decide (lo ≤ h))

/-- One evaluation.  Without a valid temperature the spec states no T_hi and T_lo. -/
def State.hvacEval (s : State) : State :=
  let ks := s.mappedCells
  let ok := ks.filter fun k => !(s.cell k).tempStale
  let minv := s.fld F.DSP_HVAC_CFG2_HV_MINVALID
  let was := s.fld F.DSP_HVAC_MODE
  let short := decide (100 * ok.length < minv * ks.length) ||
    (was == 3 && decide (100 * ok.length ≤ minv * ks.length))
  let free (tag : Nat) : Rat := (toSigned 16 (s.free tag) : Rat) / 10
  let hi := if ok.isEmpty then free 147 else -(minOver ok fun k => -(s.cell k).tCell).1
  let lo := if ok.isEmpty then free 148 else (minOver ok fun k => (s.cell k).tCell).1
  let m := s.hvacMode (if was = 3 then 0 else was) hi lo
  let tgt : Rat := (s.sfld F.DSP_HVAC_CFG_T_TARGET : Rat)
  let spOf (x : Rat) : Int := roundFree 149
    (clampQ (s.sfld F.DSP_HVAC_CFG2_SP_MIN : Rat) (s.sfld F.DSP_HVAC_CFG2_SP_MAX : Rat) (2 * tgt - x))
  let mode := if short then 3 else m.1
  let sp := if short then s.sfld F.DSP_HVAC_CFG2_SP_FAIL
    else if m.1 = 1 then spOf hi else if m.1 = 2 then spOf lo else s.sfld F.DSP_HVAC_CFG_T_TARGET
  let s := s.draw
  let s := if short ∧ was ≠ 3 then (s.flag F.DSP_FLAGS_HVAC_FAILSAFE).event 0x09 0 true else s
  let spread := !short && m.2
  let s := s.flagIf (spread && !s.dsp.spread) F.DSP_FLAGS_SPREAD
  let s := { s with dsp := { s.dsp with spread := spread } }
  let s := s.setFld F.DSP_HVAC_MODE mode
  let s := s.setSFld F.DSP_HVAC_SP sp
  let s := s.setSatFld F.DSP_HVAC_T_T_HI (roundFree 150 (10 * hi))
  let s := s.setSatFld F.DSP_HVAC_T_T_LO (roundFree 151 (10 * lo))
  s.publish .hvac [mode, ofSigned 8 sp]

/-- HVAC_EVAL. -/
def execHvacEval (s : State) : Host.Outcome State Fault Refusal :=
  .next (if s.sup.inReset then s else s.hvacEval)

/-! ### The event recorder (R515 to R517) -/

/-- The capture freezes: REC_TRIG, the event and the Ledger record of the cause, the channel and the stamp. -/
def State.recFreeze (s : State) : State :=
  let s := s.setFld F.DSP_REC_STATE_RSTATE 3
  let s := (s.flag F.DSP_FLAGS_REC_TRIG).event 0x0A 0 false
  let s := { s with recorder := { s.recorder with trigPending := false, left := 0 } }
  s.ledger 0x38 [s.fld F.DSP_REC_TRIG_CAUSE, s.fld F.DSP_REC_TRIG_CHANNEL, s.reg .DSP_REC_STAMP 0,
    s.reg .DSP_REC_STAMP 1]

/-- The address of a frame. -/
def frameAddr (f : Nat) : Nat := 0x1002400000 + 50240 * f

/-- The bytes of STR[n] (R516). -/
def snapBytes (x : Snap) : List Nat :=
  [x.cst, x.flags, 0, 0] ++ leBytes 4 (ofSigned 32 x.mean) ++
  leBytes 2 (ofSigned 16 (clampInt (-0x8000) 0x7FFF (roundFree 152 (10 * x.vstr)))) ++
  leBytes 2 (ofSigned 16 (clampInt (-0x8000) 0x7FFF (roundFree 153 (10 * x.vbus)))) ++
  leBytes 2 (satNat 0xFFFF (roundFree 154 (10 * x.peak)).toNat) ++ List.replicate 18 0

/-- The bytes of a frame before its cells. -/
def frameHead (r : RecInst) (trig : Bool) : List Nat :=
  let strs := (List.range 32).flatMap fun n =>
    match r.snaps.find? fun x => x.ch == n with
    | some x => snapBytes x
    | none => List.replicate 32 0
  leBytes 4 (r.k % 2 ^ 32) ++ leBytes 6 (r.tns / 1000000000).toNat ++ leBytes 4 (r.tns % 1000000000).toNat ++
  leBytes 2 ((if trig then 1 else 0) + (if r.notPlant then 2 else 0)) ++ List.replicate 48 0 ++ strs

/-- Write frame f for an instant (R516). -/
def State.putFrame (s : State) (f : Nat) (r : RecInst) (trig : Bool) : State :=
  let m := memPutBytes s.mem (frameAddr f) (frameHead r trig)
  let cells := (List.range 16384).flatMap fun k => leBytes 3 (s.word (0x1003F00000 + 4 * k))
  { s with mem := memPutBytes m (frameAddr f + 1088) cells }

/-- One frame: the trigger frame is the first whose instant ends a slice after the trigger's stamp, and POST counts down
from it (R517); a cancelled instant ends no slice (R387). -/
def State.recFrame (s : State) (r : RecInst) : State :=
  let cap := s.fld F.DSP_REC_STATE_CAP
  let x := s.recorder
  if cap = 0 then s
  else
    let f := x.next % cap
    let trig := x.trigPending && decide (x.trigAt < r.tns) && !r.skipped
    let post := s.fld F.DSP_REC_STATE_RSTATE == 2
    let s := if s.granHeld (frameAddr f) || s.granHeld (frameAddr f + 50239) then s else s.putFrame f r trig
    let n := satNat cap (x.written + 1)
    let first := if cap ≤ n then (f + 1) % cap else 0
    let s := s.setFld F.DSP_REC_STATE_FIRST first
    let s := if trig then
      (s.setFld F.DSP_REC_TRIG_TRIG_IDX f).setBit F.DSP_REC_TRIG_PRE_SHORT (x.written < s.recPre) else s
    let counts := post && (trig || !x.trigPending)
    let left := if counts then x.left - 1 else x.left
    let s := { s with recorder := { x with
      next := (f + 1) % cap, written := n, left := left, trigPending := x.trigPending && !trig } }
    if counts ∧ left = 0 then s.recFreeze else s

/-- Every chain's record of instant k is final (R396). -/
def State.instFinal (s : State) (k : Nat) : Bool :=
  s.chans.all fun n => !((s.chain n).recs.any fun r => r.k == k && !r.final)

/-- REC_FRAME_WRITE: the oldest waiting instant whose records are final; frames are written in ARMED and POST
only. -/
def execRecFrameWrite (s : State) : Host.Outcome State Fault Refusal :=
  .next (match s.recorder.insts with
  | [] => s
  | r :: rest =>
    if ¬ s.instFinal r.k then s
    else
      let s := { s with recorder := { s.recorder with insts := rest } }
      let st := s.fld F.DSP_REC_STATE_RSTATE
      if st = 1 ∨ st = 2 then s.recFrame r else s)

/-- A DSP_REC_CMD write of one bit. -/
def State.recCmd (s : State) (k bits : Nat) (act : State → State) : State :=
  s.sessionCommand k .DSP_REC_CMD 0 0 bits true act

/-- IDLE or FROZEN to ARMED: the previous capture is discarded; any state to IDLE (R517). -/
def State.armRec (s : State) : State :=
  let st := s.fld F.DSP_REC_STATE_RSTATE
  if st = 0 ∨ st = 3 then
    let s := s.setFld F.DSP_REC_STATE_RSTATE 1
    let s := s.setFld F.DSP_REC_STATE_FIRST 0
    let s := s.setReg .DSP_REC_TRIG 0 0 0
    { s with recorder := { s.recorder with next := 0, written := 0, left := 0, trigPending := false } }
  else s
def State.stopRec (s : State) : State :=
  ({ s with recorder := { s.recorder with trigPending := false, left := 0 } }).setFld F.DSP_REC_STATE_RSTATE 0

/-- REC_ARM, REC_TRIGGER by software and REC_STOP. -/
def execRecArm (sess : Fin 256) (s : State) : Host.Outcome State Fault Refusal := .next (s.recCmd sess 1 State.armRec)

def execRecTrigger (sess : Fin 256) (s : State) : Host.Outcome State Fault Refusal :=
  .next (s.recCmd sess 2 fun t => t.recAny 0xFF 0)

def execRecStop (sess : Fin 256) (s : State) : Host.Outcome State Fault Refusal := .next (s.recCmd sess 4 State.stopRec)

/-- REC_STAMP_READ: word 0, with word 1 to the shadow (R530). -/
def execRecStampRead (who : Fin 384) (s : State) : Host.Outcome State Fault Refusal :=
  .next (s.loadingRead who .DSP_REC_STAMP 0 0 [(.DSP_REC_STAMP, 1, 0)])

end Sys2Proof.Machine
end

