-- ==== Sys2Proof/Machine/Commons.lean ====
section
/-! DEFINITION. Commons fabric, Span ring and network ports (spec chapter 14): sessions and services, queues,
port scheduling, Ethernet and PRP, the Span ring, coordinated trips and link fault injection. -/

namespace Sys2Proof.Machine

/-! ### Sessions (R543, R637 to R641, R647) -/

/-- The numbers of the open sessions with a property. -/
def State.openWith (s : State) (f : Sess → Bool) : List Nat :=
  (s.sess.filter fun e => e.2.isOpen && f e.2).map fun e => e.1

/-- COM_STATE and TG_STATE show the open sessions (R560, R659). -/
def State.showSessions (s : State) : State :=
  let s := s.setFld F.COM_STATE_SESSIONS (s.openWith fun _ => true).length
  let s := s.setBit F.TG_STATE_MAKER_SESS (!(s.openWith fun x => x.role == .maker).isEmpty)
  let s := s.setFld F.TG_STATE_OPERATORS (satNat 255 (s.openWith fun x => x.role == .operator).length)
  s.setFld F.TG_STATE_INSTALLERS (satNat 255 (s.openWith fun x => x.role == .installer).length)

/-- The AUDIT_SESSION record: number, role, 0 opened, 1 closed or 2 refused, CERT_ID (R647, R641). -/
def State.auditSession (s : State) (k role what cert : Nat) : State := s.ledger 0x11 [k, role, what, cert]

/-- The AUDIT_SUMMARY record of a session: number, DSP_REQ writes or refused writes, and which (R647). -/
def State.auditSummary (s : State) (k count what : Nat) : State := s.ledger 0x12 [k, count, what]

/-- The bytes of a queue descriptor (R534). -/
def qAddr (q : Nat) : Nat := 0x1003400000 + 64 * q

/-- n bytes of the Granary, and a write of n bytes. -/
def State.memNat (s : State) (a n : Nat) : Nat := memLe s.mem a n
def State.setMem (s : State) (a n v : Nat) : State := { s with mem := memPutLe s.mem a n v }

def State.qCls (s : State) (q : Nat) : Nat := s.memNat (qAddr q) 1 % 8
def State.qValid (s : State) (q : Nat) : Bool := bitOf (s.memNat (qAddr q) 1) 3
def State.qPort (s : State) (q : Nat) : Nat := s.memNat (qAddr q + 1) 1
def State.qOwner (s : State) (q : Nat) : Nat := s.memNat (qAddr q + 2) 2
def State.qDepth (s : State) (q : Nat) : Nat := s.memNat (qAddr q + 4) 2
def State.qFill (s : State) (q : Nat) : Nat := s.memNat (qAddr q + 6) 2
def State.setQFill (s : State) (q v : Nat) : State := s.setMem (qAddr q + 6) 2 v

/-- One more frame accepted, sent, dropped (R534). -/
def State.qIn (s : State) (q : Nat) : State := s.setMem (qAddr q + 8) 8 ((s.memNat (qAddr q + 8) 8 + 1) % 2 ^ 64)
def State.qOut (s : State) (q : Nat) : State := s.setMem (qAddr q + 16) 8 ((s.memNat (qAddr q + 16) 8 + 1) % 2 ^ 64)
def State.qDrop (s : State) (q : Nat) : State :=
  (s.setMem (qAddr q + 24) 4 ((s.memNat (qAddr q + 24) 4 + 1) % 2 ^ 32)).flag F.COM_FLAGS_QUEUE_DROP

/-- Bind a queue: a fresh descriptor (R533 to R535). -/
def State.qBind (s : State) (q cls port owner depth : Nat) : State :=
  let a := qAddr q
  let s := s.setMem a 1 (cls + 8)
  let s := s.setMem (a + 1) 1 port
  let s := s.setMem (a + 2) 2 owner
  let s := s.setMem (a + 4) 2 depth
  let s := s.setMem (a + 6) 2 0
  let s := s.setMem (a + 8) 8 0
  let s := s.setMem (a + 16) 8 0
  let s := s.setMem (a + 24) 4 0
  s.setMem (a + 28) 4 (s.tbSec 0 % 2 ^ 32)

/-- Session queues in use and free (R535, R560). -/
def State.showQueues (s : State) : State := s.setFld F.COM_STATE_QUEUES_FREE (61440 - s.com.bound.length)

/-- Release a queue: VALID clears and what it held goes. -/
def State.qRelease (s : State) (q : Nat) : State :=
  let s := (s.setMem (qAddr q) 1 (s.qCls q)).setQFill q 0
  { s with com := { s.com with
      queues := sparseSet s.com.queues [] q [], bound := s.com.bound.filter fun e => e.1 != q } }

/-- Session k closes (R535, R543, R557, R647): what it wrote of DSP_REQ in this minute is summed up, its queues go,
an injection it started ends. -/
def State.closeSession (s : State) (k : Nat) : State :=
  let x := s.session k
  if ¬ x.isOpen then s
  else
    let s := if x.dspWrites ≠ 0 then s.auditSummary k x.dspWrites 0 else s
    let s := if 16 < x.refused then
        (s.auditSummary k (x.refused - 16) 1).flag F.TG_FLAGS_AUDIT_SUMMARY else s
    let s := (s.com.bound.filter fun e => e.2 == k).foldl (fun t e => t.qRelease e.1) s
    let s := if s.inj.sess = k then s.injEnd 6 else s
    let s := s.auditSession k (roleCode x.role) 1 x.certId
    let s := { s with com := { s.com with pubs := s.com.pubs.filter fun e => e.sess != k } }
    (s.setSession k {}).showSessions.showQueues

/-- A role extension of R640. -/
def roleOf (v : Nat) : Option Role :=
  match v with
  | 1 => some .operator
  | 2 => some .installer
  | 3 => some .maker
  | _ => none

/-- The chain ends at an anchor of its role (R640). -/
def State.anchored (s : State) (r : Role) (anchor : Nat) : Bool :=
  match r with
  | .operator => s.charter.anchorsOp.contains anchor
  | .installer => s.charter.anchorsInst.contains anchor
  | .maker => anchor == Config.makerAnchor

/-- The role a handshake proves, if every check of R640 passes. -/
def State.proved (s : State) (h : Handshake) : Option Role :=
  let now := s.tbSec 0
  let ok := h.sigsOk && !h.chain.isEmpty && h.chain.length ≤ 4 && h.chain.all fun c =>
    c.notBefore ≤ now && now ≤ c.notAfter && !s.charter.revoked.contains c.serial
  match roleOf h.roleExt with
  | some r => if ok && s.anchored r h.anchor then some r else none
  | none => none

/-- Sessions of this role are taken in the present phase (R79, R80, R638). -/
def State.phaseTakes (s : State) (r : Role) : Bool :=
  if s.phase = 4 then true
  else r == .maker && (s.phase != 5 || s.bit F.TG_STATE_MAKER_EN)

/-- A handshake is refused, and recorded as refused (R647). -/
def State.refuseHandshake (s : State) (h : Handshake) (auth : Bool) : State :=
  ((s.flagIf auth F.TG_FLAGS_AUTH_FAIL).auditSession 0xFFFF h.roleExt 2 h.certId.toNat).answer .refused

/-- Open session k (R641, R692): its shadows start at 0. -/
def State.openSession (s : State) (k : Nat) (r : Role) (h : Handshake) : State :=
  let s := s.setSession k { isOpen := true, role := r, certId := h.certId.toNat, lastAt := s.now }
  let s := { s with
    shadows := s.shadows.filter fun e => (Nat.unpair e.1).1 != k
    com := { s.com with hsTimes := s.now :: s.com.hsTimes } }
  ((s.auditSession k h.roleExt 0 h.certId.toNat).showSessions).answer (.ok k)

/-- SESSION_HANDSHAKE: without its cookie nothing is spent on it; beyond HS_RATE in a second it is dropped; beyond
256 sessions, or failing a check, it is refused (R543, R639, R640).  The new session takes the lowest free number. -/
def execSessionHandshake (h : Handshake) (s : State) : Host.Outcome State Fault Refusal :=
  let recent := s.com.hsTimes.filter fun t => !s.elapsed t 1000000000
  let s := { s with com := { s.com with hsTimes := recent } }
  .next (if s.sup.inReset ∨ ¬ h.cookie then s
  else if s.fld F.COM_SESS_CFG_HS_RATE ≤ recent.length then s.flag F.COM_FLAGS_HS_LIMIT
  else
    match (List.range 256).find? fun k => !(s.session k).isOpen with
    | none => (s.refuseHandshake h false).flag F.COM_FLAGS_SESS_REFUSED
    | some k =>
      match s.proved h with
      | none => s.refuseHandshake h true
      | some r =>
        if ¬ s.phaseTakes r then s.refuseHandshake h false
        else if r = .maker ∧ s.bit F.TG_STATE_MAKER_SESS then s.refuseHandshake h true
        else s.openSession k r h)

/-- SESSION_IDLE_TIMEOUT: no record for SESS_IDLE. -/
def execSessionIdleTimeout (sess : Fin 256) (s : State) : Host.Outcome State Fault Refusal :=
  .next (if (s.session sess).isOpen ∧
      s.elapsed (s.session sess).lastAt (1000000000 * s.fld F.COM_SESS_CFG_SESS_IDLE) then
    s.closeSession sess else s)

/-- SESSION_CLOSE. -/
def execSessionClose (sess : Fin 256) (s : State) : Host.Outcome State Fault Refusal :=
  .next (s.closeSession sess)

/-! ### Services (R518, R535) -/

/-- The class of a service, and the roles that may open it (R518). -/
def serviceClass : Service → Nat
  | .dispatch | .pcsLimits | .events => 2
  | _ => 5

def serviceRole (v : Service) (r : Role) : Bool :=
  match v with
  | .dispatch => r != .maker
  | .commission => r == .installer
  | .maker => r == .maker
  | _ => true

/-- The n lowest session queues not bound. -/
def State.freeQueues (s : State) (n : Nat) : List Nat :=
  let used := s.com.bound.map fun e => e.1
  (((List.range (used.length + n)).map fun i => 4096 + i).filter fun q => !used.contains q).take n

/-- SERVICE_OPEN: the session binds its queues, or is refused in full with CAPACITY (R535).  The depth of a session
queue is the device's own. -/
def execServiceOpen (sess : Fin 256) (service : Service) (queues : Fin 1024) (subs : Fin 64) (s : State) :
    Host.Outcome State Fault Refusal :=
  let k := sess.val
  let s := s.touch k
  let x := s.session k
  .next (if ¬ x.isOpen ∨ ¬ serviceRole service x.role ∨ (service = .maker ∧ ¬ s.bit F.TG_STATE_MAKER_EN) ∨
      (service = .telemetry ∧ 16 < x.subs + subs.val) then s.answer .refused
  else if 240 < x.queues + queues.val ∨ s.fld F.COM_STATE_QUEUES_FREE < queues.val then
    ((s.flag F.COM_FLAGS_CAPACITY).send (.sessionAlarm k)).answer .refused
  else
    let s := s.setSession k { x with
      queues := x.queues + queues.val, services := x.services ++ [service]
      subs := x.subs + if service = .telemetry then subs.val else 0 }
    let s := (s.freeQueues queues.val).foldl (fun t q =>
      let d := 1 + t.free 160 % 1024
      let t := (t.draw).qBind q (serviceClass service) 0 k d
      { t with com := { t.com with bound := t.com.bound ++ [(q, k)] } }) s
    (s.showQueues).answer (.ok queues.val))

/-! ### Frames in and out of queues (R532 to R538) -/

/-- The class a queue of the device takes when it is first bound (R533). -/
def deviceClass (q cls : Nat) : Option Nat :=
  if q < 64 then some 0 else if q < 576 then some 1
  else if q < 4096 ∧ 2 ≤ cls ∧ cls ≤ 5 then some cls else none

/-- Bind a device queue on its first frame: PROTECT and SAFETY queues hold 64 frames (R536), the depth of the
others is the device's own. -/
def State.deviceBind (s : State) (q cls port : Nat) : State :=
  if s.qValid q ∨ 4096 ≤ q then s
  else
    match deviceClass q cls with
    | none => s
    | some c =>
      let d := if c ≤ 1 then 64 else 1 + s.free 161 % 1024
      (s.draw).qBind q c port 0xFFFF d

/-- The egress ports of a PORT code (R534, R540, R548). -/
def State.portsOf (s : State) (port : Nat) : List Nat :=
  match port with
  | 0 => if bitOf s.com.ethNow 0 then [0, 1] else [0]
  | 1 => [0]
  | 2 => [1]
  | 3 => [2]
  | 4 => [3]
  | 5 => [2, 3]
  | _ => []

/-- The next Span SEQ of a class (R545). -/
def State.nextSeq (s : State) (cls : Nat) : State × Nat :=
  if cls = 0 then ({ s with tripSeq := s.tripSeq + 1 }, s.tripSeq)
  else
    let q := s.span.seqs.toList.getD cls 0
    ({ s with span := { s.span with
        seqs := Vector.ofFn fun i => if i.val = cls then (q + 1) % 2 ^ 32 else s.span.seqs[i] } }, q)

/-- The frames held by a queue. -/
def State.frames_ (s : State) (q : Nat) : List QFrame := sparseGet s.com.queues [] q
def State.setFrames (s : State) (q : Nat) (fs : List QFrame) : State :=
  { s with com := { s.com with queues := sparseSet s.com.queues [] q fs } }

/-- The egress ports of queue q: PROTECT and SAFETY leave both Span ports (R548). -/
def State.sendPorts (s : State) (q : Nat) : List Nat :=
  let ps := s.portsOf (s.qPort q)
  if s.qCls q ≤ 1 ∧ ps.any fun p => 2 ≤ p then [2, 3] else ps

/-- A frame enters a bound queue; a full one of another class than PROTECT and SAFETY drops it (R536).  A frame of an internal
queue is delivered at once. -/
def State.enqueue (s : State) (q kind dst : Nat) (payload : List Byte) : State :=
  let c := s.qCls q
  if 2 ≤ c ∧ s.qDepth q ≤ s.qFill q then s.qDrop q
  else
    let ps := s.sendPorts q
    let s := s.qIn q
    if ps.isEmpty then s.qOut q
    else
      let spans := ps.any fun p => 2 ≤ p
      let seq := if spans then (s.nextSeq c).2 else 0
      let s := if spans then (s.nextSeq c).1 else s
      let prp := s.com.prpSeq
      let s := if ps.length = 2 ∧ ps.any (· < 2) then
          { s with com := { s.com with prpSeq := (prp + 1) % 2 ^ 16 } } else s
      let f : QFrame := { cls := c, kind := kind, dst := dst, payload := payload, seq := seq
                          prp := prp, todo := ps.map fun p => (p, 0) }
      (s.setFrames q (s.frames_ q ++ [f])).setQFill q (s.qFill q + 1)

/-- The place of a service in R518. -/
def serviceNo : Service → Nat
  | .telemetry => 0
  | .dispatch => 1
  | .pcsLimits => 2
  | .events => 3
  | .hvac => 4
  | .recorder => 5
  | .commission => 6
  | .maker => 7

/-- The queue that carries a session's publications of a service: its lowest one of the service's class (R543, log 182). -/
def State.pubQueue (s : State) (k : Nat) (v : Service) : Option Nat :=
  let qs := (s.com.bound.filter fun e => e.2 == k && s.qCls e.1 == serviceClass v).map fun e => e.1
  match qs with
  | [] => none
  | q :: rest => some (rest.foldl min q)

/-- The publications that wait enter the queues of their sessions (R543); a session without a queue of the class has none. -/
def State.flushPubs (s : State) : State :=
  s.com.pubs.foldl (fun t e =>
    match t.pubQueue e.sess e.service with
    | some q => t.enqueue q 0x10 0 (Config.publication (serviceNo e.service) e.words)
    | none => t) { s with com := { s.com with pubs := [] } }

/-- FRAME_ENQUEUE: a frame enters a bound queue of the device or of a session (R532 to R536). -/
def execFrameEnqueue (queue : Fin 65536) (cls : Fin 6) (port kind dst : Byte) (payload : List Byte) (s : State) :
    Host.Outcome State Fault Refusal :=
  let q := queue.val
  let s := if s.sup.inReset then s else s.deviceBind q cls port.toNat
  .next (if s.sup.inReset ∨ ¬ s.qValid q then s else s.enqueue q kind.toNat dst.toNat payload)

/-- What a port could send next of each queue whose block is not in restart (R48): queue, frame and fragment
number. -/
def State.offers (s : State) (p : Nat) : List (Nat × QFrame × Nat) :=
  (s.com.queues.filter fun e => !(s.unitRec (unitKey 5 (e.1 / 8192) 0 false)).restarting).filterMap fun e =>
    match e.2.find? fun f => f.todo.any fun t => t.1 == p with
    | some f => some (e.1, f, ((f.todo.find? fun t => t.1 == p).map fun t => t.2).getD 0)
    | none => none

/-- FRAG_MAX in bytes (R546, R563). -/
def State.fragMax (s : State) (p : Nat) : Nat := 16 * s.fld F.COM_PORT_CFG_FRAG_MAX p

/-- The bytes that go out now: the whole frame, or one fragment of an ESTIMATE or BULK message on Span. -/
def State.piece (s : State) (p : Nat) (f : QFrame) (i : Nat) : List Byte :=
  if 2 ≤ p ∧ 4 ≤ f.cls then (f.payload.drop (i * s.fragMax p)).take (s.fragMax p) else f.payload

/-- The last piece. -/
def State.lastPiece (s : State) (p : Nat) (f : QFrame) (i : Nat) : Bool :=
  !(decide (2 ≤ p ∧ 4 ≤ f.cls)) || decide (f.payload.length ≤ (i + 1) * s.fragMax p)

/-- BULK bytes of port p within the last 1 ms, and the line rate in bytes per ms (R537, R539, R544). -/
def State.bulkSent (s : State) (p : Nat) : Nat :=
  ((s.com.bulk.filter fun e => e.1 == p && !s.elapsed e.2.1 1000000).map fun e => e.2.2).foldl (· + ·) 0
def lineRate (p : Nat) : Nat := if p < 2 then 12500000 else 14000000

/-- BULK_PCT (R564). -/
def State.showBulk (s : State) (p : Nat) : State :=
  s.setFld F.COM_PORT_STATE_BULK_PCT (satNat 255 (roundFree 162 (100 * (s.bulkSent p : Rat) / (lineRate p : Rat))).toNat) p

/-- BULK history older than 1 ms goes, and BULK_PCT of every port follows. -/
def State.bulkAge (s : State) : State :=
  if s.com.bulk.isEmpty then s
  else
    let s := { s with com := { s.com with bulk := s.com.bulk.filter fun e => !s.elapsed e.2.1 1000000 } }
    (List.range 4).foldl State.showBulk s

/-- One visit of the round robin: the owner at hand sends if its deficit covers its next piece, else the next owner
receives a quantum of 1,536 bytes (R537). -/
def drrPick (need : List (Nat × Nat)) (fuel : Nat) (d : Drr) : Nat × Drr :=
  let len (o : Nat) : Nat := ((need.find? fun e => e.1 == o).map fun e => e.2).getD 0
  let def_ (o : Nat) : Nat := ((d.deficits.find? fun e => e.1 == o).map fun e => e.2).getD 0
  match fuel with
  | 0 => (d.cur, d)
  | k + 1 =>
    if (need.any fun e => e.1 == d.cur) ∧ len d.cur ≤ def_ d.cur then
      (d.cur, { d with deficits := (d.cur, def_ d.cur - len d.cur) :: d.deficits.filter fun e => e.1 != d.cur })
    else
      let after := (need.map fun e => e.1).filter fun o => d.cur < o
      let least (os : List Nat) : Nat := os.foldl min (os.headD 0)
      let nx := if after.isEmpty then least (need.map fun e => e.1) else least after
      drrPick need k { cur := nx, deficits := (nx, def_ nx + 1536) :: d.deficits.filter fun e => e.1 != nx }

/-- The offer of a class that port p takes (R537): deficit round robin over the owners; of one owner's queues the
lowest number first. -/
def State.chooseOffer (s : State) (p cls : Nat) (os : List (Nat × QFrame × Nat)) :
    State × Option (Nat × QFrame × Nat) :=
  let owners := os.foldl (fun (a : List (Nat × Nat)) e =>
    if a.any fun x => x.1 == s.qOwner e.1 then a else a ++ [(s.qOwner e.1, (s.piece p e.2.1 e.2.2).length)]) []
  let big := owners.foldl (fun m e => max m e.2) 0
  let d := sparseGet s.com.drr {} (8 * p + cls)
  let d := { d with deficits := d.deficits.filter fun e => owners.any fun o => o.1 == e.1 }
  let r := drrPick owners (owners.length * (big / 1536 + 2) + 2) d
  let s := { s with com := { s.com with drr := sparseSet s.com.drr {} (8 * p + cls) r.2 } }
  (s, os.find? fun e => s.qOwner e.1 == r.1)

/-- Priority code point and DSCP of a class (R541). -/
def pcpOf (cls : Nat) : Nat := [7, 6, 5, 4, 2, 1].getD cls 0
def dscpOf (cls : Nat) : Nat := [56, 48, 40, 32, 16, 8].getD cls 0

/-- Port p is UP. -/
def State.portUp (s : State) (p : Nat) : Bool := s.fld F.COM_PORT_STATE_PSTATE p == 4

/-- The frame as it leaves port p. -/
def State.frameOut (s : State) (p q : Nat) (f : QFrame) (i : Nat) : Msg :=
  let bytes := s.piece p f i
  if p < 2 then
    let prp := if s.qPort q = 0 ∧ bitOf s.com.ethNow 0 then some (p == 1, f.prp) else none
    let vlan := if bitOf s.com.ethNow 1 then some (bitsGet s.com.ethNow 16 12) else none
    .eth p vlan (pcpOf f.cls) (dscpOf f.cls) prp q bytes
  else
    let w := p == 3
    let x := s.spanFrame w (s.qPort q == 5 || f.cls ≤ 1) f.cls f.kind f.dst f.seq bytes
    spanMsg w { x with frag := decide (4 ≤ f.cls), fragIdx := BitVec.ofNat 7 i, last := 4 ≤ f.cls && s.lastPiece p f i }

/-- The frame after port p has sent piece i: a copy for a port that is not UP is not waited for. -/
def State.sentOn (s : State) (p : Nat) (f : QFrame) (i : Nat) : QFrame :=
  let rest := f.todo.filter fun t => t.1 != p
  if s.lastPiece p f i then { f with todo := rest.filter fun t => s.portUp t.1 }
  else { f with todo := (p, i + 1) :: rest }

/-- FRAME_SEND: an egress port that is UP starts its next frame: strict priority, then deficit round robin; BULK
within BULK_CAP, or BULK_SHED while that sheds, less an
eighth for each retired queue block (R48, R537, R546, R675). -/
def execFrameSend (port : Fin 4) (s : State) : Host.Outcome State Fault Refusal :=
  let p := port.val
  let s := if s.portUp p then s.bulkAge.flushPubs else s.bulkAge
  let pct := s.fld F.COM_PORT_CFG_BULK_CAP p
  let cap := lineRate p * (if s.bit F.ALM_STATE_BULK_SHED_ON then min pct (s.fld F.ALM_CFG2_BULK_SHED) else pct) / 100
    * (8 - ((List.range 8).filter fun b => (s.unitRec (unitKey 5 b 0 false)).retired).length) / 8
  let os := (s.offers p).filter fun e =>
    e.2.1.cls != 5 || decide (s.bulkSent p + (s.piece p e.2.1 e.2.2).length ≤ cap)
  .next (if ¬ s.portUp p then s
  else
    match (List.range 6).find? fun c => os.any fun e => e.2.1.cls == c with
    | none => s
    | some c =>
      let r := s.chooseOffer p c (os.filter fun e => e.2.1.cls == c)
      match r.2 with
      | none => r.1
      | some (q, f, i) =>
        let s := r.1
        let m := s.frameOut p q f i
        let g := s.sentOn p f i
        let fs := (s.frames_ q).map fun x => if x = f then g else x
        let done := g.todo.isEmpty
        let s := s.setFrames q (fs.filter fun x => !x.todo.isEmpty)
        let s := if done then (s.qOut q).setQFill q (s.qFill q - 1) else s
        let s := if c = 5 then
            ({ s with com := { s.com with bulk := (p, s.now, (s.piece p f i).length) :: s.com.bulk } }).showBulk p
          else s
        s.injSend (if p < 2 then 2 else 3) (p % 2) c m)

/-- A received frame is delivered by its queue; a session that owns it is not idle (R541, R543). -/
def State.deliver (s : State) (q : Nat) : State :=
  if s.qValid q then
    let s := (s.qIn q).qOut q
    if s.qOwner q < 256 then s.touch (s.qOwner q) else s
  else s

/-! ### Ethernet (R539 to R542) -/

/-- A copy of this source and sequence number came within 400 ms, among the last 128 of the source (R540). -/
def State.prpKnown (s : State) (src seq : Nat) : Bool :=
  ((s.com.prpSeen.filter fun e => e.1 == src).take 128).any fun e =>
    e.2.1 == seq && !s.elapsed e.2.2 400000000

/-- Count in ETH_PRP_CNT, wrapping. -/
def State.prpCount (s : State) (f : Fld) (p : Nat) : State := s.setFld f ((s.fld f p + 1) % 2 ^ 16) p

/-- A frame on Ethernet port p: with PRP the second copy is discarded. -/
def State.ethRx (s : State) (p : Nat) (f : EthFrame) : State :=
  if ¬ f.good then s
  else if ¬ bitOf s.com.ethNow 0 then s.deliver f.queue
  else
    match f.prp with
    | none => s.deliver f.queue
    | some (lanB, seq) =>
      let s := if lanB ≠ (p == 1) then s.prpCount F.ETH_PRP_CNT_WRONG_LAN p else s
      if s.prpKnown f.src.toNat seq.toNat then s.prpCount F.ETH_PRP_CNT_DUP_DISC p
      else
        let seen := s.com.prpSeen.filter fun e => !s.elapsed e.2.2 400000000
        ({ s with com := { s.com with prpSeen := (f.src.toNat, seq.toNat, s.now) :: seen } }).deliver f.queue

/-- PRP_SUPERVISION: a supervision frame on both ports. -/
def execPrpSupervision (s : State) : Host.Outcome State Fault Refusal :=
  .next (if bitOf s.com.ethNow 0 then
    [0, 1].foldl (fun t p => if t.portUp p then t.send (.prpSupervision p) else t) s else s)

/-- A write of ETH_CFG takes effect after both ports have gone down and up again (R565). -/
def State.ethCfgWritten (s : State) : State :=
  let w (p : Nat) : Nat := if s.fld F.COM_PORT_STATE_PSTATE p = 0 then 1 else 2
  { s with com := { s.com with ethWait := #v[w 0, w 1] } }

/-- Port p went down, or came up, while a write waits. -/
def State.ethCycle (s : State) (p : Nat) (up : Bool) : State :=
  let w := s.com.ethWait
  let was := w.toList.getD p 0
  let now := if up then (if was = 1 then 0 else was) else (if was = 2 then 1 else was)
  let w' : Vector Nat 2 := if p = 0 then #v[now, w[1]] else #v[w[0], now]
  let took := w ≠ w' ∧ w' = Vector.replicate 2 0
  { s with com := { s.com with ethWait := w', ethNow := if took then s.reg .ETH_CFG else s.com.ethNow } }

/-- Ethernet port p may leave electrical idle: both from ROLL_CALL on, port 0 alone in Safe Idle (R71, R79). -/
def State.ethAllowed (s : State) (p : Nat) : Bool := s.phase == 3 || s.phase == 4 || (s.phase == 5 && p == 0)

/-- ETH_LINK_CHANGE: an Ethernet port goes DOWN (0), into TRAIN (1) or UP (2) (R539, R564). -/
def execEthLinkChange (port : Fin 2) (state : Fin 3) (s : State) : Host.Outcome State Fault Refusal :=
  let p := port.val
  let was := s.fld F.COM_PORT_STATE_PSTATE p
  let st := if s.portFenced p ∨ ¬ s.ethAllowed p then 0 else 2 * state.val
  let s := s.setFld F.COM_PORT_STATE_PSTATE st p
  let s := s.setBit F.COM_PORT_STATE_FEC_LOCK (st == 4) p
  let s := if was = 4 ∧ st ≠ 4 then
      (s.setFld F.COM_PORT_STATE_LOSS_CNT (satNat 0xFFFF (s.fld F.COM_PORT_STATE_LOSS_CNT p + 1)) p).setBit
        F.COM_PORT_STATE_PREEMPT_ACTIVE false p
    else s
  .next (if st = 0 then s.ethCycle p false else if st = 4 then s.ethCycle p true else s)

/-- PREEMPT_VERIFY_DONE: the link partner verified (R541). -/
def execPreemptVerifyDone (port : Fin 2) (s : State) : Host.Outcome State Fault Refusal :=
  .next (if s.portUp port ∧ s.bit F.COM_PORT_CFG_PREEMPT_EN port then
    s.setBit F.COM_PORT_STATE_PREEMPT_ACTIVE true port else s)

/-! ### Span ports, neighbours and bypass (R552 to R554) -/

/-- The port number of a Span port. -/
def spanPort (west : Bool) : Nat := if west then 3 else 2

def State.pstate (s : State) (west : Bool) : Nat := s.fld F.COM_PORT_STATE_PSTATE (spanPort west)

/-- PSTATE of a Span port; a fenced one stays DOWN, UP and REFUSED are judgements of R82. -/
def State.setPstate (s : State) (west : Bool) (v : Nat) : State :=
  let v := if s.portFenced (spanPort west) then 0 else v
  let s := if v = 4 ∨ v = 5 then s.judge (partnerPort (spanPort west)) else s
  s.setFld F.COM_PORT_STATE_PSTATE v (spanPort west)

/-- The ROLL_CALL record of a Span neighbour: kind 2, port, SPAN_ID, admitted (R552, R411). -/
def State.nbrRecord (s : State) (west : Bool) (id : Nat) (joined : Bool) : State :=
  s.ledger 0x35 [2, if west then 1 else 0, id, if joined then 1 else 0]

/-- Note the time of a NEIGHBOUR frame. -/
def State.nbrSeen (s : State) (west : Bool) : State :=
  let v := s.span.nbrAt
  { s with span := { s.span with nbrAt := if west then #v[v[0], s.now] else #v[s.now, v[1]] } }

/-- One more link loss of port p (R564). -/
def State.lossCount (s : State) (p : Nat) : State :=
  s.setFld F.COM_PORT_STATE_LOSS_CNT (satNat 0xFFFF (s.fld F.COM_PORT_STATE_LOSS_CNT p + 1)) p

/-- A Span port leaves UP (R552). -/
def State.spanRetrain (s : State) (west : Bool) : State :=
  let p := spanPort west
  let s := (s.setPstate west 2).flag F.SPAN_FLAGS_RETRAIN
  let s := s.setFld F.SPAN_STATE_RETRAINS (satNat 0xFFFF (s.fld F.SPAN_STATE_RETRAINS + 1))
  let s := (s.lossCount p).setBit F.COM_PORT_STATE_FEC_LOCK false p
  s.nbrRecord west (if west then s.span.nbrId[1] else s.span.nbrId[0]) false

/-- A Span port that is UP leaves it (R552, R568, R569). -/
def State.leaveUp (s : State) (west : Bool) : State := if s.pstate west = 4 then s.spanRetrain west else s

/-- Both ports go DOWN and the bypass closes (R552, R553). -/
def State.spanDown (s : State) : State :=
  let s := [false, true].foldl (fun t w =>
    ((t.leaveUp w).setPstate w 0).setBit F.COM_PORT_STATE_FEC_LOCK false (spanPort w)) s
  let s := s.setBit F.SPAN_STATE_BYPASS_HOLD false
  { s with span := { s.span with joinAt := none, joined := false, failAt := none } }

/-- SPAN_EN has been written (R552): 0 brings the ports down, 1 starts them, with no failure counted. -/
def State.spanEnWritten (s : State) : State :=
  let s := { s with span := { s.span with fails := 0 } }
  if s.bit F.SPAN_CFG_SPAN_EN then s.spanStart else s.spanDown

/-- SPAN_SELF_TEST_PASS: both ports go to TRAIN, and BYPASS_HOLD rises. -/
def execSpanSelfTestPass (s : State) : Host.Outcome State Fault Refusal :=
  .next (if s.pstate false = 1 ∧ s.pstate true = 1 then
    let s := ((s.setPstate false 2).setPstate true 2).setBit F.SPAN_STATE_BYPASS_HOLD true
    { s with span := { s.span with joinAt := some s.now, joined := false } }
  else s)

/-- SPAN_SELF_TEST_TIMEOUT: 100 ms without passing; the third failure brings the ports DOWN. -/
def execSpanSelfTestTimeout (s : State) : Host.Outcome State Fault Refusal :=
  .next (if s.pstate false = 1 ∧ s.pstate true = 1 ∧ s.elapsed s.span.testAt 100000000 then
    let n := s.span.fails + 1
    let s := { s with span := { s.span with fails := n, testAt := s.now } }
    let s := s.flag F.SPAN_FLAGS_SELF_FAIL
    if 3 ≤ n then (s.setPstate false 0).setPstate true 0 else s
  else s)

/-- SPAN_TRAIN_DONE: lanes, FEC and block lock. -/
def execSpanTrainDone (west : Bool) (s : State) : Host.Outcome State Fault Refusal :=
  .next (if s.pstate west = 2 then
    (s.setPstate west 3).setBit F.COM_PORT_STATE_FEC_LOCK true (spanPort west) else s)

/-- SPAN_LOCK_LOST: UP and REFUSED go to TRAIN. -/
def execSpanLockLost (west : Bool) (s : State) : Host.Outcome State Fault Refusal :=
  .next (if s.pstate west = 4 then s.spanRetrain west
  else if s.pstate west = 5 then ((s.setPstate west 2).lossCount (spanPort west)).setBit F.COM_PORT_STATE_FEC_LOCK false (spanPort west)
  else if s.pstate west = 3 then (s.lossCount (spanPort west)).setBit F.COM_PORT_STATE_FEC_LOCK false (spanPort west)
  else if s.pstate west = 2 then s.setBit F.COM_PORT_STATE_FEC_LOCK false (spanPort west)
  else s)

/-- RING_ID as the two payload bytes of NEIGHBOUR. -/
def State.ringBytes (s : State) : List Byte :=
  (leBytes 2 (s.fld F.SPAN_CFG_RING_ID)).map fun b => BitVec.ofNat 8 b

/-- NEIGHBOUR_SEND: a NEIGHBOUR frame with HOPS = 0 on each port in HELLO or UP. -/
def execNeighbourSend (s : State) : Host.Outcome State Fault Refusal :=
  .next ([false, true].foldl (fun t w =>
    if t.pstate w = 3 ∨ t.pstate w = 4 then
      let r := t.nextSeq 2
      r.1.injSend 3 (if w then 1 else 0) 2
        (spanMsg w { r.1.spanFrame w false 2 0x04 0xFF r.2 r.1.ringBytes with hops := 0 })
    else t) s)

/-- NEIGHBOUR_MISS: three NEIGHBOUR frames missed. -/
def execNeighbourMiss (west : Bool) (s : State) : Host.Outcome State Fault Refusal :=
  .next (if s.pstate west = 4 ∧ s.elapsed (if west then s.span.nbrAt[1] else s.span.nbrAt[0]) 30000 then
    s.spanRetrain west else s)

/-- JOIN_TIMEOUT: 1 s after BYPASS_HOLD rose neither port has reached UP. -/
def execJoinTimeout (s : State) : Host.Outcome State Fault Refusal :=
  .next (match s.span.joinAt with
  | some t =>
    if ¬ s.span.joined ∧ s.elapsed t 1000000000 then
      let s := { s with span := { s.span with joinAt := none, failAt := some s.now } }
      (s.setBit F.SPAN_STATE_BYPASS_HOLD false).flag F.SPAN_FLAGS_JOIN_FAIL
    else s
  | none => s)

/-- JOIN_RETRY: 10 s later both ports return to SELF_TEST. -/
def execJoinRetry (s : State) : Host.Outcome State Fault Refusal :=
  .next (match s.span.failAt with
  | some t =>
    if s.elapsed t 10000000000 then
      let s := { s with span := { s.span with failAt := none, testAt := s.now } }
      (((s.leaveUp false).leaveUp true).setPstate false 1).setPstate true 1
    else s
  | none => s)

/-- A NEIGHBOUR frame on a port (R552): HELLO goes UP or REFUSED. -/
def State.neighbourRx (s : State) (west : Bool) (f : SpanFrame) : State :=
  if s.pstate west = 4 then s.nbrSeen west
  else if s.pstate west = 3 then
    let same := f.payload == s.ringBytes && f.src.toNat != s.fld F.SPAN_CFG_SPAN_ID
    if same then
      let s := (s.setPstate west 4).nbrSeen west
      let v := s.span.nbrId
      let id := f.src.toNat
      let s := { s with span := { s.span with
        joined := true, nbrId := if west then #v[v[0], id] else #v[id, v[1]] } }
      s.nbrRecord west f.src.toNat true
    else (s.setPstate west 5).flag F.SPAN_FLAGS_REFUSED
  else s

/-! ### The ring (R547, R548, R555) -/

/-- RING_SCAN_SEND: a scan from the east port, DST 0xFF, HOPS 63; while that port is not UP the scan is lost, and so it does
not return (R555). -/
def execRingScanSend (s : State) : Host.Outcome State Fault Refusal :=
  .next (if s.bit F.SPAN_CFG_SPAN_EN ∧ ¬ s.sup.inReset then
    let r := s.nextSeq 2
    let s := r.1
    let s := { s with span := { s.span with
      scans := s.span.scans ++ [(r.2, s.now)], scanOld := s.span.scanNow, scanNow := Vector.replicate 2 0 } }
    if ¬ s.spanUp false then s else s.injSend 3 0 2 (spanMsg false { s.spanFrame false false 2 0x05 0xFF r.2 [0] with hops := 63 })
  else s)

/-- RING_SCAN_TIMEOUT: a scan has not returned within 20 ms; RING_OPEN sets as the ring opens (R37, R555). -/
def execRingScanTimeout (s : State) : Host.Outcome State Fault Refusal :=
  .next (match s.span.scans with
  | (_, t) :: rest =>
    if s.elapsed t 20000000 then
      let x := s.span
      let e := max x.scanNow[0] x.scanOld[0]
      let w := max x.scanNow[1] x.scanOld[1]
      let s := { s with span := { x with scans := rest, ringOpen := true } }
      let s := s.setBit F.SPAN_STATE_RING_CLOSED false
      (s.setFld F.SPAN_STATE_RING_N (satNat 64 (1 + e + w))).flagIf (!x.ringOpen) F.SPAN_FLAGS_RING_OPEN
    else s
  | [] => s)

/-- A RING_SCAN arrives (R555): the device's own closes the ring at its west port, another one with its SPAN_ID sets
DUP_ID, and the counts of the others are kept by direction. -/
def State.scanRx (s : State) (west : Bool) (f : SpanFrame) : State :=
  let c := (f.payload.headD 0).toNat
  if f.src.toNat = s.fld F.SPAN_CFG_SPAN_ID then
    if west ∧ s.span.scans.any fun e => e.1 == f.seq.toNat then
      let left := (s.span.scans.dropWhile fun e => e.1 != f.seq.toNat).drop 1
      let s := { s with span := { s.span with scans := left, ringOpen := false } }
      (s.setFld F.SPAN_STATE_RING_N (satNat 64 (c + 1))).setBit F.SPAN_STATE_RING_CLOSED true
    else s.flag F.SPAN_FLAGS_DUP_ID
  else
    let v := s.span.scanNow
    { s with span := { s.span with
        scanNow := if west then #v[v[0], max v[1] c] else #v[max v[0] c, v[1]] } }

/-- Whether a copy with this SEQ of this origin and class is delivered: 0 yes, 1 already delivered, 2 below the
window; and what is remembered then (R548). -/
def dualJudge (seen : List (Nat × Nat × List Nat)) (key seq : Nat) : Nat × List (Nat × Nat × List Nat) :=
  let others := seen.filter fun e => e.1 != key
  match seen.find? fun e => e.1 == key with
  | none => (0, (key, seq, [seq]) :: others)
  | some (_, high, got) =>
    let d := toSigned 32 ((seq + 2 ^ 32 - high) % 2 ^ 32)
    if 0 < d then
      let keep := got.filter fun q => decide (toSigned 32 ((q + 2 ^ 32 - seq) % 2 ^ 32) ≥ -64)
      (0, (key, seq, seq :: keep) :: others)
    else if got.contains seq then (1, seen)
    else if d < -64 then (2, seen)
    else (0, (key, high, seq :: got) :: others)

/-- Fragments are reassembled in order; a missing one discards the whole message (R546).  Answers whether a whole
message is there. -/
def State.fragRx (s : State) (f : SpanFrame) : State × Bool :=
  if ¬ f.frag then (s, true)
  else
    let key := 8 * f.src.toNat + f.cls.toNat
    let others := s.span.reasm.filter fun e => e.1 != key
    let have_ := if f.fragIdx = 0 then some (0, [])
      else (s.span.reasm.find? fun e => e.1 == key).map fun e => e.2
    match have_ with
    | some (i, bs) =>
      if i ≠ f.fragIdx.toNat then ({ s with span := { s.span with reasm := others } }, false)
      else if f.last then ({ s with span := { s.span with reasm := others } }, true)
      else ({ s with span := { s.span with reasm := (key, i + 1, bs ++ f.payload) :: others } }, false)
    | none => (s, false)

/-- A STATUS that came to this device as the gateway of its connection goes on as UDP to the source of the last
datagram relayed with its CONN_ID (R616). -/
def State.gatewayStatus (s : State) (f : SpanFrame) : State :=
  match s.span.relays.find? fun e => e.1 == leNat (f.payload.map BitVec.toNat) 4 4 with
  | some e => s.send (.udp e.2 f.payload)
  | none => s

/-- A frame is delivered to this device (R547, R548, R551). -/
def State.spanDeliver (s : State) (q : Nat) (f : SpanFrame) : State :=
  let j := if f.dual then dualJudge s.span.seen (8 * f.src.toNat + f.cls.toNat) f.seq.toNat else (0, s.span.seen)
  let s := { s with span := { s.span with seen := j.2 } }
  if j.1 = 1 then s.setReg .SPAN_DUPCNT 0 0 ((s.reg .SPAN_DUPCNT + 1) % 2 ^ 32)
  else if j.1 = 2 then s.flag F.SPAN_FLAGS_SEQ_OLD
  else
    let r := s.fragRx f
    let s := r.1
    if ¬ r.2 then s
    else if f.kind = 0x02 ∧ ((f.payload.headD 0).toNat / 16 = 2) then s.gatewayStatus f
    else if f.kind = 0x01 then { s with span := { s.span with tripRx := s.span.tripRx ++ [f] } }
    else s.deliver q

/-! ### PTP on the ports (R581, R590 to R592) -/

/-- The base of a port: Ethernet 1 keeps time base 1, every other port time base 0. -/
def portBase (p : Nat) : Nat := if p = 1 then 1 else 0

/-- A capture at the present edge plus sub / 65,536 of one, on base b, in 2^−16 ns (R581). -/
def State.stampOn (s : State) (b sub : Nat) : Int :=
  let x := s.tb b
  let inc := (s.fld F.TB_INC_NS_NS b : Int) * 65536 + (x.incFrac / 65536 : Nat)
  (x.sec : Int) * 65536000000000 + (x.ns : Int) * 65536 + (x.frac / 65536 : Nat) + inc * (sub : Int) / 65536

/-- The egress stamp of an event message leaving port p now: seconds, nanoseconds, remainder in 2^−16 ns. -/
def State.egress (s : State) (p : Nat) : Nat × Nat × Int :=
  let t := s.stampOn (portBase p) 0 + s.sfld F.BF_ASYM_EG_LAT p
  ((t / 65536000000000).toNat, (t % 65536000000000 / 65536).toNat, t % 65536)

/-- The payload of a Sync or a Pdelay_Resp: seconds and nanoseconds. -/
def syncBytes (sec ns : Nat) : List Byte := (leBytes 6 sec ++ leBytes 4 ns).map fun b => BitVec.ofNat 8 b

/-- The Pdelay_Resp that leaves port p for a request stamped t (R590 to R592): the time of departure, and in the correction
its remainder less t; on Span a frame with HOPS = 0. -/
def State.pdelayResp (s : State) (p : Nat) (t : Int) : State :=
  let e := s.egress p
  if p < 2 then s.injSend 2 p 3 (.ptp p .pdelayResp e.1 e.2.1 (e.2.2 - t))
  else
    let w := p == 3
    let r := s.nextSeq 3
    r.1.injSend 3 (p % 2) 3 (spanMsg w { r.1.spanFrame w false 3 0x03 0xFF r.2 (syncBytes e.1 e.2.1) with
      hops := 0, corr := BitVec.ofInt 64 (e.2.2 - t) })

/-- A PTP message is received on port p: its stamp is kept for the servo, and a Pdelay_Req is answered (R590, R591). -/
def State.ptpRx (s : State) (p : Nat) (kind : PtpKind) (sub : Nat) : State :=
  let t := s.stampOn (portBase p) sub - s.sfld F.BF_ASYM_IN_LAT p
  let s := { s with bel := { s.bel with
    rxStamp := Vector.ofFn fun i => if i.val = p then t else s.bel.rxStamp[i] } }
  if kind = .pdelayReq then s.pdelayResp p t else s

/-- The held frame of an injection is passed (R556). -/
def State.releaseRx (s : State) (i : Option Instr) : State :=
  match i with
  | some (.ethFrameRx p f) => s.ethRx p f
  | some (.spanFrameRx _ _ q _ f) => s.spanDeliver q f
  | some (.ptpMessageRx p k b) => s.ptpRx p k b
  | _ => s

/-- ETH_FRAME_RX. -/
def execEthFrameRx (port : Fin 2) (frame : EthFrame) (s : State) : Host.Outcome State Fault Refusal :=
  .next (if ¬ s.portUp port then s
  else
    let r := s.injReceive 2 port frame.cls (.ethFrameRx port frame)
    let s := if r.2.1 = 1 ∨ r.2.1 = 3 then r.1 else r.1.ethRx port { frame with good := frame.good && r.2.1 == 0 }
    s.releaseRx r.2.2)

/-- Local delivery under an injection of the port: only the delivered copy is affected (R558). -/
def State.spanLocal (s : State) (west : Bool) (q : Nat) (i : Instr) (f : SpanFrame) : State :=
  let r := s.injReceive 3 (if west then 1 else 0) f.cls.toNat i
  (if r.2.1 = 0 then r.1.spanDeliver q f else r.1).releaseRx r.2.2

/-- CORR after this device has forwarded a PTP frame: the ingress port's peer delay and the residence (R592). -/
def State.corrOut (s : State) (west : Bool) (residence : Nat) (f : SpanFrame) : BitVec 64 :=
  if f.kind = 0x03 then
    f.corr + BitVec.ofNat 64 (s.fld F.BF_SPAN_PDLY_PDLY (if west then 1 else 0) + residence)
  else f.corr

/-- The frame goes on out of the opposite port (R547, R555). -/
def State.spanForward (s : State) (west : Bool) (residence : Nat) (f : SpanFrame) : State :=
  if ¬ s.spanUp (!west) then s
  else
    let pay := if f.kind = 0x05 then
        (match f.payload with
         | b :: rest => (b + 1) :: rest
         | [] => [])
      else f.payload
    s.send (spanMsg (!west) { f with hops := f.hops - 1, payload := pay, corr := s.corrOut west residence f })

/-- The kinds of R545. -/
def kindKnown (k : Byte) : Bool := k == 0x01 || k == 0x02 || k == 0x03 || k == 0x04 || k == 0x05 || k == 0x10

/-- SPAN_FRAME_RX: a frame whose checks are good is stripped, delivered and forwarded (R547). -/
def execSpanFrameRx (west good : Bool) (queue : Fin 65536) (residence : Nat) (frame : SpanFrame) (s : State) :
    Host.Outcome State Fault Refusal :=
  let f := frame
  .next (if ¬ good ∨ f.version ≠ 1 ∨ ¬ kindKnown f.kind then s
  else if f.kind = 0x04 then s.neighbourRx west f
  else if ¬ s.spanUp west then s
  else
    let own := s.fld F.SPAN_CFG_SPAN_ID
    let s := if f.kind = 0x05 then s.scanRx west f else s
    if f.src.toNat = own then s
    else
      let s := if f.kind ≠ 0x05 ∧ (f.dst.toNat = own ∨ f.dst = 0xFF) then
          s.spanLocal west queue (.spanFrameRx west good queue residence frame) f else s
      if f.dst.toNat ≠ own ∧ 1 < f.hops.toNat then s.spanForward west residence f else s)

/-! ### Coordinated trips received (R551) -/

/-- The bytes of a payload. -/
def payNat (f : SpanFrame) (a n : Nat) : Nat := leNat (f.payload.map BitVec.toNat) a n

/-- What FOLLOW does with a coordinated-trip message. -/
def State.follow (s : State) : State :=
  match s.fld F.SPAN_CFG_FOLLOW with
  | 1 => s.chans.foldl (fun t n => if t.cstate n = csReady then t.zeroRequest n else t) s
  | 2 => s.chans.foldl (fun t n =>
      if csAlign ≤ t.cstate n ∧ t.cstate n ≤ csReady then t.openCommand n else t) s
  | _ => s

/-- The message takes SPAN_TRIP_RX, triggers the recorder and is followed. -/
def State.coordRx (s : State) (f : SpanFrame) : State :=
  let s := s.setReg .SPAN_TRIP_RX 0 0
    (f.src.toNat + 2 ^ 8 * (payNat f 0 1 % 64) + 2 ^ 16 * (payNat f 4 1 % 32) + 2 ^ 24 * payNat f 5 1)
  let s := s.setReg .SPAN_TRIP_RX 1 0 (payNat f 8 4)
  let s := s.setReg .SPAN_TRIP_RX 2 0 (payNat f 14 4)
  let s := s.setReg .SPAN_TRIP_RX 3 0 f.seq.toNat
  (((s.flag F.SPAN_FLAGS_TRIP_RX).recTrigger 5 0)).follow

/-- COORD_TRIP_RX: the oldest message delivered from another device. -/
def execCoordTripRx (s : State) : Host.Outcome State Fault Refusal :=
  match s.span.tripRx with
  | [] => .next s
  | f :: rest => finish (({ s with span := { s.span with tripRx := rest } }).coordRx f)

/-- SPAN_TRIP_RX_READ: word 0, with words 1 to 3 to the shadows (R570). -/
def execSpanTripRxRead (who : Fin 384) (s : State) : Host.Outcome State Fault Refusal :=
  .next (s.loadingRead who .SPAN_TRIP_RX 0 0 [(.SPAN_TRIP_RX, 1, 0), (.SPAN_TRIP_RX, 2, 0), (.SPAN_TRIP_RX, 3, 0)])

/-! ### Link fault injection (R556 to R558) -/

/-- The interlock of the target holds (R557). -/
def State.injLock (s : State) : Bool :=
  if s.fld F.INJ_CFG_TARGET < 2 then s.resting (s.fld F.INJ_CFG_INDEX) else s.chans.all fun n => s.resting n

/-- INJ_START: refused while one runs, for ACTION 3, or when the interlock fails (END_CAUSE 7). -/
def execInjStart (sess : Fin 256) (count : BitVec 16) (s : State) : Host.Outcome State Fault Refusal :=
  let free := !s.bit F.INJ_STATE_ACTIVE && s.fld F.INJ_CFG_ACTION != 3
  let ok := free && s.injLock
  let t := s.sessionCommand sess .INJ_CMD 0 0 (1 + 2 ^ 16 * count.toNat) ok fun t =>
    let t := (t.setReg .INJ_STATE 0 0 0).setBit F.INJ_STATE_ACTIVE true
    let t := { t with inj := { sess := sess.val, startAt := t.now, count := count.toNat } }
    (t.flag F.COM_FLAGS_INJ_START).ledger 0x37
      [0, sess.val, t.reg .INJ_CFG, t.reg .INJ_CFG2, count.toNat, 0]
  .next (if free ∧ ¬ s.injLock ∧ s.writeResult sess .INJ_CMD 0 0 (s.reg .INJ_CMD) true = 0 then
    t.setFld F.INJ_STATE_END_CAUSE 7 else t)

/-- INJ_STOP. -/
def execInjStop (sess : Fin 256) (s : State) : Host.Outcome State Fault Refusal :=
  .next (s.sessionCommand sess .INJ_CMD 0 0 2 true fun t => t.injEnd 1)

/-- INJ_TIMEOUT: INJ_T has elapsed. -/
def execInjTimeout (s : State) : Host.Outcome State Fault Refusal :=
  .next (if s.elapsed s.inj.startAt (1000000000 * s.fld F.INJ_CFG2_INJ_T) then s.injEnd 3 else s)

end Sys2Proof.Machine
end

