-- ==== Sys2Proof/Machine/Belfry.lean ====
section
/-! DEFINITION. Belfry time bases and network time (spec chapter 15): the advance of a base, slews and steps, the
servo's reports and qualification, reference selection, PTP stamps and the grid edges. -/

namespace Sys2Proof.Machine

/-! ### The bases (R573 to R577) -/

def State.setTb (s : State) (b : Nat) (x : TimeBase) : State := { s with tbs := sparseSet s.tbs {} b x }

/-- A base as one number of 2^−32 ns within its second. -/
def TimeBase.units (x : TimeBase) : Int := (x.ns : Int) * 2 ^ 32 + (x.frac : Int)

/-- A base at a number of units counted from its present second: one second more or less is carried. -/
def TimeBase.at_ (x : TimeBase) (u : Int) : TimeBase :=
  let v := u % secUnits
  { x with
    sec := (((x.sec : Int) + u / secUnits) % (2 ^ 48)).toNat
    ns := (v / 2 ^ 32).toNat
    frac := (v % 2 ^ 32).toNat }

/-- What a slew adds at one edge, and its accumulator after it (R577). -/
def TimeBase.slewStep (x : TimeBase) (ppm : Nat) : Int × Nat :=
  let t := x.acc + slewRate ppm
  let u : Int := min (t / 2 ^ 32 : Nat) (x.left.natAbs : Int)
  (if x.left < 0 then -u else u, t % 2 ^ 32)

/-- One oscillator edge of a base with integer increment inc (R573, R577, R580). -/
def TimeBase.edge (x : TimeBase) (inc ppm : Nat) : TimeBase :=
  match x.apply with
  | some v => { x with sec := v.1, ns := v.2.1, frac := v.2.2, apply := none }
  | none =>
    if x.left = 0 then x.at_ (x.units + (inc : Int) * 2 ^ 32 + (x.incFrac : Int))
    else
      let r := x.slewStep ppm
      { x.at_ (x.units + (inc : Int) * 2 ^ 32 + (x.incFrac : Int) + r.1) with left := x.left - r.1, acc := r.2 }

/-- TB_ADJ reads the remainder in ns (R599). -/
def State.showAdj (s : State) (b : Nat) : State :=
  s.setReg .TB_ADJ b 0 (ofSigned 32 (roundFree 171 (((s.tb b).left : Rat) / 2 ^ 32)))

/-- The record of a base takes a mark at this edge when the last one does not give it; marks that no capture of the last 60 s
needs go (R581). -/
def State.noteMark (s : State) (b : Nat) : State :=
  let m := s.tbMark b
  let ms := s.bel.marks.toList.getD b []
  let near := ms.takeWhile fun x => !s.elapsed (4 * x.osc) 60000000000
  let kept := near ++ (ms.drop near.length).take 1
  if ms.head?.any fun x => x.gives m then s
  else { s with bel := { s.bel with marks := Vector.ofFn fun i => if i.val = b then m :: kept else s.bel.marks[i] } }

/-- One edge of base b. -/
def State.tbEdge (s : State) (b : Nat) : State :=
  let x := s.tb b
  let s := s.setTb b (x.edge (s.fld F.TB_INC_NS_NS b) (s.fld F.TB_CFG_ADJ_PPM b))
  (if x.left = 0 then s else s.showAdj b).noteMark b

/-! ### Reads (R578, R579) -/

/-- The live words of a base: seconds low, seconds high, fraction. -/
def State.tbShadows (s : State) (who b : Nat) : State :=
  let x := s.tb b
  let s := s.setShadow who .TB_SEC_LO b 0 (x.sec % 2 ^ 32)
  let s := s.setShadow who .TB_SEC_HI b 0 (x.sec / 2 ^ 32)
  s.setShadow who .TB_FRAC b 0 x.frac

/-- TB_NS_READ: the live nanoseconds; the seconds and the fraction of the same edge go to the shadows. -/
def execTbNsRead (who : Fin 384) (tb : Fin 8) (s : State) : Host.Outcome State Fault Refusal :=
  let s := if who.val < 256 then s.touch who else s
  .next (if ¬ s.reader who then s.answer .refused
  else (s.tbShadows who tb).answer (.ok (s.tb tb).ns))

/-- BF_SNAP: all eight bases of one edge go to the writer's snapshot registers. -/
def execBfSnap (sess : Fin 256) (s : State) : Host.Outcome State Fault Refusal :=
  let k := sess.val
  let s := s.touch k
  .next (if ¬ (s.session k).isOpen then s.answer .refused
  else
    ((List.range 8).foldl (fun t b =>
      let x := t.tb b
      let t := t.setShadow k .TB_SNAP_NS b 0 x.ns
      let t := t.setShadow k .TB_SNAP_SEC_LO b 0 (x.sec % 2 ^ 32)
      t.setShadow k .TB_SNAP_SEC_HI b 0 (x.sec / 2 ^ 32)) s).answer (.ok 1))

/-! ### Writes by a session or the servo (R576, R577, R580, R582) -/

/-- Requester `who` is the servo engine. -/
def State.isServo (s : State) (who : Nat) : Bool := who == 256 + s.bel.servo && s.reader who

/-- A write of a Belfry register: the servo writes with the device's own authority, a session under R637; another
engine may not. -/
def State.belWrite (s : State) (who : Nat) (r : RegName) (i value : Nat) (after : State → State) : State :=
  if s.isServo who then after (s.setReg r i 0 (s.newWord r i 0 value))
  else if 256 ≤ who then s
  else s.sessionWrite who r i 0 value (fun _ => true) after

/-- A command write of a Belfry register. -/
def State.belCommand (s : State) (who : Nat) (r : RegName) (i value : Nat) (ok : Bool) (act : State → State) :
    State :=
  if s.isServo who then (if ok then act s else s)
  else if 256 ≤ who then s
  else s.sessionCommand who r i 0 value ok act

/-- TB_INC_WRITE: TB_INC_NS with the held fraction. -/
def execTbIncWrite (who : Fin 384) (tb : Fin 8) (value : Word) (s : State) : Host.Outcome State Fault Refusal :=
  .next (s.belWrite who .TB_INC_NS tb value.toNat fun t =>
    t.setTb tb { t.tb tb with incFrac := t.reg .TB_INC_FRAC tb })

/-- A slew that has added its full D is done (R577). -/
def State.slewEnd (s : State) (b : Nat) : State :=
  if s.bit F.TB_STATE_ADJ_ACTIVE b ∧ (s.tb b).left = 0 then
    (s.setBit F.TB_STATE_ADJ_ACTIVE false b).flag F.TB_FLAGS_ADJ_DONE b
  else s

/-- A write of D: 0 cancels a slew that still runs, any other value starts one. -/
def State.adjWritten (s : State) (b : Nat) : State :=
  let d := toSigned 32 (s.reg .TB_ADJ b)
  let s := s.slewEnd b
  if d ≠ 0 then
    (s.setTb b { s.tb b with left := d * 2 ^ 32, acc := 0 }).setBit F.TB_STATE_ADJ_ACTIVE true b
  else if s.bit F.TB_STATE_ADJ_ACTIVE b then
    let s := s.setTb b { s.tb b with left := 0, acc := 0 }
    (s.setBit F.TB_STATE_ADJ_ACTIVE false b).flag F.TB_FLAGS_ADJ_CANCEL b
  else s

/-- TB_ADJ_WRITE. -/
def execTbAdjWrite (who : Fin 384) (tb : Fin 8) (value : Word) (s : State) : Host.Outcome State Fault Refusal :=
  .next (s.belWrite who .TB_ADJ tb value.toNat fun t => t.adjWritten tb)

/-- SLEW_DONE. -/
def execSlewDone (tb : Fin 8) (s : State) : Host.Outcome State Fault Refusal := .next (s.slewEnd tb)

/-! ### Qualification (R583) -/

/-- Base b loses or gains qualification; that of time base 2 moves the windows (R287). -/
def State.setQual (s : State) (b : Nat) (q : Bool) : State :=
  if s.bit F.TB_STATE_QUAL b = q then s
  else
    let s := s.setBit F.TB_STATE_QUAL q b
    let s := s.flag (if q then F.TB_FLAGS_QUAL_GAINED else F.TB_FLAGS_QUAL_LOST) b
    if b = 2 then s.tb2Qual (q && s.win.cycGood) else s

/-- A slew ends without a flag (R580, R587). -/
def State.dropSlew (s : State) (b : Nat) : State :=
  let s := s.slewEnd b
  ((s.setTb b { s.tb b with left := 0, acc := 0 }).setBit F.TB_STATE_ADJ_ACTIVE false b).setReg .TB_ADJ b 0 0

/-- A step of base b to (sec, ns, frac) at the next edge, recorded with its writer (R580). -/
def State.tbStep (s : State) (b : Nat) (v : Nat × Nat × Nat) (who : Nat) : State :=
  let x := s.tb b
  let s := s.ledger 0x36 [b, x.sec, x.ns, x.frac, v.1, v.2.1, v.2.2, who]
  let s := s.dropSlew b
  let s := s.setTb b { s.tb b with apply := some v, runAt := none }
  (s.setQual b false).flag F.TB_FLAGS_STEP b

/-- The staged value of base b. -/
def State.staged (s : State) (b : Nat) : Nat × Nat × Nat :=
  (s.reg .TB_SET_SEC_LO b + 2 ^ 32 * s.reg .TB_SET_SEC_HI b, s.reg .TB_SET_NS b, s.reg .TB_SET_FRAC b)

/-- TB_APPLY: refused with staged nanoseconds of 10^9 or more. -/
def execTbApply (who : Fin 384) (tb : Fin 8) (s : State) : Host.Outcome State Fault Refusal :=
  .next (s.belCommand who .TB_CMD tb 1 (decide (s.reg .TB_SET_NS tb < 1000000000)) fun t =>
    (t.tbStep tb (t.staged tb) who).setBit F.TB_STATE_STAGED false tb)

/-- LOCK of time base 2 as R595 allows it: no edge missing since the last report, the last 16 edges 15 to 25 ms
apart. -/
def State.gridLock (s : State) : Bool :=
  !s.bel.gridMiss && s.bel.edges.length == 16 &&
  (List.zipWith (fun a b => cycleOk (a - b)) s.bel.edges (s.bel.edges.drop 1)).all id

/-- A report is good: LOCK, and |OFFSET| within QUAL_THR (R583). -/
def State.goodReport (s : State) (b : Nat) : Bool :=
  s.bit F.TB_SERVO_LOCK b && decide ((s.sfld F.TB_SERVO_OFFSET b).natAbs ≤ s.fld F.TB_CFG_QUAL_THR b)

/-- The end of a switch (R585, R586): counts that waited for it start now. -/
def State.switchDone (s : State) : State :=
  if ¬ s.bit F.BF_REF_STATE_SWITCHING then s
  else
    let s := s.setBit F.BF_REF_STATE_SWITCHING false
    { s with bel := { s.bel with refs := s.bel.refs.map fun r =>
        if r.waits then { r with waits := false, validAt := some s.now } else r } }

/-- REF_NOW: 3 is HOLDOVER. -/
def State.refNo (s : State) : Nat := s.fld F.BF_REF_STATE_REF_NOW

/-- Time base 0 within HOLD_QUAL_EFF of its entry to HOLDOVER, for which it stays qualified (R587, R678). -/
def State.holdKept (s : State) (b : Nat) : Bool :=
  b == 0 && s.refNo == 3 && !s.elapsed s.bel.holdAt (1000000000 * s.fld F.ALM_STATE_HOLD_QUAL_EFF)

/-- Reports cost base b its qualification (R583), but not in the time that HOLDOVER grants it (R587). -/
def State.unqualify (s : State) (b : Nat) : State := if s.holdKept b then s else s.setQual b false

/-- A report of base b as it stands in TB_SERVO (R583). -/
def State.servoReport (s : State) (b : Nat) : State :=
  let s := if b = 2 then
      let s := s.setBit F.TB_SERVO_LOCK (s.bit F.TB_SERVO_LOCK 2 && s.gridLock) 2
      { s with bel := { s.bel with gridMiss := false } }
    else s
  let s := if b = 0 ∧ s.bit F.TB_SERVO_SWITCH_DONE 0 then s.switchDone else s
  let x := s.tb b
  if s.goodReport b then
    let t := x.runAt.getD s.now
    let s := s.setTb b { x with runAt := some t, rptAt := some s.now, late := false }
    if s.elapsed t (500000000 * s.fld F.BF_REF_CFG_QUAL_T) then s.setQual b true else s
  else (s.setTb b { x with runAt := none, rptAt := some s.now, late := false }).unqualify b

/-- TB_SERVO_REPORT. -/
def execTbServoReport (who : Fin 384) (tb : Fin 8) (value : Word) (s : State) : Host.Outcome State Fault Refusal :=
  .next (s.belWrite who .TB_SERVO tb value.toNat fun t => t.servoReport tb)

/-- SERVO_REPORT_TIMEOUT: 3 s without a report of a disciplined base; one absence is one occurrence (R37). -/
def execServoReportTimeout (tb : Fin 8) (s : State) : Host.Outcome State Fault Refusal :=
  let x := s.tb tb
  .next (match x.rptAt with
  | some t =>
    if s.elapsed t 3000000000 then
      let again := if s.holdKept tb then some s.now else none
      ((s.setTb tb { x with rptAt := again, runAt := none, late := true }).unqualify tb).flagIf (!x.late) F.TB_FLAGS_SERVO_LATE tb
    else s
  | none => s)

/-! ### References of time base 0 (R584 to R587) -/

def State.ref (s : State) (r : Nat) : RefRec := s.bel.refs.toList.getD r {}
def State.setRef (s : State) (r : Nat) (x : RefRec) : State :=
  { s with bel := { s.bel with refs := Vector.ofFn fun i => if i.val = r then x else s.bel.refs[i] } }

/-- Reference r may be selected: its latest report is VALID, and SPAN only with SPAN_ALLOW. -/
def State.refValid (s : State) (r : Nat) : Bool :=
  bitOf (s.fld F.BF_REF_STATE_GOOD) r && s.bit F.BF_REF_RPT_VALID r &&
  (r != 2 || s.bit F.BF_REF_STATE_SPAN_ALLOW)

/-- The highest-ranked reference that may be selected, else HOLDOVER. -/
def State.bestRef (s : State) : Nat := ((List.range 3).find? fun r => s.refValid r).getD 3

/-- Select reference r (R585, R587); a count of a better one that a switch interrupts starts again at its end
(R596). -/
def State.selectRef (s : State) (r : Nat) : State :=
  let again := s.bit F.BF_REF_STATE_SWITCHING
  let s := (s.setFld F.BF_REF_STATE_REF_NOW r).flag F.BF_REF_FLAGS_REF_SWITCH
  let s := s.setBit F.BF_REF_STATE_SWITCHING (r != 3)
  let s := { s with bel := { s.bel with refs := Vector.ofFn fun i =>
    let x := s.bel.refs[i]
    if again ∧ i.val < r ∧ x.validAt.isSome then { x with waits := true } else x } }
  if r = 3 then
    (({ s with bel := { s.bel with holdAt := s.now } }).dropSlew 0).flag F.BF_REF_FLAGS_HOLDOVER
  else s

/-- Reference r becomes BAD. -/
def State.refBad (s : State) (r : Nat) : State :=
  let s := s.setFld F.BF_REF_STATE_GOOD (bitPut (s.fld F.BF_REF_STATE_GOOD) r false)
  let s := s.setRef r { s.ref r with validAt := none, waits := false }
  if s.refNo = r then s.selectRef s.bestRef else s

/-- A VALID report of reference r: first selection, or the return to a better one after REQUAL_T (R586). -/
def State.refGoodReport (s : State) (r : Nat) : State :=
  let s := s.setFld F.BF_REF_STATE_GOOD (bitPut (s.fld F.BF_REF_STATE_GOOD) r true)
  let sw := s.bit F.BF_REF_STATE_SWITCHING
  let x := s.ref r
  let s := if x.validAt.isNone then s.setRef r { x with validAt := some s.now, waits := sw } else s
  let x := s.ref r
  if ¬ s.refValid r then s
  else if s.refNo = 3 then s.selectRef r
  else if r < s.refNo ∧ ¬ sw ∧ ¬ x.waits ∧
      x.validAt.any (fun t => s.elapsed t (1000000000 * s.fld F.BF_REF_CFG_REQUAL_T)) then
    (s.selectRef r).flag F.BF_REF_FLAGS_REF_RETURN
  else s

/-- A report of reference r as it stands in BF_REF_RPT. -/
def State.refReport (s : State) (r : Nat) : State :=
  let s := s.setRef r { s.ref r with rptAt := some s.now }
  if s.bit F.BF_REF_RPT_VALID r then s.refGoodReport r else s.refBad r

/-- REF_REPORT. -/
def execRefReport (who : Fin 384) (ref : Fin 3) (value : Word) (s : State) : Host.Outcome State Fault Refusal :=
  .next (s.belWrite who .BF_REF_RPT ref value.toNat fun t => t.refReport ref)

/-- REF_REPORT_TIMEOUT: 3 s without a report. -/
def execRefReportTimeout (ref : Fin 3) (s : State) : Host.Outcome State Fault Refusal :=
  .next (match (s.ref ref).rptAt with
  | some t =>
    if s.elapsed t 3000000000 then (s.setRef ref { s.ref ref with rptAt := none }).refBad ref else s
  | none => s)

/-- HOLDOVER_QUAL_END: HOLD_QUAL_EFF of the Almanac after entry to HOLDOVER (R587, R678). -/
def execHoldoverQualEnd (s : State) : Host.Outcome State Fault Refusal :=
  .next (if s.refNo = 3 ∧ s.elapsed s.bel.holdAt (1000000000 * s.fld F.ALM_STATE_HOLD_QUAL_EFF) then
    (s.setTb 0 { s.tb 0 with runAt := none }).setQual 0 false
  else s)

/-! ### PTP (R590 to R593) -/

/-- PTP_MESSAGE_RX on a port that is UP, under an injection of class TIME (R556). -/
def execPtpMessageRx (port : Fin 4) (kind : PtpKind) (sub : Fin 65536) (s : State) :
    Host.Outcome State Fault Refusal :=
  let p := port.val
  .next (if ¬ s.portUp p then s
  else
    let r := s.injReceive (if p < 2 then 2 else 3) (p % 2) 3 (.ptpMessageRx port kind sub)
    let s := if r.2.1 = 0 then r.1.ptpRx p kind sub else r.1
    s.releaseRx r.2.2)

/-- SPAN_SYNC_SEND: with reference A or B in use, a one-step Sync from both ports (R592). -/
def execSpanSyncSend (s : State) : Host.Outcome State Fault Refusal :=
  .next (if 1 < s.refNo then s
  else
    let r := s.nextSeq 3
    [false, true].foldl (fun t w =>
      if t.spanUp w then
        let e := t.egress (spanPort w)
        t.injSend 3 (if w then 1 else 0) 3 (spanMsg w
          { t.spanFrame w false 3 0x03 0xFF r.2 (syncBytes e.1 e.2.1) with corr := BitVec.ofInt 64 e.2.2 })
      else t) r.1)

/-- SPAN_PDELAY: the peer delay of a Span port has been measured, with a Pdelay message of HOPS = 0. -/
def execSpanPdelay (west : Bool) (delay : Word) (s : State) : Host.Outcome State Fault Refusal :=
  .next (if s.spanUp west then
    let r := s.nextSeq 3
    let s := r.1.injSend 3 (if west then 1 else 0) 3
      (spanMsg west { r.1.spanFrame west false 3 0x03 0xFF r.2 [] with hops := 0 })
    s.setReg .BF_SPAN_PDLY (if west then 1 else 0) 0 delay.toNat
  else s)

/-! ### Grid edges (R595) -/

/-- GRID_SYNC_EDGE: an edge is stamped on time bases 0 and 2. -/
def execGridSyncEdge (sub : Fin 65536) (s : State) : Host.Outcome State Fault Refusal :=
  .next (if s.sup.inReset then s else { s with bel := { s.bel with
    edges := (s.now :: s.bel.edges).take 16
    gridStamp := (s.stampOn 0 sub, s.stampOn 2 sub) } })

/-- GRID_EDGE_MISSING: no edge within 1.5 times the last period. -/
def execGridEdgeMissing (s : State) : Host.Outcome State Fault Refusal :=
  .next (match s.bel.edges with
  | a :: b :: _ =>
    if s.elapsed a ((a - b) * 3 / 2) then { s with bel := { s.bel with gridMiss := true } } else s
  | _ => s)

end Sys2Proof.Machine
end

