-- ==== Sys2Proof/Machine/Fabric.lean ====
section
/-! DEFINITION. The fault manager's shared operations (spec chapter 01): error records, Safe-state entry,
corrected errors, and the counting, fencing and retiring of containment units. -/

namespace Sys2Proof.Machine

/-! ### Units (R27, R28, R44, R45, R48) -/

/-- The block types of R48. -/
inductive UnitKind
  | channel | pierArb | conv | stream | tally | chain | engine | granary | queue | port | portArb
  | timeBase | almanac | keystone | supply
  deriving DecidableEq, Repr

/-- The containment unit of a site (R28, R44, R45). -/
def siteKind (x : Site) : UnitKind :=
  match x.region.val with
  | 0 => if x.arbiter then .pierArb else .channel
  | 1 => if x.block.val < 12 then .conv else if x.block.val < 20 then .stream else .tally
  | 2 => .chain
  | 3 => .engine
  | 4 => .granary
  | 5 => if x.block.val < 8 then .queue
         else if x.block.val = 8 then (if x.arbiter then .portArb else .port) else .timeBase
  | 6 => if x.block.val = 3 then .almanac else .keystone
  | _ => .supply

/-- The channel of a Pier site that is not its block's arbiter. -/
def siteChannel (x : Site) : Nat := 4 * x.block.val + x.tile.val / 2 % 4

/-- The key of a site's unit. -/
def siteUnit (x : Site) : Nat :=
  match siteKind x with
  | .channel => unitKey 0 x.block (2 * (x.tile.val / 2 % 4)) false
  | .pierArb => unitKey 0 x.block 0 true
  | .port => unitKey 5 8 x.tile false
  | .portArb => unitKey 5 8 0 true
  | _ => unitKey x.region x.block 0 false

/-- The key of a tile. -/
def siteTile (x : Site) : Nat := unitKey x.region x.block x.tile x.arbiter

/-- How many units of a type may be retired before Safe-state (R48, R57). -/
def State.retireLimit (s : State) : UnitKind → Nat
  | .channel => 32
  | .pierArb => 8
  | .conv => 12
  | .stream => 8
  | .chain => 8
  | .engine => s.fld F.KEY_ESC_CFG_MILL_RETIRE_MAX
  | .granary => s.fld F.KEY_ESC_CFG_GRAN_RETIRE_MAX
  | .queue => 4
  | .port => 1
  | .almanac => 1
  | _ => 0

/-- The kind of the unit with a given key. -/
def keyKind (key : Nat) : UnitKind :=
  siteKind ⟨Fin.ofNat 8 (key / 2 / 32 / 64), Fin.ofNat 64 (key / 2 / 32), Fin.ofNat 32 (key / 2), key % 2 == 1⟩

/-- Units of a kind that are retired. -/
def State.retiredCount (s : State) (k : UnitKind) : Nat :=
  (s.units.filter fun e => e.2.retired && keyKind e.1 == k).length

/-- A unit whose Contained event is Safe-state (R46, R48). -/
def containIsSafe : UnitKind → Bool
  | .timeBase | .keystone | .supply => true
  | _ => false

def State.unit (s : State) (key : Nat) : UnitRec := sparseGet s.units {} key
def State.setUnit (s : State) (key : Nat) (u : UnitRec) : State := { s with units := sparseSet s.units {} key u }

/-- Time base 3 in ns (R43). -/
def State.tb3 (s : State) : Nat := s.tbSec 3 * 1000000000 + s.tbNs 3

/-- Contained events of a site's unit in the present hour (R43, R51); 0 where it had none (log 153). -/
def State.hourCount (s : State) (x : Site) : Nat :=
  let u := s.unit (siteUnit x)
  match u.windowAt with
  | some t => if s.tb3 < t + 3600000000000 then u.attempts else 0
  | none => 0

/-- RESTARTING of KEY_FAB_STATE (R54). -/
def State.showRestarting (s : State) : State :=
  let m := s.units.foldl (fun a e => if e.2.restarting then a ||| 2 ^ (e.1 / 2 / 32 / 64) else a) 0
  s.setFld F.KEY_FAB_STATE_RESTARTING m

/-! ### Error records (R49 to R52, R721) -/

/-- The eight words of a record (R51). -/
def recordWords (cls level : Nat) (x : Site) (cause count seq sec ns detail action attempt : Nat) : List Nat :=
  [cls + 4 * level + 2 ^ 4 * x.region.val + 2 ^ 7 * x.block.val + 2 ^ 14 * x.tile.val,
   cause + 2 ^ 16 * count, seq, sec % 2 ^ 32, sec / 2 ^ 32 % 2 ^ 16, ns, detail,
   action + 2 ^ 8 * satNat 15 attempt]

/-- Write a record with its stamp: ring, sequence number, flag, and the Ledger for Degraded and Safe-state. -/
def State.errRecordAt (s : State) (cls level : Nat) (x : Site) (cause count sec ns detail action attempt : Nat) :
    State :=
  let seq := s.reg .KEY_ERR_SEQ
  let ws := recordWords cls level x cause count seq sec ns detail action attempt
  let s := s.setWords (0x1003E00000 + 32 * (seq % 4096)) ws
  let s := s.setReg .KEY_ERR_SEQ 0 0 (seq + 1)
  let s := match cls with
    | 0 => s.flag F.KEY_ERR_FLAGS_CORRECTED
    | 1 => s.flag F.KEY_ERR_FLAGS_CONTAINED
    | 2 => s.flag F.KEY_ERR_FLAGS_DEGRADED
    | _ => s.flag F.KEY_ERR_FLAGS_SAFE_STATE
  if 2 ≤ cls then s.ledger 0x24 ws else s

def State.errRecord (s : State) (cls level : Nat) (x : Site) (cause detail action attempt : Nat) : State :=
  s.errRecordAt cls level x cause 1 (s.tbSec 0) (s.tbNs 0) detail action attempt

/-! ### Safe-state (R46, R47, R721) -/

/-- Safe-state entry: every SAFE_RUN generator stops, every channel opens with cause SAFE_STATE, the first
cause is kept; a further cause writes one record with ACTION 7. -/
def State.safeEnter (s : State) (x : Site) (cause detail : Nat) : State :=
  if s.safe then s.errRecord 3 3 x cause detail 7 (s.hourCount x)
  else
    let s := s.errRecord 3 3 x cause detail 6 (s.hourCount x)
    let s := s.setFld F.KEY_FAB_STATE_STATE 3
    let s := s.setFld F.KEY_SAFE_CAUSE_CAUSE cause
    let s := s.setFld F.KEY_SAFE_CAUSE_REGION x.region
    let s := s.chans.foldl (fun t n =>
      (if t.resting n then t else t.enterRest n csOpen 0x2B 0).safeRun n) s
    (s.injEnd 5).recTrigger 6 0

/-! ### Corrected errors (R40, R42, R49) -/

/-- A corrected error of a tile: true when CORR_LIMIT of them fall within one half-open CORR_WINDOW, so that it
escalates the tile's block under R42.  The summary keeps the first error's cause (log 153). -/
def State.correctedError (s : State) (x : Site) (cause : Nat) : State × Bool :=
  let key := siteTile x
  let r : TileRec := sparseGet s.tiles {} key
  let len := 100000000 * s.fld F.KEY_ESC_CFG_CORR_WINDOW
  let errs := (r.errs.filter fun t => !s.elapsed t len) ++ [s.now]
  if s.fld F.KEY_ESC_CFG_CORR_LIMIT ≤ errs.length then
    ({ s with tiles := sparseSet s.tiles {} key { r with errs := [] } }, true)
  else
    let r := { r with errs := errs, sumCount := r.sumCount + 1 }
    let r := if r.sumCount = 1 then { r with sumCause := cause, sumSec := s.tbSec 0, sumNs := s.tbNs 0 } else r
    ({ s with tiles := sparseSet s.tiles {} key r }, false)

/-! ### Contained and Degraded (R43, R48) -/

/-- What a Contained or Degraded event of a unit came to. -/
inductive Verdict
  | none | fenced | retired | safeState
  deriving DecidableEq, Repr

/-- LEVEL of a unit's records (R49). -/
def unitLevel : UnitKind → Nat
  | .channel | .port => 0
  | _ => 1

/-- The bits that show a retired unit: DEGRADED of its region, and its block's bit of KEY_RETIRED unless the unit is a
channel or a port tile (R44, R45, R54, R60). -/
def State.showRetired (s : State) (x : Site) : State :=
  let k := siteKind x
  let s := s.showRestarting
  let s := s.setFld F.KEY_FAB_STATE_DEGRADED (s.fld F.KEY_FAB_STATE_DEGRADED ||| 2 ^ x.region.val)
  if k = .channel ∨ k = .port then s
  else if x.block.val < 32 then
    s.setReg .KEY_RETIRED_LO x.region 0 (bitPut (s.reg .KEY_RETIRED_LO x.region) x.block true)
  else s.setReg .KEY_RETIRED_HI x.region 0 (bitPut (s.reg .KEY_RETIRED_HI x.region) (x.block - 32) true)

/-- Retire a unit as Degraded (R43, R48): one record, of the class the event ends in. -/
def State.retireUnit (s : State) (x : Site) (cause detail attempt : Nat) : State × Verdict :=
  let k := siteKind x
  let key := siteUnit x
  let u := s.unit key
  if u.retired then (s, .none)
  else
    let beyond := s.retireLimit k < s.retiredCount k + 1
    let s := (s.setUnit key { u with restarting := false, retired := true }).showRetired x
    if beyond then (s.safeEnter x 0x000C detail, .safeState)
    else
      let s := s.errRecord 2 (unitLevel k) x cause detail 3 attempt
      (if s.safe then s else s.setFld F.KEY_FAB_STATE_STATE 1, .retired)

/-- ACTION of a Contained record (R51). -/
def containAction : UnitKind → Nat
  | .channel => 4
  | .pierArb => 5
  | _ => 1

/-- A Contained event of a unit (R43): a second error during a restart, or the CONT_LIMIT-th event within the
hour of time base 3, is Degraded; else the unit is fenced and its restart begins. -/
def State.containUnit (s : State) (x : Site) (cause detail : Nat) : State × Verdict :=
  let k := siteKind x
  let key := siteUnit x
  let u := s.unit key
  if u.retired then (s, .none)
  else
    let hour := s.tb3
    let att := s.hourCount x + 1
    let at_ := match u.windowAt with
      | some t => if hour < t + 3600000000000 then t else hour
      | none => hour
    let again := u.restarting
    let s := s.setUnit key { u with attempts := att, windowAt := some at_ }
    if containIsSafe k then (s.safeEnter x cause detail, .safeState)
    else if again then (s.flag F.KEY_ERR_FLAGS_RESTART_FAIL).retireUnit x 0x0009 detail att
    else if s.fld F.KEY_ESC_CFG_CONT_LIMIT ≤ att then s.retireUnit x 0x000A detail att
    else
      let s := s.setUnit key { s.unit key with restarting := true, startedAt := s.now }
      let s := s.showRestarting
      (s.errRecord 1 (unitLevel k) x cause detail (containAction k) att, .fenced)

end Sys2Proof.Machine
end

