-- ==== Sys2Proof/Machine/Convert.lean ====
section
/-! DEFINITION. The on-chip converters (spec chapter 08 and R296 to R298): sequences, triggers, calibration,
references, open-wire tests. -/

namespace Sys2Proof.Machine

def State.conv (s : State) (a : Nat) : Conv := sparseGet s.convs {} a
def State.setConv (s : State) (a : Nat) (c : Conv) : State := { s with convs := sparseSet s.convs {} a c }
def State.convBlock (s : State) (b : Nat) : ConvBlock := sparseGet s.convBlocks {} b
def State.setConvBlock (s : State) (b : Nat) (c : ConvBlock) : State :=
  { s with convBlocks := sparseSet s.convBlocks {} b c }

/-- The four converters of a block. -/
def blockConvs (b : Nat) : List Nat := [4 * b, 4 * b + 1, 4 * b + 2, 4 * b + 3]

/-- The unit of a converter block (R28). -/
def convUnit (b : Nat) : Nat := unitKey 1 b 0 false

/-- The site of a converter block's own reports. -/
def convSite (b : Nat) : Site := ⟨1, Fin.ofNat 64 b, 0, false⟩

def State.convEn (s : State) (a : Nat) : Bool := s.bit F.MEAS_ADC_CFG_EN a
def State.refNow (s : State) (a : Nat) : Nat := s.fld F.MEAS_CONV_REF_REF_NOW a
def State.switching (s : State) (a : Nat) : Bool := s.bit F.MEAS_CONV_REF_SWITCHING a

/-! ### Inputs (R297, R298, R314) -/

/-- A local input is read as the even input of a differential pair. -/
def State.isDiff (s : State) (i : Nat) : Bool := i % 2 == 0 && s.fld F.MEAS_IN_CFG_MODE i == 2

/-- An input has entries of its own (R297, R315): not off, and not the odd input of a differential pair. -/
def State.inputLive (s : State) (i : Nat) : Bool :=
  if i % 2 = 1 ∧ s.isDiff (i - 1) then false
  else s.fld F.MEAS_IN_CFG_MODE i == 1 || s.isDiff i

/-- An invalid input reads 0 (R298). -/
def State.invalidate (s : State) (i : Nat) : State :=
  let s := s.setReg .MEAS_RES i 0 0
  s.setReg .MEAS_RVALID (i / 32) 0 (bitPut (s.reg .MEAS_RVALID (i / 32)) (i % 32) false)

/-- Every input of a converter, or of a block, reads invalid. -/
def State.invalidateConv (s : State) (a : Nat) : State :=
  (List.range 4).foldl (fun t l => t.invalidate (4 * a + l)) s
def State.invalidateBlock (s : State) (b : Nat) : State := (blockConvs b).foldl State.invalidateConv s

/-- 2^(6 + c) for an OSR code; 7 is treated as 6 (R312). -/
def osrOf (c : Nat) : Nat := 2 ^ (6 + satNat 6 c)

/-- VREF of the reference in use, in V (R332). -/
def State.vref (s : State) (a : Nat) : Rat :=
  match s.refNow a with
  | 1 => (s.fld F.MEAS_REF_EXTV_REF_EXT_V : Rat) / 100000
  | 2 => (s.fld F.SUP_RAIL_MON_V_NOW 0 : Rat) / 1000 * 25 / 33
  | _ => 5 / 2

/-- G of R328 as held in MEAS_CAL. -/
def State.convGain (s : State) (a : Nat) : Rat := (s.fld F.MEAS_CAL_GAIN a 1 : Rat) / 4194304
/-- OFFSET of R328 as held in MEAS_CAL. -/
def State.convOffset (s : State) (a : Nat) : Int := s.sfld F.MEAS_CAL_OFFSET a 0

/-- The code of a raw result before clamping (R328). -/
def State.rawCode (s : State) (a : Nat) (diff : Bool) (raw : Int) : Int :=
  let d : Int := if diff then raw - s.convOffset a else raw - 2 * s.convOffset a
  roundFree 80 (s.convGain a * (d : Rat))

/-- The extremes of a code (R298). -/
def codeMin (diff : Bool) : Int := if diff then -0x800000 else 0
def codeMax (diff : Bool) : Int := if diff then 0x7FFFFF else 0xFFFFFF

/-- How a code is placed in a result register (R298). -/
def placeCode (left : Bool) (code : Int) : Nat :=
  if left then ofSigned 24 code * 256 else ofSigned 32 code

/-- The voltage of a code (R298). -/
def State.codeVolts (s : State) (a : Nat) (diff : Bool) (code : Int) : Rat :=
  (code : Rat) * s.vref a / (if diff then 8388608 else 16777216)

/-! ### Readiness and the course of a converter (R315 to R320) -/

/-- The block and the converter have passed, no calibration runs, and the reference is in place (R316, R324, R329, R337).  A
converter that was powered down at the calibration waits for one of its own. -/
def State.convReady (s : State) (a : Nat) : Bool :=
  let b := s.convBlock (a / 4)
  s.convEn a && b.passed && s.bit F.MEAS_CAL_CAL_OK a 3 && b.cal == .none && !s.switching a && s.refNow a != 3 &&
  !s.fenced (convUnit (a / 4)) && 2 ≤ s.phase

/-- Local inputs of the regular and injected lists. -/
def State.regInput (s : State) (a k : Nat) : Nat := bitsGet (s.fld F.MEAS_SEQ_CFG_RSEQ a) (2 * k) 2
def State.injInput (s : State) (a k : Nat) : Nat := bitsGet (s.fld F.MEAS_INJ_CFG_ISEQ a) (2 * k) 2

/-- The first entry from k on that is not skipped (R315). -/
def State.regFrom (s : State) (a k : Nat) : Option Nat :=
  (List.range (s.fld F.MEAS_SEQ_CFG_RLEN a + 1)).find? fun j => k ≤ j && s.inputLive (4 * a + s.regInput a j)
def State.injFrom (s : State) (a k : Nat) : Option Nat :=
  (List.range (s.fld F.MEAS_INJ_CFG_ILEN a + 1)).find? fun j => k ≤ j && s.inputLive (4 * a + s.injInput a j)

/-- RMODE; 3 is treated as OFF (R351). -/
def State.rmode (s : State) (a : Nat) : Nat :=
  if s.fld F.MEAS_SEQ_CFG_RMODE a = 3 then 0 else s.fld F.MEAS_SEQ_CFG_RMODE a

/-- The next 10 MHz modulator clock edge (R322). -/
def State.modEdge (s : State) : Nat := (s.now + 99) / 100 * 100

/-- Start something at the next modulator edge. -/
def State.convBegin (s : State) (a : Nat) (act : ConvAct) (first : Bool) : State :=
  s.setConv a { s.conv a with act := act, startAt := s.modEdge, first := first }

/-- The register, and the converter, of a configuration write. -/
def adcRegOf : AdcReg → RegName
  | .seqCfg => .MEAS_SEQ_CFG
  | .injCfg => .MEAS_INJ_CFG
  | .adcCfg => .MEAS_ADC_CFG
  | .inCfg => .MEAS_IN_CFG
  | .owCfg => .MEAS_OW_CFG

/-- The staged writes take effect (R320). -/
def State.convApply (s : State) (a : Nat) : State :=
  let c := s.conv a
  let s := s.setConv a { c with staged := [] }
  let s := c.staged.foldl (fun t e => t.setReg (adcRegOf e.1) e.2.1 0 e.2.2) s
  (List.range 4).foldl (fun t l => if t.inputLive (4 * a + l) then t else t.invalidate (4 * a + l)) s

/-- An open-wire test that is due and may run (R341); with RMODE = OFF there is none. -/
def State.owNext (s : State) (a : Nat) : Option Nat :=
  (List.range 4).find? fun l => s.rmode a != 0 && ((s.conv a).inputs.toList.getD l {}).due &&
    bitOf (s.fld F.MEAS_OW_CFG_OW_EN a) l && s.inputLive (4 * a + l)

/-- Change what is kept of a local input. -/
def State.setAdcIn (s : State) (a l : Nat) (f : AdcIn → AdcIn) : State :=
  let c := s.conv a
  s.setConv a { c with inputs := Vector.ofFn fun k => if k.val = l then f c.inputs[k] else c.inputs[k] }

/-- A pass starts at its first entry that is not skipped. -/
def State.passStart (s : State) (a : Nat) : State :=
  match s.regFrom a 0 with
  | some k => s.convBegin a (.regular k) true
  | none => s

/-- An idle, ready converter takes up what it left (R318), else the pass that waits, else, when CONTINUOUS, the
next pass (R316). -/
def State.convKick (s : State) (a : Nat) : State :=
  let c := s.conv a
  if c.act ≠ .idle ∨ ¬ s.convReady a then s
  else
    match c.redo, c.resume with
    | some l, _ => (s.setConv a { c with redo := none }).convBegin a (.openWire l) true
    | none, some k => (s.setConv a { c with resume := none }).convBegin a (.regular k) true
    | none, none =>
      let s := s.convApply a
      if c.waits ∨ s.rmode a = 1 then (s.setConv a { s.conv a with waits := false }).passStart a else s

/-- What is in progress is broken off (R318, R319, R335, R343): a regular entry or an open-wire test is taken up
again later, an injected run is discarded. -/
def State.convHalt (s : State) (a : Nat) : State :=
  let c := s.conv a
  match c.act with
  | .idle => s
  | .regular k =>
    let s := s.flagIf (c.tries + 1 = 8) F.MEAS_SRC_FLAGS_REG_STARVED
    s.setConv a { c with act := .idle, resume := some k, tries := c.tries + 1 }
  | .openWire l => s.setConv a { c with act := .idle, redo := some l }
  | .injected _ => s.setConv a { c with act := .idle }

/-- The end of a regular pass, or of an open-wire test after one (R320, R341). -/
def State.passEnd (s : State) (a : Nat) : State :=
  let s := (s.setConv a { s.conv a with act := .idle }).convApply a
  match s.owNext a with
  | some l => if s.convReady a then s.convBegin a (.openWire l) true else s
  | none => s.convKick a

/-- The injected run starts: a regular entry or test in progress is abandoned (R317, R318). -/
def State.injStart (s : State) (a : Nat) : State :=
  let s := s.convHalt a
  match s.injFrom a 0 with
  | some k => s.convBegin a (.injected k) true
  | none => s.convKick a

/-! ### Trigger instants (R322, R324, R325) -/

/-- The regular sequence of converter a is triggered.  During an injected run the trigger is not dropped: its pass follows the
run, and the pass that the run has interrupted (R318, R324). -/
def State.fireRegular (s : State) (a : Nat) : State :=
  let c := s.conv a
  let drop := s.flag F.MEAS_SRC_FLAGS_TRIG_OVERRUN
  let wait := s.setConv a { c with waits := true }
  if s.rmode a = 0 then s
  else if ¬ s.convReady a then drop
  else
    match c.act with
    | .injected _ => wait
    | .regular _ => drop
    | .openWire _ => if c.resume.isSome then drop else wait
    | .idle =>
      if c.resume.isSome then drop
      else if c.redo.isSome then wait
      else (s.setConv a { c with fired := some s.modEdge }).passStart a

/-- The injected sequence of converter a is triggered. -/
def State.fireInjected (s : State) (a : Nat) : State :=
  if ¬ s.bit F.MEAS_INJ_CFG_IEN a then s
  else if ¬ s.convReady a then s.flag F.MEAS_SRC_FLAGS_INJ_OVERRUN
  else
    match (s.conv a).act with
    | .injected _ => s.flag F.MEAS_SRC_FLAGS_INJ_OVERRUN
    | _ => (s.setConv a { s.conv a with fired := some s.modEdge }).injStart a

/-- Group g is triggered: every ready member starts at one edge, whose time base 0 instant is stamped
(R325, R326). -/
def State.fireGroup (s : State) (g : Nat) : State :=
  let inj := s.bit F.MEAS_GRP_TARGET g
  let t := s.tb0 + ((s.modEdge - s.now : Nat) : Int)
  let s := s.setReg .MEAS_GRP_STAMP g 0 ((t / 1000000000) % 2 ^ 32).toNat
  let s := s.setReg .MEAS_GRP_STAMP g 1 (t % 1000000000).toNat
  (List.range 48).foldl (fun u a =>
    if u.fld F.MEAS_SEQ_CFG_GROUP a = g then (if inj then u.fireInjected a else u.fireRegular a) else u) s

/-- A pending trigger of a target whose delay has run out; it is taken off (R322). -/
def State.takeTrig (s : State) (target : Nat) : Option State :=
  if s.trigs.any fun e => e.1 == target && decide (e.2 ≤ s.now) then
    some { s with trigs := s.trigs.filter fun e => e.1 != target }
  else none

/-- ADC_REG_TRIGGER: the trigger instant of converter a's regular sequence. -/
def execAdcRegTrigger (conv : Fin 48) (s : State) : Host.Outcome State Fault Refusal :=
  .next (match s.takeTrig conv with
  | some t => t.fireRegular conv
  | none => s)

/-- ADC_INJ_TRIGGER: the trigger instant of converter a's injected sequence. -/
def execAdcInjTrigger (conv : Fin 48) (s : State) : Host.Outcome State Fault Refusal :=
  .next (match s.takeTrig (64 + conv.val) with
  | some t => t.fireInjected conv
  | none => s)

/-- ADC_GROUP_TRIGGER: the trigger instant of a group. -/
def execAdcGroupTrigger (group : Fin 16) (s : State) : Host.Outcome State Fault Refusal :=
  .next (match s.takeTrig (128 + group.val) with
  | some t => t.fireGroup group
  | none => s)

/-- A software trigger (R321): at once without a delay, else after it. -/
def State.swTrig (s : State) (k value target dly : Nat) (ok : Bool) (fire : State → State) : State :=
  s.sessionCommand k .MEAS_SWTRIG 0 0 value ok fun t =>
    if dly = 0 ∧ ¬ (t.trigs.any fun e => e.1 == target) then fire t else t.queueTrig target dly t.now

def execSwtrigRegular (sess : Fin 256) (target : Fin 64) (s : State) : Host.Outcome State Fault Refusal :=
  .next (s.swTrig sess target target (s.fld F.MEAS_RTRIG_DLY target) (target < 48)
    fun t => t.fireRegular target)

def execSwtrigInjected (sess : Fin 256) (target : Fin 64) (s : State) : Host.Outcome State Fault Refusal :=
  .next (s.swTrig sess (target + 128) (64 + target) (s.fld F.MEAS_ITRIG_DLY target) (target < 48)
    fun t => t.fireInjected target)

def execSwtrigGroup (sess : Fin 256) (target : Fin 64) (s : State) : Host.Outcome State Fault Refusal :=
  .next (s.swTrig sess (target + 64) (128 + target) (s.fld F.MEAS_GRP_DLY target)
    (1 ≤ target.val && target.val ≤ 15) fun t => t.fireGroup target)

/-! ### Entries (R315, R341, R342) -/

/-- The code of a result: whether the input is differential, the code, and whether it is extreme. -/
def State.codeOf (s : State) (a l : Nat) (raw : Int) : Bool × Int × Bool :=
  let diff := s.isDiff (4 * a + l)
  let c := clampInt (codeMin diff) (codeMax diff) (s.rawCode a diff raw)
  (diff, c, c == codeMin diff || c == codeMax diff)

/-- CLIP (R298, R304). -/
def State.clipIf (s : State) (ext : Bool) (i : Nat) : State :=
  s.flagIf ext F.MEAS_CLIP_CLIP (i / 32) (i % 32)

/-- A regular result of local input l (R315, R342). -/
def State.regResult (s : State) (a l : Nat) (raw : Int) : State :=
  let i := 4 * a + l
  let r := s.codeOf a l raw
  let s := s.clipIf r.2.2 i
  let x := (s.conv a).inputs.toList.getD l {}
  if x.discard then s.setAdcIn a l fun y => { y with discard := false }
  else
    let s := s.setAdcIn a l fun y => { y with volts := some (s.codeVolts a r.1 r.2.1), wroteAt := some s.now }
    if bitOf (s.reg .MEAS_OW_STATE (i / 32)) (i % 32) then s
    else
      let s := s.setReg .MEAS_RES i 0 (placeCode (s.bit F.MEAS_IN_CFG_ALIGN i) r.2.1)
      s.setReg .MEAS_RVALID (i / 32) 0 (bitPut (s.reg .MEAS_RVALID (i / 32)) (i % 32) true)

/-- An open-wire test of local input l ends (R341, R342). -/
def State.owResult (s : State) (a l : Nat) (raw : Int) : State :=
  let i := 4 * a + l
  let r := s.codeOf a l raw
  let von := s.codeVolts a r.1 r.2.1
  let x := (s.conv a).inputs.toList.getD l {}
  let moved := match x.volts with
    | some v => decide ((s.fld F.MEAS_OW_CFG_OW_THR a : Rat) / 100 ≤ absQ (von - v))
    | none => false
  let failed := moved || r.2.2
  let s := s.setAdcIn a l fun y => { y with
    due := false, discard := true
    fails := if failed then y.fails + 1 else 0
    passes := if failed then 0 else y.passes + 1 }
  let y := (s.conv a).inputs.toList.getD l {}
  let isOpen := bitOf (s.reg .MEAS_OW_STATE (i / 32)) (i % 32)
  if 2 ≤ y.fails ∧ ¬ isOpen then
    let s := s.setReg .MEAS_OW_STATE (i / 32) 0 (bitPut (s.reg .MEAS_OW_STATE (i / 32)) (i % 32) true)
    let s := (s.flag F.MEAS_OW_FLAGS_OPENED (i / 32) (i % 32)).flag F.MEAS_SRC_FLAGS_OW_OPEN
    s.invalidate i
  else if 2 ≤ y.passes ∧ isOpen then
    let s := s.setReg .MEAS_OW_STATE (i / 32) 0 (bitPut (s.reg .MEAS_OW_STATE (i / 32)) (i % 32) false)
    s.flag F.MEAS_SRC_FLAGS_OW_RESTORED
  else s

/-- The sequence is one entry in CONTINUOUS mode (R315). -/
def State.single (s : State) (a : Nat) : Bool := s.rmode a == 1 && s.fld F.MEAS_SEQ_CFG_RLEN a == 0

/-- How long the entry in progress lasts, in ns (R315, R341). -/
def State.entryTime (s : State) (a : Nat) : Nat :=
  let c := s.conv a
  let osr := osrOf (s.fld F.MEAS_ADC_CFG_OSR a)
  match c.act with
  | .idle => 0
  | .regular _ => if s.single a ∧ ¬ c.first then 100 * osr else 300 * osr
  | .injected _ => 300 * osrOf (s.fld F.MEAS_INJ_CFG_IOSR a)
  | .openWire _ => 1000000 * s.fld F.MEAS_OW_CFG_OW_SOAK a + 300 * osr

/-- After regular entry k: the next entry, or the end of the pass. -/
def State.regNext (s : State) (a k : Nat) : State :=
  let s := s.setConv a { s.conv a with tries := 0 }
  match s.regFrom a (k + 1) with
  | some j => s.convBegin a (.regular j) true
  | none =>
    if s.single a ∧ (s.conv a).staged = [] ∧ (s.owNext a).isNone ∧ s.convReady a then
      s.convBegin a (.regular k) false
    else s.passEnd a

/-- After injected entry k: the next entry, or the end of the run (R318, R320). -/
def State.injNext (s : State) (a k : Nat) : State :=
  match s.injFrom a (k + 1) with
  | some j => s.convBegin a (.injected j) true
  | none => (s.setConv a { s.conv a with act := .idle }).convKick a

/-- ADC_ENTRY_DONE: the entry in progress on a converter completes with a raw result (R315). -/
def execAdcEntryDone (conv : Fin 48) (raw : Int) (s : State) : Host.Outcome State Fault Refusal :=
  let a := conv.val
  .next (if ¬ s.convReady a ∨ ¬ s.elapsed (s.conv a).startAt (s.entryTime a) then s
  else
    match (s.conv a).act with
    | .idle => s
    | .regular k => (s.regResult a (s.regInput a k) raw).regNext a k
    | .injected k =>
      let i := 4 * a + s.injInput a k
      let r := s.codeOf a (s.injInput a k) raw
      let s := s.clipIf r.2.2 i
      (s.setReg .MEAS_INJ_RES a k (placeCode (s.bit F.MEAS_IN_CFG_ALIGN i) r.2.1)).injNext a k
    | .openWire l => (s.owResult a l raw).passEnd a)

/-- The last OW_PERIOD boundary (R341); its phase is that of the local oscillator (log 167). -/
def State.owBoundary (s : State) (a : Nat) : Nat :=
  let p := 10000000 * s.fld F.MEAS_OW_CFG_OW_PERIOD a
  s.now / p * p

/-- OW_DUE: an open-wire test of a local input falls due, once in each OW_PERIOD (R341). -/
def execOwDue (conv : Fin 48) (loc : Fin 4) (s : State) : Host.Outcome State Fault Refusal :=
  .next (if bitOf (s.fld F.MEAS_OW_CFG_OW_EN conv) loc ∧ s.rmode conv ≠ 0 ∧
      (((s.conv conv).inputs.toList.getD loc {}).dueAt) < s.owBoundary conv then
    s.setAdcIn conv loc fun y => { y with due := true, dueAt := s.owBoundary conv }
  else s)

/-- The test current on local input l in µA, sourced into it positive (R341, R358). -/
def State.owCurrent (s : State) (a l : Nat) : Int :=
  let c : Int := match s.fld F.MEAS_OW_CFG_OW_CUR a with
    | 0 => 1
    | 1 => 10
    | _ => 100
  match (s.conv a).act with
  | .openWire t =>
    if s.isDiff (4 * a + t) then (if l = t then c else if l = t + 1 then -c else 0)
    else if l = t then (if s.bit F.MEAS_OW_CFG_OW_POL a then -c else c)
    else 0
  | _ => 0

/-! ### Configuration writes (R320) -/

/-- The converter of instance idx of such a register. -/
def adcConvOf (r : AdcReg) (idx : Nat) : Nat := if r = .inCfg then idx / 4 else idx

/-- The word that a staged write would leave, or the register as it stands. -/
def State.stagedWord (s : State) (a : Nat) (r : AdcReg) (idx : Nat) : Nat :=
  (((s.conv a).staged.filter fun e => e.1 == r && e.2.1 == idx).getLast?.map fun e => e.2.2).getD (s.reg (adcRegOf r) idx)

/-- EN went to 0: the converter stops at once and its inputs read invalid (R320). -/
def State.convOff (s : State) (a : Nat) : State :=
  let c := s.conv a
  (s.setConv a { c with act := .idle, resume := none, redo := none, waits := false, tries := 0 }).invalidateConv a

/-- ADC_CFG_WRITE: the write is staged to the end of the pass or run in progress, or taken at once. -/
def execAdcCfgWrite (sess : Fin 256) (reg : AdcReg) (idx : Fin 192) (value : Word) (s : State) :
    Host.Outcome State Fault Refusal :=
  let r := adcRegOf reg
  let a := adcConvOf reg idx
  let s := s.touch sess
  .next (if s.sup.inReset then s
  else if 48 ≤ a ∨ s.regHeld r idx then s.answer .error
  else
    let new := fixWord s.variant r (s.reg r idx) (writeWord (writeFields r) (s.stagedWord a reg idx) value.toNat)
    let ok := !(reg == .inCfg && idx.val % 2 == 1 && bitsGet new 0 2 == 2)
    let res := s.writeResult sess r idx 0 new ok
    if res ≠ 0 then s.refuse sess r idx 0 res new
    else
      let s := s.accept sess r idx 0 new
      if reg = .adcCfg ∧ ¬ bitOf new 8 then
        let s := s.setConv a { s.conv a with staged := (s.conv a).staged.filter fun e => e.1 != .adcCfg }
        ((s.setReg r idx 0 new).convOff a).convApply a
      else
        let s := s.setConv a { s.conv a with staged := (s.conv a).staged ++ [(reg, idx.val, new)] }
        let c := s.conv a
        if c.act = .idle ∧ c.resume = none ∧ c.redo = none then (s.convApply a).convKick a else s)

/-! ### Calibration (R327 to R331, R343) -/

/-- INT as a block sees it (R333). -/
def State.refGood (s : State) (b ref : Nat) : Bool := ((s.convBlock b).refs.toList.getD ref {}).good

/-- A trigger instant at the modulator edge at which a calibration starts: the calibration is first, and the trigger is
dropped (R324, R343). -/
def State.convYield (s : State) (a : Nat) : State :=
  let c := s.conv a
  if c.fired ≠ some s.modEdge then s
  else
    match c.act with
    | .regular _ => (s.setConv a { c with act := .idle, fired := none }).flag F.MEAS_SRC_FLAGS_TRIG_OVERRUN
    | .injected _ => (s.setConv a { c with act := .idle, fired := none }).flag F.MEAS_SRC_FLAGS_INJ_OVERRUN
    | _ => s

/-- A calibration of block b begins: its sequences pause and its inputs read invalid (R331).  A retired block
ignores it; at runtime it waits while INT is not GOOD (R343). -/
def State.calBegin (s : State) (b : Nat) (startup auto : Bool) : State :=
  if (s.unit (convUnit b)).retired then s
  else
    let c := s.convBlock b
    let wait := !startup && !s.refGood b 0
    let s := (blockConvs b).foldl (fun t a => (t.convYield a).convHalt a) s
    (s.setConvBlock b { c with
      noExt := false, cal := if wait then .waiting else .running, calAt := s.now, startup := startup, auto := auto }).invalidateBlock b

/-- Every block calibrates, at entry to CALIBRATE and under R339. -/
def State.calAll (s : State) : State := (List.range 12).foldl (fun t b => t.calBegin b true false) s

/-- Entry to CALIBRATE (R330): from here on INT is to be GOOD throughout (R339); block 0 is the one viewed unless retired. -/
def State.calEnter (s : State) : State :=
  let b := ((List.range 12).find? fun b => !(s.unit (convUnit b)).retired).getD 0
  ({ s with settle := { s.settle with through := s.refGood b 0 } }).calAll

/-- CAL_START_CMD: the START bits of MEAS_CAL_CMD (R331, R348). -/
def execCalStartCmd (sess : Fin 256) (value : Word) (s : State) : Host.Outcome State Fault Refusal :=
  .next (s.sessionCommand sess .MEAS_CAL_CMD 0 0 (bitsGet value.toNat 0 12) true fun t =>
    (bitList 12 value.toNat).foldl (fun u b =>
      if (u.unit (convUnit b)).retired then u
      else
        let u := u.setReg .MEAS_CAL_CMD 0 0 (bitPut (u.reg .MEAS_CAL_CMD) b true)
        if (u.convBlock b).cal = .none then u.calBegin b false false else u) t)

/-- CAL_AUTO: a block whose junction temperature (0.1 °C) has moved by CAL_DT calibrates, one block at a time
(R331). -/
def execCalAuto (block : Fin 12) (tj : Int) (s : State) : Host.Outcome State Fault Refusal :=
  let dt : Int := 10 * (s.fld F.MEAS_REF_CFG_CAL_DT : Int)
  let b := block.val
  let far := (blockConvs b).any fun a =>
    let d := tj - s.sfld F.MEAS_CAL_TJ_CAL a 3
    decide (dt ≤ d ∨ dt ≤ -d)
  let other := (List.range 12).any fun x => (s.convBlock x).auto && (s.convBlock x).cal != .none
  .next (if dt ≠ 0 ∧ far ∧ ¬ other ∧ (s.convBlock b).cal = .none ∧ (s.convBlock b).passed ∧ 3 ≤ s.phase then
    s.calBegin b false true else s)

/-- The mean of a list of results. -/
def meanQ (xs : List Int) : Rat :=
  if xs.isEmpty then 0 else ((xs.foldl (· + ·) 0 : Int) : Rat) / (xs.length : Rat)

/-- Codes of single-ended raw results with the factors in place, as R298 clamps them. -/
def State.singleCodes (s : State) (a : Nat) (xs : List Int) : List Int :=
  xs.map fun x => clampInt 0 0xFFFFFF (s.rawCode a false x)

/-- The calibration of block b has the EXT_RATIO phase (R327, R339). -/
def State.calExt (s : State) (b : Nat) : Bool := s.bit F.MEAS_REF_CFG_EXT_FITTED && !(s.convBlock b).noExt

/-- The factors of converter a from its phases (R328) and whether it passes (R329). -/
def State.calConv (s : State) (a : Nat) (tj : Int) (r : CalRun) : State × Bool :=
  let off := meanQ r.offset
  let den := meanQ r.gain - 2 * off
  let g : Rat := if den = 0 then 0 else 12582912 / den
  let s := s.setSatFld F.MEAS_CAL_OFFSET (roundFree 81 off) a 0
  let s := s.setFld F.MEAS_CAL_GAIN (satNat 0xFFFFFF (roundFree 82 (g * 4194304)).toNat) a 1
  let ext := s.calExt (a / 4)
  let ratio := if ext then meanQ (s.singleCodes a r.ratio) / 12582912 else 0
  let s := s.setFld F.MEAS_CAL_RATIO_EXT (satNat 0xFFFFFF (roundFree 83 (ratio * 4194304)).toNat) a 2
  let s := s.setSatFld F.MEAS_CAL_TJ_CAL tj a 3
  let v := meanQ (s.singleCodes a r.verify)
  let ok := decide (absQ off ≤ 83886) && decide (49 / 50 ≤ g) && decide (g ≤ 51 / 50) &&
    decide (absQ (v - 12582912) ≤ 64)
  ((s.setBit F.MEAS_CAL_CAL_OK ok a 3).flagIf (!ok) F.MEAS_SRC_FLAGS_CAL_FAIL, ok)

/-- What a Contained or Degraded event of a converter block does to it (R48, R329): the block stops, its inputs
read invalid, and the restart includes a fresh calibration, which waits for INT (R343). -/
def State.convContained (s : State) (b : Nat) (v : Verdict) : State :=
  match v with
  | .none => s
  | .safeState => s
  | .fenced =>
    let c := s.convBlock b
    let wait := decide (3 ≤ s.phase) && !s.refGood b 0
    let s := (blockConvs b).foldl State.convHalt s
    (s.setConvBlock b { c with passed := false, noExt := false, cal := if wait then .waiting else .running, calAt := s.now, startup := false, auto := false
                               }).invalidateBlock b
  | .retired =>
    let s := (blockConvs b).foldl (fun t a => t.convOff a) s
    let s := s.setConvBlock b { s.convBlock b with passed := false, cal := .none, startup := false, auto := false }
    s.setReg .MEAS_CAL_CMD 0 0 (bitPut (s.reg .MEAS_CAL_CMD) b false)

/-! ### References (R332 to R340) -/

/-- The reference converter a is to use under R334; 3 is none. -/
def State.refChoice (s : State) (a : Nat) : Nat :=
  let b := a / 4
  let p := s.fld F.MEAS_CONV_REF_REF_PREF a
  if s.refGood b p then p
  else if ¬ s.bit F.MEAS_CONV_REF_FALLBACK a then 3
  else
    let after := match p with
      | 1 => [0, 2]
      | 0 => [2]
      | _ => []
    (after.find? fun r => s.refGood b r).getD 3

/-- The settling period of a reference, in ns (R332). -/
def State.settleTime (s : State) (ref : Nat) : Nat :=
  match ref with
  | 0 => 5000000
  | 1 => 1000000 * s.fld F.MEAS_REF_CFG_EXT_SETTLE
  | _ => 1000000

/-- A converter has no reference left: it stops (R337). -/
def State.refLose (s : State) (a : Nat) : State :=
  let s := s.flagIf (s.refNow a != 3) F.MEAS_SRC_FLAGS_REF_LOST
  (s.setFld F.MEAS_CONV_REF_REF_NOW 3 a).invalidateConv a

/-- VALID clears on inputs whose last result was written in the 300 µs before (R335). -/
def State.dropRecent (s : State) (a : Nat) : State :=
  (List.range 4).foldl (fun t l =>
    match ((t.conv a).inputs.toList.getD l {}).wroteAt with
    | some w => if t.now ≤ w + 300000 ∧ w < t.now then t.invalidate (4 * a + l) else t
    | none => t) s

/-- A switch begins (R335). -/
def State.switchBegin (s : State) (a target : Nat) (kind : SwitchKind) : State :=
  let s := s.convHalt a
  let s := s.setConv a { s.conv a with target := target, kind := kind, switchFrom := s.now }
  s.setBit F.MEAS_CONV_REF_SWITCHING true a

/-- What converter a does about its reference: nothing during a switch, a forced one after a REF_PREF write,
one away from a BAD reference, a return under R336, to INT after REF_INT_FAIL only once REF_READY has set (R340). -/
def State.refWatch (s : State) (a : Nat) : State :=
  if s.switching a ∨ s.phase < 2 ∨ 5 ≤ s.phase then s
  else
    let now := s.refNow a
    let c := s.conv a
    let want := s.refChoice a
    let s := s.setConv a { c with prefWritten := false }
    if want = now then s
    else if now ≠ 3 ∧ ¬ s.refGood (a / 4) now then
      let s := (s.convHalt a).dropRecent a
      if want = 3 then s.refLose a else s.switchBegin a want .fallback
    else if want = 3 then (s.convHalt a).refLose a
    else if now = 3 then s.switchBegin a want (if want = s.fld F.MEAS_CONV_REF_REF_PREF a then .back else .fallback)
    else if c.prefWritten then s.switchBegin a want .forced
    else
      let m := (s.convBlock (a / 4)).refs.toList.getD want {}
      match m.passAt with
      | some t =>
        if (want ≠ 0 ∨ ¬ s.settle.intFail) ∧ s.elapsed (max t (c.backAt.toList.getD want 0)) (s.settleTime want) then
          s.switchBegin a want .back else s
      | none => s

/-- Entry to ROLL_CALL (R81, R126, R403): the enabled pier links and chains start. -/
def State.enterRollCall (s : State) : State :=
  let s := s.setFld F.KEY_START_STATE_PHASE 3
  let s := match s.startAt with
    | some t => s.setReg .KEY_START_MARK 2 0 ((s.now - t) / 1000 % 2 ^ 32)
    | none => s
  s.chans.foldl (fun t n => (if t.bit F.PLK_CFG_LINK_EN n then t.linkEnable n else t).chainUp n) s.spanStart

/-- No start-up calibration is running. -/
def State.calIdle (s : State) : Bool := (List.range 12).all fun b => !(s.convBlock b).startup

/-- REF_SETTLE ends when a reference verdict stands and every calibration and switch is done (R339). -/
def State.settleCheck (s : State) : State :=
  let verdict := s.bit F.MEAS_REF_STATE_REF_READY || s.settle.intFail
  if s.phase = 2 ∧ verdict ∧ s.calIdle ∧ (List.range 48).all (fun a => !s.switching a) then s.enterRollCall else s

/-- The block whose view MEAS_REF_STATE shows (R333). -/
def State.viewBlock (s : State) : Nat :=
  ((List.range 12).find? fun b => !(s.unit (convUnit b)).retired).getD 0

/-- Entry to REF_SETTLE (R339). -/
def State.enterSettle (s : State) : State :=
  let s := s.setFld F.KEY_START_STATE_PHASE 2
  let s := match s.startAt with
    | some t => s.setReg .KEY_START_MARK 1 0 ((s.now - t) / 1000 % 2 ^ 32)
    | none => s
  let good := s.refGood s.viewBlock 0 && s.settle.through
  let s : State := { s with settle := { s.settle with at_ := s.now, late := !good } }
  let s := s.flagIf (!good) F.MEAS_SRC_FLAGS_REF_LATE
  let s := if good then s.setBit F.MEAS_REF_STATE_REF_READY true else s
  let s := (List.range 48).foldl (fun t a => (t.setConv a { t.conv a with prefWritten := true }).refWatch a) s
  let s : State := if good ∨ ¬ s.refGood s.viewBlock 0 then s
    else (({ s with settle := { s.settle with late := false } }).setBit F.MEAS_REF_STATE_REF_READY true).calAll
  ((List.range 48).foldl State.convKick s).settleCheck

/-- The blocks `l` are still to calibrate again against INT, one at a time; a retired one is passed over, and when none is left
REF_READY sets (R340). -/
def State.recalFrom (s : State) (l : List Nat) : State :=
  match l with
  | [] => ({ s with settle := { s.settle with recal := [], intFail := false } }).setBit F.MEAS_REF_STATE_REF_READY true
  | b :: rest =>
    if (s.unit (convUnit b)).retired then s.recalFrom rest
    else
      let s := { s with settle := { s.settle with recal := b :: rest } }
      if (s.convBlock b).cal ≠ .none then s else s.calBegin b false true

/-- A block's calibration against INT under R340 is over. -/
def State.recalDone (s : State) (b : Nat) : State :=
  match s.settle.recal with
  | x :: rest => if x = b then s.recalFrom rest else s
  | [] => s

/-- A calibration has ended, or a block has left it: CALIBRATE and REF_SETTLE may end (R330, R339), and the calibrations of
R340 pass over a retired block. -/
def State.calMoved (s : State) : State :=
  let s := match s.settle.recal with
    | x :: rest => if (s.unit (convUnit x)).retired then s.recalFrom rest else s
    | [] => s
  if s.phase = 1 ∧ s.calIdle then s.enterSettle else s.settleCheck

/-- How long the phases of block b's calibration last, in ns (R327). -/
def State.calTime (s : State) (b : Nat) : Nat := if s.calExt b then 79366400 else 64440000

/-- CAL_DONE: the phases of a block's calibration have run; `runs` are the raw results of its four converters,
`tj` the junction temperature in 0.1 °C (R328, R329, R331).  At start-up the converters with EN = 1 take part (R330), else
all four. -/
def execCalDone (block : Fin 12) (tj : Int) (runs : Vector CalRun 4) (s : State) :
    Host.Outcome State Fault Refusal :=
  let b := block.val
  .next (if (s.convBlock b).cal ≠ .running ∨ ¬ s.elapsed (s.convBlock b).calAt (s.calTime b) then s
  else
    let q := (List.range 4).foldl (fun (acc : State × Bool) l =>
      let a := 4 * b + l
      if acc.1.convEn a ∨ ¬ (s.convBlock b).startup then
        let r := acc.1.calConv a tj (runs.toList.getD l ⟨[], [], [], []⟩)
        (r.1, acc.2 && r.2)
      else acc) (s, true)
    let s := q.1.setConvBlock b { q.1.convBlock b with
      cal := .none, startup := false, auto := false, passed := q.2 }
    let s := s.setReg .MEAS_CAL_CMD 0 0 (bitPut (s.reg .MEAS_CAL_CMD) b false)
    let s := if q.2 then s.flag F.MEAS_SRC_FLAGS_CAL_DONE
      else
        let r := s.containUnit (convSite b) 0x0800 0
        r.1.convContained b r.2
    let s := (blockConvs b).foldl State.convKick s
    (s.recalDone b).calMoved)

/-- One check of a monitor (R333): GOOD after passing for the settling period, BAD at the third failure. -/
def RefMon.check (m : RefMon) (now settle : Nat) (pass : Bool) : RefMon :=
  if pass then
    let t := m.passAt.getD now
    { good := m.good || decide (t + settle ≤ now), passAt := some t, fails := 0 }
  else { good := m.good && decide (m.fails + 1 < 3), passAt := none, fails := m.fails + 1 }

/-- The three checks of a block (R333). -/
def State.checkRefs (s : State) (b : Nat) (intPpm extPpm : Int) : State :=
  let c := s.convBlock b
  let abs (x : Int) : Int := if x < 0 then -x else x
  let tol : Int := if s.refGood b 0 then 100 * (s.fld F.MEAS_REF_CFG_TOL_EXT : Int) else 10000
  let vana := s.fld F.SUP_RAIL_MON_V_NOW 0
  let pass (k : Nat) : Bool :=
    match k with
    | 0 => decide (abs intPpm ≤ 10000)
    | 1 => s.bit F.MEAS_REF_CFG_EXT_FITTED && decide (abs extPpm ≤ tol)
    | _ => 3135 ≤ vana && vana ≤ 3465
  s.setConvBlock b { c with
    refs := Vector.ofFn fun k => c.refs[k].check s.now (s.settleTime k.val) (pass k.val) }

/-- MEAS_REF_STATE shows one block's view (R333, R347). -/
def State.showRefs (s : State) (b : Nat) (intPpm : Int) : State :=
  if s.viewBlock ≠ b then s
  else
    let s := s.setBit F.MEAS_REF_STATE_INT_GOOD (s.refGood b 0)
    let s := s.setBit F.MEAS_REF_STATE_EXT_GOOD (s.refGood b 1)
    let s := s.setBit F.MEAS_REF_STATE_SUP_GOOD (s.refGood b 2)
    s.setSatFld F.MEAS_REF_STATE_INT_DEV intPpm

/-- INT of a block has become BAD (R338, R343): a Corrected error at runtime, and a calibration in progress
aborts. -/
def State.intBad (s : State) (b : Nat) : State :=
  if s.phase < 3 then s
  else
    let c := s.convBlock b
    let s := if c.cal = .running then
        (s.setConvBlock b { c with cal := .waiting }).flag F.MEAS_SRC_FLAGS_CAL_ABORT else s
    let r := s.correctedError (convSite b) 0x0801
    if r.2 then
      let q := r.1.containUnit (convSite b) 0x0008 0
      q.1.convContained b q.2
    else r.1

/-- INT of a block has become GOOD (R339, R340, R343). -/
def State.intBack (s : State) (b : Nat) : State :=
  let c := s.convBlock b
  let s := if c.cal = .waiting then s.setConvBlock b { c with cal := .running, calAt := s.now } else s
  if s.viewBlock ≠ b then s
  else if s.phase = 2 ∧ s.settle.late then
    (({ s with settle := { s.settle with late := false } }).setBit F.MEAS_REF_STATE_REF_READY true).calAll
  else if s.phase = 4 ∧ s.settle.intFail ∧ s.settle.recal = [] then
    s.recalFrom (List.range 12)
  else s

/-- REF_CHECK: a block's monitor checks INT against CHK, EXT (both in ppm of their nominal), and SUP (R333). -/
def execRefCheck (block : Fin 12) (intPpm extPpm : Int) (s : State) : Host.Outcome State Fault Refusal :=
  let b := block.val
  .next (if s.sup.inReset ∨ (s.unit (convUnit b)).retired then s
  else
    let was := s.refGood b 0
    let s := (s.checkRefs b intPpm extPpm).showRefs b intPpm
    let good := s.refGood b 0
    let s := if s.phase = 1 ∧ s.viewBlock = b ∧ ¬ good then
        { s with settle := { s.settle with through := false } } else s
    let s := if was ∧ ¬ good then s.intBad b else if good ∧ ¬ was then s.intBack b else s
    ((blockConvs b).foldl State.refWatch s).settleCheck)

/-- REF_SWITCH_DONE: the new reference is connected and settled (R335, R336). -/
def execRefSwitchDone (conv : Fin 48) (s : State) : Host.Outcome State Fault Refusal :=
  let a := conv.val
  .next (if ¬ s.switching a then s
  else
    let c := s.conv a
    let s := (s.setFld F.MEAS_CONV_REF_REF_NOW c.target a).setBit F.MEAS_CONV_REF_SWITCHING false a
    let s := s.setConv a { c with backAt := Vector.ofFn fun k =>
      if (((s.convBlock (a / 4)).refs[k]).passAt).any fun t => decide (c.switchFrom ≤ t) then s.now else c.backAt[k] }
    let s := match c.kind with
      | .fallback => s.flag F.MEAS_SRC_FLAGS_REF_FALLBACK
      | .back => s.flag F.MEAS_SRC_FLAGS_REF_RETURN
      | .forced => s
    ((s.refWatch a).convKick a).settleCheck)

/-- CONV_REF_WRITE: a write of REF_PREF forces a switch; code 0b11, and EXT without EXT_FITTED, are refused
(R334, R350). -/
def execConvRefWrite (sess : Fin 256) (conv : Fin 48) (value : Word) (s : State) :
    Host.Outcome State Fault Refusal :=
  .next (s.sessionWrite sess .MEAS_CONV_REF conv 0 value.toNat
    (fun new => bitsGet new 0 2 != 3 && !(bitsGet new 0 2 == 1 && !s.bit F.MEAS_REF_CFG_EXT_FITTED))
    fun t => (t.setConv conv { t.conv conv with prefWritten := true }).refWatch conv)

/-- REF_LATE_TIMEOUT: INT is not GOOD 100 ms after entry to REF_SETTLE (R339). -/
def execRefLateTimeout (s : State) : Host.Outcome State Fault Refusal :=
  .next (if s.phase = 2 ∧ s.settle.late ∧ s.elapsed s.settle.at_ 100000000 then
    let s := (({ s with settle := { s.settle with late := false, intFail := true } }).flag F.MEAS_SRC_FLAGS_REF_INT_FAIL).calAll
    ((List.range 12).foldl (fun t b => t.setConvBlock b { t.convBlock b with noExt := true }) s).settleCheck
  else s)

/-- GRP_STAMP_READ: word 0 loads the shadow of word 1 (R355). -/
def execGrpStampRead (who : Fin 384) (group : Fin 16) (s : State) : Host.Outcome State Fault Refusal :=
  .next (if group.val = 0 then s.answer .error
    else s.loadingRead who .MEAS_GRP_STAMP group 0 [(.MEAS_GRP_STAMP, group.val, 1)])

end Sys2Proof.Machine
end

