-- ==== Sys2Proof/Machine/Parapet.lean ====
section
/-! DEFINITION. The Parapet safety layer and Safe String Isolation (spec chapter 16): the checks of a PDU, the
connections, the permits and the demands they make, and the function's self-checks. -/

namespace Sys2Proof.Machine

/-! ### Permits and demands (R611, R612, R621) -/

def State.par (s : State) (i : Nat) : ParConn := sparseGet s.pars {} i
def State.setPar (s : State) (i : Nat) (c : ParConn) : State := { s with pars := sparseSet s.pars {} i c }

/-- The connections of the Charter (R617). -/
def State.conns (s : State) : List Nat := List.range (satNat 256 (s.fld F.SSI_CFG_CONNS))

def State.parState (s : State) (i : Nat) : Nat := s.fld F.PAR_STATE_STATE i
def State.chMask (s : State) (i : Nat) : Nat := s.reg .PAR_CHMASK i

/-- P_B[n] (R621). -/
def State.permit (s : State) (n : Nat) : Bool :=
  let gov := s.conns.filter fun i => bitOf (s.chMask i) n
  if gov.isEmpty then !bitOf (s.reg .SSI_BREQ) n
  else gov.all fun i => s.parState i == 2 && bitOf (s.par i).run n && !bitOf (s.reg .PAR_LATCH i) n

/-- SSI_PERMIT_B, SSI_DEMAND and SSI_LATCH as they follow from the connections. -/
def State.showPermits (s : State) : State :=
  let p := maskOf (s.chans.filter fun n => s.permit n)
  let l := (s.conns.map fun i => s.reg .PAR_LATCH i).foldl (fun a b => a ||| b) 0
  let s := s.setReg .SSI_LATCH 0 0 (s.chanMask l)
  let s := s.setReg .SSI_PERMIT_B 0 0 p
  s.setReg .SSI_DEMAND 0 0 (s.chanMask (2 ^ 32 - 1) - p)

/-- A demand comes into force on channel n (R612, R613, R629): URGENT_OPEN, OPEN with cause SSI_OPEN, the stamp kept
in the Ledger, PROOF_DUE cleared, and where it opens the string the recorder's trigger (log 152). -/
def State.demandOn (s : State) (n : Nat) : State :=
  if ¬ s.present n then s
  else
    let opens := !s.resting n
    let s := s.urgentOpen n
    let s := s.setLk n { s.lk n with ssiOffAt := some s.now }
    let s := if opens then s.enterRest n csOpen 0x2A 0 else s.safeRun n
    let s := s.ledgerState 0x39 n [n, s.tbSec 0, s.tbNs 0]
    let s := { s with ldgState := { s.ldgState with
      ssi := (n, s.tbSec 0) :: s.ldgState.ssi.filter fun e => e.1 != n } }
    let s := s.setReg .SSI_PROOF_DUE 0 0 (bitPut (s.reg .SSI_PROOF_DUE) n false)
    if opens then s.recTrigger 4 n else s

/-- Permission returns to channel n (R622): SAFE_RUN[n] resumes if R611 allows it. -/
def State.demandOff (s : State) (n : Nat) : State :=
  (s.setLk n { s.lk n with ssiOffAt := none }).safeRun n

/-- SSI_LAST (R635). -/
def State.ssiLast (s : State) (conn cause mask : Nat) : State :=
  let s := s.setReg .SSI_LAST 0 0 (conn + 2 ^ 8 * cause)
  let s := s.setReg .SSI_LAST 1 0 mask
  let s := s.setReg .SSI_LAST 2 0 (s.tbSec 0 % 2 ^ 32)
  s.setReg .SSI_LAST 3 0 (s.tbNs 0)

/-- Both lanes decide after connection `conn` changed for `cause` (0 RUN = 0, 1 to 5 as R619). -/
def State.decide_ (s : State) (conn cause : Nat) : State :=
  let old := s.reg .SSI_DEMAND
  let s := s.showPermits
  let new := s.reg .SSI_DEMAND
  let on := maskDiff 32 new old
  let s := if on ≠ 0 then (s.flag F.SSI_FLAGS_DEMAND_B).ssiLast conn cause on else s
  let s := (bitList 32 on).foldl State.demandOn s
  (bitList 32 (maskDiff 32 old new)).foldl State.demandOff s

/-! ### Connections (R619 to R623) -/

/-- The connections of a Charter just applied: WAIT, every channel latched (R619, R622). -/
def State.parStart (s : State) : State :=
  let s := s.conns.foldl (fun t i =>
    let t := t.setReg .PAR_STATE i 0 1
    let t := t.setReg .PAR_LATCH i 0 (t.chMask i)
    t.setPar i {}) s
  s.showPermits

/-- Entry to FAILSAFE (R619). -/
def State.failsafe (s : State) (i cause : Nat) : State :=
  let s := (s.setFld F.PAR_STATE_STATE 3 i).setFld F.PAR_STATE_CAUSE cause i
  let s := s.setFld F.PAR_CNT_FS_CNT (satNat 0xFFFF (s.fld F.PAR_CNT_FS_CNT i + 1)) i
  let s := s.flag F.SSI_FLAGS_CONN_FAILSAFE
  let s := s.setReg .PAR_LATCH i 0 (s.chMask i)
  s.decide_ i cause

/-- A discard that DUP counts. -/
def State.parDup (s : State) (i : Nat) : State :=
  s.setFld F.PAR_CNT_DUP ((s.fld F.PAR_CNT_DUP i + 1) % 2 ^ 16) i

/-- The watchdog of connection i has run out (R620). -/
def State.parLate (s : State) (i : Nat) : Bool :=
  s.parState i == 2 && s.elapsed (s.par i).startedAt (1000 * s.fld F.PAR_STATE_T_EXP_NOW i)

/-- The 36 bytes of a STATUS (R614). -/
def statusBytes (flags conn seq tExp sr latch echo diag : Nat) : List Nat :=
  let body := [0x21, flags, 0, 0] ++ [conn, seq, tExp, sr, latch, echo, diag].flatMap (leBytes 4)
  body ++ leBytes 4 (crc32c body)

/-- A Parapet PDU on Span: class SAFETY, KIND 0x02, both ways with one SEQ (R615). -/
def State.parSpan (s : State) (dst : Nat) (pdu : List Byte) : State :=
  let r := s.nextSeq 1
  [false, true].foldl (fun t w =>
    if t.spanUp w then
      t.injSend 3 (if w then 1 else 0) 1 (spanMsg w (t.spanFrame w true 1 0x02 dst r.2 pdu))
    else t) r.1

/-- The STATUS that answers an accepted PDU (R623), on Span to the connection's gateway (R616). -/
def State.sendStatus (s : State) (i : Nat) (span : Bool) (echo : Nat) : State :=
  let c := s.par i
  let seq := if c.sent then (s.reg .PAR_TXSEQ i + 1) % 2 ^ 32 else 0
  let s := (s.setReg .PAR_TXSEQ i 0 seq).setPar i { c with sent := true }
  let m := s.chMask i
  let sr := maskOf ((List.range 32).filter fun n => bitOf m n && s.bit F.PLK_STATE_SAFE_RUN_ON n)
  let flags := (if s.safe then 1 else 0) + (if s.phase = 4 then 0 else 2)
  let diag := s.parState i + 16 * s.fld F.PAR_STATE_CAUSE i
  let tExp := s.fld F.PAR_STATE_T_EXP_NOW i
  let pdu := statusBytes flags (s.reg .PAR_ID i) seq tExp sr (s.reg .PAR_LATCH i) echo diag
  let s := s.send (.status span flags (s.reg .PAR_ID i) seq tExp sr (s.reg .PAR_LATCH i) echo diag pdu)
  if span then s.parSpan (s.fld F.PAR_CFG_GW_ID i) (pdu.map fun b => BitVec.ofNat 8 b) else s

/-- Latches after an accepted COMMAND: RUN 0 sets, RUN 1 with RST 1 clears (R622). -/
def latchNext (mask latch run rst : Nat) : Nat :=
  maskOf ((List.range 32).filter fun n =>
    bitOf mask n && (!bitOf run n || (bitOf latch n && !bitOf rst n)))

/-- An accepted COMMAND or START (R619, R620, R622, R623). -/
def State.parAccept (s : State) (i : Nat) (span start : Bool) (p : ParPdu) : State :=
  let m := s.chMask i
  let run := if start then 0 else p.run.toNat
  let latch := if start then m else latchNext m (s.reg .PAR_LATCH i) run p.rst.toNat
  let s := s.setFld F.PAR_STATE_STATE 2 i
  let s := s.setFld F.PAR_STATE_T_EXP_NOW p.tExp.toNat i
  let s := s.setReg .PAR_RXSEQ i 0 p.seq.toNat
  let s := s.setReg .PAR_LATCH i 0 latch
  let s := s.setPar i { s.par i with run := run, startedAt := s.now, wasStart := start }
  (s.decide_ i 0).sendStatus i span p.seq.toNat

/-- A check from 5 on failed: an ACTIVE connection enters FAILSAFE; in WAIT and FAILSAFE the PDU is discarded. -/
def State.parFail (s : State) (i cause : Nat) : State := if s.parState i = 2 then s.failsafe i cause else s

/-- Checks 5 to 8 for a PDU of connection i (R618). -/
def State.parChecks (s : State) (i : Nat) (span : Bool) (src : Nat) (p : ParPdu) : State :=
  let tr := s.fld F.PAR_CFG_TRANSPORT i
  let allowed := if span then tr == 1 || tr == 2
    else (tr == 0 || tr == 2) && sparseGet s.charter.parSrc 0 i == src
  let rx := s.reg .PAR_RXSEQ i
  let seq := p.seq.toNat
  if ¬ allowed then s.parFail i 5
  else if p.type ≠ 1 ∧ p.type ≠ 3 then s.parFail i 4
  else if p.tExp.toNat < 100 ∨ s.fld F.PAR_CFG_T_EXP_MAX i < p.tExp.toNat then s.parFail i 3
  else if p.type = 3 then
    if s.parState i = 2 ∧ (s.par i).wasStart ∧ seq = rx then s.parDup i else s.parAccept i span true p
  else if s.parState i ≠ 2 then s.parDup i
  else if seq = (rx + 1) % 2 ^ 32 then s.parAccept i span false p
  else if (rx + 2 ^ 32 - seq) % 2 ^ 32 ≤ 64 then s.parDup i
  else s.parFail i 2

/-- A discard of steps 1 to 3 (R618). -/
def State.crcDiscard (s : State) : State :=
  s.setFld F.SSI_DISCARD_CRC_CNT ((s.fld F.SSI_DISCARD_CRC_CNT + 1) % 2 ^ 16)

/-- PARAPET_PDU_RX: the checks in order; the first failed one decides.  An expiry at the same edge comes first
(R620). -/
def execParapetPduRx (span : Bool) (src : Nat) (pdu : ParPdu) (s : State) : Host.Outcome State Fault Refusal :=
  let p := pdu
  finish (if s.sup.inReset then s
  else if ¬ p.lenOk then s.crcDiscard
  else if ¬ p.scrcOk then s.crcDiscard.flag F.SSI_FLAGS_FRAME_CRC
  else if p.version ≠ 1 then s.crcDiscard
  else
    match s.conns.find? fun i => s.reg .PAR_ID i == p.connId.toNat with
    | none =>
      let s := s.setFld F.SSI_DISCARD_UNKNOWN_CNT ((s.fld F.SSI_DISCARD_UNKNOWN_CNT + 1) % 2 ^ 16)
      let s := s.flag F.SSI_FLAGS_CONN_UNKNOWN
      if s.fld F.SSI_CFG_CONNS = 256 then (s.flag F.SSI_FLAGS_CAPACITY).event 0x02 0 true else s
    | some i =>
      let s := if s.parLate i then s.failsafe i 1 else s
      s.parChecks i span src p)

/-- PARAPET_RELAY: a datagram for another device goes unchanged onto Span, both ways (R615, R616). -/
def execParapetRelay (tdst : Byte) (connId : Word) (src : Nat) (pdu : List Byte) (s : State) :
    Host.Outcome State Fault Refusal :=
  .next (if tdst.toNat = s.fld F.SPAN_CFG_SPAN_ID ∨ ¬ s.bit F.SSI_CFG_RELAY_EN then s
  else
    let s := { s with span := { s.span with
      relays := (connId.toNat, src) :: s.span.relays.filter fun e => e.1 != connId.toNat } }
    s.parSpan tdst.toNat pdu)

/-- PARAPET_WATCHDOG: T_EXP without an accepted COMMAND (R620). -/
def execParapetWatchdog (conn : Fin 256) (s : State) : Host.Outcome State Fault Refusal :=
  finish (if s.parLate conn then s.failsafe conn 1 else s)

/-! ### Self-checks (R625, R626, R629) -/

/-- A tile of the Keystone. -/
def keySite (b : Nat) : Site := ⟨6, Fin.ofNat 64 b, 0, false⟩

/-- SSI_LANE_MISMATCH: the lanes have differed for more than 100 µs on the channels of `mask`; the lane that demands
holds its gate closed, and the device enters Safe-state. -/
def execSsiLaneMismatch (mask : Word) (s : State) : Host.Outcome State Fault Refusal :=
  if mask = 0 ∨ s.sup.inReset then .next s
  else finish ((bitList 32 (maskDiff 32 (s.chanMask mask.toNat) (s.reg .SSI_DEMAND))).foldl (fun t n =>
      t.setReg .SSI_DEMAND 0 0 (bitPut (t.reg .SSI_DEMAND) n true))
    (s.safeEnter (keySite 0) 0x0900 mask.toNat))

/-- SSI_READBACK_FAULT: wrong pulses at a gate or ball of channel n; the spec names no DETAIL. -/
def execSsiReadbackFault (ch : Fin 32) (s : State) : Host.Outcome State Fault Refusal :=
  finish (if s.present ch ∧ ¬ s.sup.inReset then (s.safeEnter (keySite 0) 0x0902 (s.free 180 % 2 ^ 32)).draw else s)

/-- SSI_GATE_TEST: one gate of a present channel during CALIBRATE; a failure enters Safe-state. -/
def execSsiGateTest (ch : Fin 32) (lane : Fin 2) (pass : Bool) (s : State) : Host.Outcome State Fault Refusal :=
  finish (if s.present ch ∧ s.phase = 1 ∧ ¬ pass then
    (s.safeEnter (keySite lane) 0x0901 (s.free 181 % 2 ^ 32)).draw else s)

/-- PROOF_DUE: the last demand's stamp is older than PROOF_T. -/
def execProofDue (ch : Fin 32) (s : State) : Host.Outcome State Fault Refusal :=
  let old := s.ldgState.ssi.any fun e =>
    e.1 == ch.val && decide (e.2 + 86400 * s.fld F.SSI_PROOF_CFG_PROOF_T < s.tbSec 0)
  .next (if s.present ch ∧ old then s.setReg .SSI_PROOF_DUE 0 0 (bitPut (s.reg .SSI_PROOF_DUE) ch true) else s)

/-- SSI_LAST_READ: word 0, with words 1 to 3 to the shadows (R635). -/
def execSsiLastRead (who : Fin 384) (s : State) : Host.Outcome State Fault Refusal :=
  .next (s.loadingRead who .SSI_LAST 0 0 [(.SSI_LAST, 1, 0), (.SSI_LAST, 2, 0), (.SSI_LAST, 3, 0)])

end Sys2Proof.Machine
end

