-- ==== Sys2Proof/Machine/Tollgate.lean ====
section
/-! DEFINITION. Tollgate (spec chapter 17): MAKER_EN, debug, key slots, Charter images and audit summaries. -/

/-! ### Charter images (R75, R76) -/

namespace Sys2Proof

/-- Byte i of the header of an image, and n of them as a little-endian number (R75). -/
def Image.byte (x : Image) (i : Nat) : Nat := (x.header.getD i 0xFF).toNat
def Image.field (x : Image) (lo n : Nat) : Nat :=
  (List.range n).foldl (fun a i => a + x.byte (lo + i) * 2 ^ (8 * i)) 0

/-- The fields of the header. -/
def Image.magic (x : Image) : Nat := x.field 0 4
def Image.format (x : Image) : Nat := x.field 4 2
def Image.keySlot (x : Image) : Nat := x.byte 6
def Image.generation (x : Image) : Nat := x.field 8 4
def Image.length (x : Image) : Nat := x.field 12 4
def Image.pierCh (x : Image) : Nat := x.byte 16
def Image.chainPorts (x : Image) : Nat := x.byte 17
def Image.ctxUnits (x : Image) : Nat := x.byte 18
def Image.buildTime (x : Image) : Nat := x.field 20 8
def Image.hdrCrc (x : Image) : Nat := x.field 124 4

/-- Bytes 0 to 127 are those of erased flash. -/
def Image.blank (x : Image) : Bool := (List.range 128).all fun i => x.byte i == 0xFF

/-- Step 1 of R76: MAGIC is "GKCH", and HDR_CRC is that of bytes 0 to 123. -/
def Image.headerGood (x : Image) : Bool :=
  x.magic == 0x48434B47 && x.hdrCrc == Machine.crc32c ((List.range 124).map x.byte)

/-- The body in bytes: LENGTH bytes of what stands in flash after the header, where erased flash reads 0xFF. -/
def Image.bodyByte (x : Image) (i : Nat) : Nat := (x.content.getD i 0xFF).toNat

end Sys2Proof

namespace Sys2Proof.Machine

/-! ### MAKER_EN and debug (R643, R644) -/

/-- Load a JTAG instruction; every SAFE_RUN ball follows. -/
def State.loadJtag (s : State) (i : JtagIns) : State :=
  let s := { s with tg := { s.tg with jtag := i } }
  s.chans.foldl State.safeRun s

/-- End a debug halt of an engine: its cell blocks resume (R438). -/
def State.unhalt (s : State) (e : Nat) : State :=
  let s := { s with tg := { s.tg with halted := s.tg.halted.filter fun x => x != e } }
  if s.fenced (unitKey 3 (e / 16) 0 false) then s else (s.engineBlocks e).foldl State.blockResume s

/-- The DEBUG_EN bit takes a value: DEBUG_ON follows, a change is recorded (R647), and without it the port serves
BYPASS and IDCODE only. -/
def State.debugEn (s : State) (k : Nat) (old v : Bool) : State :=
  let s := (s.setBit F.TG_DEBUG_DEBUG_EN v).setBit F.TG_STATE_DEBUG_ON v
  let s := if old = v then s
    else s.auditSession k (roleCode .maker) (if v then 5 else 6) (s.session k).certId
  if v ∨ s.tg.jtag = .bypass ∨ s.tg.jtag = .idcode then s else s.loadJtag .bypass

/-- The number of the maker session, while one is open. -/
def State.makerSession (s : State) : Option Nat :=
  (s.sess.find? fun e => e.2.isOpen && e.2.role == .maker).map fun e => e.1

/-- MAKER_EN_ASSERT: high for 10 ms. -/
def execMakerEnAssert (heldUs : Nat) (s : State) : Host.Outcome State Fault Refusal :=
  .next (if s.sup.inReset ∨ s.bit F.TG_STATE_MAKER_EN ∨ heldUs < 10000 then s
  else (s.setBit F.TG_STATE_MAKER_EN true).auditSession 0 (roleCode .maker) 3 0)

/-- MAKER_EN_DEASSERT: low for 1 ms; the maker session closes, DEBUG_EN clears, halts are released. -/
def execMakerEnDeassert (heldUs : Nat) (s : State) : Host.Outcome State Fault Refusal :=
  .next (if ¬ s.bit F.TG_STATE_MAKER_EN ∨ heldUs < 1000 then s
  else
    let s := (s.setBit F.TG_STATE_MAKER_EN false).auditSession 0 (roleCode .maker) 4 0
    let s := match s.makerSession with
      | some k => s.closeSession k
      | none => s
    let s := s.debugEn 0 (s.bit F.TG_DEBUG_DEBUG_EN) false
    let s := s.tg.halted.foldl State.unhalt s
    s.flag F.TG_FLAGS_MAKER_DROP)

/-- DEBUG_EN_WRITE. -/
def execDebugEnWrite (sess : Fin 256) (value : Word) (s : State) : Host.Outcome State Fault Refusal :=
  let old := s.bit F.TG_DEBUG_DEBUG_EN
  .next (s.sessionWrite sess .TG_DEBUG 0 0 value.toNat (fun _ => true) fun t =>
    t.debugEn sess old (t.bit F.TG_DEBUG_DEBUG_EN))

/-- Every channel is OPEN, TRIPPED or LOCKED, or the device is in Safe Idle (R644). -/
def State.extestAllowed (s : State) : Bool := s.phase == 5 || s.chans.all s.resting

/-- JTAG_INSTRUCTION: one that is not available is not loaded. -/
def execJtagInstruction (ins : JtagIns) (s : State) : Host.Outcome State Fault Refusal :=
  let dbg := s.bit F.TG_DEBUG_DEBUG_EN
  .next (match ins with
  | .bypass => s.loadJtag .bypass
  | .idcode => s.loadJtag .idcode
  | .samplePreload => if dbg then s.loadJtag .samplePreload else s
  | .extest => if dbg && s.extestAllowed then s.loadJtag .extest else s
  | .halt e =>
    if dbg ∧ ¬ s.tg.halted.contains e.val then
      let s := (s.loadJtag (.halt e)).enginePause e
      { s with tg := { s.tg with halted := s.tg.halted ++ [e.val] } }
    else s
  | .run e => if dbg then (s.loadJtag (.run e)).unhalt e else s)

/-! ### Key slots (R645) -/

/-- A write of TG_KEY_CMD. -/
def State.keyCmd (s : State) (k action slot key : Nat) (ok : Bool) (act : State → State) : State :=
  s.sessionCommand k .TG_KEY_CMD 0 0 (action + 4 * slot + 2 ^ 16 * key) (key == 0xF05E && ok) act

/-- KEY_PROGRAM: a slot is programmed once only. -/
def execKeyProgram (sess : Fin 256) (slot : Fin 4) (key : BitVec 16) (identity : Nat) (s : State) :
    Host.Outcome State Fault Refusal :=
  let have_ := s.fld F.TG_KEYS_PROGRAMMED
  .next (s.keyCmd sess 1 slot key.toNat (!bitOf have_ slot) fun t =>
    let t := t.setFld F.TG_KEYS_PROGRAMMED (have_ ||| 2 ^ slot.val)
    let t := { t with tg := { t.tg with fuseKeys := t.tg.fuseKeys ++ [(slot.val, identity)] } }
    (t.ledger 0x13 [1, slot.val]).flag F.TG_FLAGS_KEY_PROG)

/-- KEY_REVOKE: refused when no programmed, unrevoked slot would be left. -/
def execKeyRevoke (sess : Fin 256) (slot : Fin 4) (key : BitVec 16) (s : State) :
    Host.Outcome State Fault Refusal :=
  let rev := s.fld F.TG_KEYS_REVOKED ||| 2 ^ slot.val
  let left := (List.range 4).any fun b => bitOf (s.fld F.TG_KEYS_PROGRAMMED) b && !bitOf rev b
  .next (s.keyCmd sess 2 slot key.toNat left fun t =>
    ((t.setFld F.TG_KEYS_REVOKED rev).ledger 0x13 [2, slot.val]).flag F.TG_FLAGS_KEY_REVOKE)

/-! ### Charter images (R646) -/

/-- The image in a flash, and a change of it. -/
def State.image (s : State) (f : Nat) : Image := if f = 0 then s.imageA else s.imageB
def State.setImage (s : State) (f : Nat) (x : Image) : State :=
  if f = 0 then { s with imageA := x } else { s with imageB := x }

/-- What a flash holds after an image write that did not read back: bytes the spec does not give, which no key has
signed (log 160). -/
def State.tornImage (s : State) (x : Image) : Image :=
  { x with
    header := (List.range 128).map fun i => BitVec.ofNat 8 (s.free (1000 + i))
    signer := none }

/-- A maker session may write flash f now: in RUN the one that is not loaded, in Safe Idle either. -/
def State.imageAllowed (s : State) (k f : Nat) : Bool :=
  (s.session k).isOpen && (s.session k).role == .maker && s.bit F.TG_STATE_MAKER_EN && !s.safe &&
    ((s.phase == 4 && s.fld F.KEY_START_STATE_LOADED != f + 1) || s.phase == 5)

/-- IMAGE_WRITE: the region is erased, and programming begins. -/
def execImageWrite (sess : Fin 256) (flash : Fin 2) (image : Image) (s : State) : Host.Outcome State Fault Refusal :=
  let s := s.touch sess
  .next (if s.imageAllowed sess flash then
    let s := s.setImage flash {}
    ({ s with tg := { s.tg with writing := s.tg.writing.set flash (some image) } }).answer (.ok 0)
  else s.answer .refused)

/-- IMAGE_WRITE_DONE: read back as written, or not. -/
def execImageWriteDone (flash : Fin 2) (pass : Bool) (s : State) : Host.Outcome State Fault Refusal :=
  .next (match s.tg.writing[flash] with
  | none => s
  | some x =>
    let s := { s with tg := { s.tg with writing := s.tg.writing.set flash none } }
    if pass then
      let s := s.setImage flash x
      (s.ledger 0x14 [flash.val, x.generation, x.digestHead.toNat]).flag F.TG_FLAGS_IMAGE_WRITTEN
    else s.draw.setImage flash (s.tornImage x))

/-! ### Audit summaries (R647) -/

/-- AUDIT_SUMMARY_MINUTE: each session that wrote DSP_REQ in the minute. -/
def execAuditSummaryMinute (s : State) : Host.Outcome State Fault Refusal :=
  .next (s.sess.foldl (fun t e =>
    if e.2.dspWrites = 0 then t
    else (t.auditSummary e.1 e.2.dspWrites 0).setSession e.1 { t.session e.1 with dspWrites := 0 }) s)

/-- AUDIT_SUMMARY_SECOND: the refused writes of a session beyond the first 16 of the second. -/
def execAuditSummarySecond (s : State) : Host.Outcome State Fault Refusal :=
  .next (s.sess.foldl (fun t e =>
    if e.2.refused = 0 then t
    else
      let t := if 16 < e.2.refused then
        (t.auditSummary e.1 (e.2.refused - 16) 1).flag F.TG_FLAGS_AUDIT_SUMMARY else t
      t.setSession e.1 { t.session e.1 with refused := 0 }) s)

end Sys2Proof.Machine
end

