-- ==== Sys2Proof/Machine/Ledger.lean ====
section
/-! DEFINITION. The Ledger (spec chapter 17): segments, programming, reclaim, seals and opening. -/

namespace Sys2Proof.Machine

/-- A segment, and a change of it. -/
def LogFlash.seg (l : LogFlash) (i : Nat) : Seg := sparseGet l.segs {} i
def LogFlash.setSeg (l : LogFlash) (i : Nat) (x : Seg) : LogFlash := { l with segs := sparseSet l.segs {} i x }

/-- Segments not retired, and the highest erase count (R666). -/
def LogFlash.good (l : LogFlash) : Nat := l.total - (l.segs.filter fun e => e.2.retired).length
def LogFlash.eraseMax (l : LogFlash) : Nat := l.segs.foldl (fun a e => if a < e.2.erases then e.2.erases else a) 0

/-- Erased segments that are not retired. -/
def LogFlash.ahead (l : LogFlash) : Nat := l.total - (l.segs.filter fun e => !e.2.erased || e.2.retired).length

/-- Every record on the flash. -/
def LogFlash.recs (l : LogFlash) : List LedgerRec := l.segs.flatMap fun e => e.2.recs

/-- Put a flash back. -/
def State.setFlash (s : State) (f : Fin 2) (l : LogFlash) : State :=
  { s with ldg := { s.ldg with flashes := s.ldg.flashes.set f l } }

/-- Flash f is in use (R663). -/
def State.flashOk (s : State) (f : Nat) : Bool := bitOf (s.fld F.LDG_STATE_FLASH_OK) f

/-- Records on the flashes in use and in the buffer. -/
def State.allRecs (s : State) : List LedgerRec :=
  (if s.flashOk 0 then (s.ldg.flashes[0]).recs else []) ++
    (if s.flashOk 1 then (s.ldg.flashes[1]).recs else []) ++ s.ldg.buffer.map fun e => e.1

/-- A newer record takes the place of r: the same KIND and KEYV of a STATE record, or a later copy (R652, R653). -/
def supersedes (n r : LedgerRec) : Bool :=
  r.seq < n.seq && n.kind == r.kind && n.keyv == r.keyv &&
    (r.state || (n.sec == r.sec && n.ns == r.ns && n.body == r.body))

/-- A record is live (R653). -/
def State.live (s : State) (all : List LedgerRec) (r : LedgerRec) : Bool :=
  (r.state || s.tbSec 0 < r.sec + 86400 * s.fld F.LDG_CFG_EVENT_KEEP) && !all.any fun n => supersedes n r

/-- Bytes of the live records of a flash. -/
def State.liveBytes (s : State) (f : Fin 2) : Nat :=
  let all := s.allRecs
  ((s.ldg.flashes[f].recs).filter (s.live all)).foldl (fun a r => a + r.bytes) 0

/-- LIVE and FILL of LDG_STATE (R663), from the lowest flash in use. -/
def State.showLedger (s : State) : State :=
  let f : Fin 2 := if s.flashOk 0 then 0 else 1
  let cap := s.ldg.flashes[f].total * 65536
  let live : Rat := if cap = 0 then 0 else (1000 * s.liveBytes f : Rat) / cap
  (s.setFld F.LDG_STATE_LIVE (satNat 0xFFFF (roundFree 190 live).toNat)).showFill

/-- LDG_WEAR of a flash (R666). -/
def State.showWear (s : State) (f : Fin 2) : State :=
  let l := s.ldg.flashes[f]
  (s.setFld F.LDG_WEAR_ERASE_MAX (satNat 0xFFFF l.eraseMax) f.val).setFld F.LDG_WEAR_GOOD l.good f.val

/-- Buffered records that every flash in use holds leave the buffer. -/
def State.trimBuffer (s : State) : State :=
  let ok := s.fld F.LDG_STATE_FLASH_OK
  { s with ldg := { s.ldg with buffer := s.ldg.buffer.filter fun e => !(ok != 0 && maskDiff 2 ok e.2 == 0) } }

/-- Retire a segment after a failed program or erase; a flash with fewer than 64 good ones fails (R657). -/
def State.retireSeg (s : State) (f : Fin 2) (i : Nat) : State :=
  let l := s.ldg.flashes[f]
  let l := l.setSeg i { l.seg i with retired := true }
  let s := ((s.setFlash f l).flag F.LDG_FLAGS_SEG_RETIRED).showWear f
  if l.good < 64 then
    ((s.flag F.LDG_FLAGS_FLASH_FAIL).setFld F.LDG_STATE_FLASH_OK
      (bitPut (s.fld F.LDG_STATE_FLASH_OK) f.val false)).trimBuffer
  else s

/-- The next erased segment in rotation after the head. -/
def LogFlash.nextErased (l : LogFlash) : Option Nat :=
  let from_ := match l.head with
    | some h => h + 1
    | none => 0
  ((List.range l.total).map fun i => (from_ + i) % l.total).find? fun i => (l.seg i).erased && !(l.seg i).retired

/-- The segment that takes a record of so many bytes: the head, or the next erased one with a new header
(R650, R651, R653). -/
def LogFlash.place (l : LogFlash) (r : LedgerRec) (prev : BitVec 128) : Option (LogFlash × Nat) :=
  let room := match l.head with
    | some h => !(l.seg h).retired && (l.seg h).used + r.bytes ≤ 65536
    | none => false
  match l.head, room with
  | some h, true => some (l, h)
  | _, _ =>
    let last := l.segs.foldl (fun a e => if a < e.2.segSeq then e.2.segSeq else a) 0
    l.nextErased.map fun i =>
      let x : Seg := { l.seg i with
        segSeq := last + 1, firstSeq := r.seq, prevChain := prev, used := 64, erased := false }
      ({ l.setSeg i x with head := some i }, i)

/-- The record a flash takes next: urgent ones first, bulk ones in order while no image is written to it
(R646, R654). -/
def State.nextRecord (s : State) (f : Fin 2) : Option LedgerRec :=
  let need := (s.ldg.buffer.filter fun e => !bitOf e.2 f.val).map fun e => e.1
  match need.find? fun r => r.urgent with
  | some r => some r
  | none => if (s.tg.writing[f]).isSome then none else need.head?

/-- The newest of a list of records. -/
def newestRec (rs : List LedgerRec) : Option LedgerRec :=
  rs.foldl (fun a r => match a with
    | some b => if b.seq < r.seq then some r else a
    | none => some r) none

/-- Record r goes to the segment it is placed in; a failed program retires that segment (R657). -/
def State.programRec (s : State) (flash : Fin 2) (r : LedgerRec) (ok : Bool) : State :=
  let l := s.ldg.flashes[flash]
  let prev := ((newestRec l.recs).map fun r => r.chain).getD 0
  match l.place r prev with
  | none => s
  | some (l, i) =>
    if ok then
      let x := l.seg i
      let l := l.setSeg i { x with used := x.used + r.bytes, recs := x.recs ++ [r] }
      let s := s.setFlash flash l
      let mark (e : LedgerRec × Nat) := if e.1.seq = r.seq then (e.1, e.2 ||| 2 ^ flash.val) else e
      let s := { s with ldg := { s.ldg with buffer := s.ldg.buffer.map mark } }
      s.trimBuffer.showLedger
    else ((s.setFlash flash l).retireSeg flash i).showLedger

/-- Record r is a checkpoint that reaches its first flash more than 2 s after its stamp, and was not late when it was appended
(R489). -/
def State.ckptLate (s : State) (flash : Fin 2) (r : LedgerRec) : Bool :=
  let due : Int := (r.body.getD 1 0 : Nat) + 2000000000
  r.kind == 0x41 && decide (due < s.tb0) && decide (((r.sec * 1000000000 + r.ns : Nat) : Int) ≤ due) &&
    (s.ldg.buffer.any fun e => e.1.seq == r.seq && e.2 == 0) && ((s.ldg.flashes[flash]).place r 0).isSome

/-- LEDGER_PROGRAM_DONE: one record on one flash. -/
def execLedgerProgramDone (flash : Fin 2) (ok : Bool) (s : State) : Host.Outcome State Fault Refusal :=
  .next (if ¬ s.ldg.opened ∨ ¬ s.flashOk flash then s
  else
    match s.nextRecord flash with
    | none => s
    | some r => (s.programRec flash r ok).flagIf (ok && s.ckptLate flash r) F.LRN_GFLAGS_JOURNAL_LATE)

/-- Every waiting urgent record goes to the flashes in use (R83 step P4). -/
def State.flushUrgent (s : State) : State :=
  let go (t : State) (f : Fin 2) : State :=
    if t.flashOk f then
      ((t.ldg.buffer.filter fun e => e.1.urgent && !bitOf e.2 f.val).map fun e => e.1).foldl
        (fun u r => u.programRec f r true) t
    else t
  if s.ldg.opened then go (go s 0) 1 else s

/-- The oldest written segment behind the head. -/
def LogFlash.oldest (l : LogFlash) : Option Nat :=
  let c := l.segs.filter fun e => !e.2.erased && !e.2.retired && l.head != some e.1
  (c.find? fun e => c.all fun g => e.2.segSeq ≤ g.2.segSeq).map fun e => e.1

/-- A fresh copy of a live record: a new SEQ, the same stamp (R653). -/
def State.copyForward (s : State) (r : LedgerRec) : State :=
  s.ledgerAt r.kind r.urgent r.state r.keyv r.body r.sec r.ns

/-- Copy the live records of a segment forward; over LIVE_MAX the records that are not STATE are dropped, and
TRIM names their range (R653). -/
def State.reclaim (s : State) (f : Fin 2) (x : Seg) : State :=
  let all := s.allRecs
  let keep := x.recs.filter (s.live all)
  let full := s.ldg.flashes[f].total * 65536 * s.fld F.LDG_CFG_LIVE_MAX < 100 * s.liveBytes f
  let drop := if full then keep.filter fun r => !r.state else []
  let s := (keep.filter fun r => !full || r.state).foldl State.copyForward s
  match drop.head?, drop.getLast? with
  | some a, some b => (s.ledger 0x03 [a.seq, b.seq]).flag F.LDG_FLAGS_TRIM
  | _, _ => s

/-- LEDGER_ERASE_DONE: the oldest segment, when the erased ones ahead of the head need it. -/
def execLedgerEraseDone (flash : Fin 2) (ok : Bool) (s : State) : Host.Outcome State Fault Refusal :=
  let l := s.ldg.flashes[flash]
  .next (if ¬ s.ldg.opened ∨ ¬ s.flashOk flash ∨ 2 < l.ahead then s
  else
    match l.oldest with
    | none => s
    | some i =>
      let x := l.seg i
      let s := s.reclaim flash x
      if ok then
        let warn := 800 * s.fld F.LDG_CFG_ENDURANCE
        let s := s.setFlash flash (l.setSeg i { erases := x.erases + 1 })
        let s := s.flagIf (l.eraseMax < warn ∧ warn ≤ x.erases + 1) F.LDG_FLAGS_WEAR_HIGH
        (s.showWear flash).showLedger
      else (s.retireSeg flash i).showLedger)

/-- LEDGER_SEAL: after 4,096 records or an hour (R655): SEQ and CHAIN of the record before it, signed. -/
def execLedgerSeal (s : State) : Host.Outcome State Fault Refusal :=
  .next (if ¬ s.ldg.opened ∨ (s.ldg.sinceSeal < 4096 ∧ ¬ s.elapsed s.ldg.sealAt 3600000000000) then s
  else
    let seq := s.reg .LDG_SEQ 0 0 + 2 ^ 32 * s.reg .LDG_SEQ 1 0 - 1
    let s := s.ledger 0x01 [seq, s.ldg.chain.toNat, (Config.digest 20 [seq, s.ldg.chain.toNat]).toNat]
    { s with ldg := { s.ldg with sinceSeal := 0, sealAt := s.now } })

/-- Take what opening found on one flash: its size, FLASH_OK or FLASH_FAIL, its wear (R649, R656). -/
def State.openFlash (s : State) (f : Fin 2) (x : FlashScan) : State :=
  let l : LogFlash := { s.ldg.flashes[f] with total := x.segs }
  let ok := x.suspend && 64 ≤ l.good
  let s := s.setFlash f l
  let s := s.setFld F.LDG_STATE_FLASH_OK (bitPut (s.fld F.LDG_STATE_FLASH_OK) f.val ok)
  (s.flagIf (!ok) F.LDG_FLAGS_FLASH_FAIL).showWear f

/-- The later of two stamps. -/
def laterStamp (a b : Nat × Nat) : Nat × Nat := if a.1 < b.1 ∨ (a.1 = b.1 ∧ a.2 < b.2) then b else a

/-- Records that flash 0 holds and flash 1 lacks, or the other way, go to the other with their SEQ (R656). -/
def State.missingCopies (s : State) : List (LedgerRec × Nat) :=
  let a := (s.ldg.flashes[0]).recs
  let b := (s.ldg.flashes[1]).recs
  if s.flashOk 0 ∧ s.flashOk 1 then
    ((a.filter fun r => !b.any fun q => q.seq == r.seq).map fun r => (r, 1)) ++
      (b.filter fun r => !a.any fun q => q.seq == r.seq).map fun r => (r, 2)
  else []

/-- The head goes on from the last good record of the flashes (R655). -/
def State.findHead (s : State) : State :=
  let all := s.allRecs
  let last := newestRec all
  let next := match last with
    | some r => r.seq + 1
    | none => 0
  let sealed := ((newestRec (all.filter fun r => r.kind == 1)).map fun r => r.seq + 1).getD 0
  let l : Ldg := { s.ldg with
    opened := true
    chain := (last.map fun r => r.chain).getD 0
    buffer := s.missingCopies
    sinceSeal := next - sealed
    sealAt := s.now
    stamp := all.foldl (fun a r => laterStamp a (r.sec, r.ns)) (0, 0) }
  (({ s with ldg := l }).setReg .LDG_SEQ 0 0 (next % 2 ^ 32)).setReg .LDG_SEQ 1 0 (next / 2 ^ 32)

/-- What the open found: records cut off (R656), a broken chain, and the reset that led here (R69). -/
def State.tellOpen (s : State) (tornA tornB : Nat) (broken : Bool) : State :=
  let s : State := if tornA + tornB = 0 then s else (s.ledger 0x02 [tornA, tornB]).flag F.LDG_FLAGS_TORN
  let s : State := s.flagIf broken F.LDG_FLAGS_CHAIN_BREAK
  if s.resetToLog = 0 then s else { s.ledger 0x23 [s.resetToLog] with resetToLog := 0 }

/-- LEDGER_OPEN: the head is found, SEQ and CHAIN go on from the last good record, a cut-off record is named in a
RESUME record, records made since the start follow (R655, R656), and the reset is recorded (R69). -/
def execLedgerOpen (scans : Vector FlashScan 2) (sealOk : Bool) (s : State) : Host.Outcome State Fault Refusal :=
  .next (if s.ldg.opened ∨ s.startAt = none then s
  else
    let early := s.ldg.buffer.map fun e => e.1
    let s := { s with ldg := { s.ldg with buffer := [] } }
    let s := ((s.openFlash 0 scans[0]).openFlash 1 scans[1]).findHead
    let s := s.setBit F.LDG_STATE_SEAL_OK sealOk
    let s := s.tellOpen (scans[0]).torn (scans[1]).torn ((scans[0]).broken || (scans[1]).broken)
    (early.foldl State.copyForward s).showLedger)

/-- LDG_SEQ_READ: word 0 loads the shadow of word 1 (R665). -/
def execLdgSeqRead (who : Fin 384) (s : State) : Host.Outcome State Fault Refusal :=
  .next (s.loadingRead who .LDG_SEQ 0 0 [(.LDG_SEQ, 1, 0)])

end Sys2Proof.Machine
end

