-- ==== Sys2Proof/Machine/Almanac.lean ====
section
/-! DEFINITION. The Almanac (spec chapter 18): measures closed each day, re-plans, shedding, overrides. -/

namespace Sys2Proof.Machine

/-! ### Measures (R668) -/

/-- Insert into a rising list, and the list sorted. -/
def insertRat (x : Rat) (ys : List Rat) : List Rat :=
  match ys with
  | [] => [x]
  | y :: rest => if x ≤ y then x :: y :: rest else y :: insertRat x rest
def sortRat (xs : List Rat) : List Rat := xs.foldr insertRat []

/-- The median; of an even count the mean of the middle two. -/
def medianRat (xs : List Rat) : Option Rat :=
  let ys := sortRat xs
  let n := ys.length
  if n = 0 then none
  else if n % 2 = 1 then some (ys.getD (n / 2) 0)
  else some ((ys.getD (n / 2 - 1) 0 + ys.getD (n / 2) 0) / 2)

def medianNat (xs : List Nat) : Option Rat := medianRat (xs.map fun x => (x : Rat))

/-- The day's R_on in Ω: 1,000 windows or more, over currents that span 0.3 × ILIM. -/
def State.dayRon (s : State) (n : Nat) : Option Rat :=
  let a := s.almCh n
  let num : Rat := a.rN
  let den := num * a.rXX - a.rX * a.rX
  if a.rN < 1000 ∨ a.rHi - a.rLo < 3 / 10 * amps (s.fld F.PROT_ILIM_ILIM n) ∨ den = 0 then none
  else some ((num * a.rXY - a.rX * a.rY) / den)

/-- Micro-ohms. -/
def microOhm (x : Rat) : Nat := satNat 0xFFFF (roundFree 194 (x * 1000000)).toNat

/-- A record of a baseline (R669, R679). -/
def State.baseRecord (s : State) (n : Nat) (serial : List Nat) (b : Rat × Option Rat) : State :=
  s.ledgerAt 0x50 true false (Config.digest 21 serial).toNat
    [0, n, 1, 2, 0, microOhm b.1, ofSigned 32 (roundFree 196 (b.2.getD 0))] (s.tbSec 0) (s.tbNs 0)

/-- The first 7 daily values make the baseline of the SERIAL (R669). -/
def State.takeBase (s : State) (n : Nat) (v : Rat) : State :=
  let a := s.almCh n
  if a.base.isSome then s
  else
    let days := a.baseRon ++ [v]
    if days.length < 7 then s.setAlmCh n { a with baseRon := days }
    else
      let b : Rat × Option Rat := (days.foldl (· + ·) 0 / 7, medianNat a.baseVth)
      let s := s.setAlmCh n { a with baseRon := [], baseVth := [], base := some b }
      let s := { s with baseLog := (a.serial, b) :: s.baseLog.filter fun e => e.1 != a.serial }
      s.baseRecord n a.serial b

/-- A day of channel n closes; TRIM_DRIFT sets as the third day in a row with a mismatch closes (R37, R672). -/
def State.closeDay (s : State) (n : Nat) : State :=
  let v := s.dayRon n
  let a := s.almCh n
  let drift := if a.driftN = 0 then a.driftDay else a.driftSum / (a.driftN : Rat)
  let im := if a.imis = 0 then 0 else a.imisDays + 1
  let s := s.setAlmCh n { a with
    rN := 0, rX := 0, rY := 0, rXX := 0, rXY := 0, rLo := 0, rHi := 0
    ronDays := match v with
      | some x => (x :: a.ronDays).take 7
      | none => a.ronDays
    driftSum := 0, driftN := 0, driftDay := drift, imis := 0, imisDays := im }
  let s := s.flagIf (im == 3) F.ALM_FLAGS_TRIM_DRIFT
  let s := s.setSatFld F.ALM_CH_SHUNT_DRIFT (roundFree 195 (drift * 1000000)) n
  let s := match v with
    | some x => (s.setFld F.ALM_CH_RON_RON25 (microOhm x) n).takeBase n x
    | none => s
  s.showBase n

/-- A day of time base 0 closes when a new one has begun (R668, R673). -/
def State.dayTurn (s : State) : State :=
  let d := s.tbSec 0 / 86400
  let first : Bool := s.alm.day = none
  if s.alm.day = some d then s
  else
    let w (f : Fin 2) : List Nat := ((s.ldg.flashes[f]).eraseMax :: s.alm.wearDays[f]).take 31
    let m : Alm := { s.alm with
      day := some d
      wearDays := if first then s.alm.wearDays else Vector.ofFn w
      paceDay := if first then s.alm.paceDay else s.alm.paceMin
      paceMin := Vector.replicate 8 0xFFFF }
    let s := { s with alm := m }
    if first then s else s.chans.foldl State.closeDay s

/-- Seconds since power-on on the local oscillator. -/
def State.localSec (s : State) : Nat := s.now / 1000000000

/-- w(t): the largest change of offset over t seconds in the last 24 h (R668). -/
def State.wander (s : State) (t : Nat) : Rat :=
  s.alm.offs.foldl (fun a e =>
    match s.alm.offs.find? fun g => g.1 + t == e.1 with
    | some g => maxQ a (absQ (e.2 - g.2))
    | none => a) 0

/-- OSC_MEASURE: the offset of a second in which time base 0 is qualified. -/
def execOscMeasure (s : State) : Host.Outcome State Fault Refusal :=
  let inc : Rat := (s.fld F.TB_INC_NS_NS 0 : Rat) + ((s.tb 0).incFrac : Rat) / 4294967296
  .next (if ¬ s.almWorks ∨ ¬ s.bit F.TB_STATE_QUAL 0 ∨ inc = 0 then s
  else
    let off := 4 / inc - 1
    let far := decide (1 / 50000 < absQ off)
    let t := s.localSec
    let m : Alm := { s.alm with
      offs := (t, off) :: s.alm.offs.filter fun e => e.1 != t && t < e.1 + 86400
      outOfRange := far }
    let s := s.flagIf (far && !s.alm.outOfRange) F.ALM_FLAGS_OSC_RANGE
    let s := { s with alm := m }
    let s := s.setSatFld F.ALM_OSC_OFFSET (roundFree 197 (off * 100000000))
    s.setFld F.ALM_OSC_WANDER (satNat 0xFFFF (roundFree 198 (s.wander 2 * 1000000000)).toNat))

/-! ### The channel plan (R670 to R672) -/

/-- Show the slow groups of a channel (R672): median T_RISE at 0.8 × t_rise_max or more. -/
def State.slowGroups (s : State) (n : Nat) : State :=
  let lim : Rat := 40 * (s.fld F.PROT_MOD_T_RISE_MAX n : Rat)
  (List.range 16).foldl (fun t g =>
    match medianNat ((t.almCh n).rise.toList.getD g []) with
    | some m =>
      if lim ≤ m ∧ ¬ bitOf (t.fld F.ALM_CH_GATE_SLOW n) g then
        (t.setFld F.ALM_CH_GATE_SLOW (t.fld F.ALM_CH_GATE_SLOW n ||| 2 ^ g) n).flag F.ALM_FLAGS_GATE_SLOW
      else t
    | none => t) s

/-- The plan of channel n from its baseline and its daily R_on; without a median of V_th there is no plan of SHARE_K.
An f_tgt below 0.25 sets AGE_LIMIT as it begins, and the string is brought to zero, at once and at each re-plan, until a
module with another SERIAL is admitted, or while no override raises F_AGE (R672). -/
def State.planFrom (s : State) (n : Nat) (a : AlmCh) (bRon : Rat) (bVth : Option Rat) (ron : Rat) : State :=
  if bRon ≤ 0 ∨ ron ≤ 0 then s
  else
    let r := ron / bRon
    let dv : Option Rat := match medianNat a.vth, bVth with
      | some v, some b => some (v - b)
      | _, _ => none
    let byR := 1 / Config.sqrtQ r
    let byS := 1 - 2 * absQ a.driftDay
    let fTgt := minQ 1 (minQ byR byS)
    let rth := 1 + (s.fld F.ALM_CFG_KZ : Rat) / 100 * maxQ 0 (r - 1)
    let ratio := (roundFree 193 (r * 1000)).toNat
    let s := s.setFld F.ALM_CH_RON_RATIO (satNat 0xFFFF ratio) n
    let dv10 : Int := roundFree 196 (dv.getD 0)
    let s := s.setSatFld F.ALM_CH_GATE_DVTH dv10 n
    let goal := max 250 (roundDown (fTgt * 1000)).toNat
    let f := if a.planF ≤ goal then a.planF else max goal (a.planF - 20)
    let s := if byS < byR ∧ byS < 1
      then s.planItem .fAge n f 3 (ofSigned 32 (roundFree 195 (a.driftDay * 1000000)))
      else s.planItem .fAge n f 1 ratio
    let s := s.planItem .rTh n (max a.planR (satNat 511 (roundFree 192 (rth * 100)).toNat)) 1 ratio
    let p := (roundDown ((s.fld F.INS_PGRP_P_GROUP_MAX n : Rat) / rth)).toNat
    let s := s.planItem .pGroup n (min a.planP p) 1 ratio
    let s := match dv with
      | some x =>
        let k := s.fld F.INS_ROT_SHARE_K n + 2 * (absQ x / 10).floor.toNat
        s.planItem .shareK n (max a.planK (satNat 300 k)) 2 (ofSigned 32 dv10)
      | none => s
    let s := s.planItem .tjDrop n (max a.planT (if 6 / 5 ≤ rth then 10 else 0)) 1 ratio
    let s := if 1 / 4 ≤ fTgt then s else
      (s.flagIf (!(s.almCh n).aged) F.ALM_FLAGS_AGE_LIMIT).setAlmCh n { s.almCh n with aged := true }
    if s.agedOut n then s.zeroRequest n else s

/-- The plan of a channel with a baseline. -/
def State.planChannel (s : State) (n : Nat) : State :=
  let a := s.almCh n
  match a.base, medianRat a.ronDays with
  | some b, some ron => s.planFrom n a b.1 b.2 ron
  | _, _ => s

/-! ### Flash and oscillator (R677, R678) -/

/-- Erases a day over the last 30 days of a flash. -/
def State.eraseRate (s : State) (f : Fin 2) : Rat :=
  let w := s.alm.wearDays[f]
  let n := w.length
  if n < 2 then 0 else ((w.headD 0 : Rat) - (w.getLastD 0 : Rat)) / ((n - 1 : Nat) : Rat)

/-- S = k / 4 meets the condition of R677 on a flash. -/
def State.stretchMeets (s : State) (f : Fin 2) (k : Nat) : Bool :=
  let life : Rat := 365 * (s.fld F.ALM_CFG_LIFE_Y : Rat)
  let used : Rat := ((s.tbSec 0 / 86400 : Nat) : Rat) - ((s.ldg.firstSec.getD (s.tbSec 0) / 86400 : Nat) : Rat)
  let c : Rat := 1000 * (s.fld F.LDG_CFG_ENDURANCE : Rat)
  s.eraseRate f * (life - used) * 4 / (k : Rat) ≤ 4 / 5 * c - ((s.ldg.flashes[f]).eraseMax : Rat)

/-- Both flashes in use meet it. -/
def State.stretchOk (s : State) (k : Nat) : Bool :=
  (!s.flashOk 0 || s.stretchMeets 0 k) && (!s.flashOk 1 || s.stretchMeets 1 k)

/-- A flash has reached 80 % of ENDURANCE (R657). -/
def State.wearHigh (s : State) : Bool :=
  let w := 800 * s.fld F.LDG_CFG_ENDURANCE
  (s.flashOk 0 && w ≤ (s.ldg.flashes[0]).eraseMax) || (s.flashOk 1 && w ≤ (s.ldg.flashes[1]).eraseMax)

/-- The plan of S; FLASH_LIFE sets as S = 8.00 begins not to meet the condition (R37, R677). -/
def State.planStretch (s : State) : State :=
  let k := (((List.range 29).map fun i => i + 4).find? s.stretchOk).getD 32
  let k := if s.wearHigh then max 8 k else k
  let short := !s.stretchOk 32
  let s := s.flagIf (short && !s.alm.lifeShort) F.ALM_FLAGS_FLASH_LIFE
  let s := { s with alm := { s.alm with lifeShort := short } }
  let k := max s.alm.planS k
  s.planItem .stretch 0 k 7 (250 * k)

/-- The plan of HOLD_QUAL_EFF. -/
def State.planHoldQual (s : State) : State :=
  let ok (t : Nat) : Bool := s.wander t * (t : Rat) * 1000000000 ≤ 4 / 5 * (s.fld F.TB_CFG_QUAL_THR 0 : Rat)
  let ts := ((List.range (s.fld F.BF_REF_CFG_HOLD_QUAL)).map fun i => i + 1).filter ok
  s.planItem .holdQual 0 (ts.getLastD 0) 8 0

/-! ### Re-plans (R673, R681) -/

/-- A re-plan: every item as one update. -/
def State.replanAll (s : State) : State :=
  let s := s.dayTurn
  let s := s.chans.foldl (fun t n => (t.slowGroups n).planChannel n) s
  let s := (s.planStretch).planHoldQual
  let s := { s with alm := { s.alm with replanWaits := false } }
  (s.setReg .ALM_CMD 0 0 0).flag F.ALM_FLAGS_REPLAN

/-- A re-plan runs, or waits for the restart of a Contained block; a Degraded one runs none (R681). -/
def State.replanOrWait (s : State) : State :=
  if s.almWorks then s.replanAll
  else { s with alm := { s.alm with replanWaits := true } }

/-- ALMANAC_REPLAN: a multiple of 3,600 s of time base 0. -/
def execAlmanacReplan (s : State) : Host.Outcome State Fault Refusal :=
  .next (if s.sup.inReset then s else s.replanOrWait)

/-- REPLAN: a write of ALM_CMD; REPLAN reads 1 until it is applied. -/
def execReplan (sess : Fin 256) (value : Word) (s : State) : Host.Outcome State Fault Refusal :=
  .next (s.sessionCommand sess .ALM_CMD 0 0 value.toNat true fun t =>
    if bitOf value.toNat 0 then (t.setReg .ALM_CMD 0 0 1).replanOrWait else t)

/-- BASELINE_REFRESH: a fresh copy of each baseline record. -/
def execBaselineRefresh (s : State) : Host.Outcome State Fault Refusal :=
  .next (if s.sup.inReset ∨ ¬ s.almWorks then s
  else s.baseLog.foldl (fun t e => t.baseRecord 0xFF e.1 e.2) s)

/-! ### Shedding (R674 to R676) -/

/-- LEVEL moves by one step, recorded; its 10 min count starts again. -/
def State.levelStep (s : State) (v cause : Nat) : State :=
  ({ s with alm := { s.alm with lowAt := s.now } }).planItem .level 0 v cause 0

/-- SHED_LEVEL_RISE: load, LATE_STEP or WARN.  A load above LOAD_LO that raises nothing ends the 10 min of low load. -/
def execShedLevelRise (cause : ShedCause) (s : State) : Host.Outcome State Fault Refusal :=
  let up := min 5 (s.alm.planLevel + 1)
  let ready : Bool := match s.alm.riseAt with
    | some t => s.elapsed t 10000000000
    | none => true
  .next (if s.sup.inReset ∨ ¬ s.almWorks then s
  else match cause with
  | .load busy =>
    if s.fld F.ALM_CFG_LOAD_HI ≤ busy ∧ ready then
      ({ s with alm := { s.alm with riseAt := some s.now } }).levelStep up 4
    else if s.fld F.ALM_CFG_LOAD_LO < busy then { s with alm := { s.alm with lowAt := s.now } }
    else s
  | .lateStep =>
    if s.alm.lateStep ∧ ready then
      ({ s with alm := { s.alm with riseAt := some s.now, lateStep := false } }).levelStep up 5
    else s
  | .warn r =>
    if bitOf s.alm.warns r then
      ({ s with alm := { s.alm with warns := bitPut s.alm.warns r false } }).levelStep up 6
    else s)

/-- SHED_LEVEL_FALL: 10 min without a reason to rise. -/
def execShedLevelFall (s : State) : Host.Outcome State Fault Refusal :=
  .next (if ¬ s.almWorks ∨ s.alm.planLevel = 0 ∨ s.alm.lateStep ∨ s.alm.warns ≠ 0 ∨
      ¬ s.elapsed s.alm.lowAt 600000000000 then s
  else s.levelStep (s.alm.planLevel - 1) 4)

/-- BULK_SHED_END: 10 min after the last WARN. -/
def execBulkShedEnd (s : State) : Host.Outcome State Fault Refusal :=
  .next (match s.alm.bulkAt with
  | none => s
  | some t =>
    if s.almWorks ∧ s.elapsed t 600000000000 then
      let s := { s with alm := { s.alm with bulkAt := none } }
      (s.setBit F.ALM_STATE_BULK_SHED_ON false).flag F.ALM_FLAGS_RESTORE
    else s)

/-! ### Overrides (R680) -/

/-- The Charter value of an item: the value of its own register, or no ageing. -/
def State.charterItem (s : State) (i : AlmItem) (n : Nat) : Nat :=
  match i with
  | .pGroup => s.fld F.INS_PGRP_P_GROUP_MAX n
  | .shareK => s.fld F.INS_ROT_SHARE_K n
  | .holdQual => s.fld F.BF_REF_CFG_HOLD_QUAL
  | i => i.unplanned

/-- The end of an item's range in its strict direction. -/
def AlmItem.strictEnd : AlmItem → Nat
  | .fAge => 250
  | .rTh => 511
  | .shareK => 300
  | .tjDrop => 127
  | .level => 5
  | .stretch => 32
  | _ => 0

/-- Lower is the strict direction. -/
def AlmItem.strictLow : AlmItem → Bool
  | .fAge | .pGroup | .holdQual => true
  | _ => false

/-- An override may take this value: between the plan and the Charter value, or beyond the plan in the strict
direction. -/
def State.overrideFits (s : State) (i : AlmItem) (n v : Nat) : Bool :=
  let c := s.charterItem i n
  if i.strictLow then i.strictEnd ≤ v && v ≤ c else c ≤ v && v ≤ i.strictEnd

/-- The item of a code. -/
def almItemOf (code : Nat) : Option AlmItem := almItems.find? fun i => i.code == code

/-- OVR of ALM_STATE. -/
def State.showOverrides (s : State) : State := s.setFld F.ALM_STATE_OVR s.alm.overrides.length

/-- The override of an item ends, and the item takes the present plan. -/
def State.endOverride (s : State) (i : AlmItem) (n : Nat) : State :=
  let old := s.itemOf i n
  let m : Alm := { s.alm with
    overrides := s.alm.overrides.filter fun o => !(o.item == i.code && (!i.ofChannel || o.unit == n)) }
  let s := ({ s with alm := m }).putItem i n old (s.planOf i n)
  (s.almRecord i n 10 0 old (s.planOf i n) 0).showOverrides

/-- An override takes hold. -/
def State.startOverride (s : State) (i : AlmItem) (n v hours : Nat) : State :=
  let old := s.itemOf i n
  let o : Override := ⟨i.code, n, v, s.now + 3600000000000 * hours⟩
  let m : Alm := { s.alm with
    overrides := s.alm.overrides.filter (fun o => !(o.item == i.code && (!i.ofChannel || o.unit == n))) ++ [o] }
  let s := ({ s with alm := m }).putItem i n old v
  ((s.almRecord i n 9 1 old v 0).flag F.ALM_FLAGS_OVERRIDE).showOverrides

/-- ALM_OVERRIDE: a write of ALM_OVR with the VALUE and HOURS of ALM_OVR_VAL. -/
def execAlmOverride (sess : Fin 256) (item : Byte) (unit : Fin 32) (key : BitVec 16) (s : State) :
    Host.Outcome State Fault Refusal :=
  let v := s.fld F.ALM_OVR_VAL_VALUE
  let h := s.fld F.ALM_OVR_VAL_HOURS
  let n := unit.val
  let word := item.toNat + 2 ^ 8 * n + 2 ^ 16 * key.toNat
  .next (match almItemOf item.toNat with
  | none => s.sessionCommand sess .ALM_OVR 0 0 word false id
  | some i =>
    let held := s.overridden i n
    let ends := v == 0xFFFF
    let ok := key == 0xA1C7 && s.almWorks && (!i.ofChannel || s.present n) &&
      (if ends then held
       else s.overrideFits i n v && 1 ≤ h && h ≤ 720 && (held || s.alm.overrides.length < 16))
    s.sessionCommand sess .ALM_OVR 0 0 word ok fun t =>
      if ends then t.endOverride i n else t.startOverride i n v h)

/-- OVERRIDE_EXPIRY: the HOURS of overrides have elapsed. -/
def execOverrideExpiry (s : State) : Host.Outcome State Fault Refusal :=
  let due := s.alm.overrides.filter fun o => o.endsAt ≤ s.now
  .next (due.foldl (fun t o =>
    match almItemOf o.item with
    | some i => (t.endOverride i o.unit).flag F.ALM_FLAGS_OVR_EXPIRED
    | none => t) s)

/-- ALM_CFG_WRITE: refused with LOAD_LO at or above LOAD_HI (R685). -/
def execAlmCfgWrite (sess : Fin 256) (second : Bool) (value : Word) (s : State) :
    Host.Outcome State Fault Refusal :=
  .next (if second then s.sessionWrite sess .ALM_CFG2 0 0 value.toNat (fun _ => true) id
  else s.sessionWrite sess .ALM_CFG 0 0 value.toNat (fun w => bitsGet w 8 8 < bitsGet w 0 8) id)

end Sys2Proof.Machine
end

