-- ==== Sys2Proof/Machine/Contain.lean ====
section
/-! DEFINITION. The self-timed fabric (spec chapter 01): pace, errors, restarts, retirements, and what they do to
each kind of unit (R48). -/

namespace Sys2Proof.Machine

/-! ### Sites and islands (R27, R28) -/

/-- The site names a tile of this variant (R2, R28). -/
def State.siteOk (s : State) (x : Site) : Bool :=
  let b := x.block.val
  let t := x.tile.val
  match x.region.val with
  | 0 => b < 8 && t < 8 && s.present (if x.arbiter then 4 * b else siteChannel x)
  | 1 => (b < 12 && t < 4) || (12 ≤ b && b < 20 && t < 4 && s.present (4 * (b - 12) + t)) ||
      (20 ≤ b && b < 22)
  | 2 => b < 8 && t < 4 && s.present (4 * b + t)
  | 3 => b < 8 && t < 16
  | 4 => t < 8
  | 5 => (b < 8 && t < 8) || (b = 8 && t < 4) || (b = 9 && t < 8)
  | 6 => b < 4 && t < 4
  | _ => b = 0 && t < 4

/-- Self-timed islands of each region (R27). -/
def islandCount (r : Nat) : Nat := [64, 20, 8, 128, 16, 12, 4, 4].getD r 0

/-- A site in island i of region r, in its block j where blocks share the island. -/
def islandSite (r i j : Nat) : Site :=
  let mk (b t : Nat) : Site := ⟨Fin.ofNat 8 r, Fin.ofNat 64 b, Fin.ofNat 32 t, false⟩
  match r with
  | 0 => mk (i / 8) (i % 8)
  | 3 => mk (i / 16) (i % 16)
  | 4 => mk (4 * i + j) 0
  | 5 => if i < 8 then mk i 0 else mk 8 (i - 8)
  | 7 => mk 0 i
  | _ => mk i 0

/-- The units that hold island i, by block number: one, or the four blocks of a Granary island. -/
def islandSites (r i : Nat) : List Site :=
  (List.range (if r = 4 then 4 else 1)).map fun j => islandSite r i j

/-- The sites of an island whose units are on the variant and not retired. -/
def State.liveSites (s : State) (r i : Nat) : List Site :=
  (islandSites r i).filter fun x => s.siteOk x && !(s.unit (siteUnit x)).retired

/-- The pace of island i of region r plus 1; 0 before its first measurement since reset. -/
def State.paceOf (s : State) (r i : Nat) : Nat := sparseGet s.paces 0 (128 * r + i)

/-- PACE_MEASURE: an island's pace on its canary path. -/
def execPaceMeasure (region : Fin 8) (island : Fin 128) (pace : BitVec 16) (s : State) :
    Host.Outcome State Fault Refusal :=
  .next (if ¬ s.sup.inReset ∧ island.val < islandCount region then
    { s with paces := sparseSet s.paces 0 (128 * region.val + island.val) (pace.toNat + 1) } else s)

/-- The islands of lowest pace in a region, by number, with that pace: of those that run and have measured it (R30). -/
def State.regionPaces (s : State) (r : Nat) : List (Nat × Nat) :=
  let all := ((List.range (islandCount r)).filter fun i => !(s.liveSites r i).isEmpty && s.paceOf r i != 0).map
    fun i => (i, s.paceOf r i - 1)
  let low := all.foldl (fun a e => min a e.2) 0xFFFF
  all.filter fun e => e.2 == low

/-- Report the pace of a region (R30, R32, R33). -/
def State.reportPace (s : State) (r : Nat) : State :=
  match s.regionPaces r with
  | [] => s
  | (_, p) :: _ =>
    let s := s.setFld F.KEY_PACE_PACE_NOW p r
    let s := s.setFld F.KEY_PACE_PACE_MIN (min p (s.fld F.KEY_PACE_PACE_MIN r)) r
    let day : Vector Nat 8 := Vector.ofFn fun k => if k.val = r then min p s.alm.paceMin[k] else s.alm.paceMin[k]
    let s := { s with alm := { s.alm with paceMin := day } }
    let x : LowPace := sparseGet s.lowPace {} r
    let warn := decide (p < s.fld F.KEY_PACE_CFG_PACE_WARN)
    let low := decide (p < s.fld F.KEY_PACE_CFG_PACE_FLOOR)
    let y : LowPace :=
      { islands := (s.regionPaces r).map fun e => e.1
        since := if low then some (x.since.getD s.now) else none
        floorSet := low && x.floorSet
        warned := warn }
    let s := { s with lowPace := sparseSet s.lowPace {} r y }
    if warn ∧ ¬ x.warned then (s.flag F.KEY_PACE_FLAGS_WARN 0 r).almWarn r else s

/-- PACE_REPORT: each region's lowest pace. -/
def execPaceReport (s : State) : Host.Outcome State Fault Refusal :=
  .next (if s.sup.inReset then s else (List.range 8).foldl State.reportPace s)

/-! ### What an event does to a unit (R44, R45, R48) -/

/-- A channel is opened through its own SAFE_RUN line, its two tiles in restart. -/
def State.fenceChannel (s : State) (n : Nat) : State :=
  if ¬ s.present n then s
  else
    (if s.resting n then s else s.enterRest n csOpen 0 0).safeRun n

/-- A channel is locked out with cause FABRIC. -/
def State.retireChannel (s : State) (n : Nat) : State :=
  if ¬ s.present n then s
  else if s.cstate n = csLocked then
    let s := s.setProt n { s.prot n with lockedBeforeReset := false }
    ({ s.setFld F.PROT_STATE_LOCK_CAUSE 0x13 n with lockLog := sparseSet s.lockLog 0 n 0x13 }).safeRun n
  else s.lockout n 0x13

/-- A tally block's restart is over: each of its timers that is enabled starts under R364 (R372). -/
def State.talBlockStart (s : State) (b : Nat) : State :=
  (List.range 32).foldl (fun t i =>
    if t.bit F.TAL_CFG_EN (32 * b + i) then t.talStart (32 * b + i) else t) s

/-- The strings of a block of four are brought to zero current and opened (R48, R510). -/
def State.zeroFour (s : State) (b : Nat) : State :=
  (List.range 4).foldl (fun t j =>
    if t.present (4 * b + j) ∧ t.cstate (4 * b + j) = csReady then t.zeroRequest (4 * b + j) else t) s

/-- A port goes down (R45). -/
def State.portDown (s : State) (p : Nat) : State :=
  if p < 2 then
    let was := s.fld F.COM_PORT_STATE_PSTATE p
    let s := (s.setFld F.COM_PORT_STATE_PSTATE 0 p).setBit F.COM_PORT_STATE_FEC_LOCK false p
    let s := if was = 4 then
        (s.setFld F.COM_PORT_STATE_LOSS_CNT (satNat 0xFFFF (s.fld F.COM_PORT_STATE_LOSS_CNT p + 1)) p).setBit
          F.COM_PORT_STATE_PREEMPT_ACTIVE false p
      else s
    s.ethCycle p false
  else
    let w := p == 3
    ((if s.pstate w = 4 then s.spanRetrain w else s).setFld F.COM_PORT_STATE_PSTATE 0 p).setBit
      F.COM_PORT_STATE_FEC_LOCK false p

/-- A port trains again after a restart. -/
def State.portAgain (s : State) (p : Nat) : State :=
  if s.portFenced p then s
  else if p < 2 then s.setFld F.COM_PORT_STATE_PSTATE 2 p
  else if s.bit F.SPAN_CFG_SPAN_EN then s.setPstate (p == 3) 2 else s

/-- The engines of Mill blocks that are not retired. -/
def State.workEngines (s : State) : List Nat :=
  (List.range 128).filter fun e => !(s.unit (unitKey 3 (e / 16) 0 false)).retired

/-- A cell block moves to the remaining engine that serves the fewest blocks (R427), with its copy (R438). -/
def State.moveBlock (s : State) (b : Nat) : State :=
  let num (e : Nat) : Nat := (s.engineBlocks e).length
  let es := s.workEngines
  let least := es.foldl (fun a e => min a (num e)) 128
  match es.find? fun e => num e == least with
  | none => s
  | some e =>
    let old := s.fld F.EST_BLKMAP_ENGINE b
    let s := (s.setFld F.EST_BLKMAP_ENGINE e b).setBit F.EST_BLKMAP_MOVED (e != b) b
    (s.ledger 0x50 [0, b, 0, 0, old, e, 0]).blockResume b

/-- A Mill block is retired: its cell blocks move, and a servo engine in it moves to another block (R48, R427). -/
def State.retireMill (s : State) (m : Nat) : State :=
  let bs := (List.range 128).filter fun b => s.fld F.EST_BLKMAP_ENGINE b / 16 == m
  let s := bs.foldl State.moveBlock s
  let es := s.workEngines
  if s.bel.servo / 16 = m ∧ es ≠ [] then
    let e := es.getD (s.free 201 % es.length) 0
    { s.draw with bel := { s.bel with servo := e } }
  else s

/-- The cells whose context or table lies in MiB b of the Granary (R426, R470). -/
def granCells (b : Nat) : List Nat :=
  if b < 4 then (List.range 4096).map fun i => 4096 * b + i
  else if b < 36 then (List.range 512).map fun i => 512 * (b - 4) + i
  else []

/-- The cell blocks of those cells. -/
def granBlocks (b : Nat) : List Nat :=
  if b < 4 then (List.range 32).map fun i => 32 * b + i
  else if b < 36 then (List.range 4).map fun i => 4 * (b - 4) + i
  else []

/-- Filters over a fenced Granary block pause: accesses are refused (R48), as those of the recorder, the window
records and the latest-cell table are at their own places. -/
def State.granPause (s : State) (b : Nat) : State :=
  (granBlocks b).foldl (fun t i => t.setBlkE i { t.blkE i with paused := true }) s

/-- The content of a Granary block is rebuilt: its cells wait for their contexts from the Ledger (R443, R48). -/
def State.granRebuild (s : State) (b : Nat) : State :=
  let s := (granCells b).foldl (fun t k =>
    if 2 ≤ (t.cell k).estate then t.setCell k { t.cell k with estate := 1 } else t) s
  let s := (granBlocks b).foldl (fun t i => t.setBlkE i {}) s
  -- the copies of R438 that lay in the block (log 171)
  ((List.range 128).filter fun i => 56 + i * 6 / 128 == b).foldl (fun t i => t.setBlkE i { t.blkE i with own := none }) s

/-- The recorder loses 1 MiB for each retired Granary block; a capture in progress is FROZEN (R515, R695). -/
def State.granRetire (s : State) (b : Nat) : State :=
  let r := s.fld F.DSP_REC_STATE_RSTATE
  let s := if r = 1 ∨ r = 2 then s.recFreeze else s
  let s := s.setFld F.DSP_REC_STATE_CAP ((16 - s.retiredCount .granary) * 1048576 / 50240)
  s.granRebuild b

/-- The engines of a Mill block pause. -/
def State.millPause (s : State) (m : Nat) : State :=
  (List.range 16).foldl (fun t j => t.enginePause (16 * m + j)) s

/-- What a Contained or Degraded event does to its unit (R48). -/
def State.applyVerdict (s : State) (x : Site) (v : Verdict) : State :=
  let b := x.block.val
  match siteKind x, v with
  | _, .none => s
  | _, .safeState => s
  | .channel, .fenced => s.fenceChannel (siteChannel x)
  | .channel, .retired => s.retireChannel (siteChannel x)
  | .pierArb, .fenced => (List.range 4).foldl (fun t j => t.fenceChannel (4 * b + j)) s
  | .pierArb, .retired => (List.range 4).foldl (fun t j => t.retireChannel (4 * b + j)) s
  | .conv, v => (s.convContained b v).calMoved
  | .stream, .fenced => s
  | .stream, .retired => s.zeroFour (b - 12)
  | .chain, .fenced => (List.range 4).foldl (fun t j => t.chainDown (4 * b + j)) s
  | .chain, .retired => ((List.range 4).foldl (fun t j => t.chainDown (4 * b + j)) s).zeroFour b
  | .engine, .fenced => s.millPause b
  | .engine, .retired => (s.millPause b).retireMill b
  | .granary, .fenced => s.granPause b
  | .granary, .retired => s.granRetire b
  | .port, _ => s.portDown x.tile
  | .portArb, _ => (List.range 4).foldl State.portDown s
  | .almanac, .retired => (s.setBit F.ALM_STATE_FROZEN true).flag F.ALM_FLAGS_ALMANAC_FROZEN
  | _, _ => s

/-- A Contained error of a unit (R43). -/
def State.contain (s : State) (x : Site) (cause detail : Nat) : State :=
  let r := s.containUnit x cause detail
  r.1.applyVerdict x r.2

/-- A unit is retired. -/
def State.retire (s : State) (x : Site) (cause detail attempt : Nat) : State :=
  let r := s.retireUnit x cause detail attempt
  r.1.applyVerdict x r.2

/-- The site can detect an error now: on this variant, out of reset, not retired (R2, R721). -/
def State.detects (s : State) (x : Site) : Bool :=
  s.siteOk x && (!s.sup.inReset || x.region == 7) && !(s.unit (siteUnit x)).retired

/-! ### Errors (R40 to R46) -/

/-- A corrected error, which may escalate (R42). -/
def State.corrected (s : State) (x : Site) (cause detail : Nat) : State :=
  let r := s.correctedError x cause
  if r.2 then r.1.contain x 0x0008 detail else r.1

/-- TILE_ERROR_DETECTED. -/
def execTileErrorDetected (site : Site) (fault : TileFault) (systemArea : Bool) (detail : Word) (s : State) :
    Host.Outcome State Fault Refusal :=
  let k := siteKind site
  let d := detail.toNat
  .next (if ¬ s.detects site then s
  else match fault with
  | .sramSbe => s.corrected site 0x0001 d
  | .xferParity => s.corrected site 0x0002 d
  | .sramDbe => if k = .granary ∧ systemArea then s.safeEnter site 0x0003 d else s.contain site 0x0003 d
  | .engineTrap => if k = .engine then s.contain site 0x0005 d else s
  | .arbWatchdog => s.contain site 0x0006 d
  | .supervisorFault => if k = .keystone ∧ site.block.val < 2 then s.safeEnter site 0x000B d else s)

/-- HS_TIMEOUT. -/
def execHsTimeout (site : Site) (detail : Word) (s : State) : Host.Outcome State Fault Refusal :=
  .next (if ¬ s.detects site then s
  else (s.flag F.KEY_ERR_FLAGS_HS_TIMEOUT).contain site 0x0004 detail.toNat)

/-- The restart bound of a unit in ns (R48). -/
def restartBound : UnitKind → Nat
  | .channel | .pierArb => 100000
  | .conv => 100000000
  | .stream | .queue => 200000
  | .tally => 50000
  | .chain => 1000000
  | .engine => 5000000
  | .granary | .almanac => 10000000
  | .port | .portArb => 2000000
  | _ => 0

/-- What happens when a unit's fence is released. -/
def State.released (s : State) (x : Site) : State :=
  let b := x.block.val
  match siteKind x with
  | .channel => s.safeRun (siteChannel x)
  | .pierArb => (List.range 4).foldl (fun t j => t.safeRun (4 * b + j)) s
  | .tally => s.talBlockStart (b - 20)
  | .conv => (blockConvs b).foldl State.convKick s
  | .chain => (List.range 4).foldl (fun t j => t.chainUp (4 * b + j)) s
  | .granary => s.granRebuild b
  | .port => s.portAgain x.tile
  | .portArb => (List.range 4).foldl State.portAgain s
  | .almanac => if s.alm.replanWaits then s.replanAll else s
  | _ => s

/-- RESTART_COMPLETE: the fence is released; a converter block's restart includes its calibration. -/
def execRestartComplete (site : Site) (s : State) : Host.Outcome State Fault Refusal :=
  let key := siteUnit site
  let u := s.unit key
  .next (if ¬ u.restarting ∨ (siteKind site = .conv ∧ (s.convBlock site.block).cal ≠ .none) then s
  else
    let s := (s.setUnit key { u with restarting := false }).showRestarting
    s.released site)

/-- RESTART_FAIL: the restart bound has passed. -/
def execRestartFail (site : Site) (s : State) : Host.Outcome State Fault Refusal :=
  let u := s.unit (siteUnit site)
  .next (if ¬ u.restarting ∨ ¬ s.elapsed u.startedAt (restartBound (siteKind site)) then s
  else (s.draw.flag F.KEY_ERR_FLAGS_RESTART_FAIL).retire site 0x0009 (s.free 202) (s.hourCount site))

/-- CONT_WINDOW_END: the hour of time base 3 is over. -/
def execContWindowEnd (site : Site) (s : State) : Host.Outcome State Fault Refusal :=
  let key := siteUnit site
  let u := s.unit key
  .next (match u.windowAt with
  | some t =>
    if t + 3600000000000 ≤ s.tb3 then
      s.setUnit key { u with windowAt := none, attempts := 0 }
    else s
  | none => s)

/-- HEARTBEAT: the supervisor or the fault manager misses the other's. -/
def execHeartbeat (supervisorMissed : Bool) (s : State) : Host.Outcome State Fault Refusal :=
  .next (if s.sup.inReset then s
  else s.draw.safeEnter ⟨6, if supervisorMissed then 0 else 1, 0, false⟩ 0x000B (s.free 203))

/-- CORRECTED_SUMMARY: one record for each tile with corrected errors in the window (R49). -/
def execCorrectedSummary (s : State) : Host.Outcome State Fault Refusal :=
  .next (s.tiles.foldl (fun t e =>
    if e.2.sumCount = 0 then t
    else
      let k := e.1 / 2
      let x : Site := ⟨Fin.ofNat 8 (k / 32 / 64), Fin.ofNat 64 (k / 32), Fin.ofNat 32 k, e.1 % 2 == 1⟩
      let t := t.draw.errRecordAt 0 0 x e.2.sumCause (satNat 0xFFFF e.2.sumCount) e.2.sumSec e.2.sumNs (t.free 204) 0
        (t.hourCount x)
      { t with tiles := sparseSet t.tiles {} e.1 { e.2 with sumCount := 0, sumCause := 0, sumSec := 0, sumNs := 0 } }) s)

/-! ### PACE_FLOOR (R32) -/

/-- The unit that holds the island of lowest pace in the region's last report: of equal ones, the lowest block, then
tile. -/
def State.slowestSite (s : State) (r : Nat) : Option Site :=
  ((sparseGet s.lowPace ({} : LowPace) r).islands.flatMap fun i => s.liveSites r i).head?

/-- PACE_FLOOR_EXPIRY: 100 µs below PACE_FLOOR. -/
def execPaceFloorExpiry (region : Fin 8) (s : State) : Host.Outcome State Fault Refusal :=
  let r := region.val
  let x : LowPace := sparseGet s.lowPace {} r
  .next (match x.since with
  | none => s
  | some t =>
    if ¬ s.elapsed t 100000 then s
    else
      let s := s.flagIf (!x.floorSet) F.KEY_PACE_FLAGS_FLOOR 0 r
      let s := { s with lowPace := sparseSet s.lowPace {} r { x with since := some s.now, floorSet := true } }
      match s.slowestSite r with
      | none => s
      | some y =>
        if 2 ≤ r ∧ r ≤ 5 ∧ s.retireLimit (siteKind y) ≠ 0 then s.draw.retire y 0x0007 (s.free 205) (s.hourCount y)
        else if x.floorSet then s
        else s.draw.safeEnter y 0x0007 (s.free 205))

end Sys2Proof.Machine
end

