-- ==== Sys2Proof/Machine/Supply.lean ====
section
/-! DEFINITION. Supplies, reset and Charter load (spec chapter 02; KEY_RECOVER of chapter 01; REFCLK_IN of
chapter 20). -/

namespace Sys2Proof.Machine

/-! ### Resets (R68, R69, R91) -/

/-- What a reset of the regions other than Supply keeps (R69, R209, R221, R669): the Supply region, the flashes, the
fuses, the outside world's queue. -/
def State.cleared (s : State) : State :=
  { State.reset with
    variant := s.variant
    osc := s.osc
    fresh := s.fresh
    pending := s.pending
    resp := s.resp
    outbox := s.outbox
    sup := s.sup
    imageA := s.imageA
    imageB := s.imageB
    xspi := s.xspi
    resetToLog := s.resetToLog
    damageLog := s.damageLog
    lockLog := s.lockLog
    baseLog := s.baseLog
    ldgState := s.ldgState
    ldg := { flashes := s.ldg.flashes, firstSec := s.ldg.firstSec }
    tg := { fuseKeys := s.tg.fuseKeys } }

/-- The Supply region's registers and event counters are carried over a reset (R69). -/
def State.keepSupply (s old : State) : State :=
  let s := [RegName.SUP_STATE, .SUP_FLAGS, .SUP_FEED_CFG, .SUP_FEED_MON, .SUP_RESET_CAUSE].foldl
    (fun t r => t.setReg r 0 0 (old.reg r)) s
  let s := (List.range 6).foldl (fun t i => t.setReg .SUP_RAIL_MON i 0 (old.reg .SUP_RAIL_MON i)) s
  { s with cnts := (bitList 32 (w1cBits .SUP_FLAGS)).foldl (fun m b =>
      sparseSet m 0 (cntKey .SUP_FLAGS 0 b) (BitVec.ofNat 32 (old.cnt .SUP_FLAGS 0 b))) s.cnts }

/-- A reset cause has been seen since power-on (R91); it need not have been a reset of its own (R84). -/
def State.markSeen (s : State) (code : Nat) : State :=
  s.setFld F.SUP_RESET_CAUSE_SEEN (s.fld F.SUP_RESET_CAUSE_SEEN ||| 2 ^ (code - 1))

/-- A reset with code 2 to 7: every other region is cleared and held, SAFE_RUN is static low. -/
def State.doReset (s : State) (code : Nat) : State :=
  let old := s
  let gone := code = 3 ∨ code = 4 ∨ code = 7
  let x := s.sup
  let s := (s.cleared.keepSupply old).setReg .TG_KEYS 0 0 (old.reg .TG_KEYS)
  let s := s.setFld F.SUP_RESET_CAUSE_LAST code
  let s := s.markSeen code
  let s := s.setFld F.SUP_RESET_CAUSE_COUNT (satNat 0xFFFF (s.fld F.SUP_RESET_CAUSE_COUNT + 1))
  let keepPd := x.pd = .warned ∧ (code = 2 ∨ code = 5)
  let y : Supply := { x with
    inReset := true
    good := x.good && !decide gone
    pd := if keepPd then x.pd else .none
    warned := x.warned && decide keepPd
    softCmd := false
    recordMade := false
    railLost := 0 }
  ({ s with sup := y, resetToLog := code }).showFailwarn

/-- The regions other than Supply leave reset: the reference event of R81.  Without REFCLK_IN the device enters
Safe-state at once (R701). -/
def State.leaveReset (s : State) : State :=
  let s := ({ s with sup := { s.sup with inReset := false }, startAt := some s.now, load := .idle }).showFailwarn
  if s.sup.refLost then s.draw.safeEnter ⟨6, 0, 0, false⟩ 0x0A00 (s.free 208 % 2 ^ 32) else s

/-- The regions leave a RECOVER or SOFT reset, unless RESET_N is low, which holds them until it rises (R70, log 154). -/
def State.leaveUnheld (s : State) : State := if s.sup.resetNLow then s else s.leaveReset

/-- From P2 on until the restart, other reset sources are held off (R84, R86). -/
def State.fromP2 (s : State) : Bool := s.sup.pd != .none && s.sup.pd != .warned

/-- A power-on reset: the Supply region is cleared too; only the level of RESET_N is an input (R68, R69). -/
def State.por (s : State) : State :=
  let low := s.bit F.SUP_STATE_FAILWARN
  let s := (s.cleared).setReg .TG_KEYS 0 0 (s.reg .TG_KEYS)
  let s := { s with sup := { resetNLow := s.sup.resetNLow }, resetToLog := 1 }
  if low then s.send (.failwarn false) else s

/-- POR_RESET: VANA below its trip limit of 3.000 V. -/
def execPorReset (vanaDmv : Nat) (s : State) : Host.Outcome State Fault Refusal :=
  .next (if 30000 ≤ vanaDmv then s else s.por)

/-! ### Rails (R65 to R67) -/

/-- The regulation window of rail i and its trip limits, in 0.1 mV. -/
def railWindow (i : Nat) : Nat × Nat :=
  match i with
  | 0 => (31350, 34650)
  | 1 => (17460, 18540)
  | 2 => (7275, 7725)
  | 3 => (7760, 8240)
  | 4 => (8730, 9270)
  | _ => (11640, 12360)
def railTripLimits (i : Nat) : Nat × Nat :=
  match i with
  | 0 => (30000, 36300)
  | 1 => (16800, 19500)
  | 2 => (7200, 8000)
  | 3 => (7600, 8500)
  | 4 => (8550, 9600)
  | _ => (11400, 12800)

/-- Rail i lies in its regulation window. -/
def railIn (i dmv : Nat) : Bool := (railWindow i).1 ≤ dmv && dmv ≤ (railWindow i).2

abbrev seqOff : Nat := 0
abbrev seqRamp : Nat := 1
abbrev seqOn : Nat := 2
abbrev seqPowerDown : Nat := 3
abbrev seqRetryWait : Nat := 4
abbrev seqThermalHold : Nat := 5
abbrev seqFault : Nat := 6

def State.seq (s : State) : Nat := s.fld F.SUP_STATE_SEQ_STATE
def State.setSeq (s : State) (v : Nat) : State := s.setFld F.SUP_STATE_SEQ_STATE v

/-- Rail i is measured, and has entered its window since its enable (R93). -/
def Supply.railLive (x : Supply) (i : Nat) : Bool := bitOf x.railSeen i && (i == 0 || bitOf x.enables i)

/-- One rail of an evaluation: RAIL_GOOD, when it entered, V_NOW and V_MIN. -/
def State.railEval (s : State) (i : Fin 6) (dmv : Nat) : State :=
  let inw := railIn i dmv
  let x := s.sup
  let live := x.railLive i
  let seen := if inw ∧ (i.val = 0 ∨ bitOf x.enables i) then bitPut x.railSeen i true else x.railSeen
  let lost := if s.fromP2 ∧ ¬ inw ∧ live then bitPut x.railLost i true else x.railLost
  let at_ := if inw then some (x.railInAt[i].getD s.now) else none
  let s := { s with sup := { x with railSeen := seen, railLost := lost, railInAt := x.railInAt.set i at_ } }
  let s := s.setFld F.SUP_STATE_RAIL_GOOD (bitPut (s.fld F.SUP_STATE_RAIL_GOOD) i inw)
  let v := satNat 0xFFFF (roundFree 206 ((dmv : Rat) / 10)).toNat
  let s := s.setFld F.SUP_RAIL_MON_V_NOW v i
  if s.sup.railLive i then s.setFld F.SUP_RAIL_MON_V_MIN (min v (s.fld F.SUP_RAIL_MON_V_MIN i)) i else s

/-- ALL_GOOD: all six rails in window. -/
def State.showAllGood (s : State) : State := s.setBit F.SUP_STATE_ALL_GOOD (s.fld F.SUP_STATE_RAIL_GOOD == 0x3F)

/-- A voltage in mV in units of 50 mV. -/
def mon50 (mv : Nat) : Nat := satNat 0x3FF (roundFree 207 ((mv : Rat) / 50)).toNat

/-- The voltage of FEED_GOOD and of VCTL_WARN, in mV. -/
def State.feedGoodMv (s : State) : Nat := 100 * s.fld F.SUP_FEED_CFG_FEED_GOOD
def State.vctlWarnMv (s : State) : Nat := 100 * s.fld F.SUP_FEED_CFG_VCTL_WARN

/-- VCTL has a value: since when it has been at FEED_GOOD or above. -/
def State.setVctl (s : State) (mv : Nat) : State :=
  let at_ := if s.feedGoodMv ≤ mv then some (s.sup.vctlGoodAt.getD s.now) else none
  { s with sup := { s.sup with vctlMv := mv, vctlGoodAt := at_ } }

/-- FEED_GOOD_EVAL: the evaluation of every 10 µs (R62, R90, R93). -/
def execFeedGoodEval (sample : SupplySample) (s : State) : Host.Outcome State Fault Refusal :=
  .next (if ¬ s.sup.started then s
  else
    let ga := decide (s.feedGoodMv ≤ sample.feedA)
    let gb := decide (s.feedGoodMv ≤ sample.feedB)
    let s := s.flagIf (s.bit F.SUP_STATE_FEEDA_GOOD && !ga) F.SUP_FLAGS_FEEDA_LOSS
    let s := s.flagIf (s.bit F.SUP_STATE_FEEDB_GOOD && !gb) F.SUP_FLAGS_FEEDB_LOSS
    let s := (s.setBit F.SUP_STATE_FEEDA_GOOD ga).setBit F.SUP_STATE_FEEDB_GOOD gb
    let s := s.setFld F.SUP_FEED_MON_FEEDA_V (mon50 sample.feedA)
    let s := s.setFld F.SUP_FEED_MON_FEEDB_V (mon50 sample.feedB)
    let s := (s.setFld F.SUP_FEED_MON_VCTL_V (mon50 sample.vctl)).setVctl sample.vctl
    ((List.finRange 6).foldl (fun t i => t.railEval i sample.rails[i]) s).showAllGood)

/-- POR_RELEASE: VANA in window for 1 ms; feed control starts (R66 step 1). -/
def execPorRelease (vanaDmv heldUs : Nat) (s : State) : Host.Outcome State Fault Refusal :=
  .next (if s.sup.started ∨ railIn 0 vanaDmv = false ∨ heldUs < 1000 then s
  else
    let s := { s with sup := { s.sup with started := true } }
    (s.railEval 0 vanaDmv).showAllGood)

/-- Assert the enable of rail i. -/
def State.enableRail (s : State) (i : Fin 6) : State :=
  let x := s.sup
  { s with sup := { x with
      enables := bitPut x.enables i true
      enabledAt := s.now
      railSeen := bitPut x.railSeen i false
      railInAt := x.railInAt.set i none } }

/-- EN_VIO_ASSERT: VCTL has been at FEED_GOOD for 10 ms; a held FAILWARN_N releases (R66 step 2, R85). -/
def execEnVioAssert (s : State) : Host.Outcome State Fault Refusal :=
  let ready : Bool := match s.sup.vctlGoodAt with
    | some t => s.elapsed t 10000000
    | none => false
  .next (if s.sup.started ∧ s.seq = seqOff ∧ s.sup.releasing = .none ∧ s.sup.pd = .none ∧ ready = true then
    let s := (s.enableRail 1).setSeq seqRamp
    ({ s with sup := { s.sup with warnHeld := false } }).showFailwarn
  else s)

/-- The rail enabled last. -/
def Supply.lastRail (x : Supply) : Nat := (bitList 6 x.enables).foldl max 0

/-- The rail enabled last has been in window for at least `ns`. -/
def State.lastIn (s : State) (ns : Nat) : Bool :=
  match s.sup.railInAt.toList.getD s.sup.lastRail none with
  | some t => s.elapsed t ns
  | none => false

/-- RAIL_ENABLE_NEXT: 200 µs after the rail before it entered its window (R66 steps 3 to 6). -/
def execRailEnableNext (s : State) : Host.Outcome State Fault Refusal :=
  let k := s.sup.lastRail
  .next (if s.seq = seqRamp ∧ s.sup.releasing = .none ∧ 1 ≤ k ∧ k < 5 ∧ s.lastIn 200000 then
    s.enableRail (Fin.ofNat 6 (k + 1))
  else s)

/-- SUPPLIES_GOOD: VSER_H enters its window (R66 step 7); RESET_N low holds the regions (R70). -/
def execSuppliesGood (vserhDmv : Nat) (s : State) : Host.Outcome State Fault Refusal :=
  .next (if s.seq = seqRamp ∧ s.sup.releasing = .none ∧ s.sup.enables = 0x3E ∧ railIn 5 vserhDmv then
    let s := ((s.railEval 5 vserhDmv).showAllGood).setSeq seqOn
    let s := { s with sup := { s.sup with good := true } }
    if s.sup.resetNLow then s else s.leaveReset
  else s)

/-! ### Releasing the enables (R67, R68, R83 step P5, R722) -/

/-- Release the enable that is next in the order of P5. -/
def State.dropEnable (s : State) : State :=
  let x := s.sup
  let k := x.lastRail
  { s with sup := { x with
      enables := bitPut x.enables k false
      railSeen := bitPut x.railSeen k false
      releasedAt := s.now } }

/-- The restart of a supply loss: 100 ms, then step 2 (R68, R84). -/
def State.supplyLoss (s : State) : State :=
  let s := (s.doReset 7).setSeq seqOff
  { s with sup := { s.sup with releasing := .supplyLoss, restartAt := s.now } }

/-- What follows the last release. -/
def State.endRelease (s : State) : State :=
  match s.sup.releasing with
  | .seqTimeout => { s with sup := { s.sup with releasing := .none, retryAt := s.now } }
  | .seqAbort => ({ s with sup := { s.sup with releasing := .none } }).setSeq seqOff
  | .thermal => s.setSeq seqThermalHold
  | .powerDown =>
    let s := { s with sup := { s.sup with releasing := .none, pd := .released, pdMark := s.now } }
    if s.bit F.SUP_STATE_VCTL_LOW then s else s.supplyLoss
  | _ => s

/-- Start releasing: the first enable at once.  A release that runs already goes on at its own pace of 100 µs, for the
new cause. -/
def State.beginRelease (s : State) (cause : RelCause) : State :=
  let runs := s.sup.releasing ≠ .none
  let s := { s with sup := { s.sup with releasing := cause } }
  let s := if s.sup.enables = 0 ∨ runs then s else s.dropEnable
  if s.sup.enables = 0 then s.endRelease else s

/-- ENABLE_RELEASE_STEP: the next enable, 100 µs after the last. -/
def execEnableReleaseStep (s : State) : Host.Outcome State Fault Refusal :=
  .next (if s.sup.releasing ≠ .none ∧ s.sup.enables ≠ 0 ∧ s.elapsed s.sup.releasedAt 100000 then
    let s := s.dropEnable
    if s.sup.enables = 0 then s.endRelease else s
  else s)

/-- SEQ_TIMEOUT: a rail not in window 10 ms after its enable; the third failure is FAULT (R67). -/
def execSeqTimeout (s : State) : Host.Outcome State Fault Refusal :=
  .next (if s.seq = seqRamp ∧ s.sup.releasing = .none ∧ s.lastIn 0 = false ∧ s.elapsed s.sup.enabledAt 10000000 then
    let s := s.flag F.SUP_FLAGS_SEQ_TIMEOUT
    let n := s.sup.attempts + 1
    let s := { s with sup := { s.sup with attempts := n } }
    (s.setSeq (if n < 3 then seqRetryWait else seqFault)).beginRelease .seqTimeout
  else s)

/-- SEQ_RETRY_END: 1 s after the release, step 2 again (R67). -/
def execSeqRetryEnd (s : State) : Host.Outcome State Fault Refusal :=
  .next (if s.seq = seqRetryWait ∧ s.sup.releasing = .none ∧ s.elapsed s.sup.retryAt 1000000000 then s.setSeq seqOff
  else s)

/-- RAIL_RESTART: 100 ms after a RAIL or SUPPLY_LOSS reset, once a THERMAL recorded in a power-down has cooled (R68,
R84). -/
def execRailRestart (s : State) : Host.Outcome State Fault Refusal :=
  .next (if (s.sup.releasing = .rail ∨ s.sup.releasing = .supplyLoss) ∧ s.sup.enables = 0 ∧ s.elapsed s.sup.restartAt 100000000 ∧ ¬ s.sup.thermalSeen then
    ({ s with sup := { s.sup with releasing := .none } }).setSeq seqOff
  else s)

/-- RAIL_TRIP: a rail outside its trip limits for 2 µs (R65, R68, R84, R85).  VANA low is a power-on reset.  In FAULT,
and while a RAIL reset already releases the enables, the monitor only sets its flag (R67, log 155); a release for
another cause goes on as that of the RAIL reset, which still waits for a THERMAL to cool. -/
def execRailTrip (rail : Fin 6) (dmv heldNs : Nat) (s : State) : Host.Outcome State Fault Refusal :=
  let lim := railTripLimits rail
  let out := dmv < lim.1 ∨ lim.2 < dmv
  .next (if ¬ s.sup.started ∨ heldNs < 2000 ∨ ¬ out ∨ ¬ s.sup.railLive rail then s
  else if rail.val = 0 ∧ dmv < lim.1 then s.por
  else
    let s := (s.railEval rail dmv).showAllGood
    let s := s.flag F.SUP_FLAGS_RAIL_FAULT 0 rail
    if s.seq = seqFault ∨ s.sup.releasing = .rail then s
    else if s.fromP2 ∨ s.sup.releasing = .supplyLoss then s.markSeen 3
    else
      let held := s.sup.pd = .warned ∧ s.phase = 4
      let hot := s.sup.thermalSeen || s.sup.releasing == .thermal
      let s := (s.doReset 3).setSeq seqOff
      let s := { s with sup := { s.sup with
        warnHeld := s.sup.warnHeld || decide held, restartAt := s.now, thermalSeen := hot } }
      s.showFailwarn.beginRelease .rail)

/-- THERMAL_TRIP: the junction at 120 °C for 1 ms (0.1 °C) (R68, R84, R719).  SEQ_STATE stays RAMP, ON or RETRY_WAIT
while the enables are released and becomes THERMAL_HOLD with the last (the model's choice, log 155).  While a RAIL
reset releases the enables, a THERMAL reset is taken too, and the RAIL restart waits for the junction. -/
def execThermalTrip (tj : Int) (heldUs : Nat) (s : State) : Host.Outcome State Fault Refusal :=
  .next (if ¬ s.sup.started ∨ tj < 1200 ∨ heldUs < 1000 ∨ s.sup.releasing = .thermal then s
  else
    let s := s.flag F.SUP_FLAGS_THERMAL
    if s.seq = seqFault then s
    else if s.fromP2 ∨ s.sup.releasing = .supplyLoss then
      let s := s.markSeen 4
      { s with sup := { s.sup with thermalSeen := true } }
    else if s.sup.releasing = .rail then
      let s := s.doReset 4
      { s with sup := { s.sup with thermalSeen := true } }
    else (s.doReset 4).beginRelease .thermal)

/-- THERMAL_RELEASE: the junction at 100 °C or below. -/
def execThermalRelease (tj : Int) (s : State) : Host.Outcome State Fault Refusal :=
  .next (if 1000 < tj then s
  else
    let s := { s with sup := { s.sup with thermalSeen := false } }
    if s.seq = seqThermalHold ∧ s.sup.releasing = .thermal then
      ({ s with sup := { s.sup with releasing := .none } }).setSeq seqOff
    else s)

/-! ### RESET_N (R67, R68, R70) -/

/-- RESET_N has an effect now. -/
def State.resetNActs (s : State) : Bool :=
  !s.fromP2 && s.sup.good && s.seq == seqOn && s.sup.releasing == .none

/-- RESET_N_LOW: a fall ends FAULT, after the enables that a failed attempt still releases; 1 µs low resets, once. -/
def execResetNLow (heldNs : Nat) (s : State) : Host.Outcome State Fault Refusal :=
  let fell := !s.sup.resetNLow
  let s := { s with sup := { s.sup with resetNLow := true } }
  .next (if s.seq = seqFault then
    if fell then
      let rel := if s.sup.releasing = .none then RelCause.none else .seqAbort
      ({ s with sup := { s.sup with attempts := 0, releasing := rel } }).setSeq seqOff
    else s
  else if s.resetNActs ∧ ¬ s.sup.inReset ∧ 1000 ≤ heldNs then s.doReset 2 else s)

/-- RESET_N_RISE: the regions leave reset. -/
def execResetNRise (s : State) : Host.Outcome State Fault Refusal :=
  let s := { s with sup := { s.sup with resetNLow := false } }
  .next (if s.sup.inReset ∧ s.resetNActs then s.leaveReset else s)

/-! ### Feeds (R61) -/

/-- FEED_ENHANCE: a forward drop above 20 mV. -/
def execFeedEnhance (feed : Fin 2) (dropMv : Int) (s : State) : Host.Outcome State Fault Refusal :=
  .next (if ¬ s.sup.started ∨ dropMv ≤ 20 then s
  else if feed.val = 0 then s.setBit F.SUP_STATE_FEEDA_ON true else s.setBit F.SUP_STATE_FEEDB_ON true)

/-- FEED_REVERSE_OFF: the drop below −REV_THR for 1 µs. -/
def execFeedReverseOff (feed : Fin 2) (dropMv : Int) (heldNs : Nat) (s : State) : Host.Outcome State Fault Refusal :=
  let thr : Int := 5 * (s.fld F.SUP_FEED_CFG_REV_THR : Int)
  let on := if feed.val = 0 then s.bit F.SUP_STATE_FEEDA_ON else s.bit F.SUP_STATE_FEEDB_ON
  .next (if ¬ s.sup.started ∨ ¬ on ∨ -thr ≤ dropMv ∨ heldNs < 1000 then s
  else if feed.val = 0 then (s.setBit F.SUP_STATE_FEEDA_ON false).flag F.SUP_FLAGS_FEEDA_REV
  else (s.setBit F.SUP_STATE_FEEDB_ON false).flag F.SUP_FLAGS_FEEDB_REV)

/-! ### Power-down (R63, R83 to R86, R722) -/

/-- P2: every generator stops, an open command goes to every link that is up, every channel opens. -/
def State.pdOpen (s : State) : State :=
  let good := s.fld F.SUP_STATE_RAIL_GOOD
  let s := { s with sup := { s.sup with
    pd := .opened, pdMark := s.now, railLost := maskOf ([1, 2, 3].filter fun i => !bitOf good i) } }
  s.chans.foldl (fun t n =>
    let t := if t.lstate n = lsDown then t else t.urgentOpen n
    (if t.resting n then t else t.enterRest n csOpen 0 0).safeRun n) s

/-- VCTL_LOW: the power-down begins, or the sequencer goes back to step 2 (R63, R86, R722). -/
def execVctlLow (vctlMv : Nat) (s : State) : Host.Outcome State Fault Refusal :=
  .next (if ¬ s.sup.started ∨ s.bit F.SUP_STATE_VCTL_LOW ∨ s.vctlWarnMv ≤ vctlMv ∨
      s.bit F.SUP_STATE_FEEDA_GOOD ∨ s.bit F.SUP_STATE_FEEDB_GOOD then s
  else
    let s := ((s.setVctl vctlMv).setBit F.SUP_STATE_VCTL_LOW true).flag F.SUP_FLAGS_VCTL_WARN
    if s.sup.softCmd then ({ s with sup := { s.sup with softCmd := false, warned := true } }).showFailwarn
    else if s.sup.good ∧ s.seq = seqOn ∧ s.sup.pd = .none then
      let s := ({ s with sup := { s.sup with pd := .warned, pdAt := s.now, warned := true } }).showFailwarn
      let s := s.recTrigger 3 0
      if s.lead = 0 then s.pdOpen else s
    else if s.seq = seqRetryWait ∧ s.sup.releasing = .seqTimeout then
      { s with sup := { s.sup with releasing := .seqAbort } }
    else if (s.seq = seqRamp ∨ s.seq = seqRetryWait) ∧ s.sup.releasing = .none then s.beginRelease .seqAbort
    else s)

/-- VCTL_RECOVERED: 100 µs at VCTL_WARN + 1.0 V or above (R63, R84). -/
def execVctlRecovered (vctlMv heldUs : Nat) (s : State) : Host.Outcome State Fault Refusal :=
  .next (if ¬ s.bit F.SUP_STATE_VCTL_LOW ∨ vctlMv < s.vctlWarnMv + 1000 ∨ heldUs < 100 then s
  else
    let s := (s.setVctl vctlMv).setBit F.SUP_STATE_VCTL_LOW false
    match s.sup.pd with
    | .warned =>
      let s := ({ s with sup := { s.sup with pd := .none, warned := false } }).showFailwarn
      s.flag F.SUP_FLAGS_WARN_RECOVERED
    | .released => s.supplyLoss
    | _ => s)

/-- FAILWARN_LEAD_END: P1 + FAILWARN_LEAD. -/
def execFailwarnLeadEnd (s : State) : Host.Outcome State Fault Refusal :=
  .next (if s.sup.pd = .warned ∧ s.elapsed s.sup.pdAt (1000 * s.lead) then s.pdOpen else s)

/-- The final charge counts, the marks of the mapped cells' contexts for restore, and the power-down record (R83 step P4, R493), on the flashes at once. -/
def State.pdRecord (s : State) : State :=
  let ns := s.chans.filter fun n => s.fld F.MEAS_EPOCH_EPOCH n != 0
  let cs : List (Nat × Counts) := ns.map fun n => (n, s.countsAt n (s.tb0))
  let body := cs.flatMap fun e => [e.1, e.2.qDis, e.2.qChg]
  let s := { s with ldgState := { s.ldgState with
    final := cs.foldl (fun m (e : Nat × Counts) => newest m e.1 e.2) s.ldgState.final
    marked := s.cells.map fun (e : Nat × Cell) => e.1 } }
  let s := (s.ledger 0x22 body).flushUrgent
  { s with sup := { s.sup with recordMade := true } }

/-- POWERDOWN_RECORD_DONE: P4, skipped when VIO, VCORE or VSRAM has failed (R85); then the SOFT reset (R86) or P5. -/
def execPowerdownRecordDone (s : State) : Host.Outcome State Fault Refusal :=
  .next (if s.sup.pd ≠ .opened then s
  else
    let can := bitsGet s.sup.railLost 1 3 == 0 && !s.sup.inReset && s.ldg.opened && s.fld F.LDG_STATE_FLASH_OK != 0
    let s := if can then s.pdRecord else s
    if s.sup.softCmd then (s.doReset 6).leaveUnheld
    else
      let s := ({ s with sup := { s.sup with pd := .recorded, pdMark := s.now } }).setSeq seqPowerDown
      s.beginRelease .powerDown)

/-- SUP_RESET_CMD: P2 to P4 without a lead, then SOFT (R86, R92).  While P1's lead runs, P2 begins at once and the
power-down goes on to P6 without SOFT (the model's choice: the spec is silent; log 36). -/
def execSupResetCmd (sess : Fin 256) (value : Word) (s : State) : Host.Outcome State Fault Refusal :=
  .next (s.sessionCommand sess .SUP_RESET_CMD 0 0 value.toNat
    (value.toNat % 65536 == 0x5E7A && !s.fromP2) fun t =>
    if t.sup.pd = .warned then t.pdOpen
    else ({ t with sup := { t.sup with softCmd := true } }).pdOpen)

/-- SUP_FEED_CFG_WRITE (R89). -/
def execSupFeedCfgWrite (sess : Fin 256) (value : Word) (s : State) : Host.Outcome State Fault Refusal :=
  .next (s.sessionWrite sess .SUP_FEED_CFG 0 0 value.toNat (fun _ => true) fun t => t.setVctl t.sup.vctlMv)

/-- KEY_RECOVER: the key while in Safe-state resets the device (R59, R84). -/
def execKeyRecover (sess : Fin 256) (value : Word) (s : State) : Host.Outcome State Fault Refusal :=
  .next (s.sessionCommand sess .KEY_RECOVER 0 0 value.toNat
    (value.toNat % 65536 == 0x5AFE && s.safe && !s.fromP2) fun t => (t.doReset 5).leaveUnheld)

/-! ### REFCLK_IN (R700, R701) -/

/-- REFCLK_LOST: no edge for 2 µs. -/
def execRefclkLost (noEdgeNs : Nat) (s : State) : Host.Outcome State Fault Refusal :=
  .next (if noEdgeNs < 2000 ∨ s.sup.refLost then s
  else
    let s := { s with sup := { s.sup with refLost := true, pllLocked := false } }
    if s.sup.inReset ∨ s.sup.pd ≠ .none then s
    else s.draw.safeEnter ⟨6, 0, 0, false⟩ 0x0A00 (s.free 208 % 2 ^ 32))

/-- PLL_LOCK: the PLL has locked on REFCLK_IN. -/
def execPllLock (s : State) : Host.Outcome State Fault Refusal :=
  .next { s with sup := { s.sup with pllLocked := true, refLost := false } }

/-! ### Charter load (R76 to R79) -/

/-- Steps 1 to 4 of R76 on a header: 0 passes. -/
def State.headerResult (s : State) (x : Image) (readErr : Bool) : Nat :=
  if readErr then 7
  else if x.blank then 2
  else if ¬ x.headerGood ∨ x.format ≠ 1 then 3
  else if s.fld F.KEY_DEVICE_CAPS_PIER_CH < x.pierCh ∨ s.fld F.KEY_DEVICE_CAPS_CHAIN_PORTS < x.chainPorts ∨
      s.fld F.KEY_DEVICE_CAPS_CTX_UNITS < x.ctxUnits then 4
  else if x.keySlot < 4 ∧ bitOf (s.fld F.TG_KEYS_PROGRAMMED) x.keySlot ∧ ¬ bitOf (s.fld F.TG_KEYS_REVOKED) x.keySlot
    then 0
  else 5

/-- The result code of image f, and its flag (R94, R97). -/
def State.imageResult (s : State) (f code : Nat) : State :=
  let bad := 2 ≤ code && code ≤ 7
  if f = 0 then (s.setFld F.KEY_START_STATE_RESULT_A code).flagIf bad F.KEY_START_FLAGS_IMAGE_A_FAIL
  else (s.setFld F.KEY_START_STATE_RESULT_B code).flagIf bad F.KEY_START_FLAGS_IMAGE_B_FAIL

/-- Mark i of R96, in whole µs since the reference event, rounded down, modulo 2^32 (the model's choice, log 156). -/
def State.startMark (s : State) (i : Nat) : State :=
  s.setReg .KEY_START_MARK i 0 ((s.now - s.startAt.getD s.now) / 1000 % 2 ^ 32)

/-- Safe Idle (R79).  Its record waits in the buffer where the Ledger is not yet open. -/
def State.safeIdle (s : State) : State :=
  let s := (s.setFld F.KEY_START_STATE_PHASE 5).setFld F.KEY_START_STATE_LOADED 3
  let s := ({ s with load := .failed }).flag F.KEY_START_FLAGS_SAFE_IDLE
  let s := s.startMark 0
  if s.ldg.opened ∧ s.fld F.LDG_STATE_FLASH_OK = 0 then s
  else s.ledger 0x21 [s.fld F.KEY_START_STATE_RESULT_A, s.fld F.KEY_START_STATE_RESULT_B]

/-- The fields that no session writes and whose values come from the Charter (R499, R567, R606, R617, R633, R636), with
their ranges. -/
def charterOnly : RegName → List WField
  | .LRN_IBAND => [⟨0, 24, .ro, false, 0, 0xFFFFFF⟩]
  | .LRN_TBAND => [⟨0, 32, .ro, false, 0, 0xFFFFFFFF⟩]
  | .SPAN_CFG => [⟨8, 6, .ro, false, 0, 63⟩, ⟨16, 16, .ro, false, 0, 0xFFFF⟩]
  | .BF_REF_STATE => [⟨3, 1, .ro, false, 0, 1⟩]
  | .SSI_CFG => [⟨0, 16, .ro, false, 0, 0xFFFF⟩, ⟨16, 9, .ro, false, 0, 256⟩, ⟨25, 1, .ro, false, 0, 1⟩]
  | .SSI_BREQ => [⟨0, 32, .ro, false, 0, 0xFFFFFFFF⟩]
  | .SSI_PROOF_CFG => [⟨0, 9, .ro, false, 1, 365⟩]
  | .PAR_ID => [⟨0, 32, .ro, false, 0, 0xFFFFFFFF⟩]
  | .PAR_CHMASK => [⟨0, 32, .ro, false, 0, 0xFFFFFFFF⟩]
  | .PAR_CFG => [⟨0, 24, .ro, false, 100, 10000000⟩, ⟨24, 2, .ro, false, 0, 3⟩, ⟨26, 6, .ro, false, 0, 63⟩]
  | _ => []

/-- The word that a Charter's value leaves in register r; SSI_BREQ has no bit of an absent channel (R2). -/
def State.charterWord (s : State) (r : RegName) (i j value : Nat) : Nat :=
  let w := fixWord s.variant r (s.reg r i j) (writeWord (writeFields r ++ charterOnly r) (s.reg r i j) value)
  if r = .SSI_BREQ then s.chanMask w else w

/-- One parameter of a Charter takes its value (R14, R78). -/
def State.applyReg (s : State) (e : Nat × Word) : State :=
  let k := Nat.unpair e.1
  let ij := Nat.unpair k.2
  let r := RegName.ofNat k.1
  if (regInfo r).chan ∧ ¬ s.present ij.1 then s else s.setReg r ij.1 ij.2 (s.charterWord r ij.1 ij.2 e.2.toNat)

/-- A Charter configures timer t as writes would (R360): RELOAD is staged, and EN = 1 starts the timer, which takes it. -/
def State.talLoaded (s : State) (t : Nat) : State :=
  let s := if s.reg .TAL_RELOAD t = 0xFFFFFFFF then s else s.setBit F.TAL_STATUS_RELOAD_PEND true t
  if s.bit F.TAL_CFG_EN t ∧ ¬ s.talFenced t then s.talStart t else s

/-- What follows the parameters of a Charter: maps, thresholds, timers, ports, servo, connections, time (R78, R588,
R619). -/
def State.applyHooks (s : State) : State :=
  let s := (s.chans.foldl State.derate s.mapCells).showBus
  let s := s.chans.foldl (fun t n => t.setFld F.MEAS_EPOCH_SPARE_KIND (t.spareKind n) n) s
  let s := s.setFld F.EST_STATE_DIV_NOW (s.fld F.EST_CFG_DIV_CFG)
  let s := s.setFld F.HR_CFG_RATE_NOW (satNat 4 (s.fld F.HR_CFG_RATE))
  let s := (List.range 64).foldl (fun t i => t.talLoaded i) s
  let s := (List.range 8).foldl (fun t b => t.setTb b { t.tb b with incFrac := t.reg .TB_INC_FRAC b }) s
  let s := { s with
    com := { s.com with ethNow := s.reg .ETH_CFG }
    bel := { s.bel with servo := s.fld F.BF_PTP_CFG_SERVO_ENG } }
  let s := (s.setVctl s.sup.vctlMv).parStart
  let st := s.ldg.stamp
  if st = (0, 0) then s else (s.tbStep 0 (st.1, st.2, 0) 0xFFFF).tbStep 1 (st.1, st.2, 0) 0xFFFF

/-- The Granary area of the impedance tables, where a body is staged (R77, spec/19_address_map.md). -/
def stageLo : Nat := 0x1000400000
def stageHi : Nat := 0x1002400000

/-- The first n bytes of the body of an image stand in the staging area (R77). -/
def State.stage (s : State) (x : Image) (n : Nat) : State :=
  { s with mem := memPutBytes s.mem stageLo ((List.range n).map x.bodyByte) }

/-- The staging area becomes the impedance tables, which read 0 until a cell is seeded (R470). -/
def State.unstage (s : State) : State :=
  { s with mem := s.mem.filter fun c => decide (c.1 < stageLo) || decide (stageHi ≤ c.1) }

/-- Apply image f in one step (R78); PHASE becomes CALIBRATE. -/
def State.applyCharter (s : State) (f : Nat) : State :=
  let x := s.image f
  let s := s.unstage
  let s := { s with charter := x.body, load := .loaded }
  let s := x.body.regs.foldl State.applyReg s
  let s := (s.setReg .KEY_CHARTER_GEN 0 0 x.generation).setReg .KEY_CHARTER_ID 0 0 x.digestHead.toNat
  let s := (s.setFld F.KEY_START_STATE_LOADED (f + 1)).setFld F.KEY_START_STATE_KEY_SLOT x.keySlot
  let s := s.applyHooks
  let s := s.ledger 0x20
    [f, x.generation, s.fld F.KEY_START_STATE_RESULT_A, s.fld F.KEY_START_STATE_RESULT_B]
  ((s.setFld F.KEY_START_STATE_PHASE 1).startMark 0).calEnter

/-- The loader starts flash f (R74): software reset in 1S-1S-1S, the JESD216 table, then 8D-8D-8D where the flash reports
it. -/
def State.startFlash (s : State) (f : Fin 2) : State :=
  let fast := s.xspi[f].can8d
  let s := (s.send (.flash f .softwareReset)).send (.flash f .readParameters)
  let s := if fast then s.send (.flash f .enter8d) else s
  { s with xspi := s.xspi.set f { s.xspi[f] with mode8d := fast } }

/-- CHARTER_HEADERS_READ: the flashes are started; both headers; the body of the higher generation is read first (R77). -/
def execCharterHeadersRead (readErrA readErrB : Bool) (s : State) : Host.Outcome State Fault Refusal :=
  let a := s.headerResult s.imageA readErrA
  let b := s.headerResult s.imageB readErrB
  let t := (s.startFlash 0).startFlash 1
  .next (if s.sup.inReset ∨ s.phase ≠ 0 ∨ s.load ≠ .idle then s
  else if a = 0 ∧ b = 0 then
    { t with load := if s.imageB.generation ≤ s.imageA.generation then .bodyA false else .bodyB false }
  else if a = 0 then { t.imageResult 1 b with load := .bodyA true }
  else if b = 0 then { t.imageResult 0 a with load := .bodyB true }
  else ((t.imageResult 0 a).imageResult 1 b).safeIdle)

/-- The body of image f has been streamed into the staging area, on a transfer error some of it: its signature, then the
other image or Safe Idle (R77). -/
def State.bodyDone (s : State) (f : Nat) (second readErr : Bool) : State :=
  let x := s.image f
  let all := min x.length 16776992
  let s := if readErr then s.draw.stage x (s.free 211 % (all + 1)) else s.stage x all
  let signed := s.tg.fuseKeys.any fun e => e.1 == x.keySlot && some e.2 == x.signer
  let code := if readErr then 7 else if signed then 0 else 6
  let s := s.imageResult f code
  if code = 0 then (if second then s else s.imageResult (1 - f) 1).applyCharter f
  else if second then s.safeIdle
  else { s with load := if f = 0 then .bodyB true else .bodyA true }

/-- IMAGE_BODY_READ_DONE. -/
def execImageBodyReadDone (readErr : Bool) (s : State) : Host.Outcome State Fault Refusal :=
  .next (match s.load with
  | .bodyA second => s.bodyDone 0 second readErr
  | .bodyB second => s.bodyDone 1 second readErr
  | _ => s)

/-! ### The end of the first roll call (R82, R221) -/

/-- A link, field node or Span port has been admitted or moved to a refused state since reset, or its unit is
retired. -/
def State.linkJudged (s : State) (n : Nat) : Bool :=
  s.judged.contains (partnerLink n) || (s.unitRec (unitKey 0 (n / 4) (2 * (n % 4)) false)).retired ||
    (s.unitRec (unitKey 0 (n / 4) 0 true)).retired
def State.nodeJudged (s : State) (n p : Nat) : Bool :=
  s.judged.contains (partnerNode n p) || (s.unitRec (unitKey 2 (n / 4) 0 false)).retired
def State.portJudged (s : State) (p : Nat) : Bool :=
  !s.bit F.SPAN_CFG_SPAN_EN || s.judged.contains (partnerPort p) || (s.unitRec (unitKey 5 8 p false)).retired ||
    (s.unitRec (unitKey 5 8 0 true)).retired

/-- Every partner that the Charter expects is admitted or retired: the links it names, the EXPECT nodes of each chain
(R421), and both Span ports where SPAN_EN = 1. -/
def State.allJudged (s : State) : Bool :=
  (s.chans.all fun n => !bitOf s.charter.expectCh n || s.linkJudged n) &&
    (s.chans.all fun n => (List.range (s.fld F.HR_CHAIN_CFG_EXPECT n)).all fun p => s.nodeJudged n p) &&
    s.portJudged 2 && s.portJudged 3

/-- A channel that was locked is LOCKED again with its cause. -/
def State.lockAgain (s : State) (e : Nat × Nat) : State :=
  let n := e.1
  if ¬ s.present n ∨ s.cstate n = csLocked then s
  else
    let s := (s.setCstate n csLocked).setBit F.PROT_STATE_LOCKED true n
    let s := s.setFld F.PROT_STATE_LOCK_CAUSE e.2 n
    s.setProt n { s.prot n with lockedBeforeReset := true }

/-- ROLL_CALL_PASS_END: PHASE becomes RUN. -/
def execRollCallPassEnd (s : State) : Host.Outcome State Fault Refusal :=
  let late := s.elapsed (s.startAt.getD s.now) 4000000000
  .next (if s.phase ≠ 3 ∨ (¬ s.allJudged ∧ ¬ late) then s
  else
    let s := s.flagIf (!s.allJudged) F.KEY_START_FLAGS_ROLL_CALL_SHORT
    let s := (s.setFld F.KEY_START_STATE_PHASE 4).startMark 3
    let s := s.lockLog.foldl State.lockAgain s
    (s.chans.foldl State.safeRun s).showFailwarn)

/-! ### Pin states outside RUN (R71, R79) -/

/-- What holds a pin: nothing, a level, or the loader's transfers. -/
inductive Drive
  | highZ | low | high | loader
  deriving DecidableEq, Repr

/-- XSPI_CS0_N and XSPI_CS1_N. -/
def State.chipSelects (s : State) : Drive := if s.sup.inReset then .high else .loader

/-- EN_VIO to EN_VSER_H: the enable of rail i. -/
def State.enablePin (s : State) (i : Nat) : Drive := if bitOf s.sup.enables i then .high else .low

/-- FDA_GATE_EN and FDB_GATE_EN. -/
def State.feedGate (s : State) (b : Bool) : Drive :=
  if s.bit (if b then F.SUP_STATE_FEEDB_ON else F.SUP_STATE_FEEDA_ON) then .high else .low

/-- FAILWARN_N. -/
def State.failwarnPin (s : State) : Drive := if s.bit F.SUP_STATE_FAILWARN then .low else .highZ

/-- SAFE_RUN[n] carries pulses, or is static low. -/
def State.safeRunPulses (s : State) (n : Nat) : Bool := s.bit F.PLK_STATE_SAFE_RUN_ON n

/-- BYPASS_HOLD. -/
def State.bypassPin (s : State) : Drive := if s.bit F.SPAN_STATE_BYPASS_HOLD then .high else .low

/-- The transmitters that have left electrical idle: pier link n, Hedgerow port n, an Ethernet port, a Span port. -/
def State.pierTx (s : State) (n : Nat) : Bool := s.lstate n != lsDown
def State.hedgerowTx (s : State) (n : Nat) : Bool := s.hstate n != 0
def State.ethTx (s : State) (p : Nat) : Bool := s.ethAllowed p && !s.portFenced p
def State.spanTx (s : State) (west : Bool) : Bool := s.pstate west != 0

/-- The IPv6 link-local address of Ethernet port 0: fe80::/64 with an interface identifier formed from the device serial
number (R79, R542, log 157). -/
def State.linkLocal (s : State) : Option Nat :=
  if s.ethTx 0 then some (0xFE80 * 2 ^ 112 + Config.linkLocalId.toNat) else none

end Sys2Proof.Machine
end

