-- ==== Sys2Proof/Machine/Access.lean ====
section
/-! DEFINITION. Writes by address: the address map read backwards (spec chapter 19), REG_WRITE and W1C_CLEAR (spec
chapters 00 and 01). -/

namespace Sys2Proof.Machine

/-! ### What an address names (R17, R39, R689 to R693) -/

/-- The indices of the instance of a register that lies at address a. -/
def RegInfo.indexAt (f : RegInfo) (a : Nat) : Option (Nat × Nat) :=
  let b := f.region.base + f.off
  let d := a - b
  let outer := f.sj ≤ f.si
  let i := if outer then d / f.si else d % f.sj / f.si
  let j := if outer then d % f.si / f.sj else d / f.sj
  let i := if f.si = 0 then 0 else i
  let j := if f.sj = 0 then 0 else if f.si = 0 then d / f.sj else j
  if b ≤ a ∧ f.si * i + f.sj * j = d ∧ f.ib ≤ i ∧ i < f.ni ∧ j < f.nj then some (i, j) else none

/-- Every register name, in the order of the map. -/
def allRegs : List RegName := (List.range 296).map RegName.ofNat

/-- The register at address a. -/
def regAt (a : Nat) : Option (RegName × Nat × Nat) :=
  allRegs.findSome? fun r => ((regInfo r).indexAt a).map fun ij => (r, ij.1, ij.2)

/-- Address a is the event counter of a defined bit of register r (R39, R691). -/
def cntHere (r : RegName) (a : Nat) : Bool :=
  let f := regInfo r
  let b := f.region.base + 0x80000 + 32 * f.off
  let d := a - b
  let step := if f.region = .pier then f.si else 32 * f.si
  let i := if step = 0 then 0 else d / step
  let rest := if step = 0 then d else d % step
  decide (b ≤ a) && decide (i < f.ni) && rest % 4 == 0 && decide (rest < 128) && bitOf (w1cBits r) (rest / 4)

/-- The Granary areas of R693; the recorder loses 1 MiB from its top for each retired block (R695). -/
def State.granaryArea (s : State) (a : Nat) : Bool :=
  let lo := 0x1000000000
  let top := 0x1002400000 + (16 - s.retiredCount .granary) * 0x100000
  (lo ≤ a && a < 0x1002400000) || (0x1002400000 ≤ a && a < top) || (0x1003400000 ≤ a && a < 0x1003E20000) ||
    (0x1003E40000 ≤ a && a < 0x1003E80000) || (0x1003F00000 ≤ a && a < 0x1003F10000) ||
    (0x1003F80000 ≤ a && a < 0x1004000000)

/-- The Address Map lists nothing at a, or a is misaligned (R17). -/
def State.unlisted (s : State) (a : Nat) : Bool :=
  a % 4 != 0 || ((regAt a).isNone && !s.granaryArea a && !allRegs.any fun r => cntHere r a)

/-! ### W1C writes (R20, R36 to R38) -/

/-- A session writes `value` to a W1C register; the events of `arrivals` set their bits during the write's handshake,
and win. -/
def State.w1cWrite (s : State) (k : Nat) (r : RegName) (i value arrivals : Nat) : State :=
  let arrive (t : State) : State :=
    (bitList 32 (arrivals &&& w1cBits r)).foldl (fun u b => u.flag ⟨r, 0, 32⟩ i b) t
  if (regInfo r).chan ∧ ¬ s.present i then s.answer (.ok 0)
  else if s.regHeld r i then (arrive s).answer .error
  else
    let x := s.session k
    if ¬ x.isOpen ∨ x.role ∉ regRoles r i ∨ s.safe ∨ (x.role = .maker ∧ ¬ s.bit F.TG_STATE_MAKER_EN) then
      (arrive s).answer .refused
    else
      let left := maskDiff 32 (s.reg r i) (value &&& w1cBits r)
      (arrive (s.setReg r i 0 left)).answer (.ok value)

/-- W1C_CLEAR: at an address that holds no W1C register, the write of a word is REG_WRITE's. -/
def execW1cClear (sess : Fin 256) (addr : Addr) (value arrivals : Word) (s : State) :
    Host.Outcome State Fault Refusal :=
  let s := s.touch sess
  .next (match regAt addr.toNat with
  | some (r, i, _) => if w1cBits r = 0 then s.answer .error else s.w1cWrite sess r i value.toNat arrivals.toNat
  | none => s.answer .error)

/-! ### Register writes (R20, R21) -/

/-- A write of a register without a row of its own: what follows it (R386, R437, R460, R541, R539, R552, R600). -/
def State.plainWritten (s : State) (r : RegName) (i old : Nat) : State :=
  match r with
  | .HR_CFG =>
    if bitsGet old 0 3 = s.fld F.HR_CFG_RATE then s
    else { s with inst := { s.inst with rateDue := some s.rateBoundary } }
  | .EST_CFG => s.stageDiv
  | .COM_PORT_CFG =>
    if s.bit F.COM_PORT_CFG_PREEMPT_EN i then s else s.setBit F.COM_PORT_STATE_PREEMPT_ACTIVE false i
  | .ETH_CFG => s.ethCfgWritten
  | .SPAN_CFG => s.spanEnWritten
  | .TB_SET_NS | .TB_SET_SEC_LO | .TB_SET_SEC_HI | .TB_SET_FRAC => s.setBit F.TB_STATE_STAGED true i
  | _ => s

/-- The conditions that a plain register's own rule sets on a write (R321, R571). -/
def State.plainOk (s : State) (r : RegName) (new : Nat) : Bool :=
  match r with
  | .INJ_CFG => !s.bit F.INJ_STATE_ACTIVE && bitsGet new 8 2 != 3
  | .INJ_CFG2 => !s.bit F.INJ_STATE_ACTIVE
  | .MEAS_RTRIG | .MEAS_ITRIG | .MEAS_GRP => bitsGet new 0 8 ≤ 0x61
  | _ => true

/-- A write of a register without a row of its own: a read-only one ignores it. -/
def State.plainWrite (s : State) (k : Nat) (r : RegName) (i j value : Nat) : State :=
  let old := s.reg r i j
  if w1cBits r ≠ 0 then s.w1cWrite k r i value 0
  else if writeFields r = [] then s.answer (.ok value)
  else s.sessionWrite k r i j value (s.plainOk r) fun t => t.plainWritten r i old

/-- A write whose command code names nothing: refused, or taken without action. -/
def State.noCommand (s : State) (k : Nat) (r : RegName) (i value : Nat) (ok : Bool) : State :=
  s.sessionCommand k r i 0 value ok id

/-- DSP_REC_CMD: its set bits act in order. -/
def State.recWord (s : State) (k value : Nat) : State :=
  s.recCmd k (bitsGet value 0 3) fun t =>
    let t := if bitOf value 0 then t.armRec else t
    let t := if bitOf value 1 then t.recAny 0xFF 0 else t
    if bitOf value 2 then t.stopRec else t

/-- A write of a command register of a channel. -/
def writeChannel (k : Fin 256) (r : RegName) (n : Fin 32) (v : Word) (s : State) : Host.Outcome State Fault Refusal :=
  let x := v.toNat
  match r with
  | .PLK_CFG => execPlkCfgWrite k n v s
  | .PLK_PARAM => execPlkParamWrite k n v s
  | .PLK_PARAM2 => execPlkParam2Write k n v s
  | .INS_CMD =>
    if x % 16 = 1 then execInsert k n v false s
    else if x % 16 = 2 then execOpenCmd k n v s
    else .next (s.noCommand k .INS_CMD n x (x % 16 == 0))
  | .INS_CFG => execInsCfgWrite k n v s
  | .INS_THERM => execInsThermWrite k n v s
  | .INS_GRAMP => execInsGrampWrite k n v s
  | .PROT_ILIM => execProtIlimWrite k n v s
  | .PROT_SLOW => execProtSlowWrite k n v s
  | .PROT_REV => execProtRevWrite k n v s
  | .PROT_MOD => execProtModWrite k n v false s
  | .PROT_DIDT => execProtModWrite k n v true s
  | .PROT_CLEAR =>
    if x % 16 = 1 then execProtClearLockout k n v s
    else if x % 16 = 2 then execProtClearDamaged k n v s
    else if x % 16 = 3 then execProtClearSrRelease k n v s
    else .next (s.noCommand k .PROT_CLEAR n x false)
  | .TRM_CFG => execTrmCfgWrite k n v s
  | .TRM_VSET => execTrmVsetWrite k n v s
  | .HR_CHAIN_CFG => execHrChainCfgWrite k n v s
  | r => .next (s.plainWrite k r n 0 x)

/-- A write of a Measure or tally register that has a row of its own. -/
def writeMeasure (k : Fin 256) (r : RegName) (i j : Nat) (v : Word) (s : State) : Host.Outcome State Fault Refusal :=
  let x := v.toNat
  match r with
  | .MEAS_SEQ_CFG => execAdcCfgWrite k .seqCfg (Fin.ofNat 192 i) v s
  | .MEAS_INJ_CFG => execAdcCfgWrite k .injCfg (Fin.ofNat 192 i) v s
  | .MEAS_ADC_CFG => execAdcCfgWrite k .adcCfg (Fin.ofNat 192 i) v s
  | .MEAS_IN_CFG => execAdcCfgWrite k .inCfg (Fin.ofNat 192 i) v s
  | .MEAS_OW_CFG => execAdcCfgWrite k .owCfg (Fin.ofNat 192 i) v s
  | .MEAS_CONV_REF => execConvRefWrite k (Fin.ofNat 48 i) v s
  | .MEAS_CAL_CMD => execCalStartCmd k v s
  | .MEAS_SWTRIG =>
    let t := Fin.ofNat 64 (x % 64)
    if bitOf x 6 then execSwtrigGroup k t s
    else if bitOf x 7 then execSwtrigInjected k t s
    else execSwtrigRegular k t s
  | .TAL_CFG => if bitOf x 0 then execTalEnable k (Fin.ofNat 64 i) v s else execTalDisable k (Fin.ofNat 64 i) v s
  | .TAL_RELOAD => execTalReloadWrite k (Fin.ofNat 64 i) v s
  | .TAL_CMP => execTalCmpWrite k (Fin.ofNat 64 i) (Fin.ofNat 4 j) v s
  | .TAL_ACT => execTalActWrite k (Fin.ofNat 64 i) v s
  | .TAL_SYNC => execTalSyncWrite k (Fin.ofNat 64 i) v s
  | r => .next (s.plainWrite k r i j x)

/-- A write of one of the device-wide registers that have rows of their own. -/
def writeDevice (k : Fin 256) (r : RegName) (i j : Nat) (v : Word) (s : State) : Host.Outcome State Fault Refusal :=
  let x := v.toNat
  let key := BitVec.ofNat 16 (x / 65536)
  match r with
  | .KEY_RECOVER => execKeyRecover k v s
  | .SUP_RESET_CMD => execSupResetCmd k v s
  | .SUP_FEED_CFG => execSupFeedCfgWrite k v s
  | .INS_BUS => execInsBusWrite k v s
  | .PROT_BUS_CFG => execProtBusCfgWrite k v s
  | .EST_SOCLIM => execEstSoclimWrite k false v s
  | .EST_VLIM => execEstSoclimWrite k true v s
  | .EST_SWAP_CMD =>
    let n := Fin.ofNat 32 (x % 32)
    let p := Fin.ofNat 16 (bitsGet x 8 4)
    if bitsGet x 12 2 = 1 then execSwapKeep k n p key s
    else if bitsGet x 12 2 = 2 then execSwapFresh k n p key s
    else .next (s.noCommand k .EST_SWAP_CMD 0 x false)
  | .DSP_REQ => execDspReqWrite k v s
  | .DSP_ACK => execDspAckWrite k v s
  | .DSP_BAL_CFG => execDspBalCfgWrite k false v s
  | .DSP_BAL_CFG2 => execDspBalCfgWrite k true v s
  | .DSP_REC_CMD => .next (s.recWord k x)
  | .INJ_CMD =>
    if x % 4 = 1 then execInjStart k key s
    else if x % 4 = 2 then execInjStop k s
    else .next (s.noCommand k .INJ_CMD 0 x true)
  | .BF_SNAP_CMD => if bitOf x 0 then execBfSnap k s else .next (s.noCommand k .BF_SNAP_CMD 0 x true)
  | .TG_DEBUG => execDebugEnWrite k v s
  | .TG_KEY_CMD =>
    let slot := Fin.ofNat 4 (bitsGet x 2 2)
    if x % 4 = 1 then execKeyProgram k slot key (s.free 209) s.draw
    else if x % 4 = 2 then execKeyRevoke k slot key s
    else .next (s.noCommand k .TG_KEY_CMD 0 x false)
  | .ALM_CFG => execAlmCfgWrite k false v s
  | .ALM_CFG2 => execAlmCfgWrite k true v s
  | .ALM_OVR => execAlmOverride k (BitVec.ofNat 8 x) (Fin.ofNat 32 (bitsGet x 8 5)) key s
  | .ALM_CMD => execReplan k v s
  | r => .next (s.plainWrite k r i j x)

/-- A write of a Belfry register, by a session or the servo's engine (R576). -/
def writeBelfry (who : Fin 384) (r : RegName) (i j : Nat) (v : Word) (s : State) : Host.Outcome State Fault Refusal :=
  let b := Fin.ofNat 8 i
  let x := v.toNat
  match r with
  | .TB_INC_NS => execTbIncWrite who b v s
  | .TB_ADJ => execTbAdjWrite who b v s
  | .TB_CMD => if x % 4 = 1 then execTbApply who b s else .next (s.belCommand who .TB_CMD b x true id)
  | .TB_SERVO => execTbServoReport who b v s
  | .BF_REF_RPT => execRefReport who (Fin.ofNat 3 i) v s
  | .TB_INC_FRAC | .TB_CFG | .TB_SET_NS | .TB_SET_SEC_LO | .TB_SET_SEC_HI | .TB_SET_FRAC =>
    .next (s.belWrite who r i x fun t => t.plainWritten r i 0)
  | r => if who.val < 256 then .next (s.plainWrite who r i j x) else .next s

/-- REG_WRITE: the address decides (R17, R20, R21, R694); an engine writes Belfry only. -/
def execRegWrite (who : Fin 384) (addr : Addr) (value : Word) (s : State) : Host.Outcome State Fault Refusal :=
  let a := addr.toNat
  let v := value.toNat
  let k : Fin 256 := Fin.ofNat 256 who.val
  if 256 ≤ who.val then
    if ¬ s.reader who then .next s
    else
      match regAt a with
      | some (r, i, j) => if (regInfo r).region = .belfry then writeBelfry who r i j value s else .next s
      | none => .next (if s.unlisted a then s.answer .error else s)
  else if ¬ (s.session k).isOpen then .next (s.answer .refused)
  else
    let s := s.touch k
    match regAt a with
    | some (r, i, j) =>
      match (regInfo r).region with
      | .belfry => writeBelfry who r i j value s
      | .measure => writeMeasure k r i j value s
      | .pier | .hedgerow =>
        if (regInfo r).chan ∧ j = 0 then writeChannel k r (Fin.ofNat 32 i) value s else .next (s.plainWrite k r i j v)
      | _ => writeDevice k r i j value s
    | none =>
      if s.unlisted a then .next (s.answer .error)
      else if s.granaryArea a then
        .next (((s.flag F.TG_FLAGS_WRITE_REFUSED).auditRefused k 1 a (s.word a) v).answer .refused)
      else .next (s.answer (.ok v))

end Sys2Proof.Machine
end

