-- ==== Sys2Proof/Machine/Dispatch.lean ====
section
/-! DEFINITION. One arm for each command. -/

namespace Sys2Proof.Machine

def exec (i : Instr) (s : State) : Host.Outcome State Fault Refusal :=
  match i with
  | .regWrite who addr value => Sys2Proof.Machine.execRegWrite who addr value s
  | .w1cClear sess addr value arrivals => Sys2Proof.Machine.execW1cClear sess addr value arrivals s
  | .paceMeasure region island pace => Sys2Proof.Machine.execPaceMeasure region island pace s
  | .paceReport => Sys2Proof.Machine.execPaceReport s
  | .paceFloorExpiry region => Sys2Proof.Machine.execPaceFloorExpiry region s
  | .tileErrorDetected site fault systemArea detail => Sys2Proof.Machine.execTileErrorDetected site fault systemArea detail s
  | .hsTimeout site detail => Sys2Proof.Machine.execHsTimeout site detail s
  | .restartComplete site => Sys2Proof.Machine.execRestartComplete site s
  | .restartFail site => Sys2Proof.Machine.execRestartFail site s
  | .contWindowEnd site => Sys2Proof.Machine.execContWindowEnd site s
  | .heartbeat supervisorMissed => Sys2Proof.Machine.execHeartbeat supervisorMissed s
  | .correctedSummary => Sys2Proof.Machine.execCorrectedSummary s
  | .keyRecover sess value => Sys2Proof.Machine.execKeyRecover sess value s
  | .feedEnhance feed dropMv => Sys2Proof.Machine.execFeedEnhance feed dropMv s
  | .feedReverseOff feed dropMv heldNs => Sys2Proof.Machine.execFeedReverseOff feed dropMv heldNs s
  | .feedGoodEval sample => Sys2Proof.Machine.execFeedGoodEval sample s
  | .vctlLow vctlMv => Sys2Proof.Machine.execVctlLow vctlMv s
  | .vctlRecovered vctlMv heldUs => Sys2Proof.Machine.execVctlRecovered vctlMv heldUs s
  | .porRelease vanaDmv heldUs => Sys2Proof.Machine.execPorRelease vanaDmv heldUs s
  | .enVioAssert => Sys2Proof.Machine.execEnVioAssert s
  | .railEnableNext => Sys2Proof.Machine.execRailEnableNext s
  | .suppliesGood vserhDmv => Sys2Proof.Machine.execSuppliesGood vserhDmv s
  | .seqTimeout => Sys2Proof.Machine.execSeqTimeout s
  | .seqRetryEnd => Sys2Proof.Machine.execSeqRetryEnd s
  | .enableReleaseStep => Sys2Proof.Machine.execEnableReleaseStep s
  | .porReset vanaDmv => Sys2Proof.Machine.execPorReset vanaDmv s
  | .resetNLow heldNs => Sys2Proof.Machine.execResetNLow heldNs s
  | .resetNRise => Sys2Proof.Machine.execResetNRise s
  | .railTrip rail dmv heldNs => Sys2Proof.Machine.execRailTrip rail dmv heldNs s
  | .railRestart => Sys2Proof.Machine.execRailRestart s
  | .thermalTrip tj heldUs => Sys2Proof.Machine.execThermalTrip tj heldUs s
  | .thermalRelease tj => Sys2Proof.Machine.execThermalRelease tj s
  | .failwarnLeadEnd => Sys2Proof.Machine.execFailwarnLeadEnd s
  | .powerdownRecordDone => Sys2Proof.Machine.execPowerdownRecordDone s
  | .supResetCmd sess value => Sys2Proof.Machine.execSupResetCmd sess value s
  | .supFeedCfgWrite sess value => Sys2Proof.Machine.execSupFeedCfgWrite sess value s
  | .charterHeadersRead readErrA readErrB => Sys2Proof.Machine.execCharterHeadersRead readErrA readErrB s
  | .imageBodyReadDone readErr => Sys2Proof.Machine.execImageBodyReadDone readErr s
  | .rollCallPassEnd => Sys2Proof.Machine.execRollCallPassEnd s
  | .blockLockGained ch => Sys2Proof.Machine.execBlockLockGained ch s
  | .blockLockLost ch => Sys2Proof.Machine.execBlockLockLost ch s
  | .frameTick => Sys2Proof.Machine.execFrameTick s
  | .uplinkFrame ch frame => Sys2Proof.Machine.execUplinkFrame ch frame s
  | .urgentEventRx ch didt => Sys2Proof.Machine.execUrgentEventRx ch didt s
  | .mbxReply ch => Sys2Proof.Machine.execMbxReply ch s
  | .mbxReplyTimeout ch => Sys2Proof.Machine.execMbxReplyTimeout ch s
  | .linkLost ch => Sys2Proof.Machine.execLinkLost ch s
  | .frameSyncTimeout ch => Sys2Proof.Machine.execFrameSyncTimeout ch s
  | .lostResync ch => Sys2Proof.Machine.execLostResync ch s
  | .plkCfgWrite sess ch value => Sys2Proof.Machine.execPlkCfgWrite sess ch value s
  | .plkParamWrite sess ch value => Sys2Proof.Machine.execPlkParamWrite sess ch value s
  | .plkParam2Write sess ch value => Sys2Proof.Machine.execPlkParam2Write sess ch value s
  | .insert sess ch value withOpen => Sys2Proof.Machine.execInsert sess ch value withOpen s
  | .openCmd sess ch value => Sys2Proof.Machine.execOpenCmd sess ch value s
  | .tokenGrant => Sys2Proof.Machine.execTokenGrant s
  | .checkEval ch => Sys2Proof.Machine.execCheckEval ch s
  | .queueTimeout ch => Sys2Proof.Machine.execQueueTimeout ch s
  | .senseEnd ch => Sys2Proof.Machine.execSenseEnd ch s
  | .inrushTimeout ch => Sys2Proof.Machine.execInrushTimeout ch s
  | .trimTargetUpdate ch => Sys2Proof.Machine.execTrimTargetUpdate ch s
  | .alignTimeout ch => Sys2Proof.Machine.execAlignTimeout ch s
  | .vsw10Update ch => Sys2Proof.Machine.execVsw10Update ch s
  | .insBusWrite sess value => Sys2Proof.Machine.execInsBusWrite sess value s
  | .gateRiseTimeout ch => Sys2Proof.Machine.execGateRiseTimeout ch s
  | .confirmDone ch => Sys2Proof.Machine.execConfirmDone ch s
  | .thermalModelUpdate ch => Sys2Proof.Machine.execThermalModelUpdate ch s
  | .rotationSlot ch => Sys2Proof.Machine.execRotationSlot ch s
  | .rotationOutgoingOff ch => Sys2Proof.Machine.execRotationOutgoingOff ch s
  | .insCfgWrite sess ch value => Sys2Proof.Machine.execInsCfgWrite sess ch value s
  | .insThermWrite sess ch value => Sys2Proof.Machine.execInsThermWrite sess ch value s
  | .insGrampWrite sess ch value => Sys2Proof.Machine.execInsGrampWrite sess ch value s
  | .fastPathUpdate ch => Sys2Proof.Machine.execFastPathUpdate ch s
  | .ilimExit ch => Sys2Proof.Machine.execIlimExit ch s
  | .ilimTimeout ch => Sys2Proof.Machine.execIlimTimeout ch s
  | .fltTimerReset ch => Sys2Proof.Machine.execFltTimerReset ch s
  | .slowAccUpdate ch => Sys2Proof.Machine.execSlowAccUpdate ch s
  | .shuntCompare ch => Sys2Proof.Machine.execShuntCompare ch s
  | .vbusMedUpdate => Sys2Proof.Machine.execVbusMedUpdate s
  | .busFailureQualified => Sys2Proof.Machine.execBusFailureQualified s
  | .busLeadEnd => Sys2Proof.Machine.execBusLeadEnd s
  | .busFailwarnRelease => Sys2Proof.Machine.execBusFailwarnRelease s
  | .openFailTimeout ch => Sys2Proof.Machine.execOpenFailTimeout ch s
  | .switchConduct ch => Sys2Proof.Machine.execSwitchConduct ch s
  | .retryReady ch => Sys2Proof.Machine.execRetryReady ch s
  | .retryHeal ch => Sys2Proof.Machine.execRetryHeal ch s
  | .protClearLockout sess ch value => Sys2Proof.Machine.execProtClearLockout sess ch value s
  | .protClearDamaged sess ch value => Sys2Proof.Machine.execProtClearDamaged sess ch value s
  | .protClearSrRelease sess ch value => Sys2Proof.Machine.execProtClearSrRelease sess ch value s
  | .protIlimWrite sess ch value => Sys2Proof.Machine.execProtIlimWrite sess ch value s
  | .protSlowWrite sess ch value => Sys2Proof.Machine.execProtSlowWrite sess ch value s
  | .protRevWrite sess ch value => Sys2Proof.Machine.execProtRevWrite sess ch value s
  | .protModWrite sess ch value didt => Sys2Proof.Machine.execProtModWrite sess ch value didt s
  | .protBusCfgWrite sess value => Sys2Proof.Machine.execProtBusCfgWrite sess value s
  | .protLastRead sess ch => Sys2Proof.Machine.execProtLastRead sess ch s
  | .coordTripSend => Sys2Proof.Machine.execCoordTripSend s
  | .sharePeriod => Sys2Proof.Machine.execSharePeriod s
  | .handoverWindowEnd ch => Sys2Proof.Machine.execHandoverWindowEnd ch s
  | .trmCfgWrite sess ch value => Sys2Proof.Machine.execTrmCfgWrite sess ch value s
  | .trmVsetWrite sess ch value => Sys2Proof.Machine.execTrmVsetWrite sess ch value s
  | .trimCurrentCompare ch => Sys2Proof.Machine.execTrimCurrentCompare ch s
  | .weffUpdate => Sys2Proof.Machine.execWeffUpdate s
  | .zeroLearn => Sys2Proof.Machine.execZeroLearn s
  | .gridCycleBoundary => Sys2Proof.Machine.execGridCycleBoundary s
  | .windowEnd => Sys2Proof.Machine.execWindowEnd s
  | .winRequal => Sys2Proof.Machine.execWinRequal s
  | .measTallyRead who ch charge => Sys2Proof.Machine.execMeasTallyRead who ch charge s
  | .measWinRead who ch => Sys2Proof.Machine.execMeasWinRead who ch s
  | .adcEntryDone conv raw => Sys2Proof.Machine.execAdcEntryDone conv raw s
  | .adcRegTrigger conv => Sys2Proof.Machine.execAdcRegTrigger conv s
  | .adcInjTrigger conv => Sys2Proof.Machine.execAdcInjTrigger conv s
  | .adcGroupTrigger group => Sys2Proof.Machine.execAdcGroupTrigger group s
  | .swtrigRegular sess target => Sys2Proof.Machine.execSwtrigRegular sess target s
  | .swtrigInjected sess target => Sys2Proof.Machine.execSwtrigInjected sess target s
  | .swtrigGroup sess target => Sys2Proof.Machine.execSwtrigGroup sess target s
  | .adcCfgWrite sess reg idx value => Sys2Proof.Machine.execAdcCfgWrite sess reg idx value s
  | .calStartCmd sess value => Sys2Proof.Machine.execCalStartCmd sess value s
  | .calAuto block tj => Sys2Proof.Machine.execCalAuto block tj s
  | .calDone block tj runs => Sys2Proof.Machine.execCalDone block tj runs s
  | .refCheck block intPpm extPpm => Sys2Proof.Machine.execRefCheck block intPpm extPpm s
  | .refSwitchDone conv => Sys2Proof.Machine.execRefSwitchDone conv s
  | .convRefWrite sess conv value => Sys2Proof.Machine.execConvRefWrite sess conv value s
  | .refLateTimeout => Sys2Proof.Machine.execRefLateTimeout s
  | .owDue conv loc => Sys2Proof.Machine.execOwDue conv loc s
  | .grpStampRead who group => Sys2Proof.Machine.execGrpStampRead who group s
  | .talEnable sess t value => Sys2Proof.Machine.execTalEnable sess t value s
  | .talDisable sess t value => Sys2Proof.Machine.execTalDisable sess t value s
  | .talReloadWrite sess t value => Sys2Proof.Machine.execTalReloadWrite sess t value s
  | .talCmpWrite sess t k value => Sys2Proof.Machine.execTalCmpWrite sess t k value s
  | .talActWrite sess t value => Sys2Proof.Machine.execTalActWrite sess t value s
  | .talSyncWrite sess t value => Sys2Proof.Machine.execTalSyncWrite sess t value s
  | .tallyZeroEvent t => Sys2Proof.Machine.execTallyZeroEvent t s
  | .tallyCompareFire t k => Sys2Proof.Machine.execTallyCompareFire t k s
  | .tallySyncRestart t => Sys2Proof.Machine.execTallySyncRestart t s
  | .triggerSend => Sys2Proof.Machine.execTriggerSend s
  | .sampleInstant => Sys2Proof.Machine.execSampleInstant s
  | .rateApply => Sys2Proof.Machine.execRateApply s
  | .sweepSend ch => Sys2Proof.Machine.execSweepSend ch s
  | .sweepFrameRx ch recover instant hdrGood slots => Sys2Proof.Machine.execSweepFrameRx ch recover instant hdrGood slots s
  | .sweepFinal ch => Sys2Proof.Machine.execSweepFinal ch s
  | .hrLockLost ch loss => Sys2Proof.Machine.execHrLockLost ch loss s
  | .hrLoopRx ch endB set deadB => Sys2Proof.Machine.execHrLoopRx ch endB set deadB s
  | .recoverSend ch => Sys2Proof.Machine.execRecoverSend ch s
  | .enumRx ch fromB atB count good => Sys2Proof.Machine.execEnumRx ch fromB atB count good s
  | .nodeLossTimeout ch node => Sys2Proof.Machine.execNodeLossTimeout ch node s
  | .nodeCmdRetry ch endB => Sys2Proof.Machine.execNodeCmdRetry ch endB s
  | .probeCycle ch => Sys2Proof.Machine.execProbeCycle ch s
  | .probeRx ch endB set roundTripNs => Sys2Proof.Machine.execProbeRx ch endB set roundTripNs s
  | .hrLinkTimeout ch => Sys2Proof.Machine.execHrLinkTimeout ch s
  | .hrNoNodeTimeout ch => Sys2Proof.Machine.execHrNoNodeTimeout ch s
  | .hrChainCfgWrite sess ch value => Sys2Proof.Machine.execHrChainCfgWrite sess ch value s
  | .estStep ch => Sys2Proof.Machine.execEstStep ch s
  | .aggregate => Sys2Proof.Machine.execAggregate s
  | .estStrSocRead who ch => Sys2Proof.Machine.execEstStrSocRead who ch s
  | .estCtrSocRead who => Sys2Proof.Machine.execEstCtrSocRead who s
  | .engineResumePredict engine => Sys2Proof.Machine.execEngineResumePredict engine s
  | .seedWaitTimeout ch => Sys2Proof.Machine.execSeedWaitTimeout ch s
  | .contextRestore cell => Sys2Proof.Machine.execContextRestore cell s
  | .contextPersist block => Sys2Proof.Machine.execContextPersist block s
  | .swapKeep sess ch pos key => Sys2Proof.Machine.execSwapKeep sess ch pos key s
  | .swapFresh sess ch pos key => Sys2Proof.Machine.execSwapFresh sess ch pos key s
  | .swapKeepExpiry ch pos => Sys2Proof.Machine.execSwapKeepExpiry ch pos s
  | .estSoclimWrite sess vlim value => Sys2Proof.Machine.execEstSoclimWrite sess vlim value s
  | .rippleIdWindow ch => Sys2Proof.Machine.execRippleIdWindow ch s
  | .relaxFit cell => Sys2Proof.Machine.execRelaxFit cell s
  | .sohStaleTimeout cell => Sys2Proof.Machine.execSohStaleTimeout cell s
  | .chargeCheckpoint => Sys2Proof.Machine.execChargeCheckpoint s
  | .journalWrite => Sys2Proof.Machine.execJournalWrite s
  | .snapshotWrite cell => Sys2Proof.Machine.execSnapshotWrite cell s
  | .reconcile ch => Sys2Proof.Machine.execReconcile ch s
  | .dspReqWrite sess value => Sys2Proof.Machine.execDspReqWrite sess value s
  | .dispatchPass => Sys2Proof.Machine.execDispatchPass s
  | .limitRepublish ch => Sys2Proof.Machine.execLimitRepublish ch s
  | .zeroReqOpen ch => Sys2Proof.Machine.execZeroReqOpen ch s
  | .dspEvtRead who => Sys2Proof.Machine.execDspEvtRead who s
  | .dspAckWrite sess value => Sys2Proof.Machine.execDspAckWrite sess value s
  | .balPass => Sys2Proof.Machine.execBalPass s
  | .dspBalCfgWrite sess second value => Sys2Proof.Machine.execDspBalCfgWrite sess second value s
  | .hvacEval => Sys2Proof.Machine.execHvacEval s
  | .recFrameWrite => Sys2Proof.Machine.execRecFrameWrite s
  | .recArm sess => Sys2Proof.Machine.execRecArm sess s
  | .recTrigger sess => Sys2Proof.Machine.execRecTrigger sess s
  | .recStop sess => Sys2Proof.Machine.execRecStop sess s
  | .recStampRead who => Sys2Proof.Machine.execRecStampRead who s
  | .sessionHandshake h => Sys2Proof.Machine.execSessionHandshake h s
  | .sessionIdleTimeout sess => Sys2Proof.Machine.execSessionIdleTimeout sess s
  | .sessionClose sess => Sys2Proof.Machine.execSessionClose sess s
  | .serviceOpen sess service queues subs => Sys2Proof.Machine.execServiceOpen sess service queues subs s
  | .frameEnqueue queue cls port kind dst payload => Sys2Proof.Machine.execFrameEnqueue queue cls port kind dst payload s
  | .frameSend port => Sys2Proof.Machine.execFrameSend port s
  | .ethFrameRx port frame => Sys2Proof.Machine.execEthFrameRx port frame s
  | .prpSupervision => Sys2Proof.Machine.execPrpSupervision s
  | .ethLinkChange port state => Sys2Proof.Machine.execEthLinkChange port state s
  | .preemptVerifyDone port => Sys2Proof.Machine.execPreemptVerifyDone port s
  | .spanFrameRx west good queue residence frame => Sys2Proof.Machine.execSpanFrameRx west good queue residence frame s
  | .coordTripRx => Sys2Proof.Machine.execCoordTripRx s
  | .spanTripRxRead who => Sys2Proof.Machine.execSpanTripRxRead who s
  | .spanSelfTestPass => Sys2Proof.Machine.execSpanSelfTestPass s
  | .spanSelfTestTimeout => Sys2Proof.Machine.execSpanSelfTestTimeout s
  | .spanTrainDone west => Sys2Proof.Machine.execSpanTrainDone west s
  | .spanLockLost west => Sys2Proof.Machine.execSpanLockLost west s
  | .neighbourSend => Sys2Proof.Machine.execNeighbourSend s
  | .neighbourMiss west => Sys2Proof.Machine.execNeighbourMiss west s
  | .joinTimeout => Sys2Proof.Machine.execJoinTimeout s
  | .joinRetry => Sys2Proof.Machine.execJoinRetry s
  | .ringScanSend => Sys2Proof.Machine.execRingScanSend s
  | .ringScanTimeout => Sys2Proof.Machine.execRingScanTimeout s
  | .injStart sess count => Sys2Proof.Machine.execInjStart sess count s
  | .injStop sess => Sys2Proof.Machine.execInjStop sess s
  | .injTimeout => Sys2Proof.Machine.execInjTimeout s
  | .tbNsRead who tb => Sys2Proof.Machine.execTbNsRead who tb s
  | .bfSnap sess => Sys2Proof.Machine.execBfSnap sess s
  | .tbIncWrite who tb value => Sys2Proof.Machine.execTbIncWrite who tb value s
  | .tbAdjWrite who tb value => Sys2Proof.Machine.execTbAdjWrite who tb value s
  | .slewDone tb => Sys2Proof.Machine.execSlewDone tb s
  | .tbApply who tb => Sys2Proof.Machine.execTbApply who tb s
  | .tbServoReport who tb value => Sys2Proof.Machine.execTbServoReport who tb value s
  | .servoReportTimeout tb => Sys2Proof.Machine.execServoReportTimeout tb s
  | .refReport who ref value => Sys2Proof.Machine.execRefReport who ref value s
  | .refReportTimeout ref => Sys2Proof.Machine.execRefReportTimeout ref s
  | .holdoverQualEnd => Sys2Proof.Machine.execHoldoverQualEnd s
  | .ptpMessageRx port kind sub => Sys2Proof.Machine.execPtpMessageRx port kind sub s
  | .spanSyncSend => Sys2Proof.Machine.execSpanSyncSend s
  | .spanPdelay west delay => Sys2Proof.Machine.execSpanPdelay west delay s
  | .gridSyncEdge sub => Sys2Proof.Machine.execGridSyncEdge sub s
  | .gridEdgeMissing => Sys2Proof.Machine.execGridEdgeMissing s
  | .parapetPduRx span src pdu => Sys2Proof.Machine.execParapetPduRx span src pdu s
  | .parapetRelay tdst connId src pdu => Sys2Proof.Machine.execParapetRelay tdst connId src pdu s
  | .parapetWatchdog conn => Sys2Proof.Machine.execParapetWatchdog conn s
  | .ssiLaneMismatch mask => Sys2Proof.Machine.execSsiLaneMismatch mask s
  | .ssiReadbackFault ch => Sys2Proof.Machine.execSsiReadbackFault ch s
  | .ssiGateTest ch lane pass => Sys2Proof.Machine.execSsiGateTest ch lane pass s
  | .proofDue ch => Sys2Proof.Machine.execProofDue ch s
  | .ssiLastRead who => Sys2Proof.Machine.execSsiLastRead who s
  | .makerEnAssert heldUs => Sys2Proof.Machine.execMakerEnAssert heldUs s
  | .makerEnDeassert heldUs => Sys2Proof.Machine.execMakerEnDeassert heldUs s
  | .debugEnWrite sess value => Sys2Proof.Machine.execDebugEnWrite sess value s
  | .jtagInstruction ins => Sys2Proof.Machine.execJtagInstruction ins s
  | .keyProgram sess slot key identity => Sys2Proof.Machine.execKeyProgram sess slot key identity s
  | .keyRevoke sess slot key => Sys2Proof.Machine.execKeyRevoke sess slot key s
  | .imageWrite sess flash image => Sys2Proof.Machine.execImageWrite sess flash image s
  | .imageWriteDone flash pass => Sys2Proof.Machine.execImageWriteDone flash pass s
  | .auditSummaryMinute => Sys2Proof.Machine.execAuditSummaryMinute s
  | .ledgerProgramDone flash ok => Sys2Proof.Machine.execLedgerProgramDone flash ok s
  | .ledgerEraseDone flash ok => Sys2Proof.Machine.execLedgerEraseDone flash ok s
  | .ledgerSeal => Sys2Proof.Machine.execLedgerSeal s
  | .ledgerOpen scans sealOk => Sys2Proof.Machine.execLedgerOpen scans sealOk s
  | .ldgSeqRead who => Sys2Proof.Machine.execLdgSeqRead who s
  | .almanacReplan => Sys2Proof.Machine.execAlmanacReplan s
  | .replan sess value => Sys2Proof.Machine.execReplan sess value s
  | .shedLevelRise cause => Sys2Proof.Machine.execShedLevelRise cause s
  | .shedLevelFall => Sys2Proof.Machine.execShedLevelFall s
  | .bulkShedEnd => Sys2Proof.Machine.execBulkShedEnd s
  | .oscMeasure => Sys2Proof.Machine.execOscMeasure s
  | .baselineRefresh => Sys2Proof.Machine.execBaselineRefresh s
  | .almOverride sess item unit key => Sys2Proof.Machine.execAlmOverride sess item unit key s
  | .overrideExpiry => Sys2Proof.Machine.execOverrideExpiry s
  | .almCfgWrite sess second value => Sys2Proof.Machine.execAlmCfgWrite sess second value s
  | .refclkLost noEdgeNs => Sys2Proof.Machine.execRefclkLost noEdgeNs s
  | .pllLock => Sys2Proof.Machine.execPllLock s
  | .hrLockGained ch run => Sys2Proof.Machine.execHrLockGained ch run s
  | .lateStep ch => Sys2Proof.Machine.execLateStep ch s
  | .auditSummarySecond => Sys2Proof.Machine.execAuditSummarySecond s

end Sys2Proof.Machine
end

