-- ==== Sys2Proof/Machine/Tick.lean ====
section
/-! DEFINITION. One edge of the local oscillator: what step does on an empty queue (log 11). -/

namespace Sys2Proof.Machine

/-- Base b has passed a multiple of 1,000 ns since it read x (R361). -/
def State.tbPassed (s : State) (x : TimeBase) (b : Nat) : Bool :=
  let y := s.tb b
  x.sec != y.sec || x.ns / 1000 != y.ns / 1000

/-- The eight bases and the tally timers take the edge; the seconds of time base 2 count grid cycles (R284, R362,
R573). -/
def State.edge (s : State) : State :=
  let old := (List.range 8).map s.tb
  let s := (List.range 8).foldl State.tbEdge s
  let hits := (List.range 8).filter fun b => s.tbPassed (old.getD b {}) b
  let s := if (s.tb 2).sec ≠ (old.getD 2 {}).sec then s.gridBoundary else s.cycleWatch
  ((s.carriersDue).talEdgeAll fun b => hits.contains b).bulkAge

/-- An edge: the count always, the rest once the regions have left reset. -/
def State.tick (s : State) : State :=
  let s := { s with osc := s.osc + 1 }
  if s.startAt.isSome then s.edge else s

end Sys2Proof.Machine
end

