-- ==== Sys2Proof/Safety.lean ====
section
/-! DEFINITION. The terms that statements use: a well-kept state, a frame, a session that may write. -/

namespace Sys2Proof.Machine

/-- The register key k names a register, and the default of its entry. -/
def regDefault (v : Variant) (k : Nat) : Word :=
  let p := Nat.unpair k
  let q := Nat.unpair p.2
  BitVec.ofNat 32 (regReset v (RegName.ofNat p.1) q.1 q.2)

/-- The registers, event counters, shadows and the Granary are canonical: keys rise, and no entry equals what an
unlisted key reads. -/
def State.Canonical (s : State) : Prop :=
  sparseWf s.regs (regDefault s.variant) = true ∧ sparseWf s.cnts (fun _ => 0) = true ∧
    sparseWf s.shadows (fun _ => 0) = true ∧ Memory.wf s.mem = true

/-- The table of sessions rises by number and holds at most 256 of them, at most one open one is a maker's, and
MAKER_SESS shows whether one is (R543, R639, R659). -/
def State.OneMaker (s : State) : Prop :=
  keysRise s.sess = true ∧ (∀ e ∈ s.sess, e.1 < 256) ∧
    (s.openWith fun x => x.role == .maker).length ≤ 1 ∧
    s.bit F.TG_STATE_MAKER_SESS = !(s.openWith fun x => x.role == .maker).isEmpty

/-- From s to t only the registers of rs may change, and no byte of the Granary does. -/
def State.OnlyRegs (rs : List RegName) (s t : State) : Prop :=
  (∀ r i j, r ∉ rs → t.reg r i j = s.reg r i j) ∧ ∀ a, memByte t.mem a = memByte s.mem a

/-- From s to t only the registers of rs may change, and of the Granary only the ring of error records (R50). -/
def State.OnlyRecords (rs : List RegName) (s t : State) : Prop :=
  (∀ r i j, r ∉ rs → t.reg r i j = s.reg r i j) ∧
    ∀ a, a < 0x1003E00000 ∨ 0x1003E20000 ≤ a → memByte t.mem a = memByte s.mem a

/-- From s to t only the registers of rs may change, and of the Granary only the areas given by start and length. -/
def State.OnlyAt (rs : List RegName) (areas : List (Nat × Nat)) (s t : State) : Prop :=
  (∀ r i j, r ∉ rs → t.reg r i j = s.reg r i j) ∧
    ∀ a, (∀ e ∈ areas, a < e.1 ∨ e.1 + e.2 ≤ a) → memByte t.mem a = memByte s.mem a

/-- The context of cell k in the Granary, and its impedance table (R458, R470). -/
def ctxArea (k : Nat) : Nat × Nat := (ctxAddr k, 256)
def tableArea (k : Nat) : Nat × Nat := (tableAddr k 0, 2048)

/-- The registers that an entry of a channel to OPEN, TRIPPED, LOCKED or OPENING writes, and a stop of its link's
generator (R145, R171, R611). -/
def restRegs : List RegName :=
  [.INS_BUS, .INS_FLAGS, .INS_LAST, .INS_LIVE, .INS_STATE, .INS_TJ, .LDG_SEQ, .LDG_STATE, .PLK_STATE, .PROT_STATE,
    .SSI_PERMIT_A, .TRM_LIVE, .TRM_STATE]

/-- The registers that a trip or a lockout of a channel writes (R216 to R222). -/
def tripRegs : List RegName :=
  [.DSP_FLAGS, .DSP_REC_STAMP, .DSP_REC_STATE, .DSP_REC_TRIG, .PLK_FLAGS, .PROT_FLAGS, .PROT_LAST,
    .PROT_RETRY_STATE] ++ restRegs

/-- The registers that entry to Safe-state writes (R44 to R46). -/
def safeRegs : List RegName :=
  [.COM_FLAGS, .DSP_FLAGS, .DSP_REC_STAMP, .DSP_REC_STATE, .DSP_REC_TRIG, .INJ_STATE, .KEY_ERR_FLAGS, .KEY_ERR_SEQ,
    .KEY_FAB_STATE, .KEY_SAFE_CAUSE] ++ restRegs

/-- From s to t the write of value to register r was stored, brought into its ranges, acknowledged and
recorded once; beside it only the Ledger's own registers and those of rs may change. -/
def State.Stored (s : State) (r : RegName) (i j value : Nat) (rs : List RegName) (t : State) : Prop :=
  t.reg r i j = s.newWord r i j value ∧ t.resp = .ok (s.newWord r i j value) ∧
    t.ldg.buffer.length = s.ldg.buffer.length + 1 ∧ s.OnlyRegs ([r, .LDG_SEQ, .LDG_STATE] ++ rs) t

/-- Session k may write register r of unit i: open, with a role that LK names, not in Safe-state, a maker only with
MAKER_EN, the register's unit is not in restart, and the device is not in reset (R20, R21, R43, R47, R70, R637). -/
def State.MayWrite (s : State) (k : Nat) (r : RegName) (i : Nat) : Prop :=
  (s.session k).isOpen = true ∧ (s.session k).role ∈ regRoles r i ∧ s.safe = false ∧
    ((s.session k).role = .maker → s.bit F.TG_STATE_MAKER_EN = true) ∧ ((regInfo r).chan = true → s.present i = true) ∧
    s.regHeld r i = false ∧ s.sup.inReset = false

/-- Session k may store this value in register r: it may write the register, and where it is an installer the word lies
within the marks of the adjustable set (R642). -/
def State.MayStore (s : State) (k : Nat) (r : RegName) (i j value : Nat) : Prop :=
  s.MayWrite k r i ∧ ((s.session k).role = .installer →
    adjCheck s.charter.marks (regKey r i j) (s.reg r i j) (s.newWord r i j value) = 0)

end Sys2Proof.Machine
end

