-- ==== Sys2Proof/Certificates/Slice0/Obligations.lean ====
section
/-! DEFINITION. The statements, in the order of the spec's chapters. -/

open Sys2Proof Sys2Proof.Machine

/-- PACE_MEASURE, PACE_REPORT, CONT_WINDOW_END, CORRECTED_SUMMARY (R30, R31, R43, R49): the island's pace is kept;
PACE_NOW takes the pace of the slowest island; a window past its hour ends; one record for each tile that counted. -/
def Obligations.PaceAndSummaryCommandsKeepTheirCounts : Prop :=
  ∀ s : State,
  (∀ (region : Fin 8) (island : Fin 128) (pace : BitVec 16), s.sup.inReset = false → island.val < islandCount region →
    exec (.paceMeasure region island pace) s =
      .next { s with paces := sparseSet s.paces 0 (128 * region.val + island.val) (pace.toNat + 1) }) ∧
  (∀ r i p : Nat, s.sup.inReset = false → r < 8 → (s.regionPaces r).head? = some (i, p) →
    ∃ t, exec .paceReport s = .next t ∧ t.fld F.KEY_PACE_PACE_NOW r = p ∧
      t.fld F.KEY_PACE_PACE_MIN r = min p (s.fld F.KEY_PACE_PACE_MIN r) ∧
      s.OnlyRegs [.KEY_PACE, .KEY_PACE_FLAGS, .ALM_STATE, .ALM_FLAGS] t) ∧
  (∀ (site : Site) (w : Nat), (s.unit (siteUnit site)).windowAt = some w →
    w + 3600000000000 ≤ s.tbSec 3 * 1000000000 + s.tbNs 3 →
    exec (.contWindowEnd site) s =
      .next (s.setUnit (siteUnit site) { s.unit (siteUnit site) with windowAt := none, attempts := 0 })) ∧
  ∃ t, exec .correctedSummary s = .next t ∧
    t.reg .KEY_ERR_SEQ = (s.reg .KEY_ERR_SEQ + (s.tiles.filter fun e => e.2.sumCount != 0).length) % 2 ^ 32 ∧
    s.OnlyRecords [.KEY_ERR_SEQ, .KEY_ERR_FLAGS] t

/-- TILE_ERROR_DETECTED and HS_TIMEOUT (R40, R42, R43, R46, R51): a corrected error below the limit is counted; the
first Contained error of an hour writes a record and starts the unit's restart; a supervisor fault is Safe-state. -/
def Obligations.FirstErrorOfAUnitIsContained : Prop :=
  ∀ s : State, ∀ (site : Site) (d : Word), s.detects site = true →
  (∀ area, (s.correctedError site 1).2 = false →
    ∃ t, exec (.tileErrorDetected site .sramSbe area d) s = .next t ∧
      t = { s with tiles := t.tiles } ∧ (sparseGet t.tiles {} (siteTile site)).sumCount =
        (sparseGet s.tiles {} (siteTile site)).sumCount + 1) ∧
  (containIsSafe (siteKind site) = false → (s.unit (siteUnit site)).restarting = false →
    (s.unit (siteUnit site)).windowAt = none → 1 < s.fld F.KEY_ESC_CFG_CONT_LIMIT →
    (∀ area, ∃ t, exec (.tileErrorDetected site .arbWatchdog area d) s = .next t ∧
      (t.unit (siteUnit site)).restarting = true ∧ t.reg .KEY_ERR_SEQ = (s.reg .KEY_ERR_SEQ + 1) % 2 ^ 32 ∧
      t.bit F.KEY_ERR_FLAGS_CONTAINED = true) ∧
    ∃ t, exec (.hsTimeout site d) s = .next t ∧ (t.unit (siteUnit site)).restarting = true ∧
      t.reg .KEY_ERR_SEQ = (s.reg .KEY_ERR_SEQ + 1) % 2 ^ 32 ∧ t.bit F.KEY_ERR_FLAGS_CONTAINED = true) ∧
  (siteKind site = .keystone → site.block.val < 2 → s.safe = false →
    ∀ area, ∃ t, exec (.tileErrorDetected site .supervisorFault area d) s = .next t ∧
      t.fld F.KEY_FAB_STATE_STATE = 3 ∧ t.fld F.KEY_SAFE_CAUSE_CAUSE = 0x000B)

/-- RESTART_COMPLETE, RESTART_FAIL, PACE_FLOOR_EXPIRY, HEARTBEAT (R32, R43, R46, R48): a restart ends, or after its bound
retires the unit as Degraded, as an island slow for 100 µs does; a missed heartbeat is Safe-state. -/
def Obligations.RestartsEndOrRetireAndMissedHeartbeatsAreSafeState : Prop :=
  ∀ s : State,
  (∀ site : Site, (s.unit (siteUnit site)).restarting = true →
    (siteKind site = .conv → (s.convBlock site.block).cal = .none) →
    ∃ t, exec (.restartComplete site) s = .next t ∧
      t.units = sparseSet s.units {} (siteUnit site) { s.unit (siteUnit site) with restarting := false }) ∧
  (∀ site : Site, (s.unit (siteUnit site)).restarting = true → (s.unit (siteUnit site)).retired = false →
    s.elapsed (s.unit (siteUnit site)).startedAt (restartBound (siteKind site)) = true →
    s.retiredCount (siteKind site) + 1 ≤ s.retireLimit (siteKind site) →
    ∃ t, exec (.restartFail site) s = .next t ∧ (t.unit (siteUnit site)).retired = true ∧
      t.bit F.KEY_ERR_FLAGS_DEGRADED = true ∧ bitOf (t.fld F.KEY_FAB_STATE_DEGRADED) site.region = true) ∧
  (∀ (region : Fin 8) (since : Nat) (y : Site), 2 ≤ region.val → region.val ≤ 5 →
    (sparseGet s.lowPace ({} : LowPace) region).since = some since → s.elapsed since 100000 = true →
    s.slowestSite region = some y → (s.unit (siteUnit y)).retired = false →
    s.retiredCount (siteKind y) + 1 ≤ s.retireLimit (siteKind y) →
    ∃ t, exec (.paceFloorExpiry region) s = .next t ∧ (t.unit (siteUnit y)).retired = true ∧
      t.bit F.KEY_ERR_FLAGS_DEGRADED = true) ∧
  ∀ missed : Bool, s.sup.inReset = false → s.safe = false →
    ∃ t, exec (.heartbeat missed) s = .next t ∧ t.fld F.KEY_FAB_STATE_STATE = 3 ∧
      t.fld F.KEY_SAFE_CAUSE_CAUSE = 0x000B ∧ t.fld F.KEY_SAFE_CAUSE_REGION = 6 ∧ s.OnlyRecords safeRegs t

/-- KEY_RECOVER, SUP_RESET_CMD, RESET_N_LOW, RESET_N_RISE, POR_RESET (R59, R67 to R70, R83, R86): each reset is named in
SUP_RESET_CAUSE; a SUP_RESET_CMD opens every channel first, and SOFT comes only after the power-down's record; without
the key neither command does anything; RESET_N low ends FAULT. -/
def Obligations.EachResetNamesItsCause : Prop :=
  ∀ s : State,
  (∀ (sess : Fin 256) (v : Word), (s.session sess).isOpen = true → (s.session sess).role ∈ regRoles .KEY_RECOVER 0 →
    ((s.session sess).role = .maker → s.bit F.TG_STATE_MAKER_EN = true) → s.sup.inReset = false →
    (s.safe = true → s.fromP2 = false → v.toNat % 65536 = 0x5AFE → s.sup.refLost = false →
      ∃ t, exec (.keyRecover sess v) s = .next t ∧ t.fld F.SUP_RESET_CAUSE_LAST = 5 ∧
        bitOf (t.fld F.SUP_RESET_CAUSE_SEEN) 4 = true ∧ t.safe = false ∧ t.phase = 0 ∧
        t.sup.inReset = s.sup.resetNLow ∧ (s.sup.resetNLow = false → t.startAt = some s.now)) ∧
    (s.safe = false ∨ v.toNat % 65536 ≠ 0x5AFE →
      ∃ t, exec (.keyRecover sess v) s = .next t ∧ t.resp = .refused ∧ t.sup = s.sup ∧
        s.OnlyRegs [.TG_FLAGS, .LDG_SEQ, .LDG_STATE] t)) ∧
  (∀ (sess : Fin 256) (v : Word), s.MayWrite sess .SUP_RESET_CMD 0 →
    (v.toNat % 65536 = 0x5E7A → s.sup.pd = .none →
      ∃ t, exec (.supResetCmd sess v) s = .next t ∧ t.sup.softCmd = true ∧ t.sup.pd = .opened ∧
        (∀ n, s.present n = true → t.resting n = true) ∧ s.OnlyRegs (.PLK_FLAGS :: restRegs) t) ∧
    (v.toNat % 65536 ≠ 0x5E7A →
      ∃ t, exec (.supResetCmd sess v) s = .next t ∧ t.resp = .refused ∧ t.sup = s.sup ∧
        s.OnlyRegs [.TG_FLAGS, .LDG_SEQ, .LDG_STATE] t)) ∧
  (s.sup.pd = .opened → s.sup.softCmd = true → s.sup.refLost = false →
    ∃ t, exec .powerdownRecordDone s = .next t ∧ t.fld F.SUP_RESET_CAUSE_LAST = 6 ∧
      bitOf (t.fld F.SUP_RESET_CAUSE_SEEN) 5 = true ∧ t.phase = 0 ∧ t.sup.pd = .none ∧ t.sup.softCmd = false ∧
      t.sup.inReset = s.sup.resetNLow) ∧
  (∀ heldNs, s.fromP2 = false → s.sup.good = true → s.seq = seqOn → s.sup.releasing = .none → s.sup.inReset = false →
    1000 ≤ heldNs →
    ∃ t, exec (.resetNLow heldNs) s = .next t ∧ t.fld F.SUP_RESET_CAUSE_LAST = 2 ∧
      bitOf (t.fld F.SUP_RESET_CAUSE_SEEN) 1 = true ∧ t.sup.inReset = true ∧ t.phase = 0) ∧
  (∀ heldNs, s.seq = seqFault → s.sup.resetNLow = false →
    ∃ t, exec (.resetNLow heldNs) s = .next t ∧ t.seq = seqOff ∧ t.sup.attempts = 0 ∧ s.OnlyRegs [.SUP_STATE] t) ∧
  (s.fromP2 = false → s.sup.good = true → s.seq = seqOn → s.sup.releasing = .none → s.sup.inReset = true →
    s.sup.refLost = false →
    ∃ t, exec .resetNRise s = .next t ∧ t.sup.inReset = false ∧ t.sup.resetNLow = false ∧ t.startAt = some s.now ∧
      s.OnlyRegs [.SUP_STATE] t) ∧
  ∀ dmv, dmv < 30000 → ∃ t, exec (.porReset dmv) s = .next t ∧ t.fld F.SUP_RESET_CAUSE_LAST = 1 ∧
    t.fld F.SUP_RESET_CAUSE_SEEN = 1 ∧ t.sup = { resetNLow := s.sup.resetNLow } ∧ t.reg .TG_KEYS = s.reg .TG_KEYS

/-- FEED_ENHANCE, FEED_REVERSE_OFF, FEED_GOOD_EVAL, SUP_FEED_CFG_WRITE (R61, R62, R89): a forward drop turns a
feed's switch on, a reverse drop held for 1 µs turns it off with its flag; an evaluation shows feeds and rails. -/
def Obligations.FeedCommandsShowTheFeedsAndRails : Prop :=
  ∀ s : State,
  (s.sup.started = true → ∀ (feed : Fin 2) (d : Int), 20 < d →
    ∃ t, exec (.feedEnhance feed d) s = .next t ∧ s.OnlyRegs [.SUP_STATE] t ∧
      t.bit (if feed = 0 then F.SUP_STATE_FEEDA_ON else F.SUP_STATE_FEEDB_ON) = true) ∧
  (s.sup.started = true → ∀ (feed : Fin 2) (d : Int) (heldNs : Nat),
    s.bit (if feed = 0 then F.SUP_STATE_FEEDA_ON else F.SUP_STATE_FEEDB_ON) = true →
    d < -5 * (s.fld F.SUP_FEED_CFG_REV_THR : Int) → 1000 ≤ heldNs →
    ∃ t, exec (.feedReverseOff feed d heldNs) s = .next t ∧ s.OnlyRegs [.SUP_STATE, .SUP_FLAGS] t ∧
      t.bit (if feed = 0 then F.SUP_STATE_FEEDA_ON else F.SUP_STATE_FEEDB_ON) = false ∧
      t.bit (if feed = 0 then F.SUP_FLAGS_FEEDA_REV else F.SUP_FLAGS_FEEDB_REV) = true) ∧
  (s.sup.started = true → ∀ sample : SupplySample,
    ∃ t, exec (.feedGoodEval sample) s = .next t ∧
      t.bit F.SUP_STATE_FEEDA_GOOD = decide (100 * s.fld F.SUP_FEED_CFG_FEED_GOOD ≤ sample.feedA) ∧
      t.bit F.SUP_STATE_FEEDB_GOOD = decide (100 * s.fld F.SUP_FEED_CFG_FEED_GOOD ≤ sample.feedB) ∧
      (∀ i : Fin 6, bitOf (t.fld F.SUP_STATE_RAIL_GOOD) i = railIn i sample.rails[i]) ∧
      t.bit F.SUP_STATE_ALL_GOOD = (t.fld F.SUP_STATE_RAIL_GOOD == 0x3F) ∧
      s.OnlyRegs [.SUP_STATE, .SUP_FLAGS, .SUP_FEED_MON, .SUP_RAIL_MON] t) ∧
  ∀ (sess : Fin 256) (v : Word), s.MayStore sess .SUP_FEED_CFG 0 0 v.toNat →
    ∃ t, exec (.supFeedCfgWrite sess v) s = .next t ∧ s.Stored .SUP_FEED_CFG 0 0 v.toNat [] t ∧
      t.fld F.SUP_FEED_CFG_VCTL_WARN + 10 ≤ t.fld F.SUP_FEED_CFG_FEED_GOOD

/-- POR_RELEASE, EN_VIO_ASSERT, RAIL_ENABLE_NEXT, SUPPLIES_GOOD, SEQ_TIMEOUT, SEQ_RETRY_END, ENABLE_RELEASE_STEP
(R66, R67): each step of the sequencer enables the next rail, the last lets the regions out of reset; a rail late by
10 ms ends the attempt, the third in FAULT. -/
def Obligations.SequencerStepsInOrder : Prop :=
  ∀ s : State,
  (∀ dmv heldUs, s.sup.started = false → railIn 0 dmv = true → 1000 ≤ heldUs →
    ∃ t, exec (.porRelease dmv heldUs) s = .next t ∧ t.sup.started = true ∧
      bitOf (t.fld F.SUP_STATE_RAIL_GOOD) 0 = true ∧ s.OnlyRegs [.SUP_STATE, .SUP_RAIL_MON] t) ∧
  (∀ g, s.sup.started = true → s.seq = seqOff → s.sup.releasing = .none → s.sup.pd = .none →
    s.sup.vctlGoodAt = some g → g + 10000000 ≤ s.now →
    ∃ t, exec .enVioAssert s = .next t ∧ t.seq = seqRamp ∧ bitOf t.sup.enables 1 = true ∧ t.sup.warnHeld = false ∧
      t.sup.enabledAt = s.now ∧ s.OnlyRegs [.SUP_STATE] t) ∧
  (s.seq = seqRamp → s.sup.releasing = .none → 1 ≤ s.sup.lastRail → s.sup.lastRail < 5 → s.lastIn 200000 = true →
    ∃ t, exec .railEnableNext s = .next t ∧ t = { s with sup := t.sup } ∧ t.sup.enabledAt = s.now ∧
      t.sup.enables = bitPut s.sup.enables (s.sup.lastRail + 1) true) ∧
  (∀ dmv, s.seq = seqRamp → s.sup.releasing = .none → s.sup.enables = 0x3E → railIn 5 dmv = true →
    s.sup.resetNLow = false → s.sup.refLost = false →
    ∃ t, exec (.suppliesGood dmv) s = .next t ∧ t.seq = seqOn ∧ t.sup.good = true ∧ t.sup.inReset = false ∧
      t.startAt = some s.now ∧ s.OnlyRegs [.SUP_STATE, .SUP_RAIL_MON] t) ∧
  (s.seq = seqRamp → s.sup.releasing = .none → s.lastIn 0 = false → s.elapsed s.sup.enabledAt 10000000 = true →
    ∃ t, exec .seqTimeout s = .next t ∧ t.bit F.SUP_FLAGS_SEQ_TIMEOUT = true ∧
      t.sup.attempts = s.sup.attempts + 1 ∧ t.seq = (if s.sup.attempts < 2 then seqRetryWait else seqFault) ∧
      s.OnlyRegs [.SUP_STATE, .SUP_FLAGS] t) ∧
  (s.seq = seqRetryWait → s.sup.releasing = .none → s.elapsed s.sup.retryAt 1000000000 = true →
    ∃ t, exec .seqRetryEnd s = .next t ∧ t.seq = seqOff ∧ s.OnlyRegs [.SUP_STATE] t) ∧
  (s.sup.releasing ≠ .none → s.sup.enables ≠ 0 → s.elapsed s.sup.releasedAt 100000 = true →
    ∃ t, exec .enableReleaseStep s = .next t ∧ t.sup.enables = bitPut s.sup.enables s.sup.lastRail false ∧
      (t.sup.enables ≠ 0 → t = { s with sup := t.sup }))

/-- RAIL_TRIP, RAIL_RESTART, THERMAL_TRIP, THERMAL_RELEASE (R65, R67, R68): a rail or the junction out of its limits
resets the device with its cause, but in FAULT only flags; the restart waits 100 ms, or for 100 °C. -/
def Obligations.TripsResetAndRestart : Prop :=
  ∀ s : State,
  (∀ (rail : Fin 6) (dmv heldNs : Nat), s.sup.started = true → 2000 ≤ heldNs →
    dmv < (railTripLimits rail).1 ∨ (railTripLimits rail).2 < dmv → s.sup.railLive rail = true →
    ¬ (rail = 0 ∧ dmv < 30000) →
    (s.fromP2 = false → s.sup.releasing = .none → s.seq ≠ seqFault →
      ∃ t, exec (.railTrip rail dmv heldNs) s = .next t ∧ bitOf (t.fld F.SUP_FLAGS_RAIL_FAULT) rail = true ∧
        t.fld F.SUP_RESET_CAUSE_LAST = 3 ∧ t.seq = seqOff ∧ t.sup.inReset = true ∧ t.sup.releasing = .rail) ∧
    (s.seq = seqFault →
      ∃ t, exec (.railTrip rail dmv heldNs) s = .next t ∧ bitOf (t.fld F.SUP_FLAGS_RAIL_FAULT) rail = true ∧
        t.seq = seqFault ∧ s.OnlyRegs [.SUP_STATE, .SUP_FLAGS, .SUP_RAIL_MON] t)) ∧
  (s.sup.releasing = .rail ∨ s.sup.releasing = .supplyLoss → s.sup.enables = 0 →
    s.elapsed s.sup.restartAt 100000000 = true → s.sup.thermalSeen = false →
    ∃ t, exec .railRestart s = .next t ∧ t.seq = seqOff ∧ t.sup.releasing = .none ∧ s.OnlyRegs [.SUP_STATE] t) ∧
  (∀ (tj : Int) (heldUs : Nat), s.sup.started = true → 1200 ≤ tj → 1000 ≤ heldUs →
    (s.sup.releasing = .none → s.seq ≠ seqFault → s.fromP2 = false →
      ∃ t, exec (.thermalTrip tj heldUs) s = .next t ∧ t.bit F.SUP_FLAGS_THERMAL = true ∧
        t.fld F.SUP_RESET_CAUSE_LAST = 4 ∧ t.sup.inReset = true ∧ t.sup.releasing = .thermal) ∧
    (s.sup.releasing ≠ .thermal → s.seq = seqFault →
      ∃ t, exec (.thermalTrip tj heldUs) s = .next t ∧ t.bit F.SUP_FLAGS_THERMAL = true ∧ t.seq = seqFault ∧
        s.OnlyRegs [.SUP_FLAGS] t)) ∧
  ∀ tj : Int, tj ≤ 1000 → s.seq = seqThermalHold → s.sup.releasing = .thermal →
    ∃ t, exec (.thermalRelease tj) s = .next t ∧ t.seq = seqOff ∧ t.sup.releasing = .none ∧
      t.sup.thermalSeen = false ∧ s.OnlyRegs [.SUP_STATE] t

/-- VCTL_LOW, VCTL_RECOVERED, FAILWARN_LEAD_END, POWERDOWN_RECORD_DONE, REFCLK_LOST, PLL_LOCK (R63, R71, R83, R84, R700,
R701): the power-down warns, opens and records in that order, a recovery before it opens takes the warning back; a
lost reference clock is Safe-state. -/
def Obligations.PowerDownWarnsOpensAndRecords : Prop :=
  ∀ s : State,
  (∀ mv, s.sup.started = true → s.bit F.SUP_STATE_VCTL_LOW = false → mv < 100 * s.fld F.SUP_FEED_CFG_VCTL_WARN →
    s.bit F.SUP_STATE_FEEDA_GOOD = false → s.bit F.SUP_STATE_FEEDB_GOOD = false → s.sup.softCmd = false →
    s.sup.good = true → s.seq = seqOn → s.sup.pd = .none → 0 < s.lead →
    ∃ t, exec (.vctlLow mv) s = .next t ∧ t.bit F.SUP_STATE_VCTL_LOW = true ∧
      t.bit F.SUP_FLAGS_VCTL_WARN = true ∧ t.sup.pd = .warned ∧ t.sup.pdAt = s.now ∧
      (s.variant = .gk6432 → s.phase = 4 → t.bit F.SUP_STATE_FAILWARN = true) ∧
      s.OnlyRegs [.SUP_STATE, .SUP_FLAGS, .DSP_REC_STATE, .DSP_REC_TRIG, .DSP_REC_STAMP, .DSP_FLAGS] t) ∧
  (∀ mv heldUs, s.bit F.SUP_STATE_VCTL_LOW = true → 100 * s.fld F.SUP_FEED_CFG_VCTL_WARN + 1000 ≤ mv →
    100 ≤ heldUs → s.sup.pd = .warned →
    ∃ t, exec (.vctlRecovered mv heldUs) s = .next t ∧ t.bit F.SUP_STATE_VCTL_LOW = false ∧ t.sup.pd = .none ∧
      t.bit F.SUP_FLAGS_WARN_RECOVERED = true ∧ s.OnlyRegs [.SUP_STATE, .SUP_FLAGS] t) ∧
  (s.sup.pd = .warned → s.elapsed s.sup.pdAt (1000 * s.lead) = true →
    ∃ t, exec .failwarnLeadEnd s = .next t ∧ t.sup.pd = .opened ∧ t.sup.pdMark = s.now ∧
      (∀ n, s.present n = true → t.resting n = true) ∧ s.OnlyRegs (.PLK_FLAGS :: restRegs) t) ∧
  (s.sup.pd = .opened → s.sup.softCmd = false → s.sup.enables = 0x3E → s.sup.releasing = .none →
    ∃ t, exec .powerdownRecordDone s = .next t ∧ t.seq = seqPowerDown ∧ t.sup.pd = .recorded ∧
      t.sup.enables = 0x1E ∧ (s.sup.railLost = 0 → s.sup.inReset = false → s.ldg.opened = true →
        s.fld F.LDG_STATE_FLASH_OK ≠ 0 → t.sup.recordMade = true)) ∧
  (∀ ns, 2000 ≤ ns → s.sup.refLost = false → s.sup.inReset = false → s.sup.pd = .none → s.safe = false →
    ∃ t, exec (.refclkLost ns) s = .next t ∧ t.sup.refLost = true ∧ t.sup.pllLocked = false ∧ t.safe = true ∧
      t.fld F.KEY_SAFE_CAUSE_CAUSE = 0x0A00) ∧
  ∃ t, exec .pllLock s = .next t ∧ t = { s with sup := t.sup } ∧ t.sup.pllLocked = true ∧ t.sup.refLost = false

/-- CHARTER_HEADERS_READ, IMAGE_BODY_READ_DONE, ROLL_CALL_PASS_END (R74, R76 to R79, R82, R94): the flashes are started,
the higher generation is tried first, a signed body is applied in one step, a bad one gives way to the other image, no
good image is Safe Idle, roll call ends in RUN. -/
def Obligations.CharterLoadsTheHigherSignedGeneration : Prop :=
  ∀ s : State,
  (∀ ea eb, s.sup.inReset = false → s.phase = 0 → s.load = .idle →
    (s.headerResult s.imageA ea = 0 → s.headerResult s.imageB eb = 0 →
      ∃ t, exec (.charterHeadersRead ea eb) s = .next t ∧
        t = { s with load := t.load, outbox := t.outbox, xspi := t.xspi } ∧
        (∀ f : Fin 2, t.xspi[f].mode8d = s.xspi[f].can8d ∧ Msg.flash f .softwareReset ∈ t.outbox) ∧
        t.load = if s.imageB.generation ≤ s.imageA.generation then .bodyA false else .bodyB false) ∧
    (s.headerResult s.imageA ea = 0 → s.headerResult s.imageB eb ≠ 0 →
      ∃ t, exec (.charterHeadersRead ea eb) s = .next t ∧ t.load = .bodyA true ∧
        t.fld F.KEY_START_STATE_RESULT_B = s.headerResult s.imageB eb ∧
        s.OnlyRegs [.KEY_START_STATE, .KEY_START_FLAGS] t) ∧
    (s.headerResult s.imageA ea ≠ 0 → s.headerResult s.imageB eb ≠ 0 →
      ∃ t, exec (.charterHeadersRead ea eb) s = .next t ∧ t.phase = 5 ∧ t.bit F.KEY_START_FLAGS_SAFE_IDLE = true ∧
        t.fld F.KEY_START_STATE_RESULT_A = s.headerResult s.imageA ea ∧
        s.OnlyRegs [.KEY_START_STATE, .KEY_START_FLAGS, .KEY_START_MARK, .LDG_SEQ, .LDG_STATE] t)) ∧
  (∀ second k, s.load = .bodyA second → s.imageA.signer = some k → (s.imageA.keySlot, k) ∈ s.tg.fuseKeys →
    ∃ t, exec (.imageBodyReadDone false) s = .next t ∧ t.phase = 1 ∧ t.charter = s.imageA.body ∧
      t.reg .KEY_CHARTER_GEN = s.imageA.generation ∧ t.fld F.KEY_START_STATE_LOADED = 1) ∧
  (s.load = .bodyA false →
    ∃ t, exec (.imageBodyReadDone true) s = .next t ∧ t.load = .bodyB true ∧ t.fld F.KEY_START_STATE_RESULT_A = 7 ∧
      t.bit F.KEY_START_FLAGS_IMAGE_A_FAIL = true ∧
      s.OnlyAt [.KEY_START_STATE, .KEY_START_FLAGS] [(stageLo, stageHi - stageLo)] t) ∧
  (s.phase = 3 → s.allJudged = true →
    ∃ t, exec .rollCallPassEnd s = .next t ∧ t.phase = 4 ∧
      s.OnlyRegs [.KEY_START_STATE, .KEY_START_MARK, .INS_STATE, .PROT_STATE, .PLK_STATE, .SSI_PERMIT_A, .SUP_STATE] t) ∧
  (s.phase = 3 → s.allJudged = false → s.elapsed (s.startAt.getD s.now) 4000000000 = true →
    ∃ t, exec .rollCallPassEnd s = .next t ∧ t.phase = 4 ∧ t.bit F.KEY_START_FLAGS_ROLL_CALL_SHORT = true)

/-- BLOCK_LOCK_GAINED, BLOCK_LOCK_LOST, FRAME_SYNC_TIMEOUT, LOST_RESYNC, LINK_LOST (R101, R125, R126): the link's
states follow its lock; a loss on an admitted link opens the channel. -/
def Obligations.LinkStatesFollowTheLock : Prop :=
  ∀ s : State, ∀ ch : Fin 32, s.present ch = true →
  (s.lstate ch = lsBlock ∨ s.lstate ch = lsLost →
    ∃ t, exec (.blockLockGained ch) s = .next t ∧ t.lstate ch = lsFrame ∧ (t.lk ch).blockLock = true ∧
      (t.lk ch).stateAt = s.now ∧ s.OnlyRegs [.PLK_STATE, .SSI_PERMIT_A] t) ∧
  (s.lstate ch = lsAdmitted →
    ∃ t, exec (.blockLockLost ch) s = .next t ∧ t.lstate ch = lsLost ∧ t.bit F.PLK_FLAGS_BLOCK_ERR ch = true ∧
      t.bit F.PLK_FLAGS_LINK_LOST ch = true ∧ (t.lk ch).blockLock = false ∧ t.resting ch = true ∧
      s.OnlyRegs ([.PLK_FLAGS, .MEAS_FLAGS, .TRM_FLAGS] ++ restRegs) t) ∧
  (s.lstate ch = lsRefused → ∃ t, exec (.blockLockLost ch) s = .next t ∧ t.lstate ch = lsBlock ∧
    t.bit F.PLK_FLAGS_BLOCK_ERR ch = true ∧ s.OnlyRegs [.PLK_FLAGS, .PLK_STATE, .SSI_PERMIT_A] t) ∧
  (s.lstate ch = lsFrame → s.elapsed (s.lk ch).stateAt 100000000 = true →
    ∃ t, exec (.frameSyncTimeout ch) s = .next t ∧ t.lstate ch = (if (s.lk ch).blockLock then lsFrame else lsBlock) ∧
      (t.lk ch).stateAt = s.now ∧ s.OnlyRegs [.PLK_STATE, .SSI_PERMIT_A] t) ∧
  (s.lstate ch = lsLost → (s.lk ch).blockLock = true → s.elapsed (s.lk ch).stateAt 100000 = true →
    ∃ t, exec (.lostResync ch) s = .next t ∧ t.lstate ch = lsFrame ∧ (t.lk ch).goodRun = 0 ∧
      s.OnlyRegs [.PLK_STATE, .SSI_PERMIT_A] t) ∧
  (s.lstate ch = lsAdmitted ∨ (s.lstate ch = lsConfigure ∧ (s.lk ch).reconf = true) →
    s.fld F.PLK_CFG_LOSS_DEV ch ≤ (s.lk ch).badRun ∨ s.fld F.PLK_CFG_LOSS_DEV ch ≤ (s.lk ch).ackSame ∨
      (s.lk ch).blockLock = false →
    ∃ t, exec (.linkLost ch) s = .next t ∧ t.lstate ch = lsLost ∧ t.bit F.PLK_FLAGS_LINK_LOST ch = true ∧
      t.bit F.PLK_FLAGS_GAP ch = true ∧ t.bit F.MEAS_FLAGS_GAP ch = true ∧ t.resting ch = true ∧
      s.OnlyRegs ([.PLK_FLAGS, .MEAS_FLAGS, .TRM_FLAGS] ++ restRegs) t)

/-- FRAME_TICK, UPLINK_FRAME, URGENT_EVENT_RX (R102, R104, R112, R125, R130, R199): every enabled link sends the next
frame number; a good frame is acknowledged and shown, a bad one only counted; an urgent event sets URGENT_RCVD on any
link that is not DOWN, and an urgent DIDT event trips a gated channel. -/
def Obligations.FramesAreSentCountedAndShown : Prop :=
  ∀ s : State,
  (s.sup.inReset = false →
    ∃ t, exec .frameTick s = .next t ∧ t.frames = s.frames + 1 ∧
    (∀ n, s.present n = true → s.lstate n ≠ lsDown → (t.lk n).seqDown = ((s.lk n).seqDown + 1) % 256) ∧
    (∀ n, s.lstate n = lsDown → (t.lk n).seqDown = (s.lk n).seqDown) ∧
    s.OnlyRegs ([.COM_FLAGS, .DSP_FLAGS, .DSP_STR_BAL, .INJ_STATE, .SHR_FRAC, .TRM_LOOP, .TRM_VSET] ++ restRegs) t) ∧
  ∀ ch : Fin 32, s.present ch = true →
  (s.lstate ch ≠ lsDown → s.lstate ch ≠ lsBlock →
    (∃ t, exec (.uplinkFrame ch none) s = .next t ∧ t.bit F.PLK_FLAGS_FRAME_BAD ch = true ∧
      (t.lk ch).badRun = (s.lk ch).badRun + 1 ∧ (t.lk ch).ackUp = (s.lk ch).ackUp) ∧
    ∀ f : UplinkFrame, frameGood f = true → s.bit F.INJ_STATE_ACTIVE = false → s.inj.heldRx = none →
      ∃ t, exec (.uplinkFrame ch (some f)) s = .next t ∧ (t.lk ch).ackUp = f.seq.toNat ∧ (t.lk ch).badRun = 0 ∧
        t.reg .PLK_MODSTAT ch = f.status.toNat + 2 ^ 16 * f.desat.toNat) ∧
  (s.lstate ch ≠ lsDown → ∀ didt,
    ∃ t, exec (.urgentEventRx ch didt) s = .next t ∧ t.bit F.PLK_FLAGS_URGENT_RCVD ch = true ∧
      s.OnlyRegs tripRegs t) ∧
  (s.lstate ch = lsAdmitted → s.gated ch = true →
    ∃ t, exec (.urgentEventRx ch true) s = .next t ∧ csTripped ≤ t.cstate ch ∧
      t.bit F.PROT_FLAGS_DIDT ch = true ∧ bitsGet (t.reg .PROT_LAST ch 0) 0 8 ∈ [0x02, 0x11])

/-- MBX_REPLY, MBX_REPLY_TIMEOUT (R114, R117, R126, R127): IDENT is followed by CAL, PARAM read back as written
admits, another PARAM refuses with code 5, a third repeat unanswered with code 6; without block lock the refused
link goes on to BLOCK_SYNC (the model's reading of R126). -/
def Obligations.MailboxRepliesAdmitOrRefuse : Prop :=
  ∀ s : State, ∀ ch : Fin 32, s.present ch = true →
  ((s.lk ch).rxDone = true →
    (s.lstate ch = lsIdentify → (s.lk ch).rxOp = 3 → (s.lk ch).rxObj = 1 →
      ∃ t, exec (.mbxReply ch) s = .next t ∧ (t.lk ch).ident = (s.lk ch).rx.take 64 ∧ (t.lk ch).mbxOp = 1 ∧
        (t.lk ch).mbxObj = 2 ∧ t.regs = s.regs) ∧
    (s.lstate ch = lsConfigure → (s.lk ch).rxOp = 3 →
      ((s.lk ch).rx.take 32 = (s.lk ch).paramSent →
        ∃ t, exec (.mbxReply ch) s = .next t ∧ t.lstate ch = lsAdmitted) ∧
      ((s.lk ch).rx.take 32 ≠ (s.lk ch).paramSent →
        ∃ t, exec (.mbxReply ch) s = .next t ∧ t.fld F.PLK_STATE_REFUSE ch = 5 ∧
          t.lstate ch = (if (s.lk ch).blockLock then lsRefused else lsBlock) ∧
          t.bit F.PLK_FLAGS_REFUSED ch = true ∧ s.OnlyRegs [.PLK_STATE, .PLK_FLAGS, .SSI_PERMIT_A] t))) ∧
  ((s.lk ch).mbxOp ≠ 0 → (s.lk ch).rxDone = false → (s.lk ch).mbxFrags ≤ (s.lk ch).mbxFrag →
    s.elapsed (s.lk ch).mbxAt 1000000 = true →
    ((s.lk ch).mbxTries < 3 →
      ∃ t, exec (.mbxReplyTimeout ch) s = .next t ∧ (t.lk ch).mbxTries = (s.lk ch).mbxTries + 1 ∧
        (t.lk ch).mbxFrag = 0 ∧ (t.lk ch).mbxAt = s.now ∧ t.regs = s.regs) ∧
    (3 ≤ (s.lk ch).mbxTries → s.lstate ch = lsIdentify ∨ s.lstate ch = lsConfigure →
      ∃ t, exec (.mbxReplyTimeout ch) s = .next t ∧ t.fld F.PLK_STATE_REFUSE ch = 6 ∧
        t.lstate ch = (if (s.lk ch).blockLock then lsRefused else lsBlock) ∧
        t.bit F.PLK_FLAGS_MBX_TIMEOUT ch = true ∧ s.OnlyRegs [.PLK_STATE, .PLK_FLAGS, .SSI_PERMIT_A] t))

/-- PLK_CFG_WRITE, PLK_PARAM_WRITE, PLK_PARAM2_WRITE (R118, R126, R131, R134, R135): LINK_EN clears only on a resting
channel, and set starts a link that is DOWN or REFUSED; the parameters of PARAM change only in OPEN, RANGE_UP stays
10.0 A above RANGE_DOWN, and a change sends an admitted link to CONFIGURE with the new PARAM. -/
def Obligations.PierLinkWritesKeepTheirConditions : Prop :=
  ∀ s : State, ∀ (sess : Fin 256) (ch : Fin 32) (v : Word),
  (s.MayStore sess .PLK_CFG ch 0 v.toNat → s.resting ch = true ∨ bitOf v.toNat 0 = true →
    ∃ t, exec (.plkCfgWrite sess ch v) s = .next t ∧
      s.Stored .PLK_CFG ch 0 v.toNat [.PLK_STATE, .SSI_PERMIT_A] t ∧
      (bitOf v.toNat 0 = false → t.lstate ch = lsDown) ∧
      (bitOf v.toNat 0 = true → s.lstate ch = lsDown ∨ s.lstate ch = lsRefused → s.phase = 3 ∨ s.phase = 4 →
        t.lstate ch = (if (s.lk ch).blockLock then lsFrame else lsBlock))) ∧
  (s.MayWrite sess .PLK_CFG ch → s.resting ch = false → s.bit F.PLK_CFG_LINK_EN ch = true → bitOf v.toNat 0 = false →
    ∃ t, exec (.plkCfgWrite sess ch v) s = .next t ∧ t.resp = .refused ∧ t.bit F.TG_FLAGS_WRITE_REFUSED = true ∧
      s.OnlyRegs [.TG_FLAGS, .LDG_SEQ, .LDG_STATE] t) ∧
  (∀ w, w = s.newWord .PLK_PARAM ch 0 v.toNat →
    (s.MayStore sess .PLK_PARAM ch 0 v.toNat → s.cstate ch = csOpen → bitsGet w 16 16 + 100 ≤ bitsGet w 0 16 →
      ∃ t, exec (.plkParamWrite sess ch v) s = .next t ∧
        s.Stored .PLK_PARAM ch 0 v.toNat [.PLK_STATE, .SSI_PERMIT_A] t ∧
        (s.lstate ch = lsAdmitted → t.lstate ch = lsConfigure ∧ (t.lk ch).paramSent = t.paramBytes ch)) ∧
    (s.MayWrite sess .PLK_PARAM ch → s.cstate ch ≠ csOpen ∨ bitsGet w 0 16 < bitsGet w 16 16 + 100 →
      ∃ t, exec (.plkParamWrite sess ch v) s = .next t ∧ t.resp = .refused ∧
        s.OnlyRegs [.TG_FLAGS, .LDG_SEQ, .LDG_STATE] t)) ∧
  (s.MayStore sess .PLK_PARAM2 ch 0 v.toNat → s.cstate ch = csOpen →
    ∃ t, exec (.plkParam2Write sess ch v) s = .next t ∧
      s.Stored .PLK_PARAM2 ch 0 v.toNat [.PLK_STATE, .SSI_PERMIT_A] t ∧
      (s.lstate ch = lsAdmitted → t.lstate ch = lsConfigure ∧
        (t.lk ch).paramGen = (s.lk ch).paramGen + 1 ∧ (t.lk ch).paramSent = t.paramBytes ch)) ∧
  (s.MayWrite sess .PLK_PARAM2 ch → s.cstate ch ≠ csOpen →
    ∃ t, exec (.plkParam2Write sess ch v) s = .next t ∧ t.resp = .refused ∧
      s.OnlyRegs [.TG_FLAGS, .LDG_SEQ, .LDG_STATE] t)

/-- INSERT, OPEN, TOKEN_GRANT, QUEUE_TIMEOUT, INS_BUS_WRITE (R139 to R142, R144, R191): an insertion is queued from OPEN
only, the free token goes to the head of the queue, an OPEN opens from WAIT to READY and from TRIPPED and changes no
other state, a wait of QUEUE_MAX without the token ends in OPEN. -/
def Obligations.RequestsQueueAndOpen : Prop :=
  ∀ s : State,
  (∀ (sess : Fin 256) (ch : Fin 32) (v : Word), s.MayWrite sess .INS_CMD ch →
    (s.cstate ch = csOpen →
      ∃ t, exec (.insert sess ch v false) s = .next t ∧ t.cstate ch = csWait ∧ ch.val ∈ t.waitQ ∧
        (t.ins ch).reqTag = bitsGet v.toNat 16 16 ∧ (t.ins ch).waitAt = s.now ∧
        s.OnlyRegs ([.COM_FLAGS, .INJ_STATE] ++ restRegs) t) ∧
    (∀ w, w = true ∨ s.cstate ch ≠ csOpen →
      ∃ t, exec (.insert sess ch v w) s = .next t ∧ t.resp = .refused ∧ t.bit F.TG_FLAGS_WRITE_REFUSED = true ∧
        s.OnlyRegs (.TG_FLAGS :: restRegs) t) ∧
    (csWait ≤ s.cstate ch → s.cstate ch ≤ csReady →
      ∃ t, exec (.openCmd sess ch v) s = .next t ∧
        t.cstate ch = (if s.cstate ch ≤ csSense ∨ s.allOff ch = true then csOpen else csOpening) ∧
        s.OnlyRegs restRegs t) ∧
    (s.cstate ch = csTripped → (s.ins ch).stateAt ≠ s.now →
      ∃ t, exec (.openCmd sess ch v) s = .next t ∧ t.cstate ch = csOpen ∧ (t.lk ch).clrTrip = true ∧
        s.OnlyRegs restRegs t) ∧
    (s.cstate ch ∈ [csOpen, csOpening, csLocked] →
      ∃ t, exec (.openCmd sess ch v) s = .next t ∧ t.cstate ch = s.cstate ch ∧ s.OnlyRegs restRegs t)) ∧
  (∀ (n : Nat) (rest : List Nat), s.token = none → s.waitQ = n :: rest → s.bus.cause = none →
    ∃ t, exec .tokenGrant s = .next t ∧ t.token = some n ∧ t.cstate n = csCheck ∧ (t.ins n).checkAt = s.now ∧
      t.bit F.INS_STATE_TOKEN n = true ∧ s.OnlyRegs restRegs t) ∧
  (∀ ch : Fin 32, s.cstate ch = csWait → s.grantDue ≠ some ch.val →
    s.elapsed (s.ins ch).waitAt (100000000 * s.fld F.INS_QCFG_QUEUE_MAX) = true →
    ∃ t, exec (.queueTimeout ch) s = .next t ∧ t.cstate ch = csOpen ∧ t.fld F.INS_STATE_CAUSE ch = 0x09 ∧
      t.bit F.INS_FLAGS_QUEUE_TIMEOUT ch = true ∧ s.OnlyRegs restRegs t) ∧
  ∀ (sess : Fin 256) (v : Word), s.MayStore sess .INS_BUS 0 0 v.toNat →
    ∃ t, exec (.insBusWrite sess v) s = .next t ∧ t.bit F.INS_BUS_PCS_HOLD = bitOf v.toNat 0 ∧
      s.OnlyRegs restRegs t

/-- CHECK_EVAL, SENSE_END, INRUSH_TIMEOUT, ALIGN_TIMEOUT, GATE_RISE_TIMEOUT (R144, R146 to R151): an expired inrush timer
opens before anything else; the first failing check refuses with its cause, a match within VMATCH closes, a held bus out
of trim range refuses, each timer opens. -/
def Obligations.ChecksSenseAndTimersMoveTheChannel : Prop :=
  ∀ s : State, ∀ ch : Fin 32,
  (s.inrushExpired ch = true →
    ∃ t, exec (.inrushTimeout ch) s = .next t ∧ t.cstate ch = (if s.allOff ch then csOpen else csOpening) ∧
      t.bit F.INS_FLAGS_INRUSH_TIMEOUT ch = true ∧ s.OnlyRegs restRegs t) ∧
  (s.inrushExpired ch = false →
    (s.cstate ch = csCheck →
      (s.checkVerdict ch ≠ 0 →
        ∃ t, exec (.checkEval ch) s = .next t ∧ t.cstate ch = csOpen ∧
          t.fld F.INS_STATE_CAUSE ch = s.checkVerdict ch ∧ t.bit F.INS_FLAGS_REFUSED ch = true ∧ s.OnlyRegs restRegs t) ∧
      (s.checkVerdict ch = 0 → s.bit F.PLK_STATE_TRIM_PRESENT ch = false ∨ absQ (s.trim ch).vModel ≤ 1 / 10 →
        ∃ t, exec (.checkEval ch) s = .next t ∧ t.cstate ch = csSense ∧ (t.ins ch).stateAt = s.now ∧
          s.OnlyRegs restRegs t)) ∧
    (s.cstate ch = csSense → s.elapsed (s.ins ch).stateAt (100000 * s.fld F.INS_CFG_TSENSE ch) = true →
      ∀ v : Rat, (s.ins ch).senseN ≠ 0 → v = ((s.ins ch).senseV3 - (s.ins ch).senseV2) / ((s.ins ch).senseN : Rat) →
      (absQ v ≤ amps (s.fld F.INS_CFG_VMATCH ch) → s.coolGroups ch (s.tjRot ch) ≠ [] →
        ∃ t, exec (.senseEnd ch) s = .next t ∧ t.cstate ch = csRamp ∧ t.fld F.INS_STATE_PATH ch = 1 ∧
          s.OnlyRegs (.INS_VDIFF :: restRegs) t) ∧
      (amps (s.fld F.INS_CFG_VMATCH ch) < absQ v → s.busHeld ch = true → s.vtrimLim ch < absQ v →
        ∃ t, exec (.senseEnd ch) s = .next t ∧ t.cstate ch = csOpen ∧ t.bit F.INS_FLAGS_DV_REFUSED ch = true ∧
          t.fld F.INS_STATE_CAUSE ch = 0x0A ∧ s.OnlyRegs ([.INS_VDIFF, .DSP_FLAGS] ++ restRegs) t)) ∧
    (s.cstate ch = csAlign → s.elapsed (s.ins ch).stateAt 100000000 = true →
      ∃ t, exec (.alignTimeout ch) s = .next t ∧ t.cstate ch = (if s.allOff ch then csOpen else csOpening) ∧
        t.bit F.INS_FLAGS_ALIGN_TIMEOUT ch = true ∧ t.bit F.INS_FLAGS_ABORTED ch = true ∧ s.OnlyRegs restRegs t) ∧
    (s.cstate ch = csEnhance → s.elapsed (s.ins ch).stateAt 100000 = true →
      ∃ t, exec (.gateRiseTimeout ch) s = .next t ∧ t.cstate ch = (if s.allOff ch then csOpen else csOpening) ∧
        t.bit F.INS_FLAGS_ABORTED ch = true ∧ s.OnlyRegs restRegs t))

/-- TRIM_TARGET_UPDATE, VSW10_UPDATE, CONFIRM_DONE, THERMAL_MODEL_UPDATE, ROTATION_SLOT, ROTATION_OUTGOING_OFF
(R149, R156, R162, R165, R169, R170): means are taken and restarted, 1 ms in band closes, a confirmed channel is
READY, the thermal model steps, a slot takes the coolest groups. -/
def Obligations.InsertionLoopsStep : Prop :=
  ∀ s : State, ∀ ch : Fin 32,
  (s.cstate ch = csAlign → (s.ins ch).n1ms ≠ 0 →
    ∃ t, exec (.trimTargetUpdate ch) s = .next t ∧ t.regs = s.regs ∧ (t.ins ch).n1ms = 0 ∧ (t.ins ch).sum1ms = 0 ∧
      (t.trim ch).vTgt = code5mV (clampQ (-(s.vtrimLim ch)) (s.vtrimLim ch)
        ((s.ins ch).sum1ms / ((s.ins ch).n1ms : Rat)))) ∧
  (∀ v : Rat, s.present ch = true → (s.ins ch).n10 ≠ 0 → v = (s.ins ch).sum10 / ((s.ins ch).n10 : Rat) →
    (∃ t, exec (.vsw10Update ch) s = .next t ∧ (t.ins ch).vsw10 = v ∧ (t.ins ch).n10 = 0 ∧ (t.ins ch).sum10 = 0 ∧
      s.OnlyRegs (.INS_VDIFF :: tripRegs) t) ∧
    (s.cstate ch = csAlign → absQ v ≤ amps (s.fld F.INS_TRIM_VALIGN ch) → 99 ≤ (s.ins ch).alignCnt →
      s.inrushExpired ch = false → s.busHeld ch = (s.ins ch).heldAtSense →
      ∃ t, exec (.vsw10Update ch) s = .next t ∧ t.cstate ch = csRamp ∧ t.fld F.INS_STATE_PATH ch = 2)) ∧
  (∀ g, s.cstate ch = csConfirm → s.inrushExpired ch = false → s.bit F.PROT_STATE_IN_LIMIT ch = false →
    (s.ins ch).confirmAt = some g →
    s.elapsed g (100000 * s.fld F.INS_CFG_TCONFIRM ch) = true →
    ∃ t, exec (.confirmDone ch) s = .next t ∧ t.cstate ch = csReady ∧ t.bit F.INS_STATE_STR_READY ch = true ∧
      t.bit F.INS_FLAGS_READY_REACHED ch = true ∧ (t.prot ch).readyAt = s.now ∧
      s.OnlyRegs ([.DSP_FLAGS, .DSP_STR_BAL, .HR_FLAGS, .SHR_FRAC, .TRM_VSET] ++ restRegs) t) ∧
  (s.present ch = true → (s.lk ch).admittedOnce = true →
    ∃ t, exec (.thermalModelUpdate ch) s = .next t ∧ (t.ins ch).tBase = s.baseTemp ch ∧
      (t.ins ch).dt1 = s.poleStep ch 0 (s.ins ch).dt1 ∧ (t.ins ch).dt2 = s.poleStep ch 1 (s.ins ch).dt2 ∧
      s.OnlyRegs tripRegs t) ∧
  (s.cstate ch = csLimit → (s.ins ch).paused = false → s.busHeld ch = (s.ins ch).heldAtSense →
    s.elapsed (s.ins ch).slotAt (100000 * s.fld F.INS_TIMING_TSLOT ch) = true →
    ∃ t, exec (.rotationSlot ch) s = .next t ∧ (t.ins ch).slotAt = s.now ∧
      (t.ins ch).rotSet = maskOf ((s.coolGroups ch (s.tjRot ch)).take (s.fld F.INS_ROT_ROT_WIDTH ch)) ∧
      ((s.coolGroups ch (s.tjRot ch)).take (s.fld F.INS_ROT_ROT_WIDTH ch) = [] →
        t.bit F.INS_FLAGS_THERMAL_PAUSE ch = true) ∧ s.OnlyRegs restRegs t) ∧
  (s.cstate ch = csLimit → (s.ins ch).outgoing ≠ 0 → s.elapsed (s.ins ch).slotAt 10000 = true →
    ∃ t, exec (.rotationOutgoingOff ch) s = .next t ∧ (t.ins ch).outgoing = 0 ∧
      (t.ins ch).linMask = (s.ins ch).rotSet ∧ s.OnlyRegs [.INS_STATE] t)

/-- INS_CFG_WRITE, INS_THERM_WRITE, INS_GRAMP_WRITE (R177, R181, R184): stored when VMATCH stays at or above VFWD,
when the thermal limits keep their order, when VGS_END stays above VGS_START, and refused otherwise. -/
def Obligations.InsertionWritesKeepTheirOrder : Prop :=
  ∀ s : State, ∀ (sess : Fin 256) (ch : Fin 32) (v : Word),
  (∀ w, w = s.newWord .INS_CFG ch 0 v.toNat →
    (s.MayStore sess .INS_CFG ch 0 v.toNat → s.fld F.PROT_REV_VFWD ch ≤ bitsGet w 0 8 →
      ∃ t, exec (.insCfgWrite sess ch v) s = .next t ∧ s.Stored .INS_CFG ch 0 v.toNat [] t) ∧
    (s.MayWrite sess .INS_CFG ch → bitsGet w 0 8 < s.fld F.PROT_REV_VFWD ch →
      ∃ t, exec (.insCfgWrite sess ch v) s = .next t ∧ t.resp = .refused ∧
        s.OnlyRegs [.TG_FLAGS, .LDG_SEQ, .LDG_STATE] t)) ∧
  (∀ w, w = s.newWord .INS_THERM ch 0 v.toNat →
    (s.MayStore sess .INS_THERM ch 0 v.toNat →
      bitsGet w 24 8 ≤ bitsGet w 16 8 → bitsGet w 16 8 ≤ bitsGet w 8 8 → bitsGet w 8 8 + 5 ≤ bitsGet w 0 8 →
      ∃ t, exec (.insThermWrite sess ch v) s = .next t ∧ s.Stored .INS_THERM ch 0 v.toNat [] t) ∧
    (s.MayWrite sess .INS_THERM ch →
      bitsGet w 16 8 < bitsGet w 24 8 ∨ bitsGet w 8 8 < bitsGet w 16 8 ∨ bitsGet w 0 8 < bitsGet w 8 8 + 5 →
      ∃ t, exec (.insThermWrite sess ch v) s = .next t ∧ t.resp = .refused ∧
        s.OnlyRegs [.TG_FLAGS, .LDG_SEQ, .LDG_STATE] t)) ∧
  (∀ w, w = s.newWord .INS_GRAMP ch 0 v.toNat →
    (s.MayStore sess .INS_GRAMP ch 0 v.toNat → bitsGet w 0 12 < bitsGet w 16 12 →
      ∃ t, exec (.insGrampWrite sess ch v) s = .next t ∧ s.Stored .INS_GRAMP ch 0 v.toNat [] t) ∧
    (s.MayWrite sess .INS_GRAMP ch → bitsGet w 16 12 ≤ bitsGet w 0 12 →
      ∃ t, exec (.insGrampWrite sess ch v) s = .next t ∧ t.resp = .refused ∧
        s.OnlyRegs [.TG_FLAGS, .LDG_SEQ, .LDG_STATE] t))

/-- FAST_PATH_UPDATE, ILIM_EXIT, ILIM_TIMEOUT, FLT_TIMER_RESET, SLOW_ACC_UPDATE, SHUNT_COMPARE (R203 to R205, R212,
R213, R229, R292): the fault timer trips and restarts, the slow accumulator integrates, shunts that disagree trip. -/
def Obligations.LimitTimersAndAccumulatorsStep : Prop :=
  ∀ s : State, ∀ ch : Fin 32,
  (s.present ch = true → s.counting ch = true →
    ∃ t, exec (.fastPathUpdate ch) s = .next t ∧ (t.strm ch).updates = (s.strm ch).updates + 1 ∧
      (20 ≤ (s.strm ch).newPk → (t.strm ch).newPk = 0 ∧ (t.strm ch).broken = false) ∧
      s.OnlyRegs ([.MEAS_FAST, .MEAS_FLAGS, .TRM_FLAGS] ++ tripRegs) t) ∧
  (∀ g, s.bit F.PROT_STATE_IN_LIMIT ch = true → (s.prot ch).exiting = false → (s.prot ch).exitAt = some g →
    s.elapsed g 20000 = true →
    ∃ t, exec (.ilimExit ch) s = .next t ∧ (t.prot ch).exiting = true ∧ (t.ins ch).onMask = s.healthy ch ∧
      (t.ins ch).linMask = 0 ∧ (t.ins ch).rampOn = 0 ∧ s.OnlyRegs [.INS_STATE] t) ∧
  (s.bit F.PROT_STATE_IN_LIMIT ch = true → 1000 * s.fld F.PROT_TFLT_T_FLT ch ≤ s.faultTimer ch →
    s.resting ch = false →
    ∃ t, exec (.ilimTimeout ch) s = .next t ∧ csTripped ≤ t.cstate ch ∧ t.bit F.PROT_FLAGS_ILIM_TIMEOUT ch = true ∧
      (t.prot ch).retryUsed = (s.prot ch).retryUsed + 1 ∧ t.bit F.PROT_STATE_IN_LIMIT ch = false ∧
      s.OnlyRegs tripRegs t) ∧
  (∀ g, s.bit F.PROT_STATE_IN_LIMIT ch = false → (s.prot ch).outAt = some g → s.elapsed g 10000000 = true →
    ∃ t, exec (.fltTimerReset ch) s = .next t ∧ (t.prot ch).fltNs = 0 ∧ t = { s with prots := t.prots }) ∧
  (∀ i a : Rat, s.present ch = true → (s.lk ch).admittedOnce = true →
    i = (if s.counting ch = true ∧ (s.prot ch).slowN ≠ 0 then (s.prot ch).slowSum / ((s.prot ch).slowN : Rat) else 0) →
    a = maxQ 0 ((s.prot ch).slowA + (i * i - amps (s.fld F.PROT_SLOWACC_ITRIP_SLOW_EFF ch) *
      amps (s.fld F.PROT_SLOWACC_ITRIP_SLOW_EFF ch)) / 10000) →
    ∃ t, exec (.slowAccUpdate ch) s = .next t ∧ (t.prot ch).slowA = a ∧ (t.prot ch).slowN = 0 ∧
      (s.gated ch = true → s.kEff ch ≤ a → csTripped ≤ t.cstate ch ∧ t.bit F.PROT_FLAGS_SLOW ch = true) ∧
      s.OnlyRegs (.PROT_SLOWACC :: tripRegs) t) ∧
  (∀ i0 i1 m : Rat, s.present ch = true → s.counting ch = true → s.hasCheck ch = true → (s.prot ch).sumN ≠ 0 →
    i0 = (s.prot ch).sum0 / ((s.prot ch).sumN : Rat) → i1 = (s.prot ch).sum1 / ((s.prot ch).sumN : Rat) →
    m = maxQ (absQ i0) (absQ i1) →
    ∃ t, exec (.shuntCompare ch) s = .next t ∧ (t.prot ch).sumN = 0 ∧
      (t.prot ch).drift = (if maxQ (m / 100) 2 < absQ (i0 - i1) then (s.prot ch).drift + 1 else 0) ∧
      (maxQ (m / 10) 20 < absQ (i0 - i1) → s.gated ch = true → 9 ≤ (s.prot ch).disagree →
        csTripped ≤ t.cstate ch ∧ t.bit F.PROT_FLAGS_SHUNT_DISAGREE ch = true) ∧
      s.OnlyRegs tripRegs t)

/-- VBUS_MED_UPDATE, BUS_FAILURE_QUALIFIED, BUS_LEAD_END, BUS_FAILWARN_RELEASE (R214, R215): a failure qualifies
after BUS_T steps, warns, opens every channel from TRIM_ALIGN to READY after the lead, and ends 1 ms after all is off. -/
def Obligations.BusFailureWarnsThenOpens : Prop :=
  ∀ s : State,
  (∀ vs m, vs = ((s.chans.filter fun n => s.lstate n == lsAdmitted).map fun n => (s.strm n).fast[3]) → vs ≠ [] →
    m = medianQ vs → s.bus.cause = none →
    ∃ t, exec .vbusMedUpdate s = .next t ∧
      t.bit F.PROT_BUS_STATE_ARMED = (s.bit F.PROT_BUS_CFG_BUS_EN && s.chans.any fun n => s.holdsBus n) ∧
      t.bus.uvCnt = bandCount (t.bit F.PROT_BUS_STATE_ARMED && decide (m < (s.fld F.PROT_BUS_CFG_BUS_UV : Rat)))
        s.bus.uvCnt ∧
      t.bus.ovCnt = bandCount (t.bit F.PROT_BUS_STATE_ARMED && decide ((s.fld F.PROT_BUS_CFG_BUS_OV : Rat) < m))
        s.bus.ovCnt ∧ s.OnlyRegs (.PROT_BUS_STATE :: restRegs) t) ∧
  (s.bus.cause = none → s.fld F.PROT_BUS_CFG_BUS_T ≤ s.bus.uvCnt → s.bit F.PROT_BUS_STATE_UV_ACTIVE = false →
    0 < s.lead →
    ∃ t, exec .busFailureQualified s = .next t ∧ t.bus.cause = some 0x0A ∧ t.bus.leadAt = s.now ∧
      t.bit F.PROT_BUS_FLAGS_BUS_UV = true ∧ t.bit F.PROT_BUS_STATE_UV_ACTIVE = true ∧
      t.bit F.PROT_BUS_STATE_WARN = true ∧ (s.phase = 4 → t.bit F.SUP_STATE_FAILWARN = true) ∧
      s.OnlyRegs ([.PROT_BUS_FLAGS, .PROT_BUS_STATE, .SUP_STATE] ++ tripRegs) t) ∧
  (∀ code, s.bus.cause = some code → s.bus.ended = false → s.elapsed s.bus.leadAt (1000 * s.lead) = true →
    ∃ t, exec .busLeadEnd s = .next t ∧ t.bus.ended = true ∧
      (∀ n, s.present n = true → csAlign ≤ s.cstate n → s.cstate n ≤ csReady → csTripped ≤ t.cstate n) ∧
      s.OnlyRegs (.PROT_BUS_FLAGS :: tripRegs) t) ∧
  (∀ g, s.bus.ended = true → s.bus.allOffAt = some g → s.elapsed g 1000000 = true →
    ∃ t, exec .busFailwarnRelease s = .next t ∧ t.bus = {} ∧ t.bit F.PROT_BUS_STATE_WARN = false ∧
      t.bit F.PROT_BUS_STATE_UV_ACTIVE = false ∧ t.bit F.PROT_BUS_STATE_OV_ACTIVE = false ∧
      s.OnlyRegs ([.PROT_BUS_STATE, .SUP_STATE] ++ restRegs) t)

/-- OPEN_FAIL_TIMEOUT, SWITCH_CONDUCT, RETRY_READY, RETRY_HEAL (R216 to R220): a switch that does not open loses
SAFE_RUN and is then locked out, one that conducts is held, a cooled trip retries or opens, retries heal in READY. -/
def Obligations.OpeningIsWatchedAndRetried : Prop :=
  ∀ s : State, ∀ ch : Fin 32,
  (∀ g, (s.prot ch).openAt = some g → s.elapsed g 100000 = true →
    ((s.prot ch).openStage = 0 → s.allOff ch = false →
      ∃ t, exec (.openFailTimeout ch) s = .next t ∧ t.bit F.PLK_FLAGS_URGENT_SENT ch = true ∧
        (t.lk ch).srStop = true ∧ t.bit F.PLK_STATE_SAFE_RUN_ON ch = false ∧
        s.OnlyRegs (.PLK_FLAGS :: restRegs) t) ∧
    ((s.prot ch).openStage ≠ 0 → s.allOff ch = false ∨ 20 < absQ (s.ins ch).iprot → s.cstate ch ≠ csLocked →
      ∃ t, exec (.openFailTimeout ch) s = .next t ∧ t.bit F.PROT_STATE_SR_HELD ch = true ∧
        t.bit F.PLK_STATE_SAFE_RUN_ON ch = false ∧
        (s.cstate ch ≠ csOpen → t.cstate ch = csLocked ∧ t.fld F.PROT_STATE_LOCK_CAUSE ch = 0x10 ∧
          t.bit F.PROT_FLAGS_OPEN_FAIL ch = true) ∧
        s.OnlyRegs tripRegs t)) ∧
  (∀ g, s.resting ch = true → (s.prot ch).conducted = false → (s.prot ch).conductAt = some g →
    s.elapsed g 100000 = true →
    ∃ t, exec (.switchConduct ch) s = .next t ∧ t.bit F.PROT_FLAGS_SWITCH_CONDUCT ch = true ∧
      t.bit F.PROT_STATE_SR_HELD ch = true ∧ t.bit F.PLK_STATE_SAFE_RUN_ON ch = false ∧
      (0x03, ch.val) ∈ t.evtPending ∧ s.OnlyRegs ([.PROT_FLAGS, .DSP_FLAGS] ++ restRegs) t) ∧
  (s.present ch = true → s.bit F.PROT_STATE_RETRY_PENDING ch = true → s.retryPending ch = false →
    s.cstate ch = csTripped → (s.prot ch).counted = true →
    ∃ t, exec (.retryReady ch) s = .next t ∧ t.bit F.PROT_STATE_RETRY_PENDING ch = false ∧
      t.cstate ch = (if s.bit F.PROT_CFG_RETRY_AUTO ch then csWait else csOpen) ∧
      (s.bit F.PROT_CFG_RETRY_AUTO ch = true → ch.val ∈ t.waitQ ∧ t.bit F.PROT_FLAGS_RETRY_START ch = true) ∧
      s.OnlyRegs ([.PROT_FLAGS, .PROT_RETRY_STATE] ++ restRegs) t) ∧
  (s.cstate ch = csReady → (s.prot ch).retryUsed ≠ 0 →
    s.elapsed (s.prot ch).readyAt (60000000000 * s.fld F.PROT_RETRY_RETRY_HEAL ch) = true →
    ∃ t, exec (.retryHeal ch) s = .next t ∧ (t.prot ch).retryUsed = 0 ∧ t.fld F.PROT_STATE_RETRY_USED ch = 0 ∧
      t.bit F.PROT_FLAGS_HEAL ch = true ∧ s.OnlyRegs [.PROT_STATE, .PROT_FLAGS] t)

/-- PROT_CLEAR_LOCKOUT, PROT_CLEAR_DAMAGED, PROT_CLEAR_SR_RELEASE (R209, R217, R221, R240): each needs the key and
its own condition, and is refused without; a stop of SAFE_RUN whose opening check still runs stays (the model's reading
of R240). -/
def Obligations.ProtectionClearsNeedKeyAndCondition : Prop :=
  ∀ s : State, ∀ (sess : Fin 256) (ch : Fin 32) (v : Word), s.MayWrite sess .PROT_CLEAR ch →
  (bitsGet v.toNat 4 12 = 0x7E1 →
    (s.lockClearOk ch = true →
      ∃ t, exec (.protClearLockout sess ch v) s = .next t ∧ t.cstate ch = csOpen ∧
        t.bit F.PROT_STATE_LOCKED ch = false ∧ (t.prot ch).retryUsed = 0 ∧ t.lockLog = sparseSet s.lockLog 0 ch 0 ∧
        s.OnlyRegs (.PROT_RETRY_STATE :: restRegs) t) ∧
    (s.cstate ch = csOpen ∨ s.cstate ch = csLocked →
      ∃ t, exec (.protClearDamaged sess ch v) s = .next t ∧
        t.fld F.PROT_DAMAGED_DAMAGED ch = maskDiff 16 (s.fld F.PROT_DAMAGED_DAMAGED ch) (bitsGet v.toNat 16 16) ∧
        s.OnlyRegs [.PROT_DAMAGED, .INS_TJ, .PROT_EFF, .PROT_SLOWACC, .PROT_STATE, .LDG_SEQ, .LDG_STATE] t) ∧
    (absQ (s.ins ch).iprot ≤ 20 → s.allOff ch = true →
      ∃ t, exec (.protClearSrRelease sess ch v) s = .next t ∧ t.bit F.PROT_STATE_SR_HELD ch = false ∧
        (t.prot ch).conducted = false ∧ (t.lk ch).srStop = ((s.prot ch).openAt.isSome && (s.lk ch).srStop) ∧
        s.OnlyRegs [.PROT_STATE, .PLK_STATE, .SSI_PERMIT_A, .LDG_SEQ, .LDG_STATE] t)) ∧
  (bitsGet v.toNat 4 12 ≠ 0x7E1 ∨ s.lockClearOk ch = false →
    ∃ t, exec (.protClearLockout sess ch v) s = .next t ∧ t.resp = .refused ∧ s.OnlyRegs (.TG_FLAGS :: restRegs) t) ∧
  (bitsGet v.toNat 4 12 ≠ 0x7E1 ∨ (s.cstate ch ≠ csOpen ∧ s.cstate ch ≠ csLocked) →
    ∃ t, exec (.protClearDamaged sess ch v) s = .next t ∧ t.resp = .refused ∧
      s.OnlyRegs [.TG_FLAGS, .LDG_SEQ, .LDG_STATE] t) ∧
  (bitsGet v.toNat 4 12 ≠ 0x7E1 ∨ 20 < absQ (s.ins ch).iprot ∨ s.allOff ch = false →
    ∃ t, exec (.protClearSrRelease sess ch v) s = .next t ∧ t.resp = .refused ∧
      s.OnlyRegs [.TG_FLAGS, .LDG_SEQ, .LDG_STATE] t)

/-- PROT_ILIM_WRITE, PROT_SLOW_WRITE, PROT_REV_WRITE, PROT_MOD_WRITE, PROT_BUS_CFG_WRITE, PROT_LAST_READ (R195, R222,
R226 to R233, R242): writes inside their margins are stored and others refused, a read of word 0 copies words 1 to 4. -/
def Obligations.ProtectionWritesKeepTheirMargins : Prop :=
  ∀ s : State, ∀ (sess : Fin 256) (ch : Fin 32) (v : Word),
  (∀ w, w = s.newWord .PROT_ILIM ch 0 v.toNat →
    (s.MayStore sess .PROT_ILIM ch 0 v.toNat →
      bitsGet w 0 16 + 100 ≤ bitsGet w 16 16 → s.fld F.PROT_SLOW_ITRIP_SLOW ch + 100 ≤ bitsGet w 0 16 →
      ∃ t, exec (.protIlimWrite sess ch v) s = .next t ∧
        s.Stored .PROT_ILIM ch 0 v.toNat [.PROT_EFF, .PROT_SLOWACC, .PROT_STATE] t ∧
        (s.fitted ch ≠ 0 → t.fld F.PROT_EFF_ISC_EFF ch =
          t.fld F.PROT_ILIM_ISC ch * s.healthyCount ch / s.fitted ch % 2 ^ 16)) ∧
    (s.MayWrite sess .PROT_ILIM ch →
      bitsGet w 16 16 < bitsGet w 0 16 + 100 ∨ bitsGet w 0 16 < s.fld F.PROT_SLOW_ITRIP_SLOW ch + 100 →
      ∃ t, exec (.protIlimWrite sess ch v) s = .next t ∧ t.resp = .refused ∧
        s.OnlyRegs [.TG_FLAGS, .LDG_SEQ, .LDG_STATE] t)) ∧
  (∀ w, w = s.newWord .PROT_SLOW ch 0 v.toNat →
    (s.MayStore sess .PROT_SLOW ch 0 v.toNat → bitsGet w 0 16 + 100 ≤ s.fld F.PROT_ILIM_ILIM ch →
      ∃ t, exec (.protSlowWrite sess ch v) s = .next t ∧
        s.Stored .PROT_SLOW ch 0 v.toNat [.PROT_EFF, .PROT_SLOWACC, .PROT_STATE] t) ∧
    (s.MayWrite sess .PROT_SLOW ch → s.fld F.PROT_ILIM_ILIM ch < bitsGet w 0 16 + 100 →
      ∃ t, exec (.protSlowWrite sess ch v) s = .next t ∧ t.resp = .refused ∧
        s.OnlyRegs [.TG_FLAGS, .LDG_SEQ, .LDG_STATE] t)) ∧
  (∀ w, w = s.newWord .PROT_REV ch 0 v.toNat →
    (s.MayStore sess .PROT_REV ch 0 v.toNat → bitsGet w 16 8 ≤ s.fld F.INS_CFG_VMATCH ch →
      ∃ t, exec (.protRevWrite sess ch v) s = .next t ∧ s.Stored .PROT_REV ch 0 v.toNat [] t) ∧
    (s.MayWrite sess .PROT_REV ch → s.fld F.INS_CFG_VMATCH ch < bitsGet w 16 8 →
      ∃ t, exec (.protRevWrite sess ch v) s = .next t ∧ t.resp = .refused ∧
        s.OnlyRegs [.TG_FLAGS, .LDG_SEQ, .LDG_STATE] t)) ∧
  (∀ (didt : Bool) (r : RegName), r = (if didt then .PROT_DIDT else .PROT_MOD) →
    (s.MayStore sess r ch 0 v.toNat → s.cstate ch = csOpen →
      ∃ t, exec (.protModWrite sess ch v didt) s = .next t ∧ s.Stored r ch 0 v.toNat [.PLK_STATE, .SSI_PERMIT_A] t ∧
        (s.lstate ch = lsAdmitted → t.lstate ch = lsConfigure ∧ (t.lk ch).paramSent = t.paramBytes ch)) ∧
    (s.MayWrite sess r ch → s.cstate ch ≠ csOpen →
      ∃ t, exec (.protModWrite sess ch v didt) s = .next t ∧ t.resp = .refused ∧
        s.OnlyRegs [.TG_FLAGS, .LDG_SEQ, .LDG_STATE] t)) ∧
  (∀ w, w = s.newWord .PROT_BUS_CFG 0 0 v.toNat →
    (s.MayStore sess .PROT_BUS_CFG 0 0 v.toNat → bitsGet w 0 11 + 100 ≤ bitsGet w 11 11 →
      ∃ t, exec (.protBusCfgWrite sess v) s = .next t ∧ s.Stored .PROT_BUS_CFG 0 0 v.toNat [] t) ∧
    (s.MayWrite sess .PROT_BUS_CFG 0 → bitsGet w 11 11 < bitsGet w 0 11 + 100 →
      ∃ t, exec (.protBusCfgWrite sess v) s = .next t ∧ t.resp = .refused ∧
        s.OnlyRegs [.TG_FLAGS, .LDG_SEQ, .LDG_STATE] t)) ∧
  ((s.session sess).isOpen = true → s.present ch = true → s.regHeld .PROT_LAST ch = false →
    ∃ t, exec (.protLastRead sess ch) s = .next t ∧ t.resp = .ok (s.reg .PROT_LAST ch 0) ∧ t.regs = s.regs ∧
      ∀ j, 1 ≤ j → j ≤ 4 → t.shadow sess .PROT_LAST ch j = s.reg .PROT_LAST ch j)

/-- COORD_TRIP_SEND, SHARE_PERIOD, HANDOVER_WINDOW_END, TRM_CFG_WRITE, TRM_VSET_WRITE, TRIM_CURRENT_COMPARE (R223,
R247, R249, R256, R260): trips go out 2.5 µs after the first, a period takes the mean current of each string. -/
def Obligations.SharingAndTrimCommandsStep : Prop :=
  ∀ s : State,
  (∀ t0, firstStamp s.tripQ = some t0 → t0 + 2500 ≤ s.tbSec 0 * 1000000000 + s.tbNs 0 →
    ∃ t, exec .coordTripSend s = .next t ∧
      t.tripQ = (sortTrips (s.tripQ.filter fun e => e.stamp < t0 + 2000)).drop 32 ++
        (s.tripQ.filter fun e => !decide (e.stamp < t0 + 2000)) ∧
      t.tripSeq = s.tripSeq + 1 ∧ s.OnlyRegs [.COM_FLAGS, .INJ_STATE, .LDG_SEQ, .LDG_STATE] t) ∧
  (∃ t, exec .sharePeriod s = .next t ∧
    (∀ n, s.present n = true → s.lstate n = lsAdmitted →
      (t.trim n).perN = (s.trim n).nextN ∧ (t.trim n).perQ = (s.trim n).nextQ ∧
      ((s.trim n).gapNow = false → (s.trim n).perN ≠ 0 →
        (t.trim n).iMeas = (s.trim n).perQ / ((s.trim n).perN : Rat))) ∧
    s.OnlyRegs [.DSP_FLAGS, .SHR_FRAC, .SHR_ITOT, .SHR_STATE, .TRM_FLAGS, .TRM_LIVE, .TRM_LOOP, .TRM_STATE,
      .TRM_VSET] t) ∧
  ∀ ch : Fin 32,
  (s.bit F.TRM_STATE_HO_ACTIVE ch = true → s.elapsed (s.trim ch).hoAt 20000000 = true →
    ∃ t, exec (.handoverWindowEnd ch) s = .next t ∧ t.bit F.TRM_STATE_HO_ACTIVE ch = false ∧
      s.OnlyRegs [.TRM_STATE] t) ∧
  (∀ (sess : Fin 256) (v : Word), s.MayStore sess .TRM_CFG ch 0 v.toNat →
    ∃ t, exec (.trmCfgWrite sess ch v) s = .next t ∧
      s.Stored .TRM_CFG ch 0 v.toNat [.TRM_LIVE, .TRM_STATE, .TRM_VSET] t ∧
      (s.tstate ch = tsShare → t.bit F.TRM_CFG_SHARE_EN ch = false →
        t.tstate ch = tsVolt ∧ t.bit F.TRM_STATE_HO_ACTIVE ch = false) ∧
      (s.tstate ch = tsVolt → t.bit F.TRM_CFG_SHARE_EN ch = true → (t.trim ch).hoPending = true)) ∧
  (∀ (sess : Fin 256) (v : Word), s.MayStore sess .TRM_VSET ch 0 v.toNat →
    ∃ t, exec (.trmVsetWrite sess ch v) s = .next t ∧ s.Stored .TRM_VSET ch 0 v.toNat [] t ∧
      (s.tstate ch = tsVolt → (t.trim ch).vTgt = clampQ (-(s.trimLimit ch)) (s.trimLimit ch)
        ((t.sfld F.TRM_VSET_VSET ch : Rat) / 200))) ∧
  (∀ a b : Rat, s.present ch = true → s.counting ch = true → s.bit F.PLK_STATE_TRIM_PRESENT ch = true →
    (s.trim ch).cmpN ≠ 0 → a = (s.trim ch).cmpI / ((s.trim ch).cmpN : Rat) →
    b = (s.trim ch).cmpT / ((s.trim ch).cmpN : Rat) →
    ∃ t, exec (.trimCurrentCompare ch) s = .next t ∧ (t.trim ch).cmpN = 0 ∧
      (maxQ (maxQ (absQ a) (absQ b) / 20) 10 < absQ (a - b) → s.tstate ch = tsShare → (s.trim ch).imis = 9 →
        t.bit F.TRM_FLAGS_TRIM_IMISMATCH ch = true) ∧ s.OnlyRegs [.TRM_FLAGS] t)

/-- WEFF_UPDATE, ZERO_LEARN, GRID_CYCLE_BOUNDARY, WINDOW_END, WIN_REQUAL (R278, R279, R284 to R290): the shunt
temperature is the mean of its 10 ms, an offset moves by an eighth, a window whose packets are in puts its eight words
into their slot of the Granary and the registers. -/
def Obligations.MeasurementPeriodsClose : Prop :=
  ∀ s : State,
  (∃ t, exec .weffUpdate s = .next t ∧
    (∀ n, s.present n = true → s.counting n = true → s.streamFenced n = false → (s.strm n).tNum ≠ 0 →
      (t.strm n).tLast = some ((s.strm n).tSum / ((s.strm n).tNum : Rat)) ∧ (t.strm n).tNum = 0 ∧
        (t.strm n).stale = false) ∧ s.OnlyRegs [.MEAS_FLAGS] t) ∧
  (∃ t, exec .zeroLearn s = .next t ∧ (∀ n, s.present n = true → (t.strm n).zNum = 0) ∧
    (∀ n r m, s.present n = true → s.bit F.MEAS_ZERO_CFG_ZERO_EN n = true → s.resting n = true →
      s.lstate n = lsAdmitted → s.streamFenced n = false → (s.strm n).zNum ≠ 0 → (s.strm n).zSkip = false →
      r = (s.strm n).zRng[0] → r < 2 → m = (s.strm n).zSum[0] / ((s.strm n).zNum : Rat) →
      absQ m ≤ (s.fld F.MEAS_ZERO_CFG_ZERO_MAX n : Rat) / 10 →
      (t.strm n).zero.toList.getD r 0 =
        (s.strm n).zero.toList.getD r 0 + (m - (s.strm n).zero.toList.getD r 0) / 8) ∧
    s.OnlyRegs [.MEAS_FLAGS, .MEAS_ZERO] t) ∧
  (s.sup.inReset = false →
    ∃ t, exec .gridCycleBoundary s = .next t ∧ t.tbSec 2 = (s.tbSec 2 + 1) % 2 ^ 48 ∧ t.tbNs 2 = 0 ∧
    t.win.cycAt = some s.now ∧
    (∀ c, s.win.cycAt = some c → t.fld F.MEAS_WIN_STATE_PERIOD = satNat 0xFFFF ((s.now - c) / 1000)) ∧
    s.OnlyRegs [.MEAS_GFLAGS, .MEAS_SRC_FLAGS, .MEAS_WIN_STATE, .TAL_COUNT, .TAL_SLIP, .TAL_STATUS] t) ∧
  (∀ e, s.win.endNs = some e → s.windowReady e = true →
    ∃ t, exec .windowEnd s = .next t ∧ t.win.startNs = e ∧
      (∀ n, s.present n = true → s.lstate n = lsAdmitted →
        t.reg .MEAS_WSEQ n = (s.reg .MEAS_WSEQ n + 1) % 2 ^ 32 ∧
        (s.granHeld 0x1003E40000 = false → ∀ k, k < 8 → t.word (0x1003E40000 + n * 0x2000 + 32 * (s.reg .MEAS_WSEQ n % 256) + 4 * k) =
          t.reg .MEAS_WIN n k)) ∧
      (∀ r i j, r ∉ [.MEAS_WIN, .MEAS_WSEQ, .MEAS_GFLAGS] → t.reg r i j = s.reg r i j) ∧
      ∀ a, (∀ n, s.present n = true → s.lstate n = lsAdmitted ∨ s.lstate n = lsLost →
          a < 0x1003E40000 + n * 0x2000 + 32 * (s.reg .MEAS_WSEQ n % 256) ∨
            0x1003E40000 + n * 0x2000 + 32 * (s.reg .MEAS_WSEQ n % 256) + 32 ≤ a) →
        memByte t.mem a = memByte s.mem a) ∧
  ∀ q, s.win.requalAt = some q → s.winFree = true → s.bit F.MEAS_WIN_STATE_TB2_QUAL = true →
    s.elapsed q (s.fld F.MEAS_WIN_CFG_REQUAL * 1000000000) = true →
    ∃ t, exec .winRequal s = .next t ∧ t.winFree = false ∧ t.bit F.MEAS_GFLAGS_WIN_LOCKED = true ∧
      t.win.requalAt = none ∧ s.OnlyRegs [.MEAS_GFLAGS, .MEAS_WIN_STATE] t

/-- MEAS_TALLY_READ, MEAS_WIN_READ, GRP_STAMP_READ (R308, R311, R355, R692): a read of word 0 answers it and copies
the other words into the reader's shadows at that instant; there is no group 0. -/
def Obligations.ReadsOfWordZeroAreCoherent : Prop :=
  ∀ s : State, ∀ who : Fin 384, s.reader who = true →
  (∀ (ch : Fin 32) (charge : Bool) (r : RegName), s.present ch = true → s.regHeld r ch = false →
    r = (if charge then .MEAS_QCOUNT else .MEAS_TALLY) →
    ∃ t, exec (.measTallyRead who ch charge) s = .next t ∧ t.resp = .ok (s.reg r ch) ∧
      (∀ j, 1 ≤ j → j ≤ 3 → t.shadow who r ch j = s.reg r ch j) ∧ s.OnlyRegs [] t) ∧
  (∀ ch : Fin 32, s.present ch = true → s.regHeld .MEAS_WIN ch = false →
    ∃ t, exec (.measWinRead who ch) s = .next t ∧ t.resp = .ok (s.reg .MEAS_WIN ch) ∧
      (∀ j, 1 ≤ j → j ≤ 7 → t.shadow who .MEAS_WIN ch j = s.reg .MEAS_WIN ch j) ∧ s.OnlyRegs [] t) ∧
  (∀ g : Fin 16, g ≠ 0 →
    ∃ t, exec (.grpStampRead who g) s = .next t ∧ t.resp = .ok (s.reg .MEAS_GRP_STAMP g) ∧
      t.shadow who .MEAS_GRP_STAMP g 1 = s.reg .MEAS_GRP_STAMP g 1 ∧ s.OnlyRegs [] t) ∧
  ∃ t, exec (.grpStampRead who 0) s = .next t ∧ t.resp = .error ∧ s.OnlyRegs [] t

/-- ADC_ENTRY_DONE, ADC_REG_TRIGGER, ADC_INJ_TRIGGER, ADC_GROUP_TRIGGER, OW_DUE (R315 to R318, R322, R325, R326,
R341): a result is stored and the next entry begins, a trigger instant starts its sequence at the modulator edge and
an injected run sets a regular entry aside, an open-wire test falls due once in each OW_PERIOD. -/
def Obligations.ConverterSequencesRun : Prop :=
  ∀ s : State, ∀ conv : Fin 48,
  (∀ (raw : Int) (k j : Nat), s.convReady conv = true →
    s.elapsed (s.conv conv).startAt (s.entryTime conv) = true →
    ((s.conv conv).act = .regular k → s.regFrom conv (k + 1) = some j →
      ((s.conv conv).inputs.toList.getD (s.regInput conv k) {}).discard = false →
      bitOf (s.reg .MEAS_OW_STATE ((4 * conv.val + s.regInput conv k) / 32)) ((4 * conv.val + s.regInput conv k) % 32)
        = false →
      ∃ t, exec (.adcEntryDone conv raw) s = .next t ∧
        t.reg .MEAS_RES (4 * conv.val + s.regInput conv k) =
          placeCode (s.bit F.MEAS_IN_CFG_ALIGN (4 * conv.val + s.regInput conv k))
            (s.codeOf conv (s.regInput conv k) raw).2.1 % 2 ^ 32 ∧
        (t.conv conv).act = .regular j ∧ (t.conv conv).startAt = s.modEdge ∧
        s.OnlyRegs [.MEAS_CLIP, .MEAS_RES, .MEAS_RVALID] t) ∧
    ((s.conv conv).act = .injected k → s.injFrom conv (k + 1) = some j →
      ∃ t, exec (.adcEntryDone conv raw) s = .next t ∧
        t.reg .MEAS_INJ_RES conv k = placeCode (s.bit F.MEAS_IN_CFG_ALIGN (4 * conv.val + s.injInput conv k))
          (s.codeOf conv (s.injInput conv k) raw).2.1 % 2 ^ 32 ∧
        (t.conv conv).act = .injected j ∧ s.OnlyRegs [.MEAS_CLIP, .MEAS_INJ_RES] t)) ∧
  (∀ d k, (conv.val, d) ∈ s.trigs → d ≤ s.now → s.rmode conv ≠ 0 → s.convReady conv = true →
    (s.conv conv).act = .idle → (s.conv conv).resume = none → (s.conv conv).redo = none →
    s.regFrom conv 0 = some k →
    ∃ t, exec (.adcRegTrigger conv) s = .next t ∧ (t.conv conv).act = .regular k ∧
      (t.conv conv).startAt = s.modEdge ∧ s.OnlyRegs [] t) ∧
  (∀ d k, (64 + conv.val, d) ∈ s.trigs → d ≤ s.now → s.bit F.MEAS_INJ_CFG_IEN conv = true →
    s.convReady conv = true → s.injFrom conv 0 = some k →
    ((s.conv conv).act = .idle ∨ ∃ m, (s.conv conv).act = .regular m) →
    ∃ t, exec (.adcInjTrigger conv) s = .next t ∧ (t.conv conv).act = .injected k ∧
      (t.conv conv).startAt = s.modEdge ∧
      (∀ m, (s.conv conv).act = .regular m → (t.conv conv).resume = some m) ∧ s.OnlyRegs [.MEAS_SRC_FLAGS] t) ∧
  (∀ (g : Fin 16) (d : Nat), (128 + g.val, d) ∈ s.trigs → d ≤ s.now →
    ∃ t, exec (.adcGroupTrigger g) s = .next t ∧
      t.reg .MEAS_GRP_STAMP g 1 = ((s.tb0 + ((s.modEdge - s.now : Nat) : Int)) % 1000000000).toNat % 2 ^ 32 ∧
      s.OnlyRegs [.MEAS_GRP_STAMP, .MEAS_SRC_FLAGS, .MEAS_ADC_CFG, .MEAS_INJ_CFG, .MEAS_IN_CFG, .MEAS_OW_CFG,
        .MEAS_SEQ_CFG, .MEAS_RES, .MEAS_RVALID] t) ∧
  ∀ loc : Fin 4, bitOf (s.fld F.MEAS_OW_CFG_OW_EN conv) loc = true → s.rmode conv ≠ 0 →
    (s.conv conv).inputs[loc].dueAt < s.owBoundary conv →
    ∃ t, exec (.owDue conv loc) s = .next t ∧ (t.conv conv).inputs[loc].due = true ∧
      (t.conv conv).inputs[loc].dueAt = s.owBoundary conv ∧ t = { s with convs := t.convs }

/-- SWTRIG_REGULAR, SWTRIG_INJECTED, SWTRIG_GROUP, ADC_CFG_WRITE (R320, R321): a software trigger waits for its
delay, a configuration write waits for the pass in progress or is taken at once. -/
def Obligations.SoftwareTriggersWaitAndWritesAreStaged : Prop :=
  ∀ s : State, ∀ sess : Fin 256,
  (∀ target : Fin 64, s.MayWrite sess .MEAS_SWTRIG 0 →
    (target.val < 48 → s.fld F.MEAS_RTRIG_DLY target ≠ 0 → (∀ e ∈ s.trigs, e.1 ≠ target.val) →
      ∃ t, exec (.swtrigRegular sess target) s = .next t ∧
        t.trigs = s.trigs ++ [(target.val, s.now + 10 * s.fld F.MEAS_RTRIG_DLY target)] ∧
        s.OnlyRegs [.LDG_SEQ, .LDG_STATE] t) ∧
    (target.val < 48 → s.fld F.MEAS_ITRIG_DLY target ≠ 0 → (∀ e ∈ s.trigs, e.1 ≠ 64 + target.val) →
      ∃ t, exec (.swtrigInjected sess target) s = .next t ∧
        t.trigs = s.trigs ++ [(64 + target.val, s.now + 10 * s.fld F.MEAS_ITRIG_DLY target)] ∧
        s.OnlyRegs [.LDG_SEQ, .LDG_STATE] t) ∧
    (1 ≤ target.val → target.val ≤ 15 → s.fld F.MEAS_GRP_DLY target ≠ 0 → (∀ e ∈ s.trigs, e.1 ≠ 128 + target.val) →
      ∃ t, exec (.swtrigGroup sess target) s = .next t ∧
        t.trigs = s.trigs ++ [(128 + target.val, s.now + 10 * s.fld F.MEAS_GRP_DLY target)] ∧
        s.OnlyRegs [.LDG_SEQ, .LDG_STATE] t) ∧
    (48 ≤ target.val →
      (∃ t, exec (.swtrigRegular sess target) s = .next t ∧ t.resp = .refused ∧ t.trigs = s.trigs) ∧
      ∃ t, exec (.swtrigInjected sess target) s = .next t ∧ t.resp = .refused ∧ t.trigs = s.trigs) ∧
    (target = 0 ∨ 15 < target.val →
      ∃ t, exec (.swtrigGroup sess target) s = .next t ∧ t.resp = .refused ∧ t.trigs = s.trigs)) ∧
  ∀ (reg : AdcReg) (idx : Fin 192) (v : Word) (a new : Nat), a = adcConvOf reg idx → a < 48 →
    s.MayStore sess (adcRegOf reg) idx 0 v.toNat → (s.conv a).staged = [] → new = s.newWord (adcRegOf reg) idx 0 v.toNat →
    ¬ (reg = .inCfg ∧ idx.val % 2 = 1 ∧ bitsGet new 0 2 = 2) →
    ((s.conv a).act = .idle → (s.conv a).resume = none → (s.conv a).redo = none →
      ∃ t, exec (.adcCfgWrite sess reg idx v) s = .next t ∧
        s.Stored (adcRegOf reg) idx 0 v.toNat [.MEAS_RES, .MEAS_RVALID] t) ∧
    ((s.conv a).act ≠ .idle → ¬ (reg = .adcCfg ∧ bitOf new 8 = false) →
      ∃ t, exec (.adcCfgWrite sess reg idx v) s = .next t ∧ (t.conv a).staged = [(reg, idx.val, new)] ∧
        t.resp = .ok new ∧ s.OnlyRegs [.LDG_SEQ, .LDG_STATE] t)

/-- CAL_START_CMD, CAL_AUTO, CAL_DONE (R329, R331, R348): a calibration begins, waits for INT, and passes its block
when every converter that takes part passes: those enabled at start-up, all four later (R330). -/
def Obligations.CalibrationsBeginAndPass : Prop :=
  ∀ s : State,
  (∀ (sess : Fin 256) (v : Word) (b : Nat), s.MayWrite sess .MEAS_CAL_CMD 0 → b < 12 → bitOf v.toNat b = true →
    (s.unit (convUnit b)).retired = false → (s.convBlock b).cal = .none →
    ∃ t, exec (.calStartCmd sess v) s = .next t ∧ bitOf (t.reg .MEAS_CAL_CMD) b = true ∧
      (t.convBlock b).cal = (if s.refGood b 0 then .running else .waiting) ∧ (t.convBlock b).calAt = s.now ∧
      s.OnlyRegs [.MEAS_CAL_CMD, .MEAS_RES, .MEAS_RVALID, .MEAS_SRC_FLAGS, .LDG_SEQ, .LDG_STATE] t) ∧
  (∀ (block : Fin 12) (tj dt : Int) (a : Nat), dt = 10 * (s.fld F.MEAS_REF_CFG_CAL_DT : Int) → dt ≠ 0 →
    a ∈ blockConvs block → dt ≤ tj - s.sfld F.MEAS_CAL_TJ_CAL a 3 ∨ dt ≤ s.sfld F.MEAS_CAL_TJ_CAL a 3 - tj →
    (∀ x, x < 12 → (s.convBlock x).auto = true → (s.convBlock x).cal = .none) →
    (s.convBlock block).cal = .none → (s.convBlock block).passed = true → 3 ≤ s.phase →
    (s.unit (convUnit block)).retired = false →
    ∃ t, exec (.calAuto block tj) s = .next t ∧ (t.convBlock block).auto = true ∧
      (t.convBlock block).cal = (if s.refGood block 0 then .running else .waiting) ∧
      s.OnlyRegs [.MEAS_RES, .MEAS_RVALID, .MEAS_SRC_FLAGS] t) ∧
  ∀ (block : Fin 12) (tj : Int) (runs : Vector CalRun 4), (s.convBlock block).cal = .running →
    s.elapsed (s.convBlock block).calAt (s.calTime block) = true → s.phase = 4 → s.settle.recal = [] →
    (∀ l, l < 4 → s.convEn (4 * block.val + l) = true ∨ (s.convBlock block).startup = false →
      (s.calConv (4 * block.val + l) tj (runs.toList.getD l ⟨[], [], [], []⟩)).2 = true) →
    ∃ t, exec (.calDone block tj runs) s = .next t ∧ (t.convBlock block).passed = true ∧
      (t.convBlock block).cal = .none ∧ t.bit F.MEAS_SRC_FLAGS_CAL_DONE = true ∧
      bitOf (t.reg .MEAS_CAL_CMD) block = false ∧
      s.OnlyRegs [.MEAS_CAL, .MEAS_CAL_CMD, .MEAS_SRC_FLAGS, .MEAS_ADC_CFG, .MEAS_INJ_CFG, .MEAS_IN_CFG,
        .MEAS_OW_CFG, .MEAS_SEQ_CFG, .MEAS_RES, .MEAS_RVALID] t

/-- REF_CHECK, REF_SWITCH_DONE, CONV_REF_WRITE, REF_LATE_TIMEOUT (R333 to R335, R339, R350): a monitor counts its
checks, a switch ends on its target, a preference without its reference is refused, INT late by 100 ms is failed. -/
def Obligations.ReferencesAreWatchedAndSwitched : Prop :=
  ∀ s : State,
  (∀ (block : Fin 12) (ip ep : Int), s.sup.inReset = false → (s.unit (convUnit block)).retired = false →
    ∃ t, exec (.refCheck block ip ep) s = .next t ∧
      (t.convBlock block).refs[0] =
        (s.convBlock block).refs[0].check s.now 5000000 (decide (-10000 ≤ ip ∧ ip ≤ 10000)) ∧
      s.OnlyRecords ([.COM_PORT_STATE, .HR_STATE, .KEY_RETIRED_HI, .KEY_RETIRED_LO, .KEY_START_MARK, .KEY_START_STATE,
        .MEAS_CAL_CMD, .MEAS_CONV_REF, .MEAS_REF_STATE, .MEAS_RES, .MEAS_RVALID, .MEAS_SRC_FLAGS] ++ safeRegs) t) ∧
  (∀ conv : Fin 48, s.switching conv = true → (s.conv conv).target < 3 → s.refChoice conv = (s.conv conv).target →
    ∃ t, exec (.refSwitchDone conv) s = .next t ∧ t.refNow conv = (s.conv conv).target ∧ t.switching conv = false ∧
      s.OnlyRegs [.COM_FLAGS, .COM_PORT_STATE, .HR_STATE, .INJ_STATE, .KEY_START_MARK, .KEY_START_STATE, .LDG_SEQ,
        .LDG_STATE, .MEAS_ADC_CFG, .MEAS_CONV_REF, .MEAS_INJ_CFG, .MEAS_IN_CFG, .MEAS_OW_CFG, .MEAS_RES, .MEAS_RVALID,
        .MEAS_SEQ_CFG, .MEAS_SRC_FLAGS, .PLK_STATE, .SSI_PERMIT_A] t) ∧
  (∀ (sess : Fin 256) (conv : Fin 48) (v : Word) (w : Nat), w = bitsGet (s.newWord .MEAS_CONV_REF conv 0 v.toNat) 0 2 →
    (s.MayStore sess .MEAS_CONV_REF conv 0 v.toNat → w ≠ 3 → w ≠ 1 ∨ s.bit F.MEAS_REF_CFG_EXT_FITTED = true →
      ∃ t, exec (.convRefWrite sess conv v) s = .next t ∧ t.fld F.MEAS_CONV_REF_REF_PREF conv = w ∧
        s.OnlyRegs [.MEAS_CONV_REF, .MEAS_RES, .MEAS_RVALID, .MEAS_SRC_FLAGS, .LDG_SEQ, .LDG_STATE] t) ∧
    (s.MayWrite sess .MEAS_CONV_REF conv → w = 3 ∨ (w = 1 ∧ s.bit F.MEAS_REF_CFG_EXT_FITTED = false) →
      ∃ t, exec (.convRefWrite sess conv v) s = .next t ∧ t.resp = .refused ∧
        s.OnlyRegs [.TG_FLAGS, .LDG_SEQ, .LDG_STATE] t)) ∧
  (s.phase = 2 → s.settle.late = true → s.elapsed s.settle.at_ 100000000 = true →
    ∃ t, exec .refLateTimeout s = .next t ∧ t.settle.intFail = true ∧ t.settle.late = false ∧
      t.bit F.MEAS_SRC_FLAGS_REF_INT_FAIL = true ∧
      s.OnlyRegs [.COM_FLAGS, .COM_PORT_STATE, .HR_STATE, .INJ_STATE, .KEY_START_MARK, .KEY_START_STATE, .LDG_SEQ,
        .LDG_STATE, .MEAS_RES, .MEAS_RVALID, .MEAS_SRC_FLAGS, .PLK_STATE, .SSI_PERMIT_A] t)

/-- TAL_ENABLE, TAL_DISABLE, TAL_RELOAD_WRITE, TAL_CMP_WRITE, TAL_ACT_WRITE, TAL_SYNC_WRITE (R361 to R368): a start
counts from 0, a stop keeps the output, RELOAD waits, a compare written is armed, a timer may not follow itself. -/
def Obligations.TallyWritesStartStopAndArm : Prop :=
  ∀ s : State, ∀ (sess : Fin 256) (n : Fin 64) (v : Word),
  ((s.MayStore sess .TAL_CFG n 0 (bitPut v.toNat 0 true) →
      s.talCfgOk n (s.newWord .TAL_CFG n 0 (bitPut v.toNat 0 true)) = true → s.talFenced n = false →
      ∃ t, exec (.talEnable sess n v) s = .next t ∧ t.bit F.TAL_CFG_EN n = true ∧ (t.tal n).p = 0 ∧
        (t.tal n).pre = 0 ∧
        s.Stored .TAL_CFG n 0 (bitPut v.toNat 0 true) [.MEAS_SRC_FLAGS, .TAL_COUNT, .TAL_STATUS] t) ∧
    (s.MayStore sess .TAL_CFG n 0 (bitPut v.toNat 0 false) →
      s.talCfgOk n (s.newWord .TAL_CFG n 0 (bitPut v.toNat 0 false)) = true →
      ∃ t, exec (.talDisable sess n v) s = .next t ∧ t.bit F.TAL_CFG_EN n = false ∧ (t.tal n).syncDue = false ∧
        s.Stored .TAL_CFG n 0 (bitPut v.toNat 0 false) [] t) ∧
    (s.MayWrite sess .TAL_CFG n →
      (s.talCfgOk n (s.newWord .TAL_CFG n 0 (bitPut v.toNat 0 true)) = false →
        ∃ t, exec (.talEnable sess n v) s = .next t ∧ t.resp = .refused ∧
          s.OnlyRegs [.TG_FLAGS, .LDG_SEQ, .LDG_STATE] t) ∧
      (s.talCfgOk n (s.newWord .TAL_CFG n 0 (bitPut v.toNat 0 false)) = false →
        ∃ t, exec (.talDisable sess n v) s = .next t ∧ t.resp = .refused ∧
          s.OnlyRegs [.TG_FLAGS, .LDG_SEQ, .LDG_STATE] t))) ∧
  (s.MayStore sess .TAL_RELOAD n 0 v.toNat →
    ∃ t, exec (.talReloadWrite sess n v) s = .next t ∧ t.bit F.TAL_STATUS_RELOAD_PEND n = true ∧
      (t.tal n).r = (s.tal n).r ∧ s.Stored .TAL_RELOAD n 0 v.toNat [.TAL_STATUS] t) ∧
  (∀ k : Fin 4, s.MayStore sess .TAL_CMP n k v.toNat →
    ∃ t, exec (.talCmpWrite sess n k v) s = .next t ∧
      s.Stored .TAL_CMP n k v.toNat [.MEAS_SRC_FLAGS, .TAL_COUNT, .TAL_LATE, .TAL_SLIP, .TAL_STATUS] t ∧
      (s.talRuns n = false → bitOf (t.tal n).armed (2 * k.val) = true ∧ bitOf (t.tal n).armed (2 * k.val + 1) = true)) ∧
  (s.MayStore sess .TAL_ACT n 0 v.toNat →
    ∃ t, exec (.talActWrite sess n v) s = .next t ∧
      s.Stored .TAL_ACT n 0 v.toNat [.MEAS_SRC_FLAGS, .TAL_COUNT, .TAL_LATE, .TAL_SLIP, .TAL_STATUS] t ∧
      (s.talRuns n = false → ∀ b, b < 8 → bitOf (t.tal n).armed b = true)) ∧
  (∀ w, w = bitsGet (s.newWord .TAL_SYNC n 0 v.toNat) 0 8 →
    (s.MayStore sess .TAL_SYNC n 0 v.toNat → w ≤ 0x61 → w ≠ n.val + 1 →
      ∃ t, exec (.talSyncWrite sess n v) s = .next t ∧ s.Stored .TAL_SYNC n 0 v.toNat [.TAL_STATUS] t ∧
        t.bit F.TAL_STATUS_ONCE_DONE n = false ∧ (t.tal n).syncDue = false) ∧
    (s.MayWrite sess .TAL_SYNC n → 0x61 < w ∨ w = n.val + 1 →
      ∃ t, exec (.talSyncWrite sess n v) s = .next t ∧ t.resp = .refused ∧
        s.OnlyRegs [.TG_FLAGS, .LDG_SEQ, .LDG_STATE] t))

/-- TALLY_ZERO_EVENT, TALLY_COMPARE_FIRE, TALLY_SYNC_RESTART (R362, R365, R368, R369): the phase returns to 0 after
its period or at a sync event, an armed compare inside its window acts on OUT once. -/
def Obligations.TallyEventsFire : Prop :=
  ∀ s : State, ∀ n : Fin 64, s.talRuns n = true →
  (s.talPeriod n ≤ (s.tal n).p + 1 →
    ∃ t, exec (.tallyZeroEvent n) s = .next t ∧ (t.tal n).p = 0 ∧
      s.OnlyRegs [.MEAS_SRC_FLAGS, .TAL_COUNT, .TAL_SLIP, .TAL_STATUS] t) ∧
  (∀ (k : Fin 4) (b c : Nat), s.talPoints n k = [(b, c)] → bitOf (s.tal n).armed b = true →
    s.talDist n c < s.talWindow n →
    ∃ t, exec (.tallyCompareFire n k) s = .next t ∧ bitOf (t.tal n).armed b = false ∧
      t.bit F.TAL_STATUS_OUT n = outAfter [s.talActOf n k] (s.bit F.TAL_STATUS_OUT n) ∧
      s.OnlyRegs [.MEAS_SRC_FLAGS, .TAL_STATUS] t) ∧
  ((s.tal n).syncDue = true →
    ∃ t, exec (.tallySyncRestart n) s = .next t ∧ (t.tal n).p = 0 ∧
      ((s.tal n).p ≠ 0 → s.fld F.TAL_CFG_TICK_SRC n ≠ 2 → bitOf (t.reg .TAL_SLIP (n.val / 32)) (n.val % 32) = true) ∧
      s.OnlyRegs [.MEAS_SRC_FLAGS, .TAL_COUNT, .TAL_SLIP, .TAL_STATUS] t)

/-- HR_LOCK_GAINED, HR_LOCK_LOST, HR_LOOP_RX, ENUM_RX (R384, R399, R403, R405, R408): lock in LINK_UP starts the
enumeration, whose count places and identifies the nodes; a break in RUN splits the ring where it was seen.
HR_LINK_TIMEOUT, HR_NO_NODE_TIMEOUT, HR_CHAIN_CFG_WRITE, NODE_CMD_RETRY, NODE_LOSS_TIMEOUT (R401, R403, R406, R420):
no lock for 100 ms is FAULT, no node for 100 ms starts again, EXPECT changes only while OPEN, a command
without an answer is repeated and then refuses its node. -/
def Obligations.ChainsLockEnumerateTimeOutAndConfigure : Prop :=
  (
    ∀ s : State, ∀ n : Fin 32, s.present n = true →
    (s.sup.inReset = false → s.hstate n = hrLinkUp → ∀ (endB : Bool) (valid : Nat), 64 ≤ valid →
      ∃ t, exec (.hrLockGained n ⟨endB, valid⟩) s = .next t ∧ t.hstate n = hrEnum ∧
        (t.chain n).lock[if endB then (1 : Fin 2) else 0] = true ∧
        s.OnlyRegs [.COM_FLAGS, .HR_STATE, .INJ_STATE, .LDG_SEQ, .LDG_STATE] t) ∧
    (s.hstate n = hrRun → s.split n = false → (∀ q, q < 16 → s.nstate n q = ndIdent → (s.node n q).ident.length ≠ 48) →
      (∀ (errors : Fin 17) (quiet : Nat), 4 ≤ errors.val ∨ 2000 ≤ quiet →
        ∃ t, exec (.hrLockLost n ⟨false, errors, quiet⟩) s = .next t ∧ t.split n = true ∧ t.bit F.HR_FLAGS_BREAK n = true ∧
        (t.chain n).aLast = none ∧ t.fld F.HR_STATE_A_LAST n = 0x1F ∧ t.hstate n = hrRun ∧
        s.OnlyRegs [.HR_FLAGS, .HR_NODE, .HR_STATE] t) ∧
      ∀ (p : Fin 16) (check : Fin 256), check.val = setCheck (p.val + 16) 0 →
        ∃ t, exec (.hrLoopRx n false ⟨p, check⟩ true) s = .next t ∧ t.split n = true ∧
        t.bit F.HR_FLAGS_BREAK n = true ∧ (t.chain n).aLast = some p.val ∧ t.fld F.HR_STATE_A_LAST n = p.val ∧
        s.OnlyRegs [.HR_FLAGS, .HR_NODE, .HR_STATE] t) ∧
    (∀ count : Fin 256, 0 < count.val → count.val ≤ 16 → s.hstate n = hrEnum → s.hrFenced n = false →
      s.bit F.INJ_STATE_ACTIVE = false → s.inj.heldRx = none →
      ∃ t, exec (.enumRx n false true count true) s = .next t ∧ t.hstate n = hrIdent ∧ t.split n = false ∧
        (t.chain n).nNow = count.val ∧ (t.chain n).nRing = some count.val ∧
        (∀ p, p < count.val → t.nstate n p = ndIdent) ∧
        (∀ p, count.val ≤ p → p < 16 → t.nstate n p = ndAbsent) ∧ s.OnlyRegs [.HR_NODE, .HR_STATE] t)) ∧
  ∀ s : State, ∀ n : Fin 32, s.present n = true →
  ((s.chain n).lock = #v[false, false] →
    (s.hstate n = hrLinkUp → 0 < s.expect n → s.elapsed (s.chain n).stateAt 100000000 = true →
      ∃ t, exec (.hrLinkTimeout n) s = .next t ∧ t.hstate n = hrFault ∧ s.OnlyRegs [.HR_STATE] t) ∧
    (s.hstate n = hrRun → s.elapsed (s.chain n).lastReach 100000000 = true →
      ∃ t, exec (.hrNoNodeTimeout n) s = .next t ∧ t.hstate n = hrLinkUp ∧ s.OnlyRegs [.HR_STATE] t)) ∧
  (∀ (sess : Fin 256) (v : Word) (w : Nat), w = s.newWord .HR_CHAIN_CFG n 0 v.toNat →
    (s.MayWrite sess .HR_CHAIN_CFG n → bitsGet w 8 5 ≠ s.expect n → s.cstate n ≠ csOpen →
      ∃ t, exec (.hrChainCfgWrite sess n v) s = .next t ∧ t.resp = .refused ∧
        s.OnlyRegs [.TG_FLAGS, .LDG_SEQ, .LDG_STATE] t) ∧
    (s.MayStore sess .HR_CHAIN_CFG n 0 v.toNat → bitsGet w 8 5 = s.expect n ∨ s.cstate n = csOpen → bitOf w 0 = false →
      ∃ t, exec (.hrChainCfgWrite sess n v) s = .next t ∧ t.hstate n = hrDown ∧
        s.Stored .HR_CHAIN_CFG n 0 v.toNat [.HR_NODE, .HR_STATE] t)) ∧
  (∀ (endB : Bool) (o : NodeOut), (s.chain n).out[if endB then (1 : Fin 2) else 0] = some o → 4 ≤ o.frames →
    (o.repeats < 3 →
      ∃ t, exec (.nodeCmdRetry n endB) s = .next t ∧
        (t.chain n).out[if endB then (1 : Fin 2) else 0] =
          some { o with repeats := o.repeats + 1, frames := 0, resend := true } ∧ s.OnlyRegs [] t) ∧
    (3 ≤ o.repeats → s.nstate n o.cmd.pos ≠ ndAdmitted →
      (∀ q, q < 16 → s.nstate n q = ndIdent → (s.node n q).ident.length ≠ 48) →
      ∃ t, exec (.nodeCmdRetry n endB) s = .next t ∧ t.nstate n o.cmd.pos = ndRefused ∧
        t.fld F.HR_NODE_REFUSE n o.cmd.pos = 6 ∧ t.bit F.HR_FLAGS_NODE_REFUSED n = true ∧
        s.OnlyRegs [.HR_FLAGS, .HR_NODE, .HR_STATE] t)) ∧
  ∀ (p : Fin 16) (t0 : Nat), (s.node n p).outAt = some t0 → p.val < s.expect n → s.nstate n p ≠ ndAdmitted →
    s.cstate n = csReady → s.elapsed t0 (100000000 * s.fld F.HR_CHAIN_CFG_NODE_LOSS_T n) = true →
    ∃ t, exec (.nodeLossTimeout n p) s = .next t ∧ t.bit F.HR_FLAGS_ZERO_REQ n = true ∧
      (t.trim n).zeroAt ≠ none ∧ s.OnlyRegs [.DSP_FLAGS, .DSP_STR_BAL, .HR_FLAGS, .SHR_FRAC] t

/-- TRIGGER_SEND, SAMPLE_INSTANT, RATE_APPLY, SWEEP_SEND, RECOVER_SEND (R385 to R387, R392, R400): the next instant
is triggered on every enabled chain, opens a record, closes the charge slice, and is swept; a staged
RATE applies at its boundary. -/
def Obligations.InstantsAreTriggeredAndSwept : Prop :=
  ∀ s : State,
  (∀ (i : Int), s.sup.inReset = false → i = s.nextInstant (s.tb0 + 19998) → i ≤ s.tb0 + 20047 → s.inst.trigK = none →
    ∃ t, exec .triggerSend s = .next t ∧ t.inst.trigK = some (s.instantNo i) ∧ t.regs = s.regs ∧
      ∀ n, s.present n = true → s.hstate n ≠ hrDown → s.hrFenced n = false → ∃ fine ctrl, fine ≤ 9 ∧
        ctrl = fine + 16 * s.rateCode i ∧
        .hrTrigger n (s.instantNo i % 256) ctrl (setCheck (s.instantNo i % 256) ctrl) ∈ t.outbox) ∧
  (∀ (p : Int) (k : Nat), s.sup.inReset = false → p = (ratePeriod (s.rateCode s.tb0) : Nat) →
    k = s.instantNo (s.tb0 / p * p) → s.inst.lastK ≠ some k →
    s.inst.skipK ≠ some k →
    ∃ t, exec .sampleInstant s = .next t ∧ t.inst.lastK = some k ∧
      (∀ n, s.present n = true → (t.strm n).sl = (s.strm n).slNext ∧ (t.strm n).slNext = {} ∧
        ∃ r, (t.chain n).recs = (s.chain n).recs ++ [r] ∧ r.k = k ∧ r.taken = [] ∧ r.final = false ∧
          r.q = (s.strm n).sl.sum / 20000000 ∧ r.notPlant = !s.tb0Good) ∧
      s.OnlyRegs [.HR_FLAGS, .HR_NODE, .HR_STATE] t) ∧
  (∀ d, s.inst.rateDue = some d → d ≤ s.tb0 →
    ∃ t, exec .rateApply s = .next t ∧ t.fld F.HR_CFG_RATE_NOW = min 4 (s.fld F.HR_CFG_RATE) ∧
      t.bit F.HR_GFLAGS_RATE_APPLIED = true ∧ t.inst.rateDue = none ∧ s.OnlyRegs [.HR_CFG, .HR_GFLAGS] t) ∧
  ∀ n : Fin 32, s.present n = true → s.hrFenced n = false → s.bit F.INJ_STATE_ACTIVE = false →
    (∀ (a : Nat) (r : Nat), s.hstate n = hrRun → s.split n = false → (s.chain n).aLast = some a → a < 16 →
      s.inst.lastK = some r →
      ∃ t cmd, exec (.sweepSend n) s = .next t ∧ s.OnlyRegs [] t ∧
        (hrMsg n false 0x51 (r % 2 ^ 32) (a + 1) 0 (s.chain n).fseq[0] cmd) ∈ t.outbox) ∧
    (∀ (r : Rec) (p : Nat), s.hstate n = hrRun → (s.chain n).recs = [r] → r.final = false →
      s.nodesIn n ndAdmitted = [p] → r.taken = [] → s.reaches n p false = true →
      ∃ t, exec (.recoverSend n) s = .next t ∧ s.OnlyRegs [] t ∧
        (hrMsg n false 0x52 (r.k % 2 ^ 32) 1 p (s.chain n).fseq[0] (List.replicate 16 0)) ∈ t.outbox)

/-- SWEEP_FRAME_RX, SWEEP_FINAL, PROBE_CYCLE, PROBE_RX (R389, R395 to R397): a bad slot is only counted, a good
slot of an admitted node is taken, a whole record fills the latest-cell table, 16 probes give a delay. -/
def Obligations.SlotsFillTheRecordAndProbesTheDelay : Prop :=
  ∀ s : State, ∀ n : Fin 32, s.present n = true → s.hrFenced n = false → s.bit F.INJ_STATE_ACTIVE = false →
    s.inj.heldRx = none →
  (∀ (rcv : Bool) (k : Word) (x : Slot), s.hstate n = hrRun →
    (x.good = false →
      ∃ t, exec (.sweepFrameRx n rcv k true [x]) s = .next t ∧ t.bit F.HR_FLAGS_SLOT_CRC n = true ∧
        t.nodes = s.nodes ∧ t.chains = s.chains ∧ s.OnlyRegs [.HR_FLAGS] t) ∧
    ∀ r : Rec, x.good = true → x.filled = true → s.nstate n x.pos = ndAdmitted →
      x.inst16.toNat = k.toNat % 2 ^ 16 → (s.chain n).out = #v[none, none] → (s.chain n).recs = [r] →
      r.k = k.toNat → r.final = false → r.skipped = false → r.taken = [] →
      ∃ t y, exec (.sweepFrameRx n rcv k true [x]) s = .next t ∧ (t.chain n).recs = [{ r with taken := [y] }] ∧
        y.pos = x.pos.val ∧ y.recovered = rcv ∧ y.cells = slotValues x ∧ t.reg .HR_BAL n x.pos = x.balOn.toNat ∧
        (t.node n x.pos).lastFlags = x.flags.toNat ∧ s.OnlyRegs [.HR_BAL, .HR_FLAGS] t) ∧
  (∀ (r : Rec), (s.chain n).recs = [r] → r.final = false →
    (∀ p ∈ s.nodesIn n ndAdmitted, ∃ y ∈ r.taken, y.pos = p) →
    (∀ p, p < 16 → (s.nodeMapOf n p).base + (s.nodeMapOf n p).cells ≤ 512) →
    (∀ p q, p < q → q < 16 → (s.nodeMapOf n p).base + (s.nodeMapOf n p).cells ≤ (s.nodeMapOf n q).base ∨
      (s.nodeMapOf n q).base + (s.nodeMapOf n q).cells ≤ (s.nodeMapOf n p).base) →
    ∃ t, exec (.sweepFinal n) s = .next t ∧ t.reg .HR_SWEEP n = r.k % 2 ^ 32 ∧
      (t.chain n).recs = [{ r with final := true }] ∧
      (∀ p j, s.granHeld 0x1003F00000 = false → p < 16 → j < (s.nodeMapOf n p).cells →
        t.word (0x1003F00000 + 4 * (512 * n.val + (s.nodeMapOf n p).base + j)) =
          latestWord r (r.taken.find? fun y => y.pos == p) j) ∧
      ∀ a, a < 0x1003F00000 + 2048 * n.val ∨ 0x1003F00800 + 2048 * n.val ≤ a → memByte t.mem a = memByte s.mem a) ∧
  (s.hstate n = hrTiming ∨ s.hstate n = hrRun →
    (∃ t, exec (.probeCycle n) s = .next t ∧ s.OnlyRegs [.HR_STATE] t ∧
      ∀ p ∈ s.nodesIn n ndAdmitted, (t.node n p).dNum = #v[0, 0]) ∧
    ∀ (p : Fin 16) (q c : Fin 256) (rt : Nat), s.nstate n p = ndAdmitted → c.val = setCheck p q →
      ((s.node n p).dNum[0] < 15 → ∃ t, exec (.probeRx n false ⟨p, q, c⟩ rt) s = .next t ∧
        (t.node n p).dNum[0] = (s.node n p).dNum[0] + 1 ∧
        (t.node n p).dSum[0] = (s.node n p).dSum[0] + (rt - 200) ∧ s.OnlyRegs [] t) ∧
      ∀ d, (s.node n p).dNum[0] = 15 → (s.node n p).dSum[0] + (rt - 200) = 32 * d → d ≤ 0xFFFE →
        ∃ t, exec (.probeRx n false ⟨p, q, c⟩ rt) s = .next t ∧ t.fld F.HR_DELAY_D_A n p = d ∧
          (t.node n p).dNum[0] = 0 ∧ s.OnlyRegs [.HR_DELAY] t)

/-- EST_STEP, SEED_WAIT_TIMEOUT, ENGINE_RESUME_PREDICT, LATE_STEP, AGGREGATE (R436, R438, R440, R442, R451 to R456):
a step takes the records to its boundary, a tracked cell without a value coasts, a string that is not valid
has no power. -/
def Obligations.EstimationStepsAndAggregates : Prop :=
  ∀ s : State,
  (∀ n : Fin 32, s.present n = true →
    (∀ r : Rec, (s.chain n).recs = [r] → r.final = true → r.skipped = false → r.tns % s.stepLen r.tns = 0 →
      ∃ t, exec (.estStep n) s = .next t ∧ (t.chain n).recs = [] ∧ (t.strE n).stepT = some r.tns ∧
        s.OnlyAt [.EST_FLAGS, .EST_GFLAGS, .EST_STATE, .LDG_SEQ, .LDG_STATE, .LRN_FLAGS]
          ((s.stringCells n).map ctxArea) t ∧
        ∀ k ∈ s.stringCells n, (s.stringCells n).Nodup → k / 512 = n.val → (s.cell k).estate = 4 →
          (s.blkE (k / 128)).paused = false → (∀ p j, r.cellValue p j = none) →
          (s.cell k).outRun < s.fld F.EST_CFG2_OUT_MAX → (t.cell k).estate = 5) ∧
    (∀ k ∈ s.stringCells n, (s.cell k).estate = 3 →
      s.elapsed (s.cell k).seedAt (1000000000 * s.fld F.EST_CFG2_SEED_WAIT) = true →
      ∃ t, exec (.seedWaitTimeout n) s = .next t ∧ (t.cell k).estate = 4 ∧ (t.cell k).seedWeak = true ∧
        t.bit F.EST_FLAGS_SEEDED n = true ∧ t.bit F.EST_FLAGS_SEED_WEAK n = true ∧
        s.OnlyAt [.EST_FLAGS] ((s.stringCells n).map ctxArea) t) ∧
    (∀ r ∈ (s.chain n).recs, r.skipped = false → r.tns % s.stepLen r.tns = 0 → (s.chain n).recs = [r] →
      s.elapsed r.at_ (s.fld F.HR_CFG_FINAL_WIN * s.samplePeriod + 5000000) = true →
      (s.strE n).lateT ≠ some r.tns →
      ∃ t, exec (.lateStep n) s = .next t ∧ t.bit F.EST_GFLAGS_LATE_STEP = true ∧ s.OnlyRegs [.EST_GFLAGS] t)) ∧
  (∀ (e b : Fin 128), s.fld F.EST_BLKMAP_ENGINE b = e.val → (s.blkE b).paused = true →
    s.fenced (unitKey 3 (e / 16) 0 false) = false → s.tg.halted.contains e.val = false →
    (∀ k, ∀ x ∈ sparseGet s.ldgState.tables [] k, x.1 < 256) →
    ∃ t, exec (.engineResumePredict e) s = .next t ∧ (t.blkE b).paused = false ∧
      s.OnlyAt [.EST_FLAGS, .LRN_FLAGS]
        (((s.engineBlocks e).flatMap s.blockCells).flatMap fun k => [ctxArea k, tableArea k]) t) ∧
  (s.sup.inReset = false → ∃ t, exec .aggregate s = .next t ∧
    (∀ n, s.present n = true →
      t.reg .EST_STR_STAMP n = (s.tb0 / 100000000 % 2 ^ 32).toNat ∧ t.bit F.EST_STR_CNT_VALID n = s.strValid n ∧
      (s.strValid n = false ∨ s.cstate n = csLocked → t.fld F.EST_STR_LIM_SOP_BY n = 5 ∧
        ∀ h, h < 4 → t.fld F.EST_STR_SOPD_P n h = 0 ∧ t.fld F.EST_STR_SOPC_P n h = 0)) ∧
    t.reg .EST_CTR_STAMP = (s.tb0 / 100000000 % 2 ^ 32).toNat ∧
    s.OnlyRegs [.DSP_FLAGS, .DSP_STR_BAL, .EST_CTR_E, .EST_CTR_SET, .EST_CTR_SOC, .EST_CTR_SOPC, .EST_CTR_SOPD, .EST_CTR_SOPSET,
      .EST_CTR_STAMP, .EST_FLAGS, .EST_STR_CNT, .EST_STR_E, .EST_STR_LIM, .EST_STR_SOC, .EST_STR_SOH, .EST_STR_SOPC,
      .EST_STR_SOPD, .EST_STR_STAMP, .LRN_STR_AGE, .LRN_STR_CAP, .LRN_STR_EFC] t)

/-- CONTEXT_RESTORE, CONTEXT_PERSIST (R440, R443, R444): an absent cell of an admitted node is seeded when the Ledger
has no context of it or one of another node, restored when it has its own; a block's contexts are kept
on its turn unless the bulk share is full.
SWAP_KEEP, SWAP_FRESH, SWAP_KEEP_EXPIRY (R445, R465): with the key and kept contexts KEEP returns the cells to
them in STALE, FRESH starts their learning afresh while the filters go on; both forget the kept contexts, as 10 min do. -/
def Obligations.ContextsAreRestoredPersistedAndSwapped : Prop :=
  (
    ∀ s : State,
    (∀ (k : Fin 16384) (p j : Nat), s.cellPlace k = some (p, j) → s.nstate (k / 512) p = ndAdmitted →
      (s.cell k).estate = 1 → (∀ x ∈ sparseGet s.ldgState.tables [] k, x.1 < 256) →
      ∃ t, exec (.contextRestore k) s = .next t ∧
        s.OnlyAt [.EST_FLAGS, .LRN_FLAGS] [ctxArea k, tableArea k] t ∧
        ((s.ldgState.ctx.find? fun e => e.1 == k.val) = none → (t.cell k).estate = 3) ∧
        ∀ r, (s.ldgState.ctx.find? fun e => e.1 == k.val) = some (k.val, r) →
          (r.serial = (s.node (k / 512) p).serial → r.input = j → sparseGet s.est.reconKind 0 (k / 512) ≠ 1 →
            (t.cell k).estate = 2 ∧ (t.cell k).restored = true) ∧
          (r.serial ≠ (s.node (k / 512) p).serial →
            (t.cell k).estate = 3 ∧ t.bit F.EST_FLAGS_RESTORE_REJECT (k / 512) = true)) ∧
    ∀ b : Fin 128,
      (s.bulkFull = false →
        ∃ t, exec (.contextPersist b) s = .next t ∧ s.OnlyRegs [.EST_GFLAGS, .LDG_SEQ, .LDG_STATE] t ∧
          ∀ k ∈ s.blockCells b, 2 ≤ (s.cell k).estate → (s.cell k).estate ≠ 3 →
            (t.cell k).persistAt = s.now ∧ ∃ r, (k, r) ∈ t.ldgState.ctx ∧ r.cell = s.cell k) ∧
      (s.bulkFull = true →
        ∃ t, exec (.contextPersist b) s = .next t ∧ t.ldgState = s.ldgState ∧ s.OnlyRegs [.EST_GFLAGS] t)) ∧
  ∀ s : State, ∀ (n : Fin 32) (p : Fin 16),
  (∀ sess : Fin 256, s.MayWrite sess .EST_SWAP_CMD 0 →
    (∀ kp, s.keptAt n p = some kp →
      (∃ t, exec (.swapKeep sess n p 0x5C0A) s = .next t ∧ t.keptAt n p = none ∧
        (∀ e ∈ kp.cells, (t.cell e.1).estate = 6) ∧
        s.OnlyAt [.EST_FLAGS, .LDG_SEQ, .LDG_STATE] ((kp.cells.map fun e => ctxArea e.1) ++
          kp.tables.map fun e => (tableAddr e.1 0, 8 * e.2.length)) t) ∧
      ∃ t, exec (.swapFresh sess n p 0x5C0A) s = .next t ∧ t.keptAt n p = none ∧
        (∀ k ∈ s.nodeCells n p, (t.cell k).estate = (s.cell k).estate ∧ (t.cell k).soc = (s.cell k).soc ∧
          (t.cell k).ancKind = 0 ∧ (t.cell k).capLearned = false) ∧
        s.OnlyAt [.LDG_SEQ, .LDG_STATE, .LRN_FLAGS] ((s.nodeCells n p).flatMap fun k => [ctxArea k, tableArea k]) t) ∧
    ∀ key : BitVec 16, key ≠ 0x5C0A ∨ s.keptAt n p = none →
      (∃ t, exec (.swapKeep sess n p key) s = .next t ∧ t.resp = .refused ∧ t.keptNodes = s.keptNodes ∧
        s.OnlyRegs [.TG_FLAGS, .LDG_SEQ, .LDG_STATE] t) ∧
      ∃ t, exec (.swapFresh sess n p key) s = .next t ∧ t.resp = .refused ∧ t.keptNodes = s.keptNodes ∧
        s.OnlyRegs [.TG_FLAGS, .LDG_SEQ, .LDG_STATE] t) ∧
  ∀ kp, s.keptAt n p = some kp → s.elapsed kp.at_ 600000000000 = true →
    ∃ t, exec (.swapKeepExpiry n p) s = .next t ∧ t.keptAt n p = none ∧ s.OnlyRegs [] t

/-- EST_SOCLIM_WRITE, EST_STR_SOC_READ, EST_CTR_SOC_READ (R456, R462): limits that leave no room are refused; a read of
the SOC register answers it and copies the values of the same instant into the reader's shadows. -/
def Obligations.EstimationLimitsAndCoherentReads : Prop :=
  ∀ s : State,
  (∀ (sess : Fin 256) (v : Word) (vlim : Bool) (r : RegName) (w : Nat),
    r = (if vlim then .EST_VLIM else .EST_SOCLIM) → w = s.newWord r 0 0 v.toNat →
    (s.MayStore sess r 0 0 v.toNat → (if vlim then bitsGet w 0 16 < bitsGet w 16 16 else bitsGet w 0 10 + 50 ≤ bitsGet w 16 10) →
      ∃ t, exec (.estSoclimWrite sess vlim v) s = .next t ∧ s.Stored r 0 0 v.toNat [] t) ∧
    (s.MayWrite sess r 0 → ¬ (if vlim then bitsGet w 0 16 < bitsGet w 16 16 else bitsGet w 0 10 + 50 ≤ bitsGet w 16 10) →
      ∃ t, exec (.estSoclimWrite sess vlim v) s = .next t ∧ t.resp = .refused ∧
        s.OnlyRegs [.TG_FLAGS, .LDG_SEQ, .LDG_STATE] t)) ∧
  ∀ who : Fin 384, s.reader who = true →
    (∀ n : Fin 32, s.present n = true →
      ∃ t, exec (.estStrSocRead who n) s = .next t ∧ t.resp = .ok (s.reg .EST_STR_SOC n) ∧
        (∀ h, h < 4 → t.shadow who .EST_STR_SOPD n h = s.reg .EST_STR_SOPD n h ∧
          t.shadow who .EST_STR_SOPC n h = s.reg .EST_STR_SOPC n h) ∧
        (∀ r ∈ [RegName.EST_STR_SOH, .EST_STR_E, .EST_STR_CNT, .EST_STR_LIM, .EST_STR_STAMP],
          t.shadow who r n 0 = s.reg r n) ∧ s.OnlyRegs [] t) ∧
    ∃ t, exec (.estCtrSocRead who) s = .next t ∧ t.resp = .ok (s.reg .EST_CTR_SOC) ∧
      (∀ i, i < 2 → t.shadow who .EST_CTR_E i 0 = s.reg .EST_CTR_E i) ∧
      (∀ h, h < 4 → t.shadow who .EST_CTR_SOPD h 0 = s.reg .EST_CTR_SOPD h ∧
        t.shadow who .EST_CTR_SOPC h 0 = s.reg .EST_CTR_SOPC h) ∧
      (∀ r ∈ [RegName.EST_CTR_SET, .EST_CTR_SOPSET, .EST_CTR_STAMP], t.shadow who r 0 0 = s.reg r) ∧ s.OnlyRegs [] t

/-- RIPPLE_ID_WINDOW, RELAX_FIT, SOH_STALE_TIMEOUT (R477, R479, R486): a window outside READY only ends, a hold with a
time without samples is rejected, a complete one ends, an old capacity is marked stale.
CHARGE_CHECKPOINT, JOURNAL_WRITE, SNAPSHOT_WRITE, RECONCILE (R489 to R493): counts, changed entries and tables go
to the Ledger; a channel's counts start from the final record unless a checkpoint is newer, else from the checkpoint, else from 0. -/
def Obligations.LearningEndsPersistsAndReconciles : Prop :=
  (
    ∀ s : State,
    (∀ (n : Fin 32) (a b : Rec), s.present n = true →
      (s.strE n).win.head? = some a → (s.strE n).win.getLast? = some b →
      s.idEnd a.tns ≤ b.tns + s.samplePeriod →
      ∃ t, exec (.rippleIdWindow n) s = .next t ∧
        (t.strE n).win = (s.strE n).win.filter (fun r => decide (s.idEnd a.tns ≤ r.tns)) ∧
        (s.cstate n ≠ csReady ∨ s.bit F.LRN_ID2_ID_EN = false → s.OnlyRegs [] t) ∧
        s.OnlyAt [.LRN_FLAGS] ((s.stringCells n).flatMap fun k => [ctxArea k, tableArea k]) t) ∧
    ∀ k : Fin 16384,
      ((s.cell k).rlxActive = true →
        (s.cell k).rlxStart + 1000000000 * (s.fld F.LRN_ID_T_RLX : Int) ≤
          (s.strE (k / 512)).stepT.getD (s.cell k).rlxStart →
        ((∃ e ∈ (s.cell k).rlxSum, e.2 = 0) →
          ∃ t, exec (.relaxFit k) s = .next t ∧ (t.cell k).rlxActive = false ∧
            t.bit F.LRN_FLAGS_ID_REJECT (k / 512) = true ∧ s.OnlyAt [.LRN_FLAGS] [ctxArea k] t) ∧
        ((s.cell k).rlxSum.length = 12 → (∀ e ∈ (s.cell k).rlxSum, e.2 ≠ 0) →
          ∃ t, exec (.relaxFit k) s = .next t ∧ (t.cell k).rlxActive = false ∧
            (t.cell k).rlxPts = (s.cell k).rlxSum.map (fun e => e.1 / (e.2 : Rat)) ∧
            s.OnlyAt [.LRN_FLAGS] [ctxArea k, tableArea k] t)) ∧
      (2 ≤ (s.cell k).estate → (s.cell k).sohStale = false →
        86400 * s.fld F.LRN_CFG2_SOH_STALE_T ≤ (s.tbSec 0 + 2 ^ 32 - (s.cell k).tCap) % 2 ^ 32 →
        ∃ t, exec (.sohStaleTimeout k) s = .next t ∧ (t.cell k).sohStale = true ∧
          t.bit F.LRN_FLAGS_SOH_STALE (k / 512) = true ∧ s.OnlyAt [.LRN_FLAGS] [ctxArea k] t)) ∧
  ∀ s : State,
  (s.bulkFull = false →
    (∃ t, exec .chargeCheckpoint s = .next t ∧ s.OnlyRegs [.LDG_SEQ, .LDG_STATE, .LRN_GFLAGS] t ∧
      ∀ n, s.present n = true → s.fld F.MEAS_EPOCH_EPOCH n ≠ 0 →
        ∃ c : Counts, (n, c) ∈ t.ldgState.ckpt ∧ c.cstate = s.cstate n ∧
          c.stamp = s.tb0 / (1000000000 * (s.fld F.LRN_PERSIST_CKPT_T : Int)) *
            (1000000000 * (s.fld F.LRN_PERSIST_CKPT_T : Int)) ∧
          (c.qDis, c.qChg) = ((((s.strE n).latches.find? fun e => e.1 == c.stamp).map fun e => e.2).getD
            (s.qDis n, s.qChg n))) ∧
    (∃ t, exec .journalWrite s = .next t ∧ t.est.changed = [] ∧ s.OnlyRegs [.LDG_SEQ, .LDG_STATE] t ∧
      ∀ e ∈ s.est.changed, (e.2, s.word (tableAddr e.1 e.2), s.word (tableAddr e.1 e.2 + 4)) ∈
        sparseGet t.ldgState.tables [] e.1) ∧
    ∀ k : Fin 16384, 2 ≤ (s.cell k).estate →
      ∃ t, exec (.snapshotWrite k) s = .next t ∧ s.OnlyRegs [.LDG_SEQ, .LDG_STATE] t ∧
        sparseGet t.ldgState.tables [] k =
          (List.range 256).map (fun e => (e, s.word (tableAddr k e), s.word (tableAddr k e + 4))) ∧
        ∃ r, (k.val, r) ∈ t.ldgState.learn ∧ r.cell = s.cell k) ∧
  ∀ n : Fin 32, s.sup.inReset = false → s.present n = true → sparseGet s.est.reconKind 0 n = 0 → s.fld F.MEAS_EPOCH_EPOCH n = 0 →
    ∃ t, exec (.reconcile n) s = .next t ∧
      s.OnlyRegs [.LDG_SEQ, .LDG_STATE, .LRN_FLAGS, .LRN_GFLAGS, .LRN_STR_RECON, .MEAS_QCOUNT] t ∧
      (∀ f, (s.ldgState.final.find? fun e => e.1 == n.val) = some (n.val, f) →
        (∀ c, (s.ldgState.ckpt.find? fun e => e.1 == n.val) = some (n.val, c) →
          c.stamp / 1000000000 ≤ f.stamp / 1000000000) →
        t.qDis n = f.qDis % 2 ^ 64 ∧ t.qChg n = f.qChg % 2 ^ 64 ∧ t.fld F.LRN_STR_RECON_KIND n = 1) ∧
      (((s.ldgState.final.find? fun e => e.1 == n.val) = none →
        (s.ldgState.ckpt.find? fun e => e.1 == n.val) = none →
          t.qDis n = 0 ∧ t.qChg n = 0 ∧ t.fld F.LRN_STR_RECON_KIND n = 0) ∧
        ∀ c, (s.ldgState.ckpt.find? fun e => e.1 == n.val) = some (n.val, c) →
          (∀ f, (s.ldgState.final.find? fun e => e.1 == n.val) = some (n.val, f) →
            f.stamp / 1000000000 < c.stamp / 1000000000) →
          t.fld F.LRN_STR_RECON_KIND n = 2 ∧ t.bit F.LRN_FLAGS_RECONCILED n = true ∧
            t.fld F.LRN_STR_RECON_T_U n = min 0xFFFF (s.fld F.LRN_PERSIST_CKPT_T + 3))

/-- DSP_REQ_WRITE, DISPATCH_PASS, LIMIT_REPUBLISH, ZERO_REQ_OPEN, DSP_EVT_READ, DSP_ACK_WRITE (R504 to R511): a request is
taken only while dispatch is open, limits are 0 without a READY string and go out again when one is
lost, a zero request opens at the latest after 1 s, events leave oldest first. -/
def Obligations.DispatchTakesRequestsAndPublishesLimits : Prop :=
  ∀ s : State,
  (∀ (sess : Fin 256) (v : Word),
    (s.MayStore sess .DSP_REQ 0 0 v.toNat → s.reqClosed = false → ∃ t, exec (.dspReqWrite sess v) s = .next t ∧
      t.reg .DSP_REQ = s.newWord .DSP_REQ 0 0 v.toNat ∧ t.resp = .ok (s.newWord .DSP_REQ 0 0 v.toNat) ∧
      (t.session sess).dspWrites = (s.session sess).dspWrites + 1 ∧ s.OnlyRegs [.DSP_REQ] t) ∧
    (s.reqClosed = true → s.sup.inReset = false → ∃ t, exec (.dspReqWrite sess v) s = .next t ∧ t.resp = .refused ∧
      t.bit F.DSP_FLAGS_REQ_REFUSED = true ∧ s.OnlyRegs [.DSP_FLAGS, .TG_FLAGS, .LDG_SEQ, .LDG_STATE] t)) ∧
  (s.bit F.DSP_CFG_DSP_EN = true → s.sup.inReset = false →
    ∃ t, exec .dispatchPass s = .next t ∧ t.reg .DSP_LIM_STAMP = (s.tb0 / 100000000 % 2 ^ 32).toNat ∧
      t.fld F.DSP_STATE_MEMBERS = s.shareMembers.length % 64 ∧
      (∀ n, s.present n = true → s.cstate n ≠ csReady → t.fld F.DSP_STR_A_A n = 0) ∧
      (s.readyChans = [] → ∀ h, h < 4 → t.reg .DSP_LIM_DIS h = 0 ∧ t.reg .DSP_LIM_CHG h = 0) ∧
      s.OnlyRegs [.DSP_FLAGS, .DSP_LIM_CHG, .DSP_LIM_DIS, .DSP_LIM_I, .DSP_LIM_STAMP, .DSP_STATE, .DSP_STR_A,
        .DSP_STR_BAL] t) ∧
  (∀ ch : Fin 32, bitOf s.dsp.due ch = true →
    ∃ t, exec (.limitRepublish ch) s = .next t ∧ bitOf t.dsp.due ch = false ∧
      t.bit F.DSP_FLAGS_LIMIT_EVENT = true ∧
      (s.readyChans = [] → ∀ h, h < 4 → t.reg .DSP_LIM_DIS h = 0 ∧ t.reg .DSP_LIM_CHG h = 0) ∧
      s.OnlyRegs [.DSP_FLAGS, .DSP_LIM_CHG, .DSP_LIM_DIS, .DSP_LIM_I, .DSP_STATE, .DSP_STR_BAL] t) ∧
  (∀ (ch : Fin 32) (z : Nat), (s.trim ch).zeroAt = some z → s.cstate ch = csReady → s.elapsed z 1000000000 = true →
    ∃ t, exec (.zeroReqOpen ch) s = .next t ∧ t.cstate ch = (if s.allOff ch then csOpen else csOpening) ∧
      (t.trim ch).zeroAt = none ∧ s.OnlyRegs restRegs t) ∧
  (∀ (who : Fin 384) (w : Nat) (rest : List Nat), s.reader who = true → s.evtFifo = w :: rest →
    ∃ t, exec (.dspEvtRead who) s = .next t ∧ t.resp = .ok w ∧ t.evtFifo = rest ∧ s.OnlyRegs [] t) ∧
  ∀ (sess : Fin 256) (v : Word), s.MayWrite sess .DSP_ACK 0 →
    ∃ t, exec (.dspAckWrite sess v) s = .next t ∧ s.OnlyRegs [.LDG_SEQ, .LDG_STATE] t ∧
      (∀ e, e ∈ t.evtPending ↔ e ∈ s.evtPending ∧ e ≠ (bitsGet v.toNat 0 8, bitsGet v.toNat 8 5))

/-- BAL_PASS, DSP_BAL_CFG_WRITE, HVAC_EVAL (R512 to R514, R526): only eligible cells start to bleed, a suspended string
stops, BAL_ON_T covers two passes; too few valid temperatures ask for the fail-safe, a hot cell for COOL. -/
def Obligations.BalancingAndHvacFollowTheCells : Prop :=
  ∀ s : State,
  (s.fld F.DSP_BAL_CFG_BAL_MODE = 1 →
    ∃ t, exec .balPass s = .next t ∧ s.OnlyRegs [.DSP_FLAGS, .DSP_STR_BAL] t ∧
      (∀ k ∈ t.dsp.bleeding, k ∈ s.dsp.bleeding ∨ s.balEligible k = true) ∧
      ∀ n, s.present n = true → s.hstate n = hrRun → s.hrFenced n = false →
        t.bit F.DSP_STR_BAL_SUSPENDED n = s.balSuspended n ∧
        (s.balSuspended n = true → s.bit F.DSP_STR_BAL_SUSPENDED n = false →
          t.bit F.DSP_FLAGS_BAL_SUSPEND = true ∧ t.fld F.DSP_STR_BAL_BLEEDING n = 0)) ∧
  (s.fld F.DSP_BAL_CFG_BAL_MODE ≠ 1 → ∃ t, exec .balPass s = .next t ∧ t.dsp = s.dsp ∧ s.OnlyRegs [] t) ∧
  (∀ (sess : Fin 256) (second : Bool) (v : Word) (r : RegName) (w : Nat),
    r = (if second then .DSP_BAL_CFG2 else .DSP_BAL_CFG) → w = s.newWord r 0 0 v.toNat →
    (s.MayStore sess r 0 0 v.toNat → (if second then 2 * bitsGet w 16 8 ≤ s.fld F.DSP_BAL_CFG_BAL_ON_T
      else 2 * s.fld F.DSP_BAL_CFG2_BAL_PERIOD ≤ bitsGet w 24 8) →
      ∃ t, exec (.dspBalCfgWrite sess second v) s = .next t ∧ s.Stored r 0 0 v.toNat [] t) ∧
    (s.MayWrite sess r 0 → ¬ (if second then 2 * bitsGet w 16 8 ≤ s.fld F.DSP_BAL_CFG_BAL_ON_T
      else 2 * s.fld F.DSP_BAL_CFG2_BAL_PERIOD ≤ bitsGet w 24 8) →
      ∃ t, exec (.dspBalCfgWrite sess second v) s = .next t ∧ t.resp = .refused ∧
        s.OnlyRegs [.TG_FLAGS, .LDG_SEQ, .LDG_STATE] t)) ∧
  (s.sup.inReset = false → ∃ t, exec .hvacEval s = .next t ∧ s.OnlyRegs [.DSP_FLAGS, .DSP_HVAC, .DSP_HVAC_T] t ∧
    (s.mappedCells ≠ [] → (∀ k ∈ s.mappedCells, (s.cell k).tempStale = true) →
      0 < s.fld F.DSP_HVAC_CFG2_HV_MINVALID →
      t.fld F.DSP_HVAC_MODE = 3 ∧ t.sfld F.DSP_HVAC_SP = s.sfld F.DSP_HVAC_CFG2_SP_FAIL ∧
        (s.fld F.DSP_HVAC_MODE ≠ 3 → t.bit F.DSP_FLAGS_HVAC_FAILSAFE = true)) ∧
    (s.mappedCells ≠ [] → (∀ k ∈ s.mappedCells, (s.cell k).tempStale = false) →
      s.fld F.DSP_HVAC_CFG2_HV_MINVALID ≤ 100 → s.fld F.DSP_HVAC_MODE = 0 →
      ((∃ k ∈ s.mappedCells, (s.sfld F.DSP_HVAC_CFG_T_COOL_ON : Rat) ≤ (s.cell k).tCell) →
        t.fld F.DSP_HVAC_MODE = 1) ∧
      ((∀ k ∈ s.mappedCells, (s.cell k).tCell < (s.sfld F.DSP_HVAC_CFG_T_COOL_ON : Rat) ∧
          (s.sfld F.DSP_HVAC_CFG_T_HEAT_ON : Rat) < (s.cell k).tCell) →
        t.fld F.DSP_HVAC_MODE = 0 ∧ t.sfld F.DSP_HVAC_SP = s.sfld F.DSP_HVAC_CFG_T_TARGET)))

/-- REC_ARM, REC_TRIGGER, REC_STOP, REC_FRAME_WRITE, REC_STAMP_READ (R515 to R517, R530): the recorder arms from IDLE or
FROZEN, a trigger starts POST with its stamp, a frame of a final instant is written in its place in the ring, the last one of POST freezes. -/
def Obligations.RecorderArmsTriggersAndWrites : Prop :=
  ∀ s : State,
  (∀ sess : Fin 256, s.MayWrite sess .DSP_REC_CMD 0 →
    (s.fld F.DSP_REC_STATE_RSTATE = 0 ∨ s.fld F.DSP_REC_STATE_RSTATE = 3 →
      (∃ t, exec (.recArm sess) s = .next t ∧ t.fld F.DSP_REC_STATE_RSTATE = 1 ∧ t.reg .DSP_REC_TRIG = 0 ∧
        t.recorder.written = 0 ∧ s.OnlyRegs [.DSP_REC_STATE, .DSP_REC_TRIG, .LDG_SEQ, .LDG_STATE] t) ∧
      ∃ t, exec (.recTrigger sess) s = .next t ∧ t.bit F.DSP_FLAGS_REC_MISSED = true ∧
        s.OnlyRegs [.DSP_FLAGS, .LDG_SEQ, .LDG_STATE] t) ∧
    (s.fld F.DSP_REC_STATE_RSTATE = 1 →
      ∃ t, exec (.recTrigger sess) s = .next t ∧ t.fld F.DSP_REC_STATE_RSTATE = 2 ∧
        t.fld F.DSP_REC_TRIG_CAUSE = 0xFF ∧ t.reg .DSP_REC_STAMP 0 = s.tbSec 0 % 2 ^ 32 ∧
        t.reg .DSP_REC_STAMP 1 = s.tbNs 0 % 2 ^ 32 ∧ t.recorder.trigPending = true ∧
        s.OnlyRegs [.DSP_REC_STAMP, .DSP_REC_STATE, .DSP_REC_TRIG, .LDG_SEQ, .LDG_STATE] t) ∧
    (s.fld F.DSP_REC_STATE_RSTATE = 2 →
      ∃ t, exec (.recTrigger sess) s = .next t ∧ t.bit F.DSP_REC_TRIG_MORE = true ∧
        s.OnlyRegs [.DSP_REC_TRIG, .LDG_SEQ, .LDG_STATE] t) ∧
    (s.fld F.DSP_REC_STATE_RSTATE = 1 ∨ s.fld F.DSP_REC_STATE_RSTATE = 2 →
      ∃ t, exec (.recArm sess) s = .next t ∧ t.recorder = s.recorder ∧ s.OnlyRegs [.LDG_SEQ, .LDG_STATE] t) ∧
    ∃ t, exec (.recStop sess) s = .next t ∧ t.fld F.DSP_REC_STATE_RSTATE = 0 ∧
      s.OnlyRegs [.DSP_REC_STATE, .LDG_SEQ, .LDG_STATE] t) ∧
  (∀ (r : RecInst) (rest : List RecInst), s.recorder.insts = r :: rest → s.instFinal r.k = true →
    (s.fld F.DSP_REC_STATE_RSTATE = 1 → s.fld F.DSP_REC_STATE_CAP ≠ 0 →
      ∃ t, exec .recFrameWrite s = .next t ∧ t.recorder.insts = rest ∧
        ((∀ b, (s.unitRec (unitKey 4 b 0 false)).restarting = false) →
          t.word (frameAddr (s.recorder.next % s.fld F.DSP_REC_STATE_CAP)) = r.k % 2 ^ 32) ∧
        t.recorder.next = (s.recorder.next % s.fld F.DSP_REC_STATE_CAP + 1) % s.fld F.DSP_REC_STATE_CAP ∧
        s.OnlyAt [.DSP_REC_STATE, .DSP_REC_TRIG]
          [(frameAddr (s.recorder.next % s.fld F.DSP_REC_STATE_CAP), 50240)] t) ∧
    (s.fld F.DSP_REC_STATE_RSTATE = 2 → s.fld F.DSP_REC_STATE_CAP ≠ 0 →
      ∃ t, exec .recFrameWrite s = .next t ∧ t.recorder.insts = rest ∧
        ((∀ b, (s.unitRec (unitKey 4 b 0 false)).restarting = false) →
          t.word (frameAddr (s.recorder.next % s.fld F.DSP_REC_STATE_CAP)) = r.k % 2 ^ 32) ∧
        (s.recorder.trigPending = true → s.recorder.trigAt < r.tns → r.skipped = false → t.recorder.trigPending = false ∧
          t.fld F.DSP_REC_TRIG_TRIG_IDX = s.recorder.next % s.fld F.DSP_REC_STATE_CAP % 2 ^ 9) ∧
        (s.recorder.trigPending = false → s.recorder.left = 1 →
          t.fld F.DSP_REC_STATE_RSTATE = 3 ∧ t.bit F.DSP_FLAGS_REC_TRIG = true) ∧
        s.OnlyAt [.DSP_FLAGS, .DSP_REC_STATE, .DSP_REC_TRIG, .LDG_SEQ, .LDG_STATE]
          [(frameAddr (s.recorder.next % s.fld F.DSP_REC_STATE_CAP), 50240)] t) ∧
    (s.fld F.DSP_REC_STATE_RSTATE = 0 ∨ s.fld F.DSP_REC_STATE_RSTATE = 3 →
      ∃ t, exec .recFrameWrite s = .next t ∧ t.recorder.insts = rest ∧ s.OnlyRegs [] t)) ∧
  ∀ who : Fin 384, s.reader who = true →
    ∃ t, exec (.recStampRead who) s = .next t ∧ t.resp = .ok (s.reg .DSP_REC_STAMP 0) ∧
      t.shadow who .DSP_REC_STAMP 1 0 = s.reg .DSP_REC_STAMP 1 ∧ s.OnlyRegs [] t

/-- SESSION_HANDSHAKE, SESSION_IDLE_TIMEOUT, SESSION_CLOSE, SERVICE_OPEN, INJ_START, INJ_STOP, INJ_TIMEOUT (R535, R543,
R556, R557, R639 to R641): a proved handshake takes the lowest free session, a failed one none; a
session closes when idle; queues are granted in full or refused; an injection runs under its interlock. -/
def Obligations.SessionsServicesAndInjections : Prop :=
  ∀ s : State,
  (∀ h : Handshake,
    (h.cookie = false → ∃ t, exec (.sessionHandshake h) s = .next t ∧ t.sess = s.sess ∧ s.OnlyRegs [] t) ∧
    ∀ recent, recent = (s.com.hsTimes.filter fun x => !s.elapsed x 1000000000).length → h.cookie = true →
      s.sup.inReset = false →
      (s.fld F.COM_SESS_CFG_HS_RATE ≤ recent →
        ∃ t, exec (.sessionHandshake h) s = .next t ∧ t.sess = s.sess ∧ t.bit F.COM_FLAGS_HS_LIMIT = true ∧
          s.OnlyRegs [.COM_FLAGS] t) ∧
      (recent < s.fld F.COM_SESS_CFG_HS_RATE → (∀ j, j < 256 → (s.session j).isOpen = true) →
        ∃ t, exec (.sessionHandshake h) s = .next t ∧ t.resp = .refused ∧ t.sess = s.sess ∧
          t.bit F.COM_FLAGS_SESS_REFUSED = true ∧ s.OnlyRegs [.COM_FLAGS, .LDG_SEQ, .LDG_STATE] t) ∧
      ∀ k : Fin 256, recent < s.fld F.COM_SESS_CFG_HS_RATE → (s.session k).isOpen = false →
        (∀ j, j < k.val → (s.session j).isOpen = true) →
        (∀ r, s.proved h = some r → s.phaseTakes r = true →
          (r = .maker → s.bit F.TG_STATE_MAKER_SESS = false) →
          ∃ t, exec (.sessionHandshake h) s = .next t ∧ t.resp = .ok k.val ∧ (t.session k).isOpen = true ∧
            (t.session k).role = r ∧ (∀ j, j ≠ k.val → t.session j = s.session j) ∧
            s.OnlyRegs [.COM_STATE, .TG_STATE, .LDG_SEQ, .LDG_STATE] t) ∧
        (s.proved h = none →
          ∃ t, exec (.sessionHandshake h) s = .next t ∧ t.resp = .refused ∧ t.sess = s.sess ∧
            t.bit F.TG_FLAGS_AUTH_FAIL = true ∧ s.OnlyRegs [.TG_FLAGS, .LDG_SEQ, .LDG_STATE] t) ∧
        ∀ r, s.proved h = some r →
          s.phaseTakes r = false ∨ (r = .maker ∧ s.bit F.TG_STATE_MAKER_SESS = true) →
          ∃ t, exec (.sessionHandshake h) s = .next t ∧ t.resp = .refused ∧ t.sess = s.sess ∧
            s.OnlyRegs [.TG_FLAGS, .LDG_SEQ, .LDG_STATE] t) ∧
  (∀ k : Fin 256, (s.session k).isOpen = true →
    (∃ t, exec (.sessionClose k) s = .next t ∧ (t.session k).isOpen = false ∧
      s.OnlyAt [.COM_FLAGS, .COM_STATE, .INJ_STATE, .LDG_SEQ, .LDG_STATE, .TG_FLAGS, .TG_STATE]
        (s.com.bound.map fun e => (qAddr e.1, 64)) t) ∧
    (s.elapsed (s.session k).lastAt (1000000000 * s.fld F.COM_SESS_CFG_SESS_IDLE) = true →
      ∃ t, exec (.sessionIdleTimeout k) s = .next t ∧ (t.session k).isOpen = false ∧
        s.OnlyAt [.COM_FLAGS, .COM_STATE, .INJ_STATE, .LDG_SEQ, .LDG_STATE, .TG_FLAGS, .TG_STATE]
          (s.com.bound.map fun e => (qAddr e.1, 64)) t) ∧
    ∀ (v : Service) (q : Fin 1024) (subs : Fin 64),
      (serviceRole v (s.session k).role = false ∨ (v = .maker ∧ s.bit F.TG_STATE_MAKER_EN = false) →
        ∃ t, exec (.serviceOpen k v q subs) s = .next t ∧ t.resp = .refused ∧ t.com = s.com ∧ s.OnlyRegs [] t) ∧
      (serviceRole v (s.session k).role = true → (v = .maker → s.bit F.TG_STATE_MAKER_EN = true) →
        (v = .telemetry → (s.session k).subs + subs.val ≤ 16) →
      ((s.session k).queues + q.val ≤ 240 → q.val ≤ s.fld F.COM_STATE_QUEUES_FREE →
        ∃ t, exec (.serviceOpen k v q subs) s = .next t ∧ t.resp = .ok q.val ∧
          (t.session k).queues = (s.session k).queues + q.val ∧
          t.com.bound.length = s.com.bound.length + q.val ∧
          s.OnlyAt [.COM_STATE] ((s.freeQueues q.val).map fun x => (qAddr x, 64)) t) ∧
      (240 < (s.session k).queues + q.val ∨ s.fld F.COM_STATE_QUEUES_FREE < q.val →
        ∃ t, exec (.serviceOpen k v q subs) s = .next t ∧ t.resp = .refused ∧ t.com.bound = s.com.bound ∧
          t.bit F.COM_FLAGS_CAPACITY = true ∧ s.OnlyRegs [.COM_FLAGS] t))) ∧
  (∀ (k : Fin 256) (c : BitVec 16), s.MayWrite k .INJ_CMD 0 →
    (s.bit F.INJ_STATE_ACTIVE = false → s.fld F.INJ_CFG_ACTION ≠ 3 →
      (s.injLock = true → ∃ t, exec (.injStart k c) s = .next t ∧ t.bit F.INJ_STATE_ACTIVE = true ∧
        t.inj.count = c.toNat ∧ t.inj.startAt = s.now ∧ t.bit F.COM_FLAGS_INJ_START = true ∧
        s.OnlyRegs [.COM_FLAGS, .INJ_STATE, .LDG_SEQ, .LDG_STATE] t) ∧
      (s.injLock = false → ∃ t, exec (.injStart k c) s = .next t ∧ t.resp = .refused ∧
        t.bit F.INJ_STATE_ACTIVE = false ∧ t.fld F.INJ_STATE_END_CAUSE = 7 ∧
        s.OnlyRegs [.INJ_STATE, .TG_FLAGS, .LDG_SEQ, .LDG_STATE] t)) ∧
    (s.bit F.INJ_STATE_ACTIVE = true ∨ s.fld F.INJ_CFG_ACTION = 3 →
      ∃ t, exec (.injStart k c) s = .next t ∧ t.resp = .refused ∧ t.inj = s.inj ∧
        s.OnlyRegs [.TG_FLAGS, .LDG_SEQ, .LDG_STATE] t) ∧
    (s.bit F.INJ_STATE_ACTIVE = true → ∃ t, exec (.injStop k) s = .next t ∧ t.bit F.INJ_STATE_ACTIVE = false ∧
      t.fld F.INJ_STATE_END_CAUSE = 1 ∧ t.bit F.COM_FLAGS_INJ_END = true ∧
      s.OnlyRegs [.COM_FLAGS, .INJ_STATE, .LDG_SEQ, .LDG_STATE] t)) ∧
  (s.bit F.INJ_STATE_ACTIVE = true → s.elapsed s.inj.startAt (1000000000 * s.fld F.INJ_CFG2_INJ_T) = true →
    ∃ t, exec .injTimeout s = .next t ∧ t.bit F.INJ_STATE_ACTIVE = false ∧ t.fld F.INJ_STATE_END_CAUSE = 3 ∧
      s.OnlyRegs [.COM_FLAGS, .INJ_STATE, .LDG_SEQ, .LDG_STATE] t)

/-- FRAME_ENQUEUE, FRAME_SEND, ETH_FRAME_RX, PRP_SUPERVISION, ETH_LINK_CHANGE, PREEMPT_VERIFY_DONE (R536 to R541, R564):
a device queue is bound on its first frame, a full one of another class than PROTECT and SAFETY drops, a port that is UP sends what waits, the second PRP
copy is discarded, the port state follows its link where the port may leave electrical idle. -/
def Obligations.QueuesAndEthernetPorts : Prop :=
  ∀ s : State,
  (∀ (q : Fin 65536) (cls : Fin 6) (port kind dst : Byte) (pay : List Byte), s.sup.inReset = false →
    (s.qValid q = true → 2 ≤ s.qCls q → s.qDepth q ≤ s.qFill q →
      ∃ t, exec (.frameEnqueue q cls port kind dst pay) s = .next t ∧ t.com = s.com ∧
        t.bit F.COM_FLAGS_QUEUE_DROP = true ∧ s.OnlyAt [.COM_FLAGS] [(qAddr q, 64)] t) ∧
    (s.qValid q = true → s.qCls q < 2 ∨ s.qFill q < s.qDepth q → s.sendPorts q = [] →
      ∃ t, exec (.frameEnqueue q cls port kind dst pay) s = .next t ∧ t.com = s.com ∧
        s.OnlyAt [] [(qAddr q, 64)] t) ∧
    (∀ c, s.qValid q = false → q.val < 4096 → deviceClass q cls = some c →
      ∃ t, exec (.frameEnqueue q cls port kind dst pay) s = .next t ∧ t.qValid q = true ∧ t.qCls q = c ∧
        t.qPort q = port.toNat ∧ s.OnlyAt [] [(qAddr q, 64)] t) ∧
    (s.qValid q = true → s.qCls q < 2 ∨ s.qFill q < s.qDepth q → s.sendPorts q ≠ [] →
      ∃ t f, exec (.frameEnqueue q cls port kind dst pay) s = .next t ∧ t.frames_ q = s.frames_ q ++ [f] ∧
        f.payload = pay ∧ f.cls = s.qCls q ∧ f.todo.map (fun x => x.1) = s.sendPorts q ∧
        t.qFill q = (s.qFill q + 1) % 2 ^ 16 ∧ s.OnlyAt [] [(qAddr q, 64)] t)) ∧
  (∀ p : Fin 4,
    (s.portUp p = false → ∃ t, exec (.frameSend p) s = .next t ∧ t.com.queues = s.com.queues ∧
      t.outbox = s.outbox ∧ s.OnlyRegs [.COM_PORT_STATE] t) ∧
    ∀ (q : Nat) (f : QFrame), s.portUp p = true → s.com.pubs = [] → s.com.queues = [(q, [f])] → f.todo = [(p.val, 0)] → f.cls ≤ 3 →
      (s.unitRec (unitKey 5 (q / 8192) 0 false)).restarting = false → s.bit F.INJ_STATE_ACTIVE = false →
      ∃ t, exec (.frameSend p) s = .next t ∧ s.frameOut p q f 0 ∈ t.outbox ∧ t.frames_ q = [] ∧
        s.OnlyAt [.COM_PORT_STATE] [(qAddr q, 64)] t) ∧
  (∀ (p : Fin 2) (f : EthFrame), s.portUp p = true → s.bit F.INJ_STATE_ACTIVE = false → s.inj.heldRx = none →
    (f.good = false → ∃ t, exec (.ethFrameRx p f) s = .next t ∧ t.com = s.com ∧ s.OnlyRegs [] t) ∧
    (f.good = true → bitOf s.com.ethNow 0 = false ∨ f.prp = none →
      ∃ t, exec (.ethFrameRx p f) s = .next t ∧ t.com = s.com ∧ s.OnlyAt [] [(qAddr f.queue, 64)] t) ∧
    ∀ (seq : BitVec 16), f.good = true → bitOf s.com.ethNow 0 = true → f.prp = some (p == 1, seq) →
      (s.prpKnown f.src.toNat seq.toNat = true →
        ∃ t, exec (.ethFrameRx p f) s = .next t ∧ t.com = s.com ∧
          t.fld F.ETH_PRP_CNT_DUP_DISC p = (s.fld F.ETH_PRP_CNT_DUP_DISC p + 1) % 2 ^ 16 ∧
          s.OnlyRegs [.ETH_PRP_CNT] t) ∧
      (s.prpKnown f.src.toNat seq.toNat = false →
        ∃ t, exec (.ethFrameRx p f) s = .next t ∧ t.prpKnown f.src.toNat seq.toNat = true ∧
          s.OnlyAt [] [(qAddr f.queue, 64)] t)) ∧
  (bitOf s.com.ethNow 0 = true → ∃ t, exec .prpSupervision s = .next t ∧ s.OnlyRegs [] t ∧
    ∀ p, p < 2 → s.portUp p = true → Msg.prpSupervision p ∈ t.outbox) ∧
  ∀ p : Fin 2,
    (∀ st : Fin 3, s.portFenced p = true ∨ s.ethAllowed p = false →
      ∃ t, exec (.ethLinkChange p st) s = .next t ∧ t.fld F.COM_PORT_STATE_PSTATE p = 0 ∧
        s.OnlyRegs [.COM_PORT_STATE] t) ∧
    (∀ st : Fin 3, s.portFenced p = false → s.ethAllowed p = true →
      ∃ t, exec (.ethLinkChange p st) s = .next t ∧ t.fld F.COM_PORT_STATE_PSTATE p = 2 * st.val ∧
        (s.portUp p = true → st.val ≠ 2 → t.bit F.COM_PORT_STATE_PREEMPT_ACTIVE p = false ∧
          t.fld F.COM_PORT_STATE_LOSS_CNT p = min 0xFFFF (s.fld F.COM_PORT_STATE_LOSS_CNT p + 1)) ∧
        s.OnlyRegs [.COM_PORT_STATE] t) ∧
    (s.portUp p = true → s.bit F.COM_PORT_CFG_PREEMPT_EN p = true →
      ∃ t, exec (.preemptVerifyDone p) s = .next t ∧ t.bit F.COM_PORT_STATE_PREEMPT_ACTIVE p = true ∧
        s.OnlyRegs [.COM_PORT_STATE] t)

/-- SPAN_SELF_TEST_PASS, SPAN_SELF_TEST_TIMEOUT, SPAN_TRAIN_DONE, SPAN_LOCK_LOST, NEIGHBOUR_SEND, NEIGHBOUR_MISS,
JOIN_TIMEOUT, JOIN_RETRY (R552 to R554): the Span ports test, train, greet their neighbours and fall back.
RING_SCAN_SEND, RING_SCAN_TIMEOUT, SPAN_FRAME_RX, COORD_TRIP_RX, SPAN_TRIP_RX_READ (R547, R551, R552, R555, R570): a scan
that returns closes the ring, one that does not opens it, a frame for another device is passed on with one hop
fewer, a coordinated trip is delivered, shown and followed. -/
def Obligations.SpanPortsJoinAndCarryFramesAndTrips : Prop :=
  (
    ∀ s : State,
    (s.portFenced 2 = false → s.portFenced 3 = false →
      (s.pstate false = 1 → s.pstate true = 1 →
        (∃ t, exec .spanSelfTestPass s = .next t ∧ t.pstate false = 2 ∧ t.pstate true = 2 ∧
          t.bit F.SPAN_STATE_BYPASS_HOLD = true ∧ t.span.joinAt = some s.now ∧
          s.OnlyRegs [.COM_PORT_STATE, .SPAN_STATE] t) ∧
        (s.elapsed s.span.testAt 100000000 = true →
          ∃ t, exec .spanSelfTestTimeout s = .next t ∧ t.bit F.SPAN_FLAGS_SELF_FAIL = true ∧
            t.pstate false = (if 2 ≤ s.span.fails then 0 else 1) ∧ t.pstate true = (if 2 ≤ s.span.fails then 0 else 1) ∧
            s.OnlyRegs [.COM_PORT_STATE, .SPAN_FLAGS] t)) ∧
      (∀ t0, s.span.failAt = some t0 → s.elapsed t0 10000000000 = true →
        ∃ t, exec .joinRetry s = .next t ∧ t.pstate false = 1 ∧ t.pstate true = 1 ∧ t.span.failAt = none ∧
          s.OnlyRegs [.COM_PORT_STATE, .SPAN_FLAGS, .SPAN_STATE, .LDG_SEQ, .LDG_STATE] t) ∧
      ∀ w : Bool,
        (s.pstate w = 2 → ∃ t, exec (.spanTrainDone w) s = .next t ∧ t.pstate w = 3 ∧
          t.bit F.COM_PORT_STATE_FEC_LOCK (spanPort w) = true ∧ s.OnlyRegs [.COM_PORT_STATE] t) ∧
        (s.pstate w = 5 → ∃ t, exec (.spanLockLost w) s = .next t ∧ t.pstate w = 2 ∧
          t.bit F.COM_PORT_STATE_FEC_LOCK (spanPort w) = false ∧ s.OnlyRegs [.COM_PORT_STATE] t) ∧
        (s.pstate w = 4 →
          (∃ t, exec (.spanLockLost w) s = .next t ∧ t.pstate w = 2 ∧ t.bit F.SPAN_FLAGS_RETRAIN = true ∧
            t.fld F.SPAN_STATE_RETRAINS = min 0xFFFF (s.fld F.SPAN_STATE_RETRAINS + 1) ∧
            s.OnlyRegs [.COM_PORT_STATE, .SPAN_FLAGS, .SPAN_STATE, .LDG_SEQ, .LDG_STATE] t) ∧
          (s.elapsed (if w then s.span.nbrAt[1] else s.span.nbrAt[0]) 30000 = true →
            ∃ t, exec (.neighbourMiss w) s = .next t ∧ t.pstate w = 2 ∧ t.bit F.SPAN_FLAGS_RETRAIN = true ∧
              s.OnlyRegs [.COM_PORT_STATE, .SPAN_FLAGS, .SPAN_STATE, .LDG_SEQ, .LDG_STATE] t))) ∧
    (∀ t0, s.span.joinAt = some t0 → s.span.joined = false → s.elapsed t0 1000000000 = true →
      ∃ t, exec .joinTimeout s = .next t ∧ t.bit F.SPAN_STATE_BYPASS_HOLD = false ∧
        t.bit F.SPAN_FLAGS_JOIN_FAIL = true ∧ t.span.failAt = some s.now ∧ t.span.joinAt = none ∧
        s.OnlyRegs [.SPAN_FLAGS, .SPAN_STATE] t) ∧
    (s.bit F.INJ_STATE_ACTIVE = false →
      ∃ t, exec .neighbourSend s = .next t ∧ s.OnlyRegs [] t ∧
        ∀ w : Bool, s.pstate w = 3 ∨ s.pstate w = 4 →
          ∃ f : SpanFrame, spanMsg w f ∈ t.outbox ∧ f.kind = 0x04 ∧ f.hops = 0 ∧ f.dst = 0xFF ∧ f.payload = s.ringBytes)) ∧
  ∀ s : State,
  (s.bit F.SPAN_CFG_SPAN_EN = true → s.sup.inReset = false → s.bit F.INJ_STATE_ACTIVE = false →
    ∃ t q, exec .ringScanSend s = .next t ∧ t.span.scans = s.span.scans ++ [(q, s.now)] ∧ s.OnlyRegs [] t ∧
      (s.spanUp false = false → t.outbox = s.outbox) ∧
      (s.spanUp false = true → ∃ f, spanMsg false f ∈ t.outbox ∧ f.kind = 0x05 ∧ f.hops = 63 ∧ f.dst = 0xFF ∧
        f.seq = BitVec.ofNat 32 q)) ∧
  (∀ (q t0 : Nat) (rest : List (Nat × Nat)), s.span.scans = (q, t0) :: rest → s.elapsed t0 20000000 = true →
    ∃ t, exec .ringScanTimeout s = .next t ∧ t.bit F.SPAN_STATE_RING_CLOSED = false ∧
      (s.span.ringOpen = false → t.bit F.SPAN_FLAGS_RING_OPEN = true) ∧ t.span.scans = rest ∧ s.OnlyRegs [.SPAN_FLAGS, .SPAN_STATE] t) ∧
  (∀ (w good : Bool) (q : Fin 65536) (res : Nat) (f : SpanFrame),
    (good = false ∨ f.version ≠ 1 ∨ kindKnown f.kind = false →
      ∃ t, exec (.spanFrameRx w good q res f) s = .next t ∧ t.outbox = s.outbox ∧ s.OnlyRegs [] t) ∧
    (good = true → f.version = 1 →
      (f.kind = 0x04 → s.pstate w = 3 → s.portFenced (spanPort w) = false →
        (f.payload = s.ringBytes → f.src.toNat ≠ s.fld F.SPAN_CFG_SPAN_ID →
          ∃ t, exec (.spanFrameRx w good q res f) s = .next t ∧ t.pstate w = 4 ∧
            s.OnlyRegs [.COM_PORT_STATE, .LDG_SEQ, .LDG_STATE] t) ∧
        (f.payload ≠ s.ringBytes ∨ f.src.toNat = s.fld F.SPAN_CFG_SPAN_ID →
          ∃ t, exec (.spanFrameRx w good q res f) s = .next t ∧ t.pstate w = 5 ∧
            t.bit F.SPAN_FLAGS_REFUSED = true ∧ s.OnlyRegs [.COM_PORT_STATE, .SPAN_FLAGS] t)) ∧
      (f.kind = 0x05 → w = true → s.spanUp w = true → f.src.toNat = s.fld F.SPAN_CFG_SPAN_ID →
        (∃ e ∈ s.span.scans, e.1 = f.seq.toNat) →
        ∃ t, exec (.spanFrameRx w good q res f) s = .next t ∧ t.bit F.SPAN_STATE_RING_CLOSED = true ∧
          t.fld F.SPAN_STATE_RING_N = min 64 ((f.payload.headD 0).toNat + 1) ∧ s.OnlyRegs [.SPAN_STATE] t) ∧
      (f.kind = 0x05 → s.spanUp w = true → f.src.toNat = s.fld F.SPAN_CFG_SPAN_ID →
        w = false ∨ (∀ e ∈ s.span.scans, e.1 ≠ f.seq.toNat) →
        ∃ t, exec (.spanFrameRx w good q res f) s = .next t ∧ t.bit F.SPAN_FLAGS_DUP_ID = true ∧
          s.OnlyRegs [.SPAN_FLAGS] t) ∧
      (f.kind = 0x01 → s.spanUp w = true → f.dst.toNat = s.fld F.SPAN_CFG_SPAN_ID → f.dual = false →
        f.frag = false → f.src.toNat ≠ s.fld F.SPAN_CFG_SPAN_ID → s.bit F.INJ_STATE_ACTIVE = false →
        s.inj.heldRx = none →
        ∃ t, exec (.spanFrameRx w good q res f) s = .next t ∧ t.span.tripRx = s.span.tripRx ++ [f] ∧
          t.outbox = s.outbox ∧ s.OnlyRegs [] t) ∧
      (f.kind = 0x01 ∨ f.kind = 0x02 ∨ f.kind = 0x10 → s.spanUp w = true →
        (f.src.toNat = s.fld F.SPAN_CFG_SPAN_ID →
          ∃ t, exec (.spanFrameRx w good q res f) s = .next t ∧ t.outbox = s.outbox ∧ s.OnlyRegs [] t) ∧
        (f.src.toNat ≠ s.fld F.SPAN_CFG_SPAN_ID → f.dst.toNat ≠ s.fld F.SPAN_CFG_SPAN_ID → f.dst ≠ 0xFF →
          1 < f.hops.toNat → s.spanUp (!w) = true →
          ∃ t, exec (.spanFrameRx w good q res f) s = .next t ∧ s.OnlyRegs [] t ∧
            t.outbox = s.outbox ++ [spanMsg (!w) { f with hops := f.hops - 1 }])))) ∧
  (∀ (f : SpanFrame) (rest : List SpanFrame), s.span.tripRx = f :: rest →
    ∃ t, exec .coordTripRx s = .next t ∧ t.span.tripRx = rest ∧ t.reg .SPAN_TRIP_RX 3 = f.seq.toNat ∧
      t.fld F.SPAN_TRIP_RX_ORIGIN = f.src.toNat ∧ t.bit F.SPAN_FLAGS_TRIP_RX = true ∧
      (∀ n, s.present n = true → s.cstate n = csReady →
        (s.fld F.SPAN_CFG_FOLLOW = 2 → t.cstate n = if s.allOff n then csOpen else csOpening) ∧
        (s.fld F.SPAN_CFG_FOLLOW = 1 → (t.trim n).zeroAt ≠ none ∧ t.cstate n = csReady) ∧
        (s.fld F.SPAN_CFG_FOLLOW = 0 → t.cstate n = csReady)) ∧
      s.OnlyRegs ([.DSP_FLAGS, .DSP_REC_STAMP, .DSP_REC_STATE, .DSP_REC_TRIG, .DSP_STR_BAL, .SHR_FRAC, .SPAN_FLAGS,
        .SPAN_TRIP_RX] ++ restRegs) t) ∧
  ∀ who : Fin 384, s.reader who = true →
    ∃ t, exec (.spanTripRxRead who) s = .next t ∧ t.resp = .ok (s.reg .SPAN_TRIP_RX 0) ∧
      (∀ j, 1 ≤ j → j ≤ 3 → t.shadow who .SPAN_TRIP_RX j 0 = s.reg .SPAN_TRIP_RX j) ∧ s.OnlyRegs [] t

/-- TB_NS_READ, BF_SNAP, TB_INC_WRITE, TB_ADJ_WRITE, SLEW_DONE, TB_APPLY (R576 to R580): reads copy one edge into the
reader's shadows, the integer part applies the held fraction, a slew runs and ends, a step takes the staged
value and costs qualification. -/
def Obligations.TimeBasesAreReadSlewedAndStepped : Prop :=
  ∀ s : State,
  (∀ (who : Fin 384) (b : Fin 8), s.reader who = true →
    ∃ t, exec (.tbNsRead who b) s = .next t ∧ t.resp = .ok (s.tb b).ns ∧
      t.shadow who .TB_SEC_LO b 0 = (s.tb b).sec % 2 ^ 32 ∧
      t.shadow who .TB_SEC_HI b 0 = (s.tb b).sec / 2 ^ 32 % 2 ^ 32 ∧
      t.shadow who .TB_FRAC b 0 = (s.tb b).frac % 2 ^ 32 ∧ s.OnlyRegs [] t) ∧
  (∀ k : Fin 256, (s.session k).isOpen = true →
    ∃ t, exec (.bfSnap k) s = .next t ∧ s.OnlyRegs [] t ∧ ∀ b, b < 8 →
      t.shadow k .TB_SNAP_NS b 0 = (s.tb b).ns % 2 ^ 32 ∧
      t.shadow k .TB_SNAP_SEC_LO b 0 = (s.tb b).sec % 2 ^ 32 ∧
      t.shadow k .TB_SNAP_SEC_HI b 0 = (s.tb b).sec / 2 ^ 32 % 2 ^ 32) ∧
  (∀ (who : Fin 384) (k : Fin 256) (b : Fin 8) (v : Word), who.val = k.val →
    (s.MayStore k .TB_INC_NS b 0 v.toNat → ∃ t, exec (.tbIncWrite who b v) s = .next t ∧
      (t.tb b).incFrac = s.reg .TB_INC_FRAC b ∧ (t.tb b).ns = (s.tb b).ns ∧ s.Stored .TB_INC_NS b 0 v.toNat [] t) ∧
    (s.MayStore k .TB_ADJ b 0 v.toNat → ∀ d, d = toSigned 32 (s.newWord .TB_ADJ b 0 v.toNat) →
      (d ≠ 0 → ∃ t, exec (.tbAdjWrite who b v) s = .next t ∧ (t.tb b).left = d * 2 ^ 32 ∧
        t.bit F.TB_STATE_ADJ_ACTIVE b = true ∧ s.Stored .TB_ADJ b 0 v.toNat [.TB_FLAGS, .TB_STATE] t) ∧
      (d = 0 → s.bit F.TB_STATE_ADJ_ACTIVE b = true → (s.tb b).left ≠ 0 →
        ∃ t, exec (.tbAdjWrite who b v) s = .next t ∧ (t.tb b).left = 0 ∧
          t.bit F.TB_STATE_ADJ_ACTIVE b = false ∧ t.bit F.TB_FLAGS_ADJ_CANCEL b = true ∧
          s.Stored .TB_ADJ b 0 v.toNat [.TB_FLAGS, .TB_STATE] t)) ∧
    (s.MayWrite k .TB_CMD b →
      (s.reg .TB_SET_NS b < 1000000000 →
        ∃ t, exec (.tbApply who b) s = .next t ∧ (t.tb b).apply = some (s.staged b) ∧ (t.tb b).left = 0 ∧
          t.bit F.TB_STATE_QUAL b = false ∧ t.bit F.TB_STATE_STAGED b = false ∧ t.bit F.TB_FLAGS_STEP b = true ∧
          s.OnlyRegs [.LDG_SEQ, .LDG_STATE, .MEAS_GFLAGS, .MEAS_WIN_STATE, .TB_ADJ, .TB_FLAGS, .TB_STATE] t) ∧
      (1000000000 ≤ s.reg .TB_SET_NS b →
        ∃ t, exec (.tbApply who b) s = .next t ∧ t.resp = .refused ∧ t.tbs = s.tbs ∧
          s.OnlyRegs [.TG_FLAGS, .LDG_SEQ, .LDG_STATE] t))) ∧
  (∀ (who : Fin 384) (b : Fin 8) (v : Word), s.isServo who = true →
    (∃ t, exec (.tbIncWrite who b v) s = .next t ∧ t.reg .TB_INC_NS b = s.newWord .TB_INC_NS b 0 v.toNat ∧
      (t.tb b).incFrac = s.reg .TB_INC_FRAC b ∧ s.OnlyRegs [.TB_INC_NS] t) ∧
    (∀ d, d = toSigned 32 (s.newWord .TB_ADJ b 0 v.toNat) → d ≠ 0 →
      ∃ t, exec (.tbAdjWrite who b v) s = .next t ∧ (t.tb b).left = d * 2 ^ 32 ∧
        t.bit F.TB_STATE_ADJ_ACTIVE b = true ∧ s.OnlyRegs [.TB_ADJ, .TB_FLAGS, .TB_STATE] t) ∧
    (s.reg .TB_SET_NS b < 1000000000 →
      ∃ t, exec (.tbApply who b) s = .next t ∧ (t.tb b).apply = some (s.staged b) ∧
        t.bit F.TB_FLAGS_STEP b = true ∧
        s.OnlyRegs [.LDG_SEQ, .LDG_STATE, .MEAS_GFLAGS, .MEAS_WIN_STATE, .TB_ADJ, .TB_FLAGS, .TB_STATE] t) ∧
    (1000000000 ≤ s.reg .TB_SET_NS b →
      ∃ t, exec (.tbApply who b) s = .next t ∧ t.tbs = s.tbs ∧ s.OnlyRegs [] t)) ∧
  ∀ b : Fin 8, s.bit F.TB_STATE_ADJ_ACTIVE b = true → (s.tb b).left = 0 →
    ∃ t, exec (.slewDone b) s = .next t ∧ t.bit F.TB_STATE_ADJ_ACTIVE b = false ∧
      t.bit F.TB_FLAGS_ADJ_DONE b = true ∧ s.OnlyRegs [.TB_FLAGS, .TB_STATE] t

/-- TB_SERVO_REPORT, SERVO_REPORT_TIMEOUT, REF_REPORT, REF_REPORT_TIMEOUT, HOLDOVER_QUAL_END (R583 to R587): good reports
for QUAL_T qualify, a bad or missing one disqualifies, a BAD reference in use without another is HOLDOVER, a better one returns after
REQUAL_T.
PTP_MESSAGE_RX, SPAN_SYNC_SEND, SPAN_PDELAY, GRID_SYNC_EDGE, GRID_EDGE_MISSING (R591, R592, R595): messages are
stamped and a Pdelay_Req answered, a Sync leaves every port that is UP while A or B is in use, edges are kept. -/
def Obligations.ReferencesAreSelectedAndNetworkTimeIsSent : Prop :=
  (
    ∀ s : State,
    (∀ who : Fin 384, s.isServo who = true →
      (∀ (b : Fin 8) (v : Word), ∃ t, exec (.tbServoReport who b v) s = .next t ∧ (t.tb b).rptAt = some s.now ∧
        s.OnlyRegs [.BF_REF_STATE, .MEAS_GFLAGS, .MEAS_WIN_STATE, .TB_FLAGS, .TB_SERVO, .TB_STATE] t ∧
        (t.goodReport b = false → (t.tb b).runAt = none ∧
          t.bit F.TB_STATE_QUAL b = (s.holdKept b && s.bit F.TB_STATE_QUAL b)) ∧
        (t.goodReport b = true →
          ((s.tb b).runAt = none → (t.tb b).runAt = some s.now) ∧
          ∀ t0, (s.tb b).runAt = some t0 →
            t.bit F.TB_STATE_QUAL b =
              (s.elapsed t0 (500000000 * s.fld F.BF_REF_CFG_QUAL_T) || s.bit F.TB_STATE_QUAL b))) ∧
      ∀ (r : Fin 3) (v : Word) (w : Nat), w = s.newWord .BF_REF_RPT r 0 v.toNat →
        (bitOf w 0 = false → s.refNo = r.val → (∀ j, j < 3 → j ≠ r.val → s.refValid j = false) →
          ∃ t, exec (.refReport who r v) s = .next t ∧ t.refNo = 3 ∧ t.bit F.BF_REF_FLAGS_HOLDOVER = true ∧
            t.bit F.BF_REF_FLAGS_REF_SWITCH = true ∧ t.bel.holdAt = s.now ∧ (t.tb 0).left = 0 ∧
            s.OnlyRegs [.BF_REF_FLAGS, .BF_REF_RPT, .BF_REF_STATE, .TB_ADJ, .TB_FLAGS, .TB_STATE] t) ∧
        (bitOf w 0 = true → s.refNo = 3 → r.val ≠ 2 ∨ s.bit F.BF_REF_STATE_SPAN_ALLOW = true →
          ∃ t, exec (.refReport who r v) s = .next t ∧ t.refNo = r.val ∧ t.bit F.BF_REF_STATE_SWITCHING = true ∧
            t.bit F.BF_REF_FLAGS_REF_SWITCH = true ∧ s.OnlyRegs [.BF_REF_FLAGS, .BF_REF_RPT, .BF_REF_STATE] t) ∧
        ∀ t0, bitOf w 0 = true → r.val < s.refNo → s.refNo ≠ 3 → s.bit F.BF_REF_STATE_SWITCHING = false →
          (s.ref r).waits = false → (s.ref r).validAt = some t0 →
          s.elapsed t0 (1000000000 * s.fld F.BF_REF_CFG_REQUAL_T) = true →
          ∃ t, exec (.refReport who r v) s = .next t ∧ t.refNo = r.val ∧ t.bit F.BF_REF_FLAGS_REF_RETURN = true ∧
            s.OnlyRegs [.BF_REF_FLAGS, .BF_REF_RPT, .BF_REF_STATE] t) ∧
    (∀ (b : Fin 8) (t0 : Nat), (s.tb b).rptAt = some t0 → s.elapsed t0 3000000000 = true →
      ∃ t, exec (.servoReportTimeout b) s = .next t ∧
        t.bit F.TB_STATE_QUAL b = (s.holdKept b && s.bit F.TB_STATE_QUAL b) ∧
        ((s.tb b).late = false → t.bit F.TB_FLAGS_SERVO_LATE b = true) ∧ (t.tb b).rptAt = (if s.holdKept b then some s.now else none) ∧
        s.OnlyRegs [.MEAS_GFLAGS, .MEAS_WIN_STATE, .TB_FLAGS, .TB_STATE] t) ∧
    (∀ (r : Fin 3) (t0 : Nat), (s.ref r).rptAt = some t0 → s.elapsed t0 3000000000 = true → s.refNo = r.val →
      (∀ j, j < 3 → j ≠ r.val → s.refValid j = false) →
      ∃ t, exec (.refReportTimeout r) s = .next t ∧ t.refNo = 3 ∧ t.bit F.BF_REF_FLAGS_HOLDOVER = true ∧
        s.OnlyRegs [.BF_REF_FLAGS, .BF_REF_STATE, .TB_ADJ, .TB_FLAGS, .TB_STATE] t) ∧
    (s.refNo = 3 → s.elapsed s.bel.holdAt (1000000000 * s.fld F.ALM_STATE_HOLD_QUAL_EFF) = true →
      ∃ t, exec .holdoverQualEnd s = .next t ∧ t.bit F.TB_STATE_QUAL 0 = false ∧ s.OnlyRegs [.TB_FLAGS, .TB_STATE] t)) ∧
  ∀ s : State,
  (∀ (p : Fin 4) (k : PtpKind) (sub : Fin 65536), s.portUp p = true → s.bit F.INJ_STATE_ACTIVE = false →
    s.inj.heldRx = none → s.inj.heldTx = none →
    ∃ t, exec (.ptpMessageRx p k sub) s = .next t ∧ s.OnlyRegs [] t ∧
      t.bel.rxStamp[p] = s.stampOn (portBase p) sub - s.sfld F.BF_ASYM_IN_LAT p ∧
      (k = .pdelayReq → p.val < 2 → t.outbox = s.outbox ++
        [.ptp p .pdelayResp (s.egress p).1 (s.egress p).2.1 ((s.egress p).2.2 - t.bel.rxStamp[p])]) ∧
      (k = .pdelayReq → 2 ≤ p.val → ∃ f, t.outbox = s.outbox ++ [spanMsg (p.val == 3) f] ∧ f.kind = 0x03 ∧ f.hops = 0 ∧
        f.payload = syncBytes (s.egress p).1 (s.egress p).2.1 ∧
        f.corr = BitVec.ofInt 64 ((s.egress p).2.2 - t.bel.rxStamp[p])) ∧
      (k ≠ .pdelayReq → t.outbox = s.outbox)) ∧
  (s.bit F.INJ_STATE_ACTIVE = false →
    (s.refNo ≤ 1 → ∃ t, exec .spanSyncSend s = .next t ∧ s.OnlyRegs [] t ∧
      ∀ w : Bool, s.spanUp w = true →
        ∃ f : SpanFrame, spanMsg w f ∈ t.outbox ∧ f.kind = 0x03 ∧ f.dst = 0xFF ∧ f.cls = 3 ∧
          f.payload = syncBytes (s.egress (spanPort w)).1 (s.egress (spanPort w)).2.1) ∧
    (1 < s.refNo → ∃ t, exec .spanSyncSend s = .next t ∧ t.outbox = s.outbox ∧ s.OnlyRegs [] t) ∧
    ∀ (w : Bool) (d : Word), s.spanUp w = true →
      ∃ t, exec (.spanPdelay w d) s = .next t ∧ t.reg .BF_SPAN_PDLY (if w then 1 else 0) = d.toNat ∧
        s.OnlyRegs [.BF_SPAN_PDLY] t) ∧
  (∀ sub : Fin 65536, s.sup.inReset = false → ∃ t, exec (.gridSyncEdge sub) s = .next t ∧ t.bel.edges = (s.now :: s.bel.edges).take 16 ∧
    t.bel.gridStamp = (s.stampOn 0 sub, s.stampOn 2 sub) ∧ s.OnlyRegs [] t) ∧
  ∀ (a b : Nat) (rest : List Nat), s.bel.edges = a :: b :: rest → s.elapsed a ((a - b) * 3 / 2) = true →
    ∃ t, exec .gridEdgeMissing s = .next t ∧ t.bel.gridMiss = true ∧ s.OnlyRegs [] t

/-- PARAPET_PDU_RX, PARAPET_WATCHDOG, PARAPET_RELAY (R615, R616, R618 to R623): an unsound PDU is only counted, the next
SEQ is accepted and its RUN bits are the permits, a jump or a timeout is FAILSAFE with every channel latched,
a datagram for another device is relayed both ways.
SSI_LANE_MISMATCH, SSI_READBACK_FAULT, SSI_GATE_TEST, PROOF_DUE, SSI_LAST_READ (R625, R626, R629, R635): a failed
self-check is Safe-state with its cause, an old demand stamp asks for a proof. -/
def Obligations.ParapetPermitsFailSafeAndSelfChecks : Prop :=
  (
    ∀ s : State,
    (∀ (span : Bool) (src : Nat) (p : ParPdu), s.sup.inReset = false →
      (p.lenOk = true → p.scrcOk = false →
        ∃ t, exec (.parapetPduRx span src p) s = .next t ∧ t.pars = s.pars ∧ t.bit F.SSI_FLAGS_FRAME_CRC = true ∧
          t.fld F.SSI_DISCARD_CRC_CNT = (s.fld F.SSI_DISCARD_CRC_CNT + 1) % 2 ^ 16 ∧
          s.OnlyRegs ([.SSI_DISCARD, .SSI_FLAGS] ++ restRegs) t) ∧
      ∀ i, p.lenOk = true → p.scrcOk = true → p.version = 1 →
        (s.conns.find? fun j => s.reg .PAR_ID j == p.connId.toNat) = some i → s.parState i = 2 → s.parLate i = false →
        span = true → s.fld F.PAR_CFG_TRANSPORT i = 1 ∨ s.fld F.PAR_CFG_TRANSPORT i = 2 → p.type = 1 →
        100 ≤ p.tExp.toNat → p.tExp.toNat ≤ s.fld F.PAR_CFG_T_EXP_MAX i →
        (p.seq.toNat = (s.reg .PAR_RXSEQ i + 1) % 2 ^ 32 →
          ∃ t, exec (.parapetPduRx span src p) s = .next t ∧ t.parState i = 2 ∧ t.reg .PAR_RXSEQ i = p.seq.toNat ∧
            t.fld F.PAR_STATE_T_EXP_NOW i = p.tExp.toNat ∧ (t.par i).startedAt = s.now ∧
            ∀ n, n < 32 → bitOf (s.chMask i) n = true → bitOf p.run.toNat n = false →
              bitOf (t.reg .SSI_PERMIT_B) n = false ∧ bitOf (t.reg .PAR_LATCH i) n = true ∧
              (s.present n = true → bitOf (s.reg .SSI_DEMAND) n = false → t.resting n = true)) ∧
        (p.seq.toNat ≠ (s.reg .PAR_RXSEQ i + 1) % 2 ^ 32 → (s.reg .PAR_RXSEQ i + 2 ^ 32 - p.seq.toNat) % 2 ^ 32 ≤ 64 →
          ∃ t, exec (.parapetPduRx span src p) s = .next t ∧ t.reg .PAR_RXSEQ i = s.reg .PAR_RXSEQ i ∧
            t.fld F.PAR_CNT_DUP i = (s.fld F.PAR_CNT_DUP i + 1) % 2 ^ 16 ∧ s.OnlyRegs (.PAR_CNT :: restRegs) t) ∧
        (p.seq.toNat ≠ (s.reg .PAR_RXSEQ i + 1) % 2 ^ 32 → 64 < (s.reg .PAR_RXSEQ i + 2 ^ 32 - p.seq.toNat) % 2 ^ 32 →
          ∃ t, exec (.parapetPduRx span src p) s = .next t ∧ t.parState i = 3 ∧ t.fld F.PAR_STATE_CAUSE i = 2 ∧
            t.reg .PAR_LATCH i = s.chMask i ∧ t.bit F.SSI_FLAGS_CONN_FAILSAFE = true)) ∧
    (∀ i : Fin 256, s.parLate i = true →
      ∃ t, exec (.parapetWatchdog i) s = .next t ∧ t.parState i = 3 ∧ t.fld F.PAR_STATE_CAUSE i = 1 ∧
        t.reg .PAR_LATCH i = s.chMask i ∧ t.bit F.SSI_FLAGS_CONN_FAILSAFE = true) ∧
    ∀ (d : Byte) (c : Word) (src : Nat) (pdu : List Byte),
      (d.toNat = s.fld F.SPAN_CFG_SPAN_ID ∨ s.bit F.SSI_CFG_RELAY_EN = false →
        ∃ t, exec (.parapetRelay d c src pdu) s = .next t ∧ t.outbox = s.outbox ∧ s.OnlyRegs [] t) ∧
      (d.toNat ≠ s.fld F.SPAN_CFG_SPAN_ID → s.bit F.SSI_CFG_RELAY_EN = true → s.bit F.INJ_STATE_ACTIVE = false →
        ∃ t, exec (.parapetRelay d c src pdu) s = .next t ∧ s.OnlyRegs [] t ∧
          ∀ w : Bool, s.spanUp w = true →
            ∃ f : SpanFrame, spanMsg w f ∈ t.outbox ∧ f.kind = 0x02 ∧ f.dst = d ∧ f.dual = true ∧ f.payload = pdu)) ∧
  ∀ s : State,
  (s.safe = false →
    (∀ m : Word, m ≠ 0 → s.sup.inReset = false → ∃ t, exec (.ssiLaneMismatch m) s = .next t ∧ t.safe = true ∧
      t.fld F.KEY_SAFE_CAUSE_CAUSE = 0x0900 ∧ (∀ n, n < s.variant.channels → bitOf m.toNat n = true → bitOf (t.reg .SSI_DEMAND) n = true) ∧
      (∀ n, s.present n = true → t.resting n = true) ∧ s.OnlyRecords (.SSI_DEMAND :: safeRegs) t) ∧
    ∀ ch : Fin 32, s.present ch = true →
      (s.sup.inReset = false → ∃ t, exec (.ssiReadbackFault ch) s = .next t ∧ t.safe = true ∧ t.fld F.KEY_SAFE_CAUSE_CAUSE = 0x0902 ∧
        (∀ n, s.present n = true → t.resting n = true) ∧ s.OnlyRecords safeRegs t) ∧
      ∀ lane : Fin 2, s.phase = 1 →
        ∃ t, exec (.ssiGateTest ch lane false) s = .next t ∧ t.safe = true ∧
          t.fld F.KEY_SAFE_CAUSE_CAUSE = 0x0901 ∧ s.OnlyRecords safeRegs t) ∧
  (∀ (ch : Fin 32) (lane : Fin 2), ∃ t, exec (.ssiGateTest ch lane true) s = .next t ∧ t.safe = s.safe ∧
    s.OnlyRegs restRegs t) ∧
  (∀ ch : Fin 32, s.present ch = true →
    (∃ e ∈ s.ldgState.ssi, e.1 = ch.val ∧ e.2 + 86400 * s.fld F.SSI_PROOF_CFG_PROOF_T < s.tbSec 0) →
    ∃ t, exec (.proofDue ch) s = .next t ∧ bitOf (t.reg .SSI_PROOF_DUE) ch = true ∧ s.OnlyRegs [.SSI_PROOF_DUE] t) ∧
  ∀ who : Fin 384, s.reader who = true →
    ∃ t, exec (.ssiLastRead who) s = .next t ∧ t.resp = .ok (s.reg .SSI_LAST 0) ∧
      (∀ j, 1 ≤ j → j ≤ 3 → t.shadow who .SSI_LAST j 0 = s.reg .SSI_LAST j) ∧ s.OnlyRegs [] t

/-- MAKER_EN_ASSERT, MAKER_EN_DEASSERT, DEBUG_EN_WRITE, JTAG_INSTRUCTION, KEY_PROGRAM, KEY_REVOKE (R643 to R645): MAKER_EN
counts after 10 ms and drops debug with it, EXTEST needs every channel resting, a key slot is programmed once, one
good slot always remains. -/
def Obligations.MakerDebugAndKeySlots : Prop :=
  ∀ s : State,
  (∀ us : Nat,
    (s.bit F.TG_STATE_MAKER_EN = false → s.sup.inReset = false → 10000 ≤ us → ∃ t, exec (.makerEnAssert us) s = .next t ∧
      t.bit F.TG_STATE_MAKER_EN = true ∧ s.OnlyRegs [.TG_STATE, .LDG_SEQ, .LDG_STATE] t) ∧
    (us < 10000 → ∃ t, exec (.makerEnAssert us) s = .next t ∧ s.OnlyRegs [] t) ∧
    (s.bit F.TG_STATE_MAKER_EN = true → 1000 ≤ us →
      ∃ t, exec (.makerEnDeassert us) s = .next t ∧ t.bit F.TG_STATE_MAKER_EN = false ∧
        t.bit F.TG_DEBUG_DEBUG_EN = false ∧ t.bit F.TG_STATE_DEBUG_ON = false ∧
        t.bit F.TG_FLAGS_MAKER_DROP = true ∧ (t.tg.jtag = .bypass ∨ t.tg.jtag = .idcode) ∧ t.tg.halted = [] ∧
        (s.tg.halted = [] → s.OnlyAt [.COM_FLAGS, .COM_STATE, .INJ_STATE, .LDG_SEQ, .LDG_STATE, .PLK_STATE, .SSI_PERMIT_A, .TG_DEBUG,
          .TG_FLAGS, .TG_STATE] (s.com.bound.map fun e => (qAddr e.1, 64)) t))) ∧
  (∀ (k : Fin 256) (v : Word), s.MayWrite k .TG_DEBUG 0 →
    ∃ t, exec (.debugEnWrite k v) s = .next t ∧ t.reg .TG_DEBUG = s.newWord .TG_DEBUG 0 0 v.toNat ∧
      t.bit F.TG_STATE_DEBUG_ON = t.bit F.TG_DEBUG_DEBUG_EN ∧
      s.OnlyRegs [.LDG_SEQ, .LDG_STATE, .PLK_STATE, .SSI_PERMIT_A, .TG_DEBUG, .TG_STATE] t) ∧
  ((∃ t, exec (.jtagInstruction .idcode) s = .next t ∧ t.tg.jtag = .idcode ∧ s.OnlyRegs [.PLK_STATE, .SSI_PERMIT_A] t) ∧
    (s.bit F.TG_DEBUG_DEBUG_EN = true → s.extestAllowed = true →
      ∃ t, exec (.jtagInstruction .extest) s = .next t ∧ t.tg.jtag = .extest ∧
        s.OnlyRegs [.PLK_STATE, .SSI_PERMIT_A] t) ∧
    (s.bit F.TG_DEBUG_DEBUG_EN = false ∨ s.extestAllowed = false →
      ∃ t, exec (.jtagInstruction .extest) s = .next t ∧ t.tg.jtag = s.tg.jtag ∧ s.OnlyRegs [] t) ∧
    (∃ t, exec (.jtagInstruction .bypass) s = .next t ∧ t.tg.jtag = .bypass ∧ s.OnlyRegs [.PLK_STATE, .SSI_PERMIT_A] t) ∧
    (s.bit F.TG_DEBUG_DEBUG_EN = true →
      ∃ t, exec (.jtagInstruction .samplePreload) s = .next t ∧ t.tg.jtag = .samplePreload ∧
        s.OnlyRegs [.PLK_STATE, .SSI_PERMIT_A] t) ∧
    ∀ e : Fin 128,
      (s.bit F.TG_DEBUG_DEBUG_EN = true →
        (s.tg.halted.contains e.val = false →
          ∃ t, exec (.jtagInstruction (.halt e)) s = .next t ∧ t.tg.jtag = .halt e ∧
            t.tg.halted = s.tg.halted ++ [e.val] ∧ (∀ b ∈ s.engineBlocks e, (t.blkE b).paused = true) ∧
            s.OnlyAt [.EST_FLAGS, .LRN_FLAGS, .PLK_STATE, .SSI_PERMIT_A]
              (((s.engineBlocks e).flatMap s.blockCells).map ctxArea) t) ∧
        ∃ t, exec (.jtagInstruction (.run e)) s = .next t ∧ t.tg.jtag = .run e ∧ e.val ∉ t.tg.halted) ∧
      (s.bit F.TG_DEBUG_DEBUG_EN = false → ∀ i ∈ [JtagIns.samplePreload, .halt e, .run e],
        ∃ t, exec (.jtagInstruction i) s = .next t ∧ t.tg = s.tg ∧ s.OnlyRegs [] t)) ∧
  ∀ (k : Fin 256) (slot : Fin 4), s.MayWrite k .TG_KEY_CMD 0 →
    (∀ id : Nat, bitOf (s.fld F.TG_KEYS_PROGRAMMED) slot = false →
      ∃ t, exec (.keyProgram k slot 0xF05E id) s = .next t ∧
        t.fld F.TG_KEYS_PROGRAMMED = s.fld F.TG_KEYS_PROGRAMMED ||| 2 ^ slot.val ∧ (slot.val, id) ∈ t.tg.fuseKeys ∧
        t.bit F.TG_FLAGS_KEY_PROG = true ∧ s.OnlyRegs [.LDG_SEQ, .LDG_STATE, .TG_FLAGS, .TG_KEYS] t) ∧
    (∀ (id : Nat) (key : BitVec 16), key ≠ 0xF05E ∨ bitOf (s.fld F.TG_KEYS_PROGRAMMED) slot = true →
      ∃ t, exec (.keyProgram k slot key id) s = .next t ∧ t.resp = .refused ∧ t.tg = s.tg ∧
        s.OnlyRegs [.TG_FLAGS, .LDG_SEQ, .LDG_STATE] t) ∧
    ((∃ b, b < 4 ∧ b ≠ slot.val ∧ bitOf (s.fld F.TG_KEYS_PROGRAMMED) b = true ∧
        bitOf (s.fld F.TG_KEYS_REVOKED) b = false) →
      ∃ t, exec (.keyRevoke k slot 0xF05E) s = .next t ∧
        t.fld F.TG_KEYS_REVOKED = s.fld F.TG_KEYS_REVOKED ||| 2 ^ slot.val ∧
        t.bit F.TG_FLAGS_KEY_REVOKE = true ∧ s.OnlyRegs [.LDG_SEQ, .LDG_STATE, .TG_FLAGS, .TG_KEYS] t) ∧
    ((∀ b, b < 4 → b ≠ slot.val → bitOf (s.fld F.TG_KEYS_PROGRAMMED) b = false ∨
        bitOf (s.fld F.TG_KEYS_REVOKED) b = true) →
      ∃ t, exec (.keyRevoke k slot 0xF05E) s = .next t ∧ t.resp = .refused ∧
        s.OnlyRegs [.TG_FLAGS, .LDG_SEQ, .LDG_STATE] t) ∧
    ∀ key : BitVec 16, key ≠ 0xF05E →
      ∃ t, exec (.keyRevoke k slot key) s = .next t ∧ t.resp = .refused ∧
        s.OnlyRegs [.TG_FLAGS, .LDG_SEQ, .LDG_STATE] t

/-- IMAGE_WRITE, IMAGE_WRITE_DONE, AUDIT_SUMMARY_MINUTE, AUDIT_SUMMARY_SECOND (R646, R647): a maker writes the image
that is not loaded, its read-back decides; the counted writes of every session are summed up and start again.
LEDGER_OPEN, LEDGER_PROGRAM_DONE, LEDGER_ERASE_DONE, LEDGER_SEAL, LDG_SEQ_READ (R653 to R657, R665): the Ledger
opens, its next record goes to its place or retires the segment, the oldest segment is reclaimed, a seal names
the record before it. -/
def Obligations.ImagesAuditAndLedgerProgramAndReclaim : Prop :=
  (
    ∀ s : State,
    (∀ (k : Fin 256) (f : Fin 2) (x : Image),
      (s.imageAllowed k f = true → ∃ t, exec (.imageWrite k f x) s = .next t ∧ t.image f = {} ∧
        t.tg.writing[f] = some x ∧ s.OnlyRegs [] t) ∧
      (s.imageAllowed k f = false → ∃ t, exec (.imageWrite k f x) s = .next t ∧ t.resp = .refused ∧
        t.imageA = s.imageA ∧ t.imageB = s.imageB ∧ t.tg = s.tg ∧ s.OnlyRegs [] t) ∧
      (s.tg.writing[f] = some x →
        (∃ t, exec (.imageWriteDone f true) s = .next t ∧ t.image f = x ∧
          t.tg.writing[f] = none ∧ t.bit F.TG_FLAGS_IMAGE_WRITTEN = true ∧
          s.OnlyRegs [.LDG_SEQ, .LDG_STATE, .TG_FLAGS] t) ∧
        ∃ t, exec (.imageWriteDone f false) s = .next t ∧ (t.image f).signer = none ∧ t.tg.writing[f] = none ∧
          s.OnlyRegs [] t)) ∧
    (keysRise s.sess = true → ∃ t, exec .auditSummaryMinute s = .next t ∧ (∀ k, (t.session k).dspWrites = 0) ∧
      t.ldg.buffer.length = s.ldg.buffer.length + (s.sess.filter fun e => e.2.dspWrites != 0).length ∧
      s.OnlyRegs [.LDG_SEQ, .LDG_STATE] t) ∧
    (keysRise s.sess = true → ∃ t, exec .auditSummarySecond s = .next t ∧ (∀ k, (t.session k).refused = 0) ∧
      ((∃ e ∈ s.sess, 16 < e.2.refused) → t.bit F.TG_FLAGS_AUDIT_SUMMARY = true) ∧
      s.OnlyRegs [.LDG_SEQ, .LDG_STATE, .TG_FLAGS] t)) ∧
  ∀ s : State,
  (∀ (scans : Vector FlashScan 2) (ok : Bool), s.ldg.opened = false → s.startAt ≠ none →
    ∃ t, exec (.ledgerOpen scans ok) s = .next t ∧ t.ldg.opened = true ∧ t.bit F.LDG_STATE_SEAL_OK = ok ∧
      t.resetToLog = 0 ∧ s.OnlyRegs [.LDG_FLAGS, .LDG_SEQ, .LDG_STATE, .LDG_WEAR] t) ∧
  (s.ldg.opened = true →
    (∀ f : Fin 2, s.flashOk f = true →
      (∀ (r : LedgerRec) (l : LogFlash) (i : Nat), s.nextRecord f = some r →
        (s.ldg.flashes[f]).place r (((newestRec (s.ldg.flashes[f]).recs).map fun r => r.chain).getD 0) = some (l, i) →
        (∃ t, exec (.ledgerProgramDone f true) s = .next t ∧ r ∈ (t.ldg.flashes[f]).recs ∧
          (s.ckptLate f r = true → t.bit F.LRN_GFLAGS_JOURNAL_LATE = true) ∧
          s.OnlyRegs [.LDG_STATE, .LRN_GFLAGS] t) ∧
        ∃ t, exec (.ledgerProgramDone f false) s = .next t ∧ ((t.ldg.flashes[f]).seg i).retired = true ∧
          t.bit F.LDG_FLAGS_SEG_RETIRED = true ∧ s.OnlyRegs [.LDG_FLAGS, .LDG_STATE, .LDG_WEAR] t) ∧
      (∀ i, (s.ldg.flashes[f]).ahead ≤ 2 → (s.ldg.flashes[f]).oldest = some i →
        (∃ t, exec (.ledgerEraseDone f true) s = .next t ∧
          (t.ldg.flashes[f]).seg i = { erases := ((s.ldg.flashes[f]).seg i).erases + 1 } ∧
          s.OnlyRegs [.LDG_FLAGS, .LDG_SEQ, .LDG_STATE, .LDG_WEAR] t) ∧
        ∃ t, exec (.ledgerEraseDone f false) s = .next t ∧ ((t.ldg.flashes[f]).seg i).retired = true ∧
          s.OnlyRegs [.LDG_FLAGS, .LDG_SEQ, .LDG_STATE, .LDG_WEAR] t)) ∧
    (4096 ≤ s.ldg.sinceSeal ∨ s.elapsed s.ldg.sealAt 3600000000000 = true →
      ∃ t e, exec .ledgerSeal s = .next t ∧ t.ldg.buffer = s.ldg.buffer ++ [e] ∧ e.1.kind = 1 ∧
        t.ldg.sinceSeal = 0 ∧ t.ldg.sealAt = s.now ∧ s.OnlyRegs [.LDG_SEQ, .LDG_STATE] t)) ∧
  ∀ who : Fin 384, s.reader who = true →
    ∃ t, exec (.ldgSeqRead who) s = .next t ∧ t.resp = .ok (s.reg .LDG_SEQ 0) ∧
      t.shadow who .LDG_SEQ 1 0 = s.reg .LDG_SEQ 1 ∧ s.OnlyRegs [] t

/-- ALMANAC_REPLAN, REPLAN, OSC_MEASURE, BASELINE_REFRESH, ALM_CFG_WRITE (R668, R669, R673, R681, R685): a re-plan shows,
waits while the block is contained, an undisturbed second shows offset 0, baselines are written again.
SHED_LEVEL_RISE, SHED_LEVEL_FALL, BULK_SHED_END, ALM_OVERRIDE, OVERRIDE_EXPIRY (R674, R675, R680): LEVEL moves by one
step, the BULK shed ends after 10 min, an override within its range holds until its hours are over or
VALUE 0xFFFF ends it. -/
def Obligations.AlmanacPlansShedsAndOverrides : Prop :=
  (
    ∀ s : State,
    (∀ rs, rs = [RegName.ALM_CH_GATE, .ALM_CH_PLAN, .ALM_CH_RON, .ALM_CH_SHUNT, .ALM_CH_SOA, .ALM_CMD, .ALM_FLAGS,
        .ALM_STATE, .DSP_FLAGS, .DSP_STR_BAL, .LDG_SEQ, .LDG_STATE, .LRN_GFLAGS, .LRN_STATE, .PROT_EFF, .PROT_SLOWACC, .PROT_STATE, .SHR_FRAC] →
      (s.almWorks = true → s.sup.inReset = false → ∃ t, exec .almanacReplan s = .next t ∧ t.bit F.ALM_FLAGS_REPLAN = true ∧
        t.reg .ALM_CMD = 0 ∧ t.alm.replanWaits = false ∧ s.OnlyRegs rs t) ∧
      (s.almWorks = false → s.sup.inReset = false → ∃ t, exec .almanacReplan s = .next t ∧ t.alm.replanWaits = true ∧ s.OnlyRegs [] t) ∧
      ∀ (k : Fin 256) (v : Word), s.MayWrite k .ALM_CMD 0 →
        (s.almWorks = true → bitOf v.toNat 0 = true →
          ∃ t, exec (.replan k v) s = .next t ∧ t.bit F.ALM_FLAGS_REPLAN = true ∧ t.reg .ALM_CMD = 0 ∧
            s.OnlyRegs rs t) ∧
        (s.almWorks = false → bitOf v.toNat 0 = true →
          ∃ t, exec (.replan k v) s = .next t ∧ t.alm.replanWaits = true ∧ t.reg .ALM_CMD = 1 ∧
            s.OnlyRegs [.ALM_CMD, .LDG_SEQ, .LDG_STATE] t) ∧
        (bitOf v.toNat 0 = false →
          ∃ t, exec (.replan k v) s = .next t ∧ t.alm = s.alm ∧ s.OnlyRegs [.LDG_SEQ, .LDG_STATE] t)) ∧
    (s.almWorks = true → s.bit F.TB_STATE_QUAL 0 = true → s.fld F.TB_INC_NS_NS 0 = 4 → (s.tb 0).incFrac = 0 →
      ∃ t, exec .oscMeasure s = .next t ∧ t.sfld F.ALM_OSC_OFFSET = 0 ∧ t.alm.outOfRange = false ∧
        s.OnlyRegs [.ALM_OSC] t) ∧
    (s.sup.inReset = false → s.almWorks = true →
      ∃ t, exec .baselineRefresh s = .next t ∧ t.ldg.buffer.length = s.ldg.buffer.length + s.baseLog.length ∧
      s.OnlyRegs [.LDG_SEQ, .LDG_STATE] t) ∧
    ∀ (k : Fin 256) (v : Word),
      (s.MayStore k .ALM_CFG2 0 0 v.toNat → ∃ t, exec (.almCfgWrite k true v) s = .next t ∧ s.Stored .ALM_CFG2 0 0 v.toNat [] t) ∧
      ∀ w, w = s.newWord .ALM_CFG 0 0 v.toNat →
        (s.MayStore k .ALM_CFG 0 0 v.toNat → bitsGet w 8 8 < bitsGet w 0 8 →
          ∃ t, exec (.almCfgWrite k false v) s = .next t ∧ s.Stored .ALM_CFG 0 0 v.toNat [] t) ∧
        (s.MayWrite k .ALM_CFG 0 → bitsGet w 0 8 ≤ bitsGet w 8 8 →
          ∃ t, exec (.almCfgWrite k false v) s = .next t ∧ t.resp = .refused ∧
            s.OnlyRegs [.TG_FLAGS, .LDG_SEQ, .LDG_STATE] t)) ∧
  ∀ s : State,
  (∀ rs, rs = [RegName.ALM_CH_PLAN, .ALM_CH_SOA, .ALM_FLAGS, .ALM_STATE, .LDG_SEQ, .LDG_STATE, .LRN_GFLAGS, .LRN_STATE,
      .PROT_EFF, .PROT_SLOWACC, .PROT_STATE] →
    (s.almWorks = true →
      (∀ cause : ShedCause, s.sup.inReset = false →
        (∀ busy, cause = .load busy → s.fld F.ALM_CFG_LOAD_HI ≤ busy) → (cause = .lateStep → s.alm.lateStep = true) →
        (∀ r, cause = .warn r → bitOf s.alm.warns r = true) →
        ((∀ r, cause ≠ .warn r) → ∀ t0, s.alm.riseAt = some t0 → s.elapsed t0 10000000000 = true) →
        ∃ t, exec (.shedLevelRise cause) s = .next t ∧ t.alm.planLevel = min 5 (s.alm.planLevel + 1) ∧
          ((∀ r, cause ≠ .warn r) → t.alm.riseAt = some s.now) ∧
          (cause = .lateStep → t.alm.lateStep = false) ∧ (∀ r, cause = .warn r → bitOf t.alm.warns r = false) ∧
          (s.overridden .level 0 = false → s.fld F.ALM_STATE_LEVEL = s.alm.planLevel →
            t.fld F.ALM_STATE_LEVEL = min 5 (s.alm.planLevel + 1)) ∧ s.OnlyRegs rs t) ∧
      (s.alm.planLevel ≠ 0 → s.alm.lateStep = false → s.alm.warns = 0 → s.elapsed s.alm.lowAt 600000000000 = true →
        ∃ t, exec .shedLevelFall s = .next t ∧ t.alm.planLevel = s.alm.planLevel - 1 ∧ t.alm.lowAt = s.now ∧
          s.OnlyRegs rs t) ∧
      (∀ t0, s.alm.bulkAt = some t0 → s.elapsed t0 600000000000 = true →
        ∃ t, exec .bulkShedEnd s = .next t ∧ t.bit F.ALM_STATE_BULK_SHED_ON = false ∧
          t.bit F.ALM_FLAGS_RESTORE = true ∧ t.alm.bulkAt = none ∧ s.OnlyRegs [.ALM_FLAGS, .ALM_STATE] t) ∧
      ∀ (k : Fin 256) (c : Byte) (n : Fin 32) (i : AlmItem), s.MayWrite k .ALM_OVR 0 → almItemOf c.toNat = some i →
        s.present n = true →
        (s.fld F.ALM_OVR_VAL_VALUE = 0xFFFF →
          (s.overridden i n = true → ∃ t, exec (.almOverride k c n 0xA1C7) s = .next t ∧ t.overridden i n = false ∧
            s.OnlyRegs rs t) ∧
          (s.overridden i n = false → ∃ t, exec (.almOverride k c n 0xA1C7) s = .next t ∧ t.resp = .refused ∧
            t.alm = s.alm ∧ s.OnlyRegs [.TG_FLAGS, .LDG_SEQ, .LDG_STATE] t)) ∧
        (s.fld F.ALM_OVR_VAL_VALUE ≠ 0xFFFF →
        (s.overrideFits i n (s.fld F.ALM_OVR_VAL_VALUE) = true → 1 ≤ s.fld F.ALM_OVR_VAL_HOURS →
          s.fld F.ALM_OVR_VAL_HOURS ≤ 720 → s.alm.overrides.length < 16 →
          ∃ t, exec (.almOverride k c n 0xA1C7) s = .next t ∧ t.overridden i n = true ∧
            (⟨i.code, n, s.fld F.ALM_OVR_VAL_VALUE, s.now + 3600000000000 * s.fld F.ALM_OVR_VAL_HOURS⟩ : Override) ∈
              t.alm.overrides ∧
            t.bit F.ALM_FLAGS_OVERRIDE = true ∧ s.OnlyRegs rs t) ∧
        (∀ key : BitVec 16, key ≠ 0xA1C7 ∨ s.overrideFits i n (s.fld F.ALM_OVR_VAL_VALUE) = false →
          ∃ t, exec (.almOverride k c n key) s = .next t ∧ t.resp = .refused ∧ t.alm = s.alm ∧
            s.OnlyRegs [.TG_FLAGS, .LDG_SEQ, .LDG_STATE] t))) ∧
    ∀ (o : Override) (i : AlmItem), o ∈ s.alm.overrides → o.endsAt ≤ s.now → almItemOf o.item = some i →
      ∃ t, exec .overrideExpiry s = .next t ∧ o ∉ t.alm.overrides ∧ t.bit F.ALM_FLAGS_OVR_EXPIRED = true ∧
        s.OnlyRegs rs t)

/-- REG_WRITE, W1C_CLEAR (R20, R36, R576): a register without a row of its own is stored and recorded, a read-only one
ignores the write, a stopped engine changes nothing, a W1C bit is cleared by its 1 unless it
sets at the same handshake. -/
def Obligations.RegisterWritesFollowTheirAccess : Prop :=
  ∀ s : State,
  (∀ (who : Fin 384) (k : Fin 256) (a : Addr) (v : Word) (r : RegName) (i j : Nat), who.val = k.val →
    regAt a.toNat = some (r, i, j) →
    (r ∈ [RegName.COM_SESS_CFG, .EST_CFG2, .EST_REST, .LRN_CFG, .LRN_CFG2, .LDG_CFG, .ALM_OVR_VAL, .KEY_ESC_CFG] →
      s.MayStore k r i j v.toNat →
      ∃ t, exec (.regWrite who a v) s = .next t ∧ s.Stored r i j v.toNat [] t) ∧
    (r ∈ [RegName.EST_CTR_SOC, .DSP_LIM_STAMP, .COM_STATE, .KEY_SAFE_CAUSE, .LDG_SEQ] → (s.session k).isOpen = true →
      ∃ t, exec (.regWrite who a v) s = .next t ∧ t.resp = .ok v.toNat ∧ s.OnlyRegs [] t)) ∧
  (∀ (who : Fin 384) (a : Addr) (v : Word), 256 ≤ who.val → s.reader who = false →
    ∃ t, exec (.regWrite who a v) s = .next t ∧ t.resp = s.resp ∧ s.OnlyRegs [] t) ∧
  ∀ (k : Fin 256) (a : Addr) (v arr : Word) (r : RegName) (i : Nat), regAt a.toNat = some (r, i, 0) → w1cBits r ≠ 0 →
    s.MayWrite k r i →
    ∃ t, exec (.w1cClear k a v arr) s = .next t ∧ s.OnlyRegs [r] t ∧
      ∀ b, b < 32 → bitOf (t.reg r i) b =
        ((bitOf arr.toNat b && bitOf (w1cBits r) b) ||
          (bitOf (s.reg r i) b && !(bitOf v.toNat b && bitOf (w1cBits r) b)))

/-- A step takes the command at the front of the queue and runs it with the rest (tier 1). -/
def Obligations.StepRunsTheFrontCommand : Prop :=
  ∀ (c : Instr) (s : State), step { s with pending := c :: s.pending } = exec c s

/-- The model's choice (log 11): a step on an empty queue is one oscillator edge; a base without a slew or a step to
take then adds its increment, carries into its seconds, and wraps them at 2^48 (R573). -/
def Obligations.AnEmptyQueueIsOneOscillatorEdge : Prop :=
  ∀ s : State, s.pending = [] →
    ∃ t, step s = .next t ∧ t.osc = s.osc + 1 ∧ t.pending = [] ∧
      (s.startAt = none → t.tbs = s.tbs ∧ s.OnlyRegs [] t) ∧
      ∀ (b : Fin 8) (u : Nat), s.startAt ≠ none → (s.tb b).apply = none → (s.tb b).left = 0 →
        (s.tb b).ns < 1000000000 → (s.tb b).frac < 2 ^ 32 → (s.tb b).incFrac < 2 ^ 32 → (s.tb b).sec < 2 ^ 48 →
        u = (s.tb b).ns * 2 ^ 32 + (s.tb b).frac + s.fld F.TB_INC_NS_NS b * 2 ^ 32 + (s.tb b).incFrac →
        (u < 1000000000 * 2 ^ 32 → (t.tb b).sec = (s.tb b).sec ∧ (t.tb b).ns = u / 2 ^ 32 ∧ (t.tb b).frac = u % 2 ^ 32) ∧
        (1000000000 * 2 ^ 32 ≤ u → (t.tb b).sec = ((s.tb b).sec + 1) % 2 ^ 48 ∧
          (t.tb b).ns = u / 2 ^ 32 - 1000000000 ∧ (t.tb b).frac = u % 2 ^ 32)

/-- R469, R503, R633: the container, learning and device-wide SSI report registers have no writing role, and every
field of them resets to 0. -/
def Obligations.ReportRegistersResetToZero : Prop :=
  ∀ (r : RegName) (i j : Nat),
    r ∈ [RegName.EST_CTR_SOC, .EST_CTR_SOPD, .EST_CTR_SOPC, .EST_CTR_E, .EST_CTR_SET, .EST_CTR_SOPSET, .EST_CTR_STAMP,
      .LRN_STR_EFC, .LRN_STR_CAP, .LRN_STR_AGE, .LRN_STR_RECON,
      .SSI_PERMIT_A, .SSI_PERMIT_B, .SSI_DEMAND, .SSI_LATCH, .SSI_PROOF_DUE, .SSI_LAST, .SSI_DISCARD] →
    regRoles r i = [] ∧ writeFields r = [] ∧ State.reset.reg r i j = 0

/-- R21: a write to an LK field by a role other than the named one leaves the field unchanged, the session receives a
refusal, and the attempt is recorded in the Ledger (beyond 16 in a second only counted, R647). -/
def Obligations.AWriteByAnotherRoleIsRefused : Prop :=
  ∀ (s : State) (k : Nat) (r : RegName) (i j value : Nat) (ok : Nat → Bool) (after : State → State),
    (s.session k).isOpen = true → (s.session k).role ∉ regRoles r i → r ≠ .TG_FLAGS → r ≠ .LDG_SEQ → r ≠ .LDG_STATE →
    s.regHeld r i = false → s.sup.inReset = false →
    ((regInfo r).chan = true → s.present i = true) →
    (s.sessionWrite k r i j value ok after).reg r i j = s.reg r i j ∧
    (s.sessionWrite k r i j value ok after).resp = .refused ∧
    (s.sessionWrite k r i j value ok after).bit F.TG_FLAGS_WRITE_REFUSED = true ∧
    (r ≠ .DSP_REQ → (s.session k).refused < 16 →
      ∃ e, (s.sessionWrite k r i j value ok after).ldg.buffer = s.ldg.buffer ++ [e] ∧ e.1.kind = 0x10 ∧
        e.1.body = s.auditBody k 1 (regAddr r i j) (s.reg r i j) (s.newWord r i j value)) ∧
    s.OnlyRegs [.TG_FLAGS, .LDG_SEQ, .LDG_STATE] (s.sessionWrite k r i j value ok after)

/-- R17: an access at an address that is misaligned, or that the Address Map does not list (no register, no event
counter, no Granary area), answers an error and has no effect.  The accesses by address are the writes REG_WRITE and
W1C_CLEAR, of a word each; the table has no read of an arbitrary address. -/
def Obligations.UnlistedAddressesAnswerAnError : Prop :=
  ∀ (s : State) (a : Addr) (v arr : Word), s.unlisted a.toNat = true →
    (∀ who : Fin 384, 256 ≤ who.val → s.reader who = true →
      ∃ t, exec (.regWrite who a v) s = .next t ∧ t = { s with resp := .error }) ∧
    ∀ (who : Fin 384) (k : Fin 256), who.val = k.val → (s.session k).isOpen = true →
    (∃ t, exec (.regWrite who a v) s = .next t ∧ t.resp = .error ∧ t.regs = s.regs ∧ t.mem = s.mem ∧ t.ldg = s.ldg ∧
      t.outbox = s.outbox) ∧
    ∃ t, exec (.w1cClear k a v arr) s = .next t ∧ t.resp = .error ∧ t.regs = s.regs ∧ t.mem = s.mem ∧ t.ldg = s.ldg ∧
      t.outbox = s.outbox

/-- A stored word has every writable field within its range, taking the written value where it lies in it, and every
other bit as it stood (R18, R34): for every register and every value written. -/
def Obligations.StoredFieldsStayInTheirRanges : Prop :=
  ∀ (r : RegName) (fs : List WField) (old value w : Nat), fs = writeFields r → old < 2 ^ 32 →
    w = writeWord fs old value →
    (∀ f ∈ fs, ∀ x y : Int,
      x = (if f.signed then toSigned f.width (bitsGet w f.lo f.width) else (bitsGet w f.lo f.width : Int)) →
      y = (if f.signed then toSigned f.width (bitsGet value f.lo f.width) else (bitsGet value f.lo f.width : Int)) →
      f.min ≤ x ∧ x ≤ f.max ∧ (f.min ≤ y → y ≤ f.max → x = y)) ∧
    ∀ b, b < 32 → (∀ f ∈ fs, b < f.lo ∨ f.lo + f.width ≤ b) → bitOf w b = bitOf old b

/-- The machine after reset is well kept, and has no maker session (tier 1). -/
def Obligations.ResetIsWellKept : Prop := State.reset.Canonical ∧ State.reset.OneMaker

/-- Every step keeps the registers, event counters, shadows and the Granary canonical (tier 3). -/
def Obligations.EveryStepKeepsTheStateCanonical : Prop :=
  ∀ s t : State, s.Canonical → step s = .next t → t.Canonical

/-- R639: every step keeps at most one maker session open, among at most 256 sessions of all roles (R543), with
MAKER_SESS showing whether one is; a second maker handshake that passes every other check is refused, and AUTH_FAIL
sets (tier 3). -/
def Obligations.AtMostOneMakerSessionIsOpen : Prop :=
  ∀ s : State,
  (s.OneMaker → ∀ t, step s = .next t → t.OneMaker) ∧
  ∀ (h : Handshake) (k : Fin 256), s.bit F.TG_STATE_MAKER_SESS = true → h.cookie = true →
    s.sup.inReset = false →
    (s.com.hsTimes.filter fun x => !s.elapsed x 1000000000).length < s.fld F.COM_SESS_CFG_HS_RATE →
    (s.session k).isOpen = false → s.proved h = some .maker → s.phaseTakes .maker = true →
    ∃ t, exec (.sessionHandshake h) s = .next t ∧ t.resp = .refused ∧ t.sess = s.sess ∧
      t.bit F.TG_FLAGS_AUTH_FAIL = true ∧ s.OnlyRegs [.TG_FLAGS, .LDG_SEQ, .LDG_STATE] t
end

