-- ==== Sys2Proof/Laws/Sparse.lean ====
section
/-! SUPPORT. Laws of the sparse tables: what a read after a write gives, and that a write keeps the canonical form. -/

namespace Sys2Proof.Machine

variable {α : Type}

theorem sparseGet_put_same (m : List (Nat × α)) (d : α) (k : Nat) (v : α) :
    sparseGet (sparsePut m k v) d k = v := by
  induction m with
  | nil => simp [sparsePut, sparseGet]
  | cons e rest ih =>
    unfold sparsePut
    split
    · simp [sparseGet]
    · split
      · simp [sparseGet]
      · rename_i h
        simp [sparseGet, Ne.symm h, ih]

theorem sparseGet_put_ne (m : List (Nat × α)) (d : α) {k k' : Nat} (v : α) (h : k' ≠ k) :
    sparseGet (sparsePut m k v) d k' = sparseGet m d k' := by
  induction m with
  | nil => simp [sparsePut, sparseGet, Ne.symm h]
  | cons e rest ih =>
    unfold sparsePut
    split
    · simp [sparseGet, Ne.symm h]
    · split
      · rename_i h1
        subst h1
        simp [sparseGet, Ne.symm h]
      · simp [sparseGet, ih]

theorem sparseGet_erase_ne (m : List (Nat × α)) (d : α) {k k' : Nat} (h : k' ≠ k) :
    sparseGet (sparseErase m k) d k' = sparseGet m d k' := by
  induction m with
  | nil => rfl
  | cons e rest ih =>
    unfold sparseErase
    split
    · rename_i h1
      subst h1
      simp [sparseGet, Ne.symm h, ih]
    · simp [sparseGet, ih]

theorem keysRise_cons (e : Nat × α) (m : List (Nat × α)) :
    keysRise (e :: m) = true ↔ (∀ f ∈ m, e.1 < f.1) ∧ keysRise m = true := by
  simp [keysRise]

/-- Reading an erased key gives the default. -/
theorem sparseGet_erase_same (m : List (Nat × α)) (d : α) (k : Nat) : sparseGet (sparseErase m k) d k = d := by
  induction m with
  | nil => rfl
  | cons e rest ih =>
    unfold sparseErase
    split
    · exact ih
    · rename_i h1
      simp [sparseGet, h1, ih]

/-- A read after a write to the same key. -/
theorem sparseGet_set_same [DecidableEq α] (m : List (Nat × α)) (d : α) (k : Nat) (v : α) :
    sparseGet (sparseSet m d k v) d k = v := by
  unfold sparseSet
  split
  · rename_i h1
    rw [sparseGet_erase_same m d k, h1]
  · exact sparseGet_put_same m d k v

/-- A write leaves every other key alone. -/
theorem sparseGet_set_ne [DecidableEq α] (m : List (Nat × α)) (d d' : α) {k k' : Nat} (v : α) (h : k' ≠ k) :
    sparseGet (sparseSet m d k v) d' k' = sparseGet m d' k' := by
  unfold sparseSet
  split
  · exact sparseGet_erase_ne m d' h
  · exact sparseGet_put_ne m d' v h

theorem mem_sparsePut {m : List (Nat × α)} {k : Nat} {v : α} {e : Nat × α} (h : e ∈ sparsePut m k v) :
    e = (k, v) ∨ e ∈ m := by
  induction m with
  | nil => simpa [sparsePut] using h
  | cons f rest ih =>
    unfold sparsePut at h
    split at h
    · simpa using h
    · split at h
      · rcases List.mem_cons.mp h with h | h
        · exact .inl h
        · exact .inr (List.mem_cons_of_mem _ h)
      · rcases List.mem_cons.mp h with h | h
        · exact .inr (h ▸ List.mem_cons_self)
        · rcases ih h with h | h
          · exact .inl h
          · exact .inr (List.mem_cons_of_mem _ h)

theorem mem_sparseErase {m : List (Nat × α)} {k : Nat} {e : Nat × α} (h : e ∈ sparseErase m k) : e ∈ m := by
  induction m with
  | nil => exact h
  | cons f rest ih =>
    unfold sparseErase at h
    split at h
    · exact List.mem_cons_of_mem _ (ih h)
    · rcases List.mem_cons.mp h with h | h
      · exact h ▸ List.mem_cons_self
      · exact List.mem_cons_of_mem _ (ih h)

theorem keysRise_put (m : List (Nat × α)) (k : Nat) (v : α) (h : keysRise m = true) :
    keysRise (sparsePut m k v) = true := by
  induction m with
  | nil => rfl
  | cons e rest ih =>
    rw [keysRise_cons] at h
    unfold sparsePut
    split
    · rename_i h1
      rw [keysRise_cons, keysRise_cons]
      refine ⟨fun f hf => ?_, h⟩
      rcases List.mem_cons.mp hf with hf | hf
      · exact hf ▸ h1
      · exact Nat.lt_trans h1 (h.1 f hf)
    · split
      · rename_i h1
        rw [keysRise_cons]
        exact ⟨fun f hf => h1 ▸ h.1 f hf, h.2⟩
      · rename_i h1 h2
        rw [keysRise_cons]
        refine ⟨fun f hf => ?_, ih h.2⟩
        rcases mem_sparsePut hf with hf | hf
        · rw [hf]
          show e.1 < k
          omega
        · exact h.1 f hf

theorem keysRise_erase (m : List (Nat × α)) (k : Nat) (h : keysRise m = true) : keysRise (sparseErase m k) = true := by
  induction m with
  | nil => rfl
  | cons e rest ih =>
    rw [keysRise_cons] at h
    unfold sparseErase
    split
    · exact ih h.2
    · rw [keysRise_cons]
      exact ⟨fun f hf => h.1 f (mem_sparseErase hf), ih h.2⟩

theorem keysRise_filter (m : List (Nat × α)) (p : Nat × α → Bool) (h : keysRise m = true) :
    keysRise (m.filter p) = true := by
  induction m with
  | nil => rfl
  | cons e rest ih =>
    rw [keysRise_cons] at h
    rw [List.filter_cons]
    split
    · rw [keysRise_cons]
      exact ⟨fun f hf => h.1 f (List.mem_filter.mp hf).1, ih h.2⟩
    · exact ih h.2

theorem keysRise_set [DecidableEq α] (m : List (Nat × α)) (d : α) (k : Nat) (v : α) (h : keysRise m = true) :
    keysRise (sparseSet m d k v) = true := by
  unfold sparseSet
  split
  · exact keysRise_erase m k h
  · exact keysRise_put m k v h

/-- The canonical form in two parts. -/
theorem sparseWf_iff [DecidableEq α] (m : List (Nat × α)) (d : Nat → α) :
    sparseWf m d = true ↔ keysRise m = true ∧ ∀ e ∈ m, e.2 ≠ d e.1 := by
  simp [sparseWf]

/-- A write keeps the canonical form. -/
theorem sparseWf_set [DecidableEq α] (m : List (Nat × α)) (d : Nat → α) (k : Nat) (v : α)
    (h : sparseWf m d = true) : sparseWf (sparseSet m (d k) k v) d = true := by
  rw [sparseWf_iff] at h ⊢
  refine ⟨keysRise_set m (d k) k v h.1, fun e he => ?_⟩
  unfold sparseSet at he
  split at he
  · exact h.2 e (mem_sparseErase he)
  · rename_i hv
    rcases mem_sparsePut he with he | he
    · rw [he]
      exact hv
    · exact h.2 e he

/-- Dropping entries keeps the canonical form. -/
theorem sparseWf_filter [DecidableEq α] (m : List (Nat × α)) (d : Nat → α) (p : Nat × α → Bool)
    (h : sparseWf m d = true) : sparseWf (m.filter p) d = true := by
  rw [sparseWf_iff] at h ⊢
  exact ⟨keysRise_filter m p h.1, fun e he => h.2 e (List.mem_filter.mp he).1⟩

end Sys2Proof.Machine
end

