-- ==== Sys2Proof/Laws/Memory.lean ====
section
/-! SUPPORT. Laws of the Granary: reads after writes, and that every memory operation keeps the canonical form. -/

namespace Sys2Proof.Machine

theorem memPut_wf (m : List Host.Cell) (a : Nat) (b : Byte) (h : Memory.wf m = true) : Memory.wf (memPut m a b) = true :=
  sparseWf_set m memDefault a b h

theorem memByte_put_same (m : List Host.Cell) (a : Nat) (b : Byte) : memByte (memPut m a b) a = b :=
  sparseGet_set_same m (memDefault a) a b

theorem memByte_put_ne (m : List Host.Cell) {a a' : Nat} (b : Byte) (h : a' ≠ a) :
    memByte (memPut m a b) a' = memByte m a' :=
  sparseGet_set_ne m (memDefault a) (memDefault a') b h

theorem memPutLe_wf (m : List Host.Cell) (a n v : Nat) (h : Memory.wf m = true) : Memory.wf (memPutLe m a n v) = true := by
  induction n generalizing m a v with
  | zero => exact h
  | succ k ih => exact ih _ _ _ (memPut_wf m a _ h)

theorem memPutBytes_wf (m : List Host.Cell) (a : Nat) (bs : List Nat) (h : Memory.wf m = true) :
    Memory.wf (memPutBytes m a bs) = true := by
  induction bs generalizing m a with
  | nil => exact h
  | cons b bs ih => exact ih _ _ (memPut_wf _ _ _ h)

/-- Writing n bytes from a leaves every byte outside them alone. -/
theorem memByte_putLe_out (m : List Host.Cell) (a n v : Nat) {a' : Nat} (h : a' < a ∨ a + n ≤ a') :
    memByte (memPutLe m a n v) a' = memByte m a' := by
  induction n generalizing m a v with
  | zero => rfl
  | succ k ih =>
    rw [memPutLe, ih _ (a + 1) _ (by omega), memByte_put_ne m _ (by omega)]

/-- Reading n bytes back after writing them. -/
theorem memLe_putLe (m : List Host.Cell) (a n v : Nat) :
    memLe (memPutLe m a n v) a n = v % 256 ^ n := by
  induction n generalizing m a v with
  | zero => simp [memLe, Nat.mod_one]
  | succ k ih =>
    rw [memLe, memPutLe, ih _ (a + 1) _, memByte_putLe_out _ (a + 1) k _ (by omega),
      memByte_put_same m a _]
    simp only [BitVec.toNat_ofNat]
    rw [show (256 : Nat) ^ (k + 1) = 256 * 256 ^ k by rw [Nat.pow_succ, Nat.mul_comm], Nat.mod_mul]

end Sys2Proof.Machine
end

