-- ==== Sys2Proof/Laws/Regs.lean ====
section
/-! SUPPORT. Laws of registers, fields, flags and counters: what a read after a write gives. -/

namespace Sys2Proof.Machine

/-! ### Keys -/

theorem regName_ctorIdx_inj {r r' : RegName} (h : r.ctorIdx = r'.ctorIdx) : r = r' := by
  have h1 : RegName.ofNat r.ctorIdx = RegName.ofNat r'.ctorIdx := by rw [h]
  rwa [RegName.ofNat_ctorIdx, RegName.ofNat_ctorIdx] at h1

theorem regKey_inj {r r' : RegName} {i i' j j' : Nat} (h : regKey r i j = regKey r' i' j') :
    r = r' ∧ i = i' ∧ j = j' := by
  unfold regKey at h
  rw [Nat.pair_eq_pair, Nat.pair_eq_pair] at h
  exact ⟨regName_ctorIdx_inj h.1, h.2.1, h.2.2⟩

theorem regKey_ne {r r' : RegName} {i i' j j' : Nat} (h : r ≠ r' ∨ i ≠ i' ∨ j ≠ j') :
    regKey r i j ≠ regKey r' i' j' := by
  intro e
  have := regKey_inj e
  rcases h with h | h | h
  · exact h this.1
  · exact h this.2.1
  · exact h this.2.2

theorem regDefault_regKey (v : Variant) (r : RegName) (i j : Nat) :
    regDefault v (regKey r i j) = BitVec.ofNat 32 (regReset v r i j) := by
  simp [regDefault, regKey, RegName.ofNat_ctorIdx]

/-! ### Whole registers -/

theorem State.reg_setReg_same (s : State) (r : RegName) (i j v : Nat) :
    (s.setReg r i j v).reg r i j = v % 2 ^ 32 := by
  unfold State.reg State.setReg
  rw [sparseGet_set_same]
  simp

theorem State.reg_setReg_ne (s : State) {r r' : RegName} {i i' j j' : Nat} (v : Nat)
    (h : r' ≠ r ∨ i' ≠ i ∨ j' ≠ j) : (s.setReg r i j v).reg r' i' j' = s.reg r' i' j' := by
  unfold State.reg State.setReg
  rw [sparseGet_set_ne _ _ _ _ (regKey_ne h)]

theorem State.reg_lt (s : State) (r : RegName) (i j : Nat) : s.reg r i j < 2 ^ 32 := by
  unfold State.reg
  exact BitVec.isLt _

/-! ### Fields -/

theorem bitsGet_bitsSet_same (w lo width v : Nat) : bitsGet (bitsSet w lo width v) lo width = v % 2 ^ width := by
  unfold bitsGet bitsSet
  have h1 : (w % 2 ^ lo + v % 2 ^ width * 2 ^ lo + w / 2 ^ (lo + width) * 2 ^ (lo + width)) / 2 ^ lo
      = v % 2 ^ width + w / 2 ^ (lo + width) * 2 ^ width := by
    have : w % 2 ^ lo + v % 2 ^ width * 2 ^ lo + w / 2 ^ (lo + width) * 2 ^ (lo + width)
        = w % 2 ^ lo + 2 ^ lo * (v % 2 ^ width + w / 2 ^ (lo + width) * 2 ^ width) := by
      rw [show 2 ^ (lo + width) = 2 ^ lo * 2 ^ width from pow_add 2 lo width]
      ring
    rw [this, Nat.add_mul_div_left _ _ (Nat.two_pow_pos lo), Nat.div_eq_of_lt (Nat.mod_lt _ (Nat.two_pow_pos lo)), Nat.zero_add]
  rw [h1, Nat.add_mul_mod_self_right, Nat.mod_mod]

theorem bitsSet_div_above (w lo width v b : Nat) (h : lo + width ≤ b) : bitsSet w lo width v / 2 ^ b = w / 2 ^ b := by
  obtain ⟨k, rfl⟩ := Nat.exists_eq_add_of_le h
  have e : (2 : Nat) ^ (lo + width + k) = 2 ^ (lo + width) * 2 ^ k := pow_add ..
  rw [e, ← Nat.div_div_eq_div_mul, ← Nat.div_div_eq_div_mul]
  congr 1
  unfold bitsSet
  have h1 : w % 2 ^ lo + v % 2 ^ width * 2 ^ lo < 2 ^ (lo + width) := by
    have a := Nat.mod_lt w (Nat.two_pow_pos lo)
    have b := Nat.mod_lt v (Nat.two_pow_pos width)
    have c : v % 2 ^ width * 2 ^ lo + 2 ^ lo ≤ 2 ^ width * 2 ^ lo := by
      rw [← Nat.succ_mul]
      exact Nat.mul_le_mul_right _ b
    rw [pow_add, Nat.mul_comm (2 ^ lo)]
    omega
  rw [Nat.add_mul_div_right _ _ (Nat.two_pow_pos _), Nat.div_eq_of_lt h1, Nat.zero_add]

theorem bitsSet_mod_below (w lo width v b : Nat) (h : b ≤ lo) : bitsSet w lo width v % 2 ^ b = w % 2 ^ b := by
  obtain ⟨k, rfl⟩ := Nat.exists_eq_add_of_le h
  unfold bitsSet
  have e : v % 2 ^ width * 2 ^ (b + k) + w / 2 ^ (b + k + width) * 2 ^ (b + k + width)
      = (v % 2 ^ width * 2 ^ k + w / 2 ^ (b + k + width) * 2 ^ (k + width)) * 2 ^ b := by
    rw [show b + k + width = b + (k + width) by omega, pow_add 2 b (k + width), pow_add 2 b k]
    ring
  rw [Nat.add_assoc, e, Nat.add_mul_mod_self_right]
  exact Nat.mod_mod_of_dvd _ (pow_dvd_pow 2 h)

/-- A field above or below the one written is unchanged. -/
theorem bitsGet_bitsSet_ne (w lo width v lo' width' : Nat) (h : lo + width ≤ lo' ∨ lo' + width' ≤ lo) :
    bitsGet (bitsSet w lo width v) lo' width' = bitsGet w lo' width' := by
  unfold bitsGet
  rcases h with h | h
  · rw [bitsSet_div_above _ _ _ _ _ h]
  · have e (x : Nat) : x / 2 ^ lo' % 2 ^ width' = x % 2 ^ (lo' + width') / 2 ^ lo' := by
      rw [pow_add, Nat.mod_mul_right_div_self]
    rw [e, e, bitsSet_mod_below _ _ _ _ _ h]

theorem bitsSet_lt (w lo width v n : Nat) (hw : w < 2 ^ n) (h : lo + width ≤ n) : bitsSet w lo width v < 2 ^ n := by
  have h1 := bitsSet_div_above w lo width v n h
  rw [Nat.div_eq_of_lt hw] at h1
  exact (Nat.div_eq_zero_iff.mp h1).resolve_left (Nat.two_pow_pos n).ne'

/-- A field that lies within its register. -/
def Fld.Fits (f : Fld) : Prop := f.lo + f.width ≤ 32

theorem State.fld_setFld_same (s : State) (f : Fld) (hf : f.Fits) (v i j : Nat) :
    (s.setFld f v i j).fld f i j = v % 2 ^ f.width := by
  unfold State.fld State.setFld
  rw [State.reg_setReg_same, Nat.mod_eq_of_lt (bitsSet_lt _ _ _ _ 32 (s.reg_lt ..) hf), bitsGet_bitsSet_same]

/-- A field of another register, another instance or other bits is unchanged. -/
theorem State.fld_setFld_ne (s : State) (f g : Fld) (v i j i' j' : Nat)
    (h : g.reg ≠ f.reg ∨ i' ≠ i ∨ j' ≠ j ∨ (f.Fits ∧ (f.lo + f.width ≤ g.lo ∨ g.lo + g.width ≤ f.lo))) :
    (s.setFld f v i j).fld g i' j' = s.fld g i' j' := by
  unfold State.fld State.setFld
  by_cases e : g.reg = f.reg ∧ i' = i ∧ j' = j
  · obtain ⟨e1, rfl, rfl⟩ := e
    rcases h with h | h | h | h
    · exact absurd e1 h
    · exact absurd rfl h
    · exact absurd rfl h
    · rw [e1, State.reg_setReg_same, Nat.mod_eq_of_lt (bitsSet_lt _ _ _ _ 32 (s.reg_lt ..) h.1),
        bitsGet_bitsSet_ne _ _ _ _ _ _ h.2]
  · rw [State.reg_setReg_ne s _ (by tauto)]

theorem State.fld_setReg_ne (s : State) (r : RegName) (g : Fld) (v i j i' j' : Nat)
    (h : g.reg ≠ r ∨ i' ≠ i ∨ j' ≠ j) : (s.setReg r i j v).fld g i' j' = s.fld g i' j' := by
  unfold State.fld
  rw [State.reg_setReg_ne s _ h]

theorem State.bit_setBit_same (s : State) (f : Fld) (hf : f.Fits) (h1 : f.width = 1) (v : Bool)
    (i j : Nat) : (s.setBit f v i j).bit f i j = v := by
  unfold State.bit State.setBit
  rw [State.fld_setFld_same s f hf, h1]
  cases v <;> rfl

/-! ### Flags and counters (R37, R38) -/

theorem State.reg_count (s : State) (r r' : RegName) (i b i' j' : Nat) : (s.count r i b).reg r' i' j' = s.reg r' i' j' := rfl

/-- An occurrence sets its bit. -/
theorem State.flag_sets (s : State) (f : Fld) (i b : Nat) (hb : f.lo + b < 32) :
    bitOf ((s.flag f i b).reg f.reg i 0) (f.lo + b) = true := by
  unfold State.flag
  rw [State.reg_count, State.reg_setReg_same]
  unfold bitPut
  rw [Nat.mod_eq_of_lt (bitsSet_lt _ _ _ _ 32 (s.reg_lt ..) (by omega))]
  have := bitsGet_bitsSet_same (s.reg f.reg i 0) (f.lo + b) 1 1
  unfold bitsGet at this
  simpa [bitOf] using this

/-- An occurrence counts one, modulo 2^32. -/
theorem State.flag_counts (s : State) (f : Fld) (i b : Nat) :
    (s.flag f i b).cnt f.reg i (f.lo + b) = (s.cnt f.reg i (f.lo + b) + 1) % 2 ^ 32 := by
  unfold State.flag State.count State.cnt
  rw [sparseGet_set_same]
  simp only [BitVec.toNat_ofNat]
  rfl

/-- The one-bit field of an occurrence reads 1. -/
theorem State.bit_flag (s : State) (f : Fld) (i : Nat) (hf : f.Fits) (h1 : f.width = 1) :
    (s.flag f i 0).bit f i 0 = true := by
  have e : (s.flag f i 0).bit f i 0 = (s.setFld f 1 i 0).bit f i 0 := by
    unfold State.flag State.bit State.fld State.setFld bitPut
    rw [State.reg_count, h1]
    rfl
  rw [e]
  unfold State.bit
  rw [State.fld_setFld_same _ f hf, h1]
  rfl

end Sys2Proof.Machine
end

