-- ==== Sys2Proof/Laws/State.lean ====
section
/-! SUPPORT. What each basic update leaves alone: one lemma for each field of State, true by definition. -/

namespace Sys2Proof.Machine

variable (s : State)

@[simp] theorem State.setReg_variant (r : RegName) (i j v : Nat) : (s.setReg r i j v).variant = s.variant := rfl
@[simp] theorem State.setReg_osc (r : RegName) (i j v : Nat) : (s.setReg r i j v).osc = s.osc := rfl
@[simp] theorem State.setReg_fresh (r : RegName) (i j v : Nat) : (s.setReg r i j v).fresh = s.fresh := rfl
@[simp] theorem State.setReg_cnts (r : RegName) (i j v : Nat) : (s.setReg r i j v).cnts = s.cnts := rfl
@[simp] theorem State.setReg_shadows (r : RegName) (i j v : Nat) : (s.setReg r i j v).shadows = s.shadows := rfl
@[simp] theorem State.setReg_mem (r : RegName) (i j v : Nat) : (s.setReg r i j v).mem = s.mem := rfl
@[simp] theorem State.setReg_pending (r : RegName) (i j v : Nat) : (s.setReg r i j v).pending = s.pending := rfl
@[simp] theorem State.setReg_resp (r : RegName) (i j v : Nat) : (s.setReg r i j v).resp = s.resp := rfl
@[simp] theorem State.setReg_outbox (r : RegName) (i j v : Nat) : (s.setReg r i j v).outbox = s.outbox := rfl
@[simp] theorem State.setReg_sess (r : RegName) (i j v : Nat) : (s.setReg r i j v).sess = s.sess := rfl
@[simp] theorem State.setReg_tiles (r : RegName) (i j v : Nat) : (s.setReg r i j v).tiles = s.tiles := rfl
@[simp] theorem State.setReg_units (r : RegName) (i j v : Nat) : (s.setReg r i j v).units = s.units := rfl
@[simp] theorem State.setReg_paces (r : RegName) (i j v : Nat) : (s.setReg r i j v).paces = s.paces := rfl
@[simp] theorem State.setReg_lowPace (r : RegName) (i j v : Nat) : (s.setReg r i j v).lowPace = s.lowPace := rfl
@[simp] theorem State.setReg_sup (r : RegName) (i j v : Nat) : (s.setReg r i j v).sup = s.sup := rfl
@[simp] theorem State.setReg_charter (r : RegName) (i j v : Nat) : (s.setReg r i j v).charter = s.charter := rfl
@[simp] theorem State.setReg_imageA (r : RegName) (i j v : Nat) : (s.setReg r i j v).imageA = s.imageA := rfl
@[simp] theorem State.setReg_imageB (r : RegName) (i j v : Nat) : (s.setReg r i j v).imageB = s.imageB := rfl
@[simp] theorem State.setReg_xspi (r : RegName) (i j v : Nat) : (s.setReg r i j v).xspi = s.xspi := rfl
@[simp] theorem State.setReg_load (r : RegName) (i j v : Nat) : (s.setReg r i j v).load = s.load := rfl
@[simp] theorem State.setReg_startAt (r : RegName) (i j v : Nat) : (s.setReg r i j v).startAt = s.startAt := rfl
@[simp] theorem State.setReg_judged (r : RegName) (i j v : Nat) : (s.setReg r i j v).judged = s.judged := rfl
@[simp] theorem State.setReg_resetToLog (r : RegName) (i j v : Nat) : (s.setReg r i j v).resetToLog = s.resetToLog := rfl
@[simp] theorem State.setReg_links (r : RegName) (i j v : Nat) : (s.setReg r i j v).links = s.links := rfl
@[simp] theorem State.setReg_frames (r : RegName) (i j v : Nat) : (s.setReg r i j v).frames = s.frames := rfl
@[simp] theorem State.setReg_inss (r : RegName) (i j v : Nat) : (s.setReg r i j v).inss = s.inss := rfl
@[simp] theorem State.setReg_waitQ (r : RegName) (i j v : Nat) : (s.setReg r i j v).waitQ = s.waitQ := rfl
@[simp] theorem State.setReg_token (r : RegName) (i j v : Nat) : (s.setReg r i j v).token = s.token := rfl
@[simp] theorem State.setReg_tripSeq (r : RegName) (i j v : Nat) : (s.setReg r i j v).tripSeq = s.tripSeq := rfl
@[simp] theorem State.setReg_prots (r : RegName) (i j v : Nat) : (s.setReg r i j v).prots = s.prots := rfl
@[simp] theorem State.setReg_bus (r : RegName) (i j v : Nat) : (s.setReg r i j v).bus = s.bus := rfl
@[simp] theorem State.setReg_tripQ (r : RegName) (i j v : Nat) : (s.setReg r i j v).tripQ = s.tripQ := rfl
@[simp] theorem State.setReg_damageLog (r : RegName) (i j v : Nat) : (s.setReg r i j v).damageLog = s.damageLog := rfl
@[simp] theorem State.setReg_lockLog (r : RegName) (i j v : Nat) : (s.setReg r i j v).lockLog = s.lockLog := rfl
@[simp] theorem State.setReg_trims (r : RegName) (i j v : Nat) : (s.setReg r i j v).trims = s.trims := rfl
@[simp] theorem State.setReg_share (r : RegName) (i j v : Nat) : (s.setReg r i j v).share = s.share := rfl
@[simp] theorem State.setReg_strms (r : RegName) (i j v : Nat) : (s.setReg r i j v).strms = s.strms := rfl
@[simp] theorem State.setReg_win (r : RegName) (i j v : Nat) : (s.setReg r i j v).win = s.win := rfl
@[simp] theorem State.setReg_convs (r : RegName) (i j v : Nat) : (s.setReg r i j v).convs = s.convs := rfl
@[simp] theorem State.setReg_convBlocks (r : RegName) (i j v : Nat) : (s.setReg r i j v).convBlocks = s.convBlocks := rfl
@[simp] theorem State.setReg_settle (r : RegName) (i j v : Nat) : (s.setReg r i j v).settle = s.settle := rfl
@[simp] theorem State.setReg_tals (r : RegName) (i j v : Nat) : (s.setReg r i j v).tals = s.tals := rfl
@[simp] theorem State.setReg_trigs (r : RegName) (i j v : Nat) : (s.setReg r i j v).trigs = s.trigs := rfl
@[simp] theorem State.setReg_carriers (r : RegName) (i j v : Nat) : (s.setReg r i j v).carriers = s.carriers := rfl
@[simp] theorem State.setReg_chains (r : RegName) (i j v : Nat) : (s.setReg r i j v).chains = s.chains := rfl
@[simp] theorem State.setReg_nodes (r : RegName) (i j v : Nat) : (s.setReg r i j v).nodes = s.nodes := rfl
@[simp] theorem State.setReg_inst (r : RegName) (i j v : Nat) : (s.setReg r i j v).inst = s.inst := rfl
@[simp] theorem State.setReg_cells (r : RegName) (i j v : Nat) : (s.setReg r i j v).cells = s.cells := rfl
@[simp] theorem State.setReg_strEst (r : RegName) (i j v : Nat) : (s.setReg r i j v).strEst = s.strEst := rfl
@[simp] theorem State.setReg_blkEst (r : RegName) (i j v : Nat) : (s.setReg r i j v).blkEst = s.blkEst := rfl
@[simp] theorem State.setReg_keptNodes (r : RegName) (i j v : Nat) : (s.setReg r i j v).keptNodes = s.keptNodes := rfl
@[simp] theorem State.setReg_est (r : RegName) (i j v : Nat) : (s.setReg r i j v).est = s.est := rfl
@[simp] theorem State.setReg_ldgState (r : RegName) (i j v : Nat) : (s.setReg r i j v).ldgState = s.ldgState := rfl
@[simp] theorem State.setReg_recorder (r : RegName) (i j v : Nat) : (s.setReg r i j v).recorder = s.recorder := rfl
@[simp] theorem State.setReg_dsp (r : RegName) (i j v : Nat) : (s.setReg r i j v).dsp = s.dsp := rfl
@[simp] theorem State.setReg_evtFifo (r : RegName) (i j v : Nat) : (s.setReg r i j v).evtFifo = s.evtFifo := rfl
@[simp] theorem State.setReg_evtSeq (r : RegName) (i j v : Nat) : (s.setReg r i j v).evtSeq = s.evtSeq := rfl
@[simp] theorem State.setReg_evtPending (r : RegName) (i j v : Nat) : (s.setReg r i j v).evtPending = s.evtPending := rfl
@[simp] theorem State.setReg_com (r : RegName) (i j v : Nat) : (s.setReg r i j v).com = s.com := rfl
@[simp] theorem State.setReg_span (r : RegName) (i j v : Nat) : (s.setReg r i j v).span = s.span := rfl
@[simp] theorem State.setReg_tbs (r : RegName) (i j v : Nat) : (s.setReg r i j v).tbs = s.tbs := rfl
@[simp] theorem State.setReg_bel (r : RegName) (i j v : Nat) : (s.setReg r i j v).bel = s.bel := rfl
@[simp] theorem State.setReg_pars (r : RegName) (i j v : Nat) : (s.setReg r i j v).pars = s.pars := rfl
@[simp] theorem State.setReg_ldg (r : RegName) (i j v : Nat) : (s.setReg r i j v).ldg = s.ldg := rfl
@[simp] theorem State.setReg_tg (r : RegName) (i j v : Nat) : (s.setReg r i j v).tg = s.tg := rfl
@[simp] theorem State.setReg_almChs (r : RegName) (i j v : Nat) : (s.setReg r i j v).almChs = s.almChs := rfl
@[simp] theorem State.setReg_alm (r : RegName) (i j v : Nat) : (s.setReg r i j v).alm = s.alm := rfl
@[simp] theorem State.setReg_baseLog (r : RegName) (i j v : Nat) : (s.setReg r i j v).baseLog = s.baseLog := rfl
@[simp] theorem State.setReg_inj (r : RegName) (i j v : Nat) : (s.setReg r i j v).inj = s.inj := rfl

@[simp] theorem State.setFld_variant (f : Fld) (v i j : Nat) : (s.setFld f v i j).variant = s.variant := rfl
@[simp] theorem State.setFld_osc (f : Fld) (v i j : Nat) : (s.setFld f v i j).osc = s.osc := rfl
@[simp] theorem State.setFld_fresh (f : Fld) (v i j : Nat) : (s.setFld f v i j).fresh = s.fresh := rfl
@[simp] theorem State.setFld_cnts (f : Fld) (v i j : Nat) : (s.setFld f v i j).cnts = s.cnts := rfl
@[simp] theorem State.setFld_shadows (f : Fld) (v i j : Nat) : (s.setFld f v i j).shadows = s.shadows := rfl
@[simp] theorem State.setFld_mem (f : Fld) (v i j : Nat) : (s.setFld f v i j).mem = s.mem := rfl
@[simp] theorem State.setFld_pending (f : Fld) (v i j : Nat) : (s.setFld f v i j).pending = s.pending := rfl
@[simp] theorem State.setFld_resp (f : Fld) (v i j : Nat) : (s.setFld f v i j).resp = s.resp := rfl
@[simp] theorem State.setFld_outbox (f : Fld) (v i j : Nat) : (s.setFld f v i j).outbox = s.outbox := rfl
@[simp] theorem State.setFld_sess (f : Fld) (v i j : Nat) : (s.setFld f v i j).sess = s.sess := rfl
@[simp] theorem State.setFld_tiles (f : Fld) (v i j : Nat) : (s.setFld f v i j).tiles = s.tiles := rfl
@[simp] theorem State.setFld_units (f : Fld) (v i j : Nat) : (s.setFld f v i j).units = s.units := rfl
@[simp] theorem State.setFld_paces (f : Fld) (v i j : Nat) : (s.setFld f v i j).paces = s.paces := rfl
@[simp] theorem State.setFld_lowPace (f : Fld) (v i j : Nat) : (s.setFld f v i j).lowPace = s.lowPace := rfl
@[simp] theorem State.setFld_sup (f : Fld) (v i j : Nat) : (s.setFld f v i j).sup = s.sup := rfl
@[simp] theorem State.setFld_charter (f : Fld) (v i j : Nat) : (s.setFld f v i j).charter = s.charter := rfl
@[simp] theorem State.setFld_imageA (f : Fld) (v i j : Nat) : (s.setFld f v i j).imageA = s.imageA := rfl
@[simp] theorem State.setFld_imageB (f : Fld) (v i j : Nat) : (s.setFld f v i j).imageB = s.imageB := rfl
@[simp] theorem State.setFld_xspi (f : Fld) (v i j : Nat) : (s.setFld f v i j).xspi = s.xspi := rfl
@[simp] theorem State.setFld_load (f : Fld) (v i j : Nat) : (s.setFld f v i j).load = s.load := rfl
@[simp] theorem State.setFld_startAt (f : Fld) (v i j : Nat) : (s.setFld f v i j).startAt = s.startAt := rfl
@[simp] theorem State.setFld_judged (f : Fld) (v i j : Nat) : (s.setFld f v i j).judged = s.judged := rfl
@[simp] theorem State.setFld_resetToLog (f : Fld) (v i j : Nat) : (s.setFld f v i j).resetToLog = s.resetToLog := rfl
@[simp] theorem State.setFld_links (f : Fld) (v i j : Nat) : (s.setFld f v i j).links = s.links := rfl
@[simp] theorem State.setFld_frames (f : Fld) (v i j : Nat) : (s.setFld f v i j).frames = s.frames := rfl
@[simp] theorem State.setFld_inss (f : Fld) (v i j : Nat) : (s.setFld f v i j).inss = s.inss := rfl
@[simp] theorem State.setFld_waitQ (f : Fld) (v i j : Nat) : (s.setFld f v i j).waitQ = s.waitQ := rfl
@[simp] theorem State.setFld_token (f : Fld) (v i j : Nat) : (s.setFld f v i j).token = s.token := rfl
@[simp] theorem State.setFld_tripSeq (f : Fld) (v i j : Nat) : (s.setFld f v i j).tripSeq = s.tripSeq := rfl
@[simp] theorem State.setFld_prots (f : Fld) (v i j : Nat) : (s.setFld f v i j).prots = s.prots := rfl
@[simp] theorem State.setFld_bus (f : Fld) (v i j : Nat) : (s.setFld f v i j).bus = s.bus := rfl
@[simp] theorem State.setFld_tripQ (f : Fld) (v i j : Nat) : (s.setFld f v i j).tripQ = s.tripQ := rfl
@[simp] theorem State.setFld_damageLog (f : Fld) (v i j : Nat) : (s.setFld f v i j).damageLog = s.damageLog := rfl
@[simp] theorem State.setFld_lockLog (f : Fld) (v i j : Nat) : (s.setFld f v i j).lockLog = s.lockLog := rfl
@[simp] theorem State.setFld_trims (f : Fld) (v i j : Nat) : (s.setFld f v i j).trims = s.trims := rfl
@[simp] theorem State.setFld_share (f : Fld) (v i j : Nat) : (s.setFld f v i j).share = s.share := rfl
@[simp] theorem State.setFld_strms (f : Fld) (v i j : Nat) : (s.setFld f v i j).strms = s.strms := rfl
@[simp] theorem State.setFld_win (f : Fld) (v i j : Nat) : (s.setFld f v i j).win = s.win := rfl
@[simp] theorem State.setFld_convs (f : Fld) (v i j : Nat) : (s.setFld f v i j).convs = s.convs := rfl
@[simp] theorem State.setFld_convBlocks (f : Fld) (v i j : Nat) : (s.setFld f v i j).convBlocks = s.convBlocks := rfl
@[simp] theorem State.setFld_settle (f : Fld) (v i j : Nat) : (s.setFld f v i j).settle = s.settle := rfl
@[simp] theorem State.setFld_tals (f : Fld) (v i j : Nat) : (s.setFld f v i j).tals = s.tals := rfl
@[simp] theorem State.setFld_trigs (f : Fld) (v i j : Nat) : (s.setFld f v i j).trigs = s.trigs := rfl
@[simp] theorem State.setFld_carriers (f : Fld) (v i j : Nat) : (s.setFld f v i j).carriers = s.carriers := rfl
@[simp] theorem State.setFld_chains (f : Fld) (v i j : Nat) : (s.setFld f v i j).chains = s.chains := rfl
@[simp] theorem State.setFld_nodes (f : Fld) (v i j : Nat) : (s.setFld f v i j).nodes = s.nodes := rfl
@[simp] theorem State.setFld_inst (f : Fld) (v i j : Nat) : (s.setFld f v i j).inst = s.inst := rfl
@[simp] theorem State.setFld_cells (f : Fld) (v i j : Nat) : (s.setFld f v i j).cells = s.cells := rfl
@[simp] theorem State.setFld_strEst (f : Fld) (v i j : Nat) : (s.setFld f v i j).strEst = s.strEst := rfl
@[simp] theorem State.setFld_blkEst (f : Fld) (v i j : Nat) : (s.setFld f v i j).blkEst = s.blkEst := rfl
@[simp] theorem State.setFld_keptNodes (f : Fld) (v i j : Nat) : (s.setFld f v i j).keptNodes = s.keptNodes := rfl
@[simp] theorem State.setFld_est (f : Fld) (v i j : Nat) : (s.setFld f v i j).est = s.est := rfl
@[simp] theorem State.setFld_ldgState (f : Fld) (v i j : Nat) : (s.setFld f v i j).ldgState = s.ldgState := rfl
@[simp] theorem State.setFld_recorder (f : Fld) (v i j : Nat) : (s.setFld f v i j).recorder = s.recorder := rfl
@[simp] theorem State.setFld_dsp (f : Fld) (v i j : Nat) : (s.setFld f v i j).dsp = s.dsp := rfl
@[simp] theorem State.setFld_evtFifo (f : Fld) (v i j : Nat) : (s.setFld f v i j).evtFifo = s.evtFifo := rfl
@[simp] theorem State.setFld_evtSeq (f : Fld) (v i j : Nat) : (s.setFld f v i j).evtSeq = s.evtSeq := rfl
@[simp] theorem State.setFld_evtPending (f : Fld) (v i j : Nat) : (s.setFld f v i j).evtPending = s.evtPending := rfl
@[simp] theorem State.setFld_com (f : Fld) (v i j : Nat) : (s.setFld f v i j).com = s.com := rfl
@[simp] theorem State.setFld_span (f : Fld) (v i j : Nat) : (s.setFld f v i j).span = s.span := rfl
@[simp] theorem State.setFld_tbs (f : Fld) (v i j : Nat) : (s.setFld f v i j).tbs = s.tbs := rfl
@[simp] theorem State.setFld_bel (f : Fld) (v i j : Nat) : (s.setFld f v i j).bel = s.bel := rfl
@[simp] theorem State.setFld_pars (f : Fld) (v i j : Nat) : (s.setFld f v i j).pars = s.pars := rfl
@[simp] theorem State.setFld_ldg (f : Fld) (v i j : Nat) : (s.setFld f v i j).ldg = s.ldg := rfl
@[simp] theorem State.setFld_tg (f : Fld) (v i j : Nat) : (s.setFld f v i j).tg = s.tg := rfl
@[simp] theorem State.setFld_almChs (f : Fld) (v i j : Nat) : (s.setFld f v i j).almChs = s.almChs := rfl
@[simp] theorem State.setFld_alm (f : Fld) (v i j : Nat) : (s.setFld f v i j).alm = s.alm := rfl
@[simp] theorem State.setFld_baseLog (f : Fld) (v i j : Nat) : (s.setFld f v i j).baseLog = s.baseLog := rfl
@[simp] theorem State.setFld_inj (f : Fld) (v i j : Nat) : (s.setFld f v i j).inj = s.inj := rfl

@[simp] theorem State.setBit_variant (f : Fld) (v : Bool) (i j : Nat) : (s.setBit f v i j).variant = s.variant := rfl
@[simp] theorem State.setBit_osc (f : Fld) (v : Bool) (i j : Nat) : (s.setBit f v i j).osc = s.osc := rfl
@[simp] theorem State.setBit_fresh (f : Fld) (v : Bool) (i j : Nat) : (s.setBit f v i j).fresh = s.fresh := rfl
@[simp] theorem State.setBit_cnts (f : Fld) (v : Bool) (i j : Nat) : (s.setBit f v i j).cnts = s.cnts := rfl
@[simp] theorem State.setBit_shadows (f : Fld) (v : Bool) (i j : Nat) : (s.setBit f v i j).shadows = s.shadows := rfl
@[simp] theorem State.setBit_mem (f : Fld) (v : Bool) (i j : Nat) : (s.setBit f v i j).mem = s.mem := rfl
@[simp] theorem State.setBit_pending (f : Fld) (v : Bool) (i j : Nat) : (s.setBit f v i j).pending = s.pending := rfl
@[simp] theorem State.setBit_resp (f : Fld) (v : Bool) (i j : Nat) : (s.setBit f v i j).resp = s.resp := rfl
@[simp] theorem State.setBit_outbox (f : Fld) (v : Bool) (i j : Nat) : (s.setBit f v i j).outbox = s.outbox := rfl
@[simp] theorem State.setBit_sess (f : Fld) (v : Bool) (i j : Nat) : (s.setBit f v i j).sess = s.sess := rfl
@[simp] theorem State.setBit_tiles (f : Fld) (v : Bool) (i j : Nat) : (s.setBit f v i j).tiles = s.tiles := rfl
@[simp] theorem State.setBit_units (f : Fld) (v : Bool) (i j : Nat) : (s.setBit f v i j).units = s.units := rfl
@[simp] theorem State.setBit_paces (f : Fld) (v : Bool) (i j : Nat) : (s.setBit f v i j).paces = s.paces := rfl
@[simp] theorem State.setBit_lowPace (f : Fld) (v : Bool) (i j : Nat) : (s.setBit f v i j).lowPace = s.lowPace := rfl
@[simp] theorem State.setBit_sup (f : Fld) (v : Bool) (i j : Nat) : (s.setBit f v i j).sup = s.sup := rfl
@[simp] theorem State.setBit_charter (f : Fld) (v : Bool) (i j : Nat) : (s.setBit f v i j).charter = s.charter := rfl
@[simp] theorem State.setBit_imageA (f : Fld) (v : Bool) (i j : Nat) : (s.setBit f v i j).imageA = s.imageA := rfl
@[simp] theorem State.setBit_imageB (f : Fld) (v : Bool) (i j : Nat) : (s.setBit f v i j).imageB = s.imageB := rfl
@[simp] theorem State.setBit_xspi (f : Fld) (v : Bool) (i j : Nat) : (s.setBit f v i j).xspi = s.xspi := rfl
@[simp] theorem State.setBit_load (f : Fld) (v : Bool) (i j : Nat) : (s.setBit f v i j).load = s.load := rfl
@[simp] theorem State.setBit_startAt (f : Fld) (v : Bool) (i j : Nat) : (s.setBit f v i j).startAt = s.startAt := rfl
@[simp] theorem State.setBit_judged (f : Fld) (v : Bool) (i j : Nat) : (s.setBit f v i j).judged = s.judged := rfl
@[simp] theorem State.setBit_resetToLog (f : Fld) (v : Bool) (i j : Nat) : (s.setBit f v i j).resetToLog = s.resetToLog := rfl
@[simp] theorem State.setBit_links (f : Fld) (v : Bool) (i j : Nat) : (s.setBit f v i j).links = s.links := rfl
@[simp] theorem State.setBit_frames (f : Fld) (v : Bool) (i j : Nat) : (s.setBit f v i j).frames = s.frames := rfl
@[simp] theorem State.setBit_inss (f : Fld) (v : Bool) (i j : Nat) : (s.setBit f v i j).inss = s.inss := rfl
@[simp] theorem State.setBit_waitQ (f : Fld) (v : Bool) (i j : Nat) : (s.setBit f v i j).waitQ = s.waitQ := rfl
@[simp] theorem State.setBit_token (f : Fld) (v : Bool) (i j : Nat) : (s.setBit f v i j).token = s.token := rfl
@[simp] theorem State.setBit_tripSeq (f : Fld) (v : Bool) (i j : Nat) : (s.setBit f v i j).tripSeq = s.tripSeq := rfl
@[simp] theorem State.setBit_prots (f : Fld) (v : Bool) (i j : Nat) : (s.setBit f v i j).prots = s.prots := rfl
@[simp] theorem State.setBit_bus (f : Fld) (v : Bool) (i j : Nat) : (s.setBit f v i j).bus = s.bus := rfl
@[simp] theorem State.setBit_tripQ (f : Fld) (v : Bool) (i j : Nat) : (s.setBit f v i j).tripQ = s.tripQ := rfl
@[simp] theorem State.setBit_damageLog (f : Fld) (v : Bool) (i j : Nat) : (s.setBit f v i j).damageLog = s.damageLog := rfl
@[simp] theorem State.setBit_lockLog (f : Fld) (v : Bool) (i j : Nat) : (s.setBit f v i j).lockLog = s.lockLog := rfl
@[simp] theorem State.setBit_trims (f : Fld) (v : Bool) (i j : Nat) : (s.setBit f v i j).trims = s.trims := rfl
@[simp] theorem State.setBit_share (f : Fld) (v : Bool) (i j : Nat) : (s.setBit f v i j).share = s.share := rfl
@[simp] theorem State.setBit_strms (f : Fld) (v : Bool) (i j : Nat) : (s.setBit f v i j).strms = s.strms := rfl
@[simp] theorem State.setBit_win (f : Fld) (v : Bool) (i j : Nat) : (s.setBit f v i j).win = s.win := rfl
@[simp] theorem State.setBit_convs (f : Fld) (v : Bool) (i j : Nat) : (s.setBit f v i j).convs = s.convs := rfl
@[simp] theorem State.setBit_convBlocks (f : Fld) (v : Bool) (i j : Nat) : (s.setBit f v i j).convBlocks = s.convBlocks := rfl
@[simp] theorem State.setBit_settle (f : Fld) (v : Bool) (i j : Nat) : (s.setBit f v i j).settle = s.settle := rfl
@[simp] theorem State.setBit_tals (f : Fld) (v : Bool) (i j : Nat) : (s.setBit f v i j).tals = s.tals := rfl
@[simp] theorem State.setBit_trigs (f : Fld) (v : Bool) (i j : Nat) : (s.setBit f v i j).trigs = s.trigs := rfl
@[simp] theorem State.setBit_carriers (f : Fld) (v : Bool) (i j : Nat) : (s.setBit f v i j).carriers = s.carriers := rfl
@[simp] theorem State.setBit_chains (f : Fld) (v : Bool) (i j : Nat) : (s.setBit f v i j).chains = s.chains := rfl
@[simp] theorem State.setBit_nodes (f : Fld) (v : Bool) (i j : Nat) : (s.setBit f v i j).nodes = s.nodes := rfl
@[simp] theorem State.setBit_inst (f : Fld) (v : Bool) (i j : Nat) : (s.setBit f v i j).inst = s.inst := rfl
@[simp] theorem State.setBit_cells (f : Fld) (v : Bool) (i j : Nat) : (s.setBit f v i j).cells = s.cells := rfl
@[simp] theorem State.setBit_strEst (f : Fld) (v : Bool) (i j : Nat) : (s.setBit f v i j).strEst = s.strEst := rfl
@[simp] theorem State.setBit_blkEst (f : Fld) (v : Bool) (i j : Nat) : (s.setBit f v i j).blkEst = s.blkEst := rfl
@[simp] theorem State.setBit_keptNodes (f : Fld) (v : Bool) (i j : Nat) : (s.setBit f v i j).keptNodes = s.keptNodes := rfl
@[simp] theorem State.setBit_est (f : Fld) (v : Bool) (i j : Nat) : (s.setBit f v i j).est = s.est := rfl
@[simp] theorem State.setBit_ldgState (f : Fld) (v : Bool) (i j : Nat) : (s.setBit f v i j).ldgState = s.ldgState := rfl
@[simp] theorem State.setBit_recorder (f : Fld) (v : Bool) (i j : Nat) : (s.setBit f v i j).recorder = s.recorder := rfl
@[simp] theorem State.setBit_dsp (f : Fld) (v : Bool) (i j : Nat) : (s.setBit f v i j).dsp = s.dsp := rfl
@[simp] theorem State.setBit_evtFifo (f : Fld) (v : Bool) (i j : Nat) : (s.setBit f v i j).evtFifo = s.evtFifo := rfl
@[simp] theorem State.setBit_evtSeq (f : Fld) (v : Bool) (i j : Nat) : (s.setBit f v i j).evtSeq = s.evtSeq := rfl
@[simp] theorem State.setBit_evtPending (f : Fld) (v : Bool) (i j : Nat) : (s.setBit f v i j).evtPending = s.evtPending := rfl
@[simp] theorem State.setBit_com (f : Fld) (v : Bool) (i j : Nat) : (s.setBit f v i j).com = s.com := rfl
@[simp] theorem State.setBit_span (f : Fld) (v : Bool) (i j : Nat) : (s.setBit f v i j).span = s.span := rfl
@[simp] theorem State.setBit_tbs (f : Fld) (v : Bool) (i j : Nat) : (s.setBit f v i j).tbs = s.tbs := rfl
@[simp] theorem State.setBit_bel (f : Fld) (v : Bool) (i j : Nat) : (s.setBit f v i j).bel = s.bel := rfl
@[simp] theorem State.setBit_pars (f : Fld) (v : Bool) (i j : Nat) : (s.setBit f v i j).pars = s.pars := rfl
@[simp] theorem State.setBit_ldg (f : Fld) (v : Bool) (i j : Nat) : (s.setBit f v i j).ldg = s.ldg := rfl
@[simp] theorem State.setBit_tg (f : Fld) (v : Bool) (i j : Nat) : (s.setBit f v i j).tg = s.tg := rfl
@[simp] theorem State.setBit_almChs (f : Fld) (v : Bool) (i j : Nat) : (s.setBit f v i j).almChs = s.almChs := rfl
@[simp] theorem State.setBit_alm (f : Fld) (v : Bool) (i j : Nat) : (s.setBit f v i j).alm = s.alm := rfl
@[simp] theorem State.setBit_baseLog (f : Fld) (v : Bool) (i j : Nat) : (s.setBit f v i j).baseLog = s.baseLog := rfl
@[simp] theorem State.setBit_inj (f : Fld) (v : Bool) (i j : Nat) : (s.setBit f v i j).inj = s.inj := rfl

@[simp] theorem State.count_variant (r : RegName) (i b : Nat) : (s.count r i b).variant = s.variant := rfl
@[simp] theorem State.count_osc (r : RegName) (i b : Nat) : (s.count r i b).osc = s.osc := rfl
@[simp] theorem State.count_fresh (r : RegName) (i b : Nat) : (s.count r i b).fresh = s.fresh := rfl
@[simp] theorem State.count_regs (r : RegName) (i b : Nat) : (s.count r i b).regs = s.regs := rfl
@[simp] theorem State.count_shadows (r : RegName) (i b : Nat) : (s.count r i b).shadows = s.shadows := rfl
@[simp] theorem State.count_mem (r : RegName) (i b : Nat) : (s.count r i b).mem = s.mem := rfl
@[simp] theorem State.count_pending (r : RegName) (i b : Nat) : (s.count r i b).pending = s.pending := rfl
@[simp] theorem State.count_resp (r : RegName) (i b : Nat) : (s.count r i b).resp = s.resp := rfl
@[simp] theorem State.count_outbox (r : RegName) (i b : Nat) : (s.count r i b).outbox = s.outbox := rfl
@[simp] theorem State.count_sess (r : RegName) (i b : Nat) : (s.count r i b).sess = s.sess := rfl
@[simp] theorem State.count_tiles (r : RegName) (i b : Nat) : (s.count r i b).tiles = s.tiles := rfl
@[simp] theorem State.count_units (r : RegName) (i b : Nat) : (s.count r i b).units = s.units := rfl
@[simp] theorem State.count_paces (r : RegName) (i b : Nat) : (s.count r i b).paces = s.paces := rfl
@[simp] theorem State.count_lowPace (r : RegName) (i b : Nat) : (s.count r i b).lowPace = s.lowPace := rfl
@[simp] theorem State.count_sup (r : RegName) (i b : Nat) : (s.count r i b).sup = s.sup := rfl
@[simp] theorem State.count_charter (r : RegName) (i b : Nat) : (s.count r i b).charter = s.charter := rfl
@[simp] theorem State.count_imageA (r : RegName) (i b : Nat) : (s.count r i b).imageA = s.imageA := rfl
@[simp] theorem State.count_imageB (r : RegName) (i b : Nat) : (s.count r i b).imageB = s.imageB := rfl
@[simp] theorem State.count_xspi (r : RegName) (i b : Nat) : (s.count r i b).xspi = s.xspi := rfl
@[simp] theorem State.count_load (r : RegName) (i b : Nat) : (s.count r i b).load = s.load := rfl
@[simp] theorem State.count_startAt (r : RegName) (i b : Nat) : (s.count r i b).startAt = s.startAt := rfl
@[simp] theorem State.count_judged (r : RegName) (i b : Nat) : (s.count r i b).judged = s.judged := rfl
@[simp] theorem State.count_resetToLog (r : RegName) (i b : Nat) : (s.count r i b).resetToLog = s.resetToLog := rfl
@[simp] theorem State.count_links (r : RegName) (i b : Nat) : (s.count r i b).links = s.links := rfl
@[simp] theorem State.count_frames (r : RegName) (i b : Nat) : (s.count r i b).frames = s.frames := rfl
@[simp] theorem State.count_inss (r : RegName) (i b : Nat) : (s.count r i b).inss = s.inss := rfl
@[simp] theorem State.count_waitQ (r : RegName) (i b : Nat) : (s.count r i b).waitQ = s.waitQ := rfl
@[simp] theorem State.count_token (r : RegName) (i b : Nat) : (s.count r i b).token = s.token := rfl
@[simp] theorem State.count_tripSeq (r : RegName) (i b : Nat) : (s.count r i b).tripSeq = s.tripSeq := rfl
@[simp] theorem State.count_prots (r : RegName) (i b : Nat) : (s.count r i b).prots = s.prots := rfl
@[simp] theorem State.count_bus (r : RegName) (i b : Nat) : (s.count r i b).bus = s.bus := rfl
@[simp] theorem State.count_tripQ (r : RegName) (i b : Nat) : (s.count r i b).tripQ = s.tripQ := rfl
@[simp] theorem State.count_damageLog (r : RegName) (i b : Nat) : (s.count r i b).damageLog = s.damageLog := rfl
@[simp] theorem State.count_lockLog (r : RegName) (i b : Nat) : (s.count r i b).lockLog = s.lockLog := rfl
@[simp] theorem State.count_trims (r : RegName) (i b : Nat) : (s.count r i b).trims = s.trims := rfl
@[simp] theorem State.count_share (r : RegName) (i b : Nat) : (s.count r i b).share = s.share := rfl
@[simp] theorem State.count_strms (r : RegName) (i b : Nat) : (s.count r i b).strms = s.strms := rfl
@[simp] theorem State.count_win (r : RegName) (i b : Nat) : (s.count r i b).win = s.win := rfl
@[simp] theorem State.count_convs (r : RegName) (i b : Nat) : (s.count r i b).convs = s.convs := rfl
@[simp] theorem State.count_convBlocks (r : RegName) (i b : Nat) : (s.count r i b).convBlocks = s.convBlocks := rfl
@[simp] theorem State.count_settle (r : RegName) (i b : Nat) : (s.count r i b).settle = s.settle := rfl
@[simp] theorem State.count_tals (r : RegName) (i b : Nat) : (s.count r i b).tals = s.tals := rfl
@[simp] theorem State.count_trigs (r : RegName) (i b : Nat) : (s.count r i b).trigs = s.trigs := rfl
@[simp] theorem State.count_carriers (r : RegName) (i b : Nat) : (s.count r i b).carriers = s.carriers := rfl
@[simp] theorem State.count_chains (r : RegName) (i b : Nat) : (s.count r i b).chains = s.chains := rfl
@[simp] theorem State.count_nodes (r : RegName) (i b : Nat) : (s.count r i b).nodes = s.nodes := rfl
@[simp] theorem State.count_inst (r : RegName) (i b : Nat) : (s.count r i b).inst = s.inst := rfl
@[simp] theorem State.count_cells (r : RegName) (i b : Nat) : (s.count r i b).cells = s.cells := rfl
@[simp] theorem State.count_strEst (r : RegName) (i b : Nat) : (s.count r i b).strEst = s.strEst := rfl
@[simp] theorem State.count_blkEst (r : RegName) (i b : Nat) : (s.count r i b).blkEst = s.blkEst := rfl
@[simp] theorem State.count_keptNodes (r : RegName) (i b : Nat) : (s.count r i b).keptNodes = s.keptNodes := rfl
@[simp] theorem State.count_est (r : RegName) (i b : Nat) : (s.count r i b).est = s.est := rfl
@[simp] theorem State.count_ldgState (r : RegName) (i b : Nat) : (s.count r i b).ldgState = s.ldgState := rfl
@[simp] theorem State.count_recorder (r : RegName) (i b : Nat) : (s.count r i b).recorder = s.recorder := rfl
@[simp] theorem State.count_dsp (r : RegName) (i b : Nat) : (s.count r i b).dsp = s.dsp := rfl
@[simp] theorem State.count_evtFifo (r : RegName) (i b : Nat) : (s.count r i b).evtFifo = s.evtFifo := rfl
@[simp] theorem State.count_evtSeq (r : RegName) (i b : Nat) : (s.count r i b).evtSeq = s.evtSeq := rfl
@[simp] theorem State.count_evtPending (r : RegName) (i b : Nat) : (s.count r i b).evtPending = s.evtPending := rfl
@[simp] theorem State.count_com (r : RegName) (i b : Nat) : (s.count r i b).com = s.com := rfl
@[simp] theorem State.count_span (r : RegName) (i b : Nat) : (s.count r i b).span = s.span := rfl
@[simp] theorem State.count_tbs (r : RegName) (i b : Nat) : (s.count r i b).tbs = s.tbs := rfl
@[simp] theorem State.count_bel (r : RegName) (i b : Nat) : (s.count r i b).bel = s.bel := rfl
@[simp] theorem State.count_pars (r : RegName) (i b : Nat) : (s.count r i b).pars = s.pars := rfl
@[simp] theorem State.count_ldg (r : RegName) (i b : Nat) : (s.count r i b).ldg = s.ldg := rfl
@[simp] theorem State.count_tg (r : RegName) (i b : Nat) : (s.count r i b).tg = s.tg := rfl
@[simp] theorem State.count_almChs (r : RegName) (i b : Nat) : (s.count r i b).almChs = s.almChs := rfl
@[simp] theorem State.count_alm (r : RegName) (i b : Nat) : (s.count r i b).alm = s.alm := rfl
@[simp] theorem State.count_baseLog (r : RegName) (i b : Nat) : (s.count r i b).baseLog = s.baseLog := rfl
@[simp] theorem State.count_inj (r : RegName) (i b : Nat) : (s.count r i b).inj = s.inj := rfl

@[simp] theorem State.flag_variant (f : Fld) (i b : Nat) : (s.flag f i b).variant = s.variant := rfl
@[simp] theorem State.flag_osc (f : Fld) (i b : Nat) : (s.flag f i b).osc = s.osc := rfl
@[simp] theorem State.flag_fresh (f : Fld) (i b : Nat) : (s.flag f i b).fresh = s.fresh := rfl
@[simp] theorem State.flag_shadows (f : Fld) (i b : Nat) : (s.flag f i b).shadows = s.shadows := rfl
@[simp] theorem State.flag_mem (f : Fld) (i b : Nat) : (s.flag f i b).mem = s.mem := rfl
@[simp] theorem State.flag_pending (f : Fld) (i b : Nat) : (s.flag f i b).pending = s.pending := rfl
@[simp] theorem State.flag_resp (f : Fld) (i b : Nat) : (s.flag f i b).resp = s.resp := rfl
@[simp] theorem State.flag_outbox (f : Fld) (i b : Nat) : (s.flag f i b).outbox = s.outbox := rfl
@[simp] theorem State.flag_sess (f : Fld) (i b : Nat) : (s.flag f i b).sess = s.sess := rfl
@[simp] theorem State.flag_tiles (f : Fld) (i b : Nat) : (s.flag f i b).tiles = s.tiles := rfl
@[simp] theorem State.flag_units (f : Fld) (i b : Nat) : (s.flag f i b).units = s.units := rfl
@[simp] theorem State.flag_paces (f : Fld) (i b : Nat) : (s.flag f i b).paces = s.paces := rfl
@[simp] theorem State.flag_lowPace (f : Fld) (i b : Nat) : (s.flag f i b).lowPace = s.lowPace := rfl
@[simp] theorem State.flag_sup (f : Fld) (i b : Nat) : (s.flag f i b).sup = s.sup := rfl
@[simp] theorem State.flag_charter (f : Fld) (i b : Nat) : (s.flag f i b).charter = s.charter := rfl
@[simp] theorem State.flag_imageA (f : Fld) (i b : Nat) : (s.flag f i b).imageA = s.imageA := rfl
@[simp] theorem State.flag_imageB (f : Fld) (i b : Nat) : (s.flag f i b).imageB = s.imageB := rfl
@[simp] theorem State.flag_xspi (f : Fld) (i b : Nat) : (s.flag f i b).xspi = s.xspi := rfl
@[simp] theorem State.flag_load (f : Fld) (i b : Nat) : (s.flag f i b).load = s.load := rfl
@[simp] theorem State.flag_startAt (f : Fld) (i b : Nat) : (s.flag f i b).startAt = s.startAt := rfl
@[simp] theorem State.flag_judged (f : Fld) (i b : Nat) : (s.flag f i b).judged = s.judged := rfl
@[simp] theorem State.flag_resetToLog (f : Fld) (i b : Nat) : (s.flag f i b).resetToLog = s.resetToLog := rfl
@[simp] theorem State.flag_links (f : Fld) (i b : Nat) : (s.flag f i b).links = s.links := rfl
@[simp] theorem State.flag_frames (f : Fld) (i b : Nat) : (s.flag f i b).frames = s.frames := rfl
@[simp] theorem State.flag_inss (f : Fld) (i b : Nat) : (s.flag f i b).inss = s.inss := rfl
@[simp] theorem State.flag_waitQ (f : Fld) (i b : Nat) : (s.flag f i b).waitQ = s.waitQ := rfl
@[simp] theorem State.flag_token (f : Fld) (i b : Nat) : (s.flag f i b).token = s.token := rfl
@[simp] theorem State.flag_tripSeq (f : Fld) (i b : Nat) : (s.flag f i b).tripSeq = s.tripSeq := rfl
@[simp] theorem State.flag_prots (f : Fld) (i b : Nat) : (s.flag f i b).prots = s.prots := rfl
@[simp] theorem State.flag_bus (f : Fld) (i b : Nat) : (s.flag f i b).bus = s.bus := rfl
@[simp] theorem State.flag_tripQ (f : Fld) (i b : Nat) : (s.flag f i b).tripQ = s.tripQ := rfl
@[simp] theorem State.flag_damageLog (f : Fld) (i b : Nat) : (s.flag f i b).damageLog = s.damageLog := rfl
@[simp] theorem State.flag_lockLog (f : Fld) (i b : Nat) : (s.flag f i b).lockLog = s.lockLog := rfl
@[simp] theorem State.flag_trims (f : Fld) (i b : Nat) : (s.flag f i b).trims = s.trims := rfl
@[simp] theorem State.flag_share (f : Fld) (i b : Nat) : (s.flag f i b).share = s.share := rfl
@[simp] theorem State.flag_strms (f : Fld) (i b : Nat) : (s.flag f i b).strms = s.strms := rfl
@[simp] theorem State.flag_win (f : Fld) (i b : Nat) : (s.flag f i b).win = s.win := rfl
@[simp] theorem State.flag_convs (f : Fld) (i b : Nat) : (s.flag f i b).convs = s.convs := rfl
@[simp] theorem State.flag_convBlocks (f : Fld) (i b : Nat) : (s.flag f i b).convBlocks = s.convBlocks := rfl
@[simp] theorem State.flag_settle (f : Fld) (i b : Nat) : (s.flag f i b).settle = s.settle := rfl
@[simp] theorem State.flag_tals (f : Fld) (i b : Nat) : (s.flag f i b).tals = s.tals := rfl
@[simp] theorem State.flag_trigs (f : Fld) (i b : Nat) : (s.flag f i b).trigs = s.trigs := rfl
@[simp] theorem State.flag_carriers (f : Fld) (i b : Nat) : (s.flag f i b).carriers = s.carriers := rfl
@[simp] theorem State.flag_chains (f : Fld) (i b : Nat) : (s.flag f i b).chains = s.chains := rfl
@[simp] theorem State.flag_nodes (f : Fld) (i b : Nat) : (s.flag f i b).nodes = s.nodes := rfl
@[simp] theorem State.flag_inst (f : Fld) (i b : Nat) : (s.flag f i b).inst = s.inst := rfl
@[simp] theorem State.flag_cells (f : Fld) (i b : Nat) : (s.flag f i b).cells = s.cells := rfl
@[simp] theorem State.flag_strEst (f : Fld) (i b : Nat) : (s.flag f i b).strEst = s.strEst := rfl
@[simp] theorem State.flag_blkEst (f : Fld) (i b : Nat) : (s.flag f i b).blkEst = s.blkEst := rfl
@[simp] theorem State.flag_keptNodes (f : Fld) (i b : Nat) : (s.flag f i b).keptNodes = s.keptNodes := rfl
@[simp] theorem State.flag_est (f : Fld) (i b : Nat) : (s.flag f i b).est = s.est := rfl
@[simp] theorem State.flag_ldgState (f : Fld) (i b : Nat) : (s.flag f i b).ldgState = s.ldgState := rfl
@[simp] theorem State.flag_recorder (f : Fld) (i b : Nat) : (s.flag f i b).recorder = s.recorder := rfl
@[simp] theorem State.flag_dsp (f : Fld) (i b : Nat) : (s.flag f i b).dsp = s.dsp := rfl
@[simp] theorem State.flag_evtFifo (f : Fld) (i b : Nat) : (s.flag f i b).evtFifo = s.evtFifo := rfl
@[simp] theorem State.flag_evtSeq (f : Fld) (i b : Nat) : (s.flag f i b).evtSeq = s.evtSeq := rfl
@[simp] theorem State.flag_evtPending (f : Fld) (i b : Nat) : (s.flag f i b).evtPending = s.evtPending := rfl
@[simp] theorem State.flag_com (f : Fld) (i b : Nat) : (s.flag f i b).com = s.com := rfl
@[simp] theorem State.flag_span (f : Fld) (i b : Nat) : (s.flag f i b).span = s.span := rfl
@[simp] theorem State.flag_tbs (f : Fld) (i b : Nat) : (s.flag f i b).tbs = s.tbs := rfl
@[simp] theorem State.flag_bel (f : Fld) (i b : Nat) : (s.flag f i b).bel = s.bel := rfl
@[simp] theorem State.flag_pars (f : Fld) (i b : Nat) : (s.flag f i b).pars = s.pars := rfl
@[simp] theorem State.flag_ldg (f : Fld) (i b : Nat) : (s.flag f i b).ldg = s.ldg := rfl
@[simp] theorem State.flag_tg (f : Fld) (i b : Nat) : (s.flag f i b).tg = s.tg := rfl
@[simp] theorem State.flag_almChs (f : Fld) (i b : Nat) : (s.flag f i b).almChs = s.almChs := rfl
@[simp] theorem State.flag_alm (f : Fld) (i b : Nat) : (s.flag f i b).alm = s.alm := rfl
@[simp] theorem State.flag_baseLog (f : Fld) (i b : Nat) : (s.flag f i b).baseLog = s.baseLog := rfl
@[simp] theorem State.flag_inj (f : Fld) (i b : Nat) : (s.flag f i b).inj = s.inj := rfl

@[simp] theorem State.send_variant (m : Msg) : (s.send m).variant = s.variant := rfl
@[simp] theorem State.send_osc (m : Msg) : (s.send m).osc = s.osc := rfl
@[simp] theorem State.send_fresh (m : Msg) : (s.send m).fresh = s.fresh := rfl
@[simp] theorem State.send_regs (m : Msg) : (s.send m).regs = s.regs := rfl
@[simp] theorem State.send_cnts (m : Msg) : (s.send m).cnts = s.cnts := rfl
@[simp] theorem State.send_shadows (m : Msg) : (s.send m).shadows = s.shadows := rfl
@[simp] theorem State.send_mem (m : Msg) : (s.send m).mem = s.mem := rfl
@[simp] theorem State.send_pending (m : Msg) : (s.send m).pending = s.pending := rfl
@[simp] theorem State.send_resp (m : Msg) : (s.send m).resp = s.resp := rfl
@[simp] theorem State.send_sess (m : Msg) : (s.send m).sess = s.sess := rfl
@[simp] theorem State.send_tiles (m : Msg) : (s.send m).tiles = s.tiles := rfl
@[simp] theorem State.send_units (m : Msg) : (s.send m).units = s.units := rfl
@[simp] theorem State.send_paces (m : Msg) : (s.send m).paces = s.paces := rfl
@[simp] theorem State.send_lowPace (m : Msg) : (s.send m).lowPace = s.lowPace := rfl
@[simp] theorem State.send_sup (m : Msg) : (s.send m).sup = s.sup := rfl
@[simp] theorem State.send_charter (m : Msg) : (s.send m).charter = s.charter := rfl
@[simp] theorem State.send_imageA (m : Msg) : (s.send m).imageA = s.imageA := rfl
@[simp] theorem State.send_imageB (m : Msg) : (s.send m).imageB = s.imageB := rfl
@[simp] theorem State.send_xspi (m : Msg) : (s.send m).xspi = s.xspi := rfl
@[simp] theorem State.send_load (m : Msg) : (s.send m).load = s.load := rfl
@[simp] theorem State.send_startAt (m : Msg) : (s.send m).startAt = s.startAt := rfl
@[simp] theorem State.send_judged (m : Msg) : (s.send m).judged = s.judged := rfl
@[simp] theorem State.send_resetToLog (m : Msg) : (s.send m).resetToLog = s.resetToLog := rfl
@[simp] theorem State.send_links (m : Msg) : (s.send m).links = s.links := rfl
@[simp] theorem State.send_frames (m : Msg) : (s.send m).frames = s.frames := rfl
@[simp] theorem State.send_inss (m : Msg) : (s.send m).inss = s.inss := rfl
@[simp] theorem State.send_waitQ (m : Msg) : (s.send m).waitQ = s.waitQ := rfl
@[simp] theorem State.send_token (m : Msg) : (s.send m).token = s.token := rfl
@[simp] theorem State.send_tripSeq (m : Msg) : (s.send m).tripSeq = s.tripSeq := rfl
@[simp] theorem State.send_prots (m : Msg) : (s.send m).prots = s.prots := rfl
@[simp] theorem State.send_bus (m : Msg) : (s.send m).bus = s.bus := rfl
@[simp] theorem State.send_tripQ (m : Msg) : (s.send m).tripQ = s.tripQ := rfl
@[simp] theorem State.send_damageLog (m : Msg) : (s.send m).damageLog = s.damageLog := rfl
@[simp] theorem State.send_lockLog (m : Msg) : (s.send m).lockLog = s.lockLog := rfl
@[simp] theorem State.send_trims (m : Msg) : (s.send m).trims = s.trims := rfl
@[simp] theorem State.send_share (m : Msg) : (s.send m).share = s.share := rfl
@[simp] theorem State.send_strms (m : Msg) : (s.send m).strms = s.strms := rfl
@[simp] theorem State.send_win (m : Msg) : (s.send m).win = s.win := rfl
@[simp] theorem State.send_convs (m : Msg) : (s.send m).convs = s.convs := rfl
@[simp] theorem State.send_convBlocks (m : Msg) : (s.send m).convBlocks = s.convBlocks := rfl
@[simp] theorem State.send_settle (m : Msg) : (s.send m).settle = s.settle := rfl
@[simp] theorem State.send_tals (m : Msg) : (s.send m).tals = s.tals := rfl
@[simp] theorem State.send_trigs (m : Msg) : (s.send m).trigs = s.trigs := rfl
@[simp] theorem State.send_carriers (m : Msg) : (s.send m).carriers = s.carriers := rfl
@[simp] theorem State.send_chains (m : Msg) : (s.send m).chains = s.chains := rfl
@[simp] theorem State.send_nodes (m : Msg) : (s.send m).nodes = s.nodes := rfl
@[simp] theorem State.send_inst (m : Msg) : (s.send m).inst = s.inst := rfl
@[simp] theorem State.send_cells (m : Msg) : (s.send m).cells = s.cells := rfl
@[simp] theorem State.send_strEst (m : Msg) : (s.send m).strEst = s.strEst := rfl
@[simp] theorem State.send_blkEst (m : Msg) : (s.send m).blkEst = s.blkEst := rfl
@[simp] theorem State.send_keptNodes (m : Msg) : (s.send m).keptNodes = s.keptNodes := rfl
@[simp] theorem State.send_est (m : Msg) : (s.send m).est = s.est := rfl
@[simp] theorem State.send_ldgState (m : Msg) : (s.send m).ldgState = s.ldgState := rfl
@[simp] theorem State.send_recorder (m : Msg) : (s.send m).recorder = s.recorder := rfl
@[simp] theorem State.send_dsp (m : Msg) : (s.send m).dsp = s.dsp := rfl
@[simp] theorem State.send_evtFifo (m : Msg) : (s.send m).evtFifo = s.evtFifo := rfl
@[simp] theorem State.send_evtSeq (m : Msg) : (s.send m).evtSeq = s.evtSeq := rfl
@[simp] theorem State.send_evtPending (m : Msg) : (s.send m).evtPending = s.evtPending := rfl
@[simp] theorem State.send_com (m : Msg) : (s.send m).com = s.com := rfl
@[simp] theorem State.send_span (m : Msg) : (s.send m).span = s.span := rfl
@[simp] theorem State.send_tbs (m : Msg) : (s.send m).tbs = s.tbs := rfl
@[simp] theorem State.send_bel (m : Msg) : (s.send m).bel = s.bel := rfl
@[simp] theorem State.send_pars (m : Msg) : (s.send m).pars = s.pars := rfl
@[simp] theorem State.send_ldg (m : Msg) : (s.send m).ldg = s.ldg := rfl
@[simp] theorem State.send_tg (m : Msg) : (s.send m).tg = s.tg := rfl
@[simp] theorem State.send_almChs (m : Msg) : (s.send m).almChs = s.almChs := rfl
@[simp] theorem State.send_alm (m : Msg) : (s.send m).alm = s.alm := rfl
@[simp] theorem State.send_baseLog (m : Msg) : (s.send m).baseLog = s.baseLog := rfl
@[simp] theorem State.send_inj (m : Msg) : (s.send m).inj = s.inj := rfl

@[simp] theorem State.answer_variant (r : Resp) : (s.answer r).variant = s.variant := rfl
@[simp] theorem State.answer_osc (r : Resp) : (s.answer r).osc = s.osc := rfl
@[simp] theorem State.answer_fresh (r : Resp) : (s.answer r).fresh = s.fresh := rfl
@[simp] theorem State.answer_regs (r : Resp) : (s.answer r).regs = s.regs := rfl
@[simp] theorem State.answer_cnts (r : Resp) : (s.answer r).cnts = s.cnts := rfl
@[simp] theorem State.answer_shadows (r : Resp) : (s.answer r).shadows = s.shadows := rfl
@[simp] theorem State.answer_mem (r : Resp) : (s.answer r).mem = s.mem := rfl
@[simp] theorem State.answer_pending (r : Resp) : (s.answer r).pending = s.pending := rfl
@[simp] theorem State.answer_outbox (r : Resp) : (s.answer r).outbox = s.outbox := rfl
@[simp] theorem State.answer_sess (r : Resp) : (s.answer r).sess = s.sess := rfl
@[simp] theorem State.answer_tiles (r : Resp) : (s.answer r).tiles = s.tiles := rfl
@[simp] theorem State.answer_units (r : Resp) : (s.answer r).units = s.units := rfl
@[simp] theorem State.answer_paces (r : Resp) : (s.answer r).paces = s.paces := rfl
@[simp] theorem State.answer_lowPace (r : Resp) : (s.answer r).lowPace = s.lowPace := rfl
@[simp] theorem State.answer_sup (r : Resp) : (s.answer r).sup = s.sup := rfl
@[simp] theorem State.answer_charter (r : Resp) : (s.answer r).charter = s.charter := rfl
@[simp] theorem State.answer_imageA (r : Resp) : (s.answer r).imageA = s.imageA := rfl
@[simp] theorem State.answer_imageB (r : Resp) : (s.answer r).imageB = s.imageB := rfl
@[simp] theorem State.answer_xspi (r : Resp) : (s.answer r).xspi = s.xspi := rfl
@[simp] theorem State.answer_load (r : Resp) : (s.answer r).load = s.load := rfl
@[simp] theorem State.answer_startAt (r : Resp) : (s.answer r).startAt = s.startAt := rfl
@[simp] theorem State.answer_judged (r : Resp) : (s.answer r).judged = s.judged := rfl
@[simp] theorem State.answer_resetToLog (r : Resp) : (s.answer r).resetToLog = s.resetToLog := rfl
@[simp] theorem State.answer_links (r : Resp) : (s.answer r).links = s.links := rfl
@[simp] theorem State.answer_frames (r : Resp) : (s.answer r).frames = s.frames := rfl
@[simp] theorem State.answer_inss (r : Resp) : (s.answer r).inss = s.inss := rfl
@[simp] theorem State.answer_waitQ (r : Resp) : (s.answer r).waitQ = s.waitQ := rfl
@[simp] theorem State.answer_token (r : Resp) : (s.answer r).token = s.token := rfl
@[simp] theorem State.answer_tripSeq (r : Resp) : (s.answer r).tripSeq = s.tripSeq := rfl
@[simp] theorem State.answer_prots (r : Resp) : (s.answer r).prots = s.prots := rfl
@[simp] theorem State.answer_bus (r : Resp) : (s.answer r).bus = s.bus := rfl
@[simp] theorem State.answer_tripQ (r : Resp) : (s.answer r).tripQ = s.tripQ := rfl
@[simp] theorem State.answer_damageLog (r : Resp) : (s.answer r).damageLog = s.damageLog := rfl
@[simp] theorem State.answer_lockLog (r : Resp) : (s.answer r).lockLog = s.lockLog := rfl
@[simp] theorem State.answer_trims (r : Resp) : (s.answer r).trims = s.trims := rfl
@[simp] theorem State.answer_share (r : Resp) : (s.answer r).share = s.share := rfl
@[simp] theorem State.answer_strms (r : Resp) : (s.answer r).strms = s.strms := rfl
@[simp] theorem State.answer_win (r : Resp) : (s.answer r).win = s.win := rfl
@[simp] theorem State.answer_convs (r : Resp) : (s.answer r).convs = s.convs := rfl
@[simp] theorem State.answer_convBlocks (r : Resp) : (s.answer r).convBlocks = s.convBlocks := rfl
@[simp] theorem State.answer_settle (r : Resp) : (s.answer r).settle = s.settle := rfl
@[simp] theorem State.answer_tals (r : Resp) : (s.answer r).tals = s.tals := rfl
@[simp] theorem State.answer_trigs (r : Resp) : (s.answer r).trigs = s.trigs := rfl
@[simp] theorem State.answer_carriers (r : Resp) : (s.answer r).carriers = s.carriers := rfl
@[simp] theorem State.answer_chains (r : Resp) : (s.answer r).chains = s.chains := rfl
@[simp] theorem State.answer_nodes (r : Resp) : (s.answer r).nodes = s.nodes := rfl
@[simp] theorem State.answer_inst (r : Resp) : (s.answer r).inst = s.inst := rfl
@[simp] theorem State.answer_cells (r : Resp) : (s.answer r).cells = s.cells := rfl
@[simp] theorem State.answer_strEst (r : Resp) : (s.answer r).strEst = s.strEst := rfl
@[simp] theorem State.answer_blkEst (r : Resp) : (s.answer r).blkEst = s.blkEst := rfl
@[simp] theorem State.answer_keptNodes (r : Resp) : (s.answer r).keptNodes = s.keptNodes := rfl
@[simp] theorem State.answer_est (r : Resp) : (s.answer r).est = s.est := rfl
@[simp] theorem State.answer_ldgState (r : Resp) : (s.answer r).ldgState = s.ldgState := rfl
@[simp] theorem State.answer_recorder (r : Resp) : (s.answer r).recorder = s.recorder := rfl
@[simp] theorem State.answer_dsp (r : Resp) : (s.answer r).dsp = s.dsp := rfl
@[simp] theorem State.answer_evtFifo (r : Resp) : (s.answer r).evtFifo = s.evtFifo := rfl
@[simp] theorem State.answer_evtSeq (r : Resp) : (s.answer r).evtSeq = s.evtSeq := rfl
@[simp] theorem State.answer_evtPending (r : Resp) : (s.answer r).evtPending = s.evtPending := rfl
@[simp] theorem State.answer_com (r : Resp) : (s.answer r).com = s.com := rfl
@[simp] theorem State.answer_span (r : Resp) : (s.answer r).span = s.span := rfl
@[simp] theorem State.answer_tbs (r : Resp) : (s.answer r).tbs = s.tbs := rfl
@[simp] theorem State.answer_bel (r : Resp) : (s.answer r).bel = s.bel := rfl
@[simp] theorem State.answer_pars (r : Resp) : (s.answer r).pars = s.pars := rfl
@[simp] theorem State.answer_ldg (r : Resp) : (s.answer r).ldg = s.ldg := rfl
@[simp] theorem State.answer_tg (r : Resp) : (s.answer r).tg = s.tg := rfl
@[simp] theorem State.answer_almChs (r : Resp) : (s.answer r).almChs = s.almChs := rfl
@[simp] theorem State.answer_alm (r : Resp) : (s.answer r).alm = s.alm := rfl
@[simp] theorem State.answer_baseLog (r : Resp) : (s.answer r).baseLog = s.baseLog := rfl
@[simp] theorem State.answer_inj (r : Resp) : (s.answer r).inj = s.inj := rfl

@[simp] theorem State.draw_variant : (s.draw).variant = s.variant := rfl
@[simp] theorem State.draw_osc : (s.draw).osc = s.osc := rfl
@[simp] theorem State.draw_regs : (s.draw).regs = s.regs := rfl
@[simp] theorem State.draw_cnts : (s.draw).cnts = s.cnts := rfl
@[simp] theorem State.draw_shadows : (s.draw).shadows = s.shadows := rfl
@[simp] theorem State.draw_mem : (s.draw).mem = s.mem := rfl
@[simp] theorem State.draw_pending : (s.draw).pending = s.pending := rfl
@[simp] theorem State.draw_resp : (s.draw).resp = s.resp := rfl
@[simp] theorem State.draw_outbox : (s.draw).outbox = s.outbox := rfl
@[simp] theorem State.draw_sess : (s.draw).sess = s.sess := rfl
@[simp] theorem State.draw_tiles : (s.draw).tiles = s.tiles := rfl
@[simp] theorem State.draw_units : (s.draw).units = s.units := rfl
@[simp] theorem State.draw_paces : (s.draw).paces = s.paces := rfl
@[simp] theorem State.draw_lowPace : (s.draw).lowPace = s.lowPace := rfl
@[simp] theorem State.draw_sup : (s.draw).sup = s.sup := rfl
@[simp] theorem State.draw_charter : (s.draw).charter = s.charter := rfl
@[simp] theorem State.draw_imageA : (s.draw).imageA = s.imageA := rfl
@[simp] theorem State.draw_imageB : (s.draw).imageB = s.imageB := rfl
@[simp] theorem State.draw_xspi : (s.draw).xspi = s.xspi := rfl
@[simp] theorem State.draw_load : (s.draw).load = s.load := rfl
@[simp] theorem State.draw_startAt : (s.draw).startAt = s.startAt := rfl
@[simp] theorem State.draw_judged : (s.draw).judged = s.judged := rfl
@[simp] theorem State.draw_resetToLog : (s.draw).resetToLog = s.resetToLog := rfl
@[simp] theorem State.draw_links : (s.draw).links = s.links := rfl
@[simp] theorem State.draw_frames : (s.draw).frames = s.frames := rfl
@[simp] theorem State.draw_inss : (s.draw).inss = s.inss := rfl
@[simp] theorem State.draw_waitQ : (s.draw).waitQ = s.waitQ := rfl
@[simp] theorem State.draw_token : (s.draw).token = s.token := rfl
@[simp] theorem State.draw_tripSeq : (s.draw).tripSeq = s.tripSeq := rfl
@[simp] theorem State.draw_prots : (s.draw).prots = s.prots := rfl
@[simp] theorem State.draw_bus : (s.draw).bus = s.bus := rfl
@[simp] theorem State.draw_tripQ : (s.draw).tripQ = s.tripQ := rfl
@[simp] theorem State.draw_damageLog : (s.draw).damageLog = s.damageLog := rfl
@[simp] theorem State.draw_lockLog : (s.draw).lockLog = s.lockLog := rfl
@[simp] theorem State.draw_trims : (s.draw).trims = s.trims := rfl
@[simp] theorem State.draw_share : (s.draw).share = s.share := rfl
@[simp] theorem State.draw_strms : (s.draw).strms = s.strms := rfl
@[simp] theorem State.draw_win : (s.draw).win = s.win := rfl
@[simp] theorem State.draw_convs : (s.draw).convs = s.convs := rfl
@[simp] theorem State.draw_convBlocks : (s.draw).convBlocks = s.convBlocks := rfl
@[simp] theorem State.draw_settle : (s.draw).settle = s.settle := rfl
@[simp] theorem State.draw_tals : (s.draw).tals = s.tals := rfl
@[simp] theorem State.draw_trigs : (s.draw).trigs = s.trigs := rfl
@[simp] theorem State.draw_carriers : (s.draw).carriers = s.carriers := rfl
@[simp] theorem State.draw_chains : (s.draw).chains = s.chains := rfl
@[simp] theorem State.draw_nodes : (s.draw).nodes = s.nodes := rfl
@[simp] theorem State.draw_inst : (s.draw).inst = s.inst := rfl
@[simp] theorem State.draw_cells : (s.draw).cells = s.cells := rfl
@[simp] theorem State.draw_strEst : (s.draw).strEst = s.strEst := rfl
@[simp] theorem State.draw_blkEst : (s.draw).blkEst = s.blkEst := rfl
@[simp] theorem State.draw_keptNodes : (s.draw).keptNodes = s.keptNodes := rfl
@[simp] theorem State.draw_est : (s.draw).est = s.est := rfl
@[simp] theorem State.draw_ldgState : (s.draw).ldgState = s.ldgState := rfl
@[simp] theorem State.draw_recorder : (s.draw).recorder = s.recorder := rfl
@[simp] theorem State.draw_dsp : (s.draw).dsp = s.dsp := rfl
@[simp] theorem State.draw_evtFifo : (s.draw).evtFifo = s.evtFifo := rfl
@[simp] theorem State.draw_evtSeq : (s.draw).evtSeq = s.evtSeq := rfl
@[simp] theorem State.draw_evtPending : (s.draw).evtPending = s.evtPending := rfl
@[simp] theorem State.draw_com : (s.draw).com = s.com := rfl
@[simp] theorem State.draw_span : (s.draw).span = s.span := rfl
@[simp] theorem State.draw_tbs : (s.draw).tbs = s.tbs := rfl
@[simp] theorem State.draw_bel : (s.draw).bel = s.bel := rfl
@[simp] theorem State.draw_pars : (s.draw).pars = s.pars := rfl
@[simp] theorem State.draw_ldg : (s.draw).ldg = s.ldg := rfl
@[simp] theorem State.draw_tg : (s.draw).tg = s.tg := rfl
@[simp] theorem State.draw_almChs : (s.draw).almChs = s.almChs := rfl
@[simp] theorem State.draw_alm : (s.draw).alm = s.alm := rfl
@[simp] theorem State.draw_baseLog : (s.draw).baseLog = s.baseLog := rfl
@[simp] theorem State.draw_inj : (s.draw).inj = s.inj := rfl

@[simp] theorem State.setWord_variant (a v : Nat) : (s.setWord a v).variant = s.variant := rfl
@[simp] theorem State.setWord_osc (a v : Nat) : (s.setWord a v).osc = s.osc := rfl
@[simp] theorem State.setWord_fresh (a v : Nat) : (s.setWord a v).fresh = s.fresh := rfl
@[simp] theorem State.setWord_regs (a v : Nat) : (s.setWord a v).regs = s.regs := rfl
@[simp] theorem State.setWord_cnts (a v : Nat) : (s.setWord a v).cnts = s.cnts := rfl
@[simp] theorem State.setWord_shadows (a v : Nat) : (s.setWord a v).shadows = s.shadows := rfl
@[simp] theorem State.setWord_pending (a v : Nat) : (s.setWord a v).pending = s.pending := rfl
@[simp] theorem State.setWord_resp (a v : Nat) : (s.setWord a v).resp = s.resp := rfl
@[simp] theorem State.setWord_outbox (a v : Nat) : (s.setWord a v).outbox = s.outbox := rfl
@[simp] theorem State.setWord_sess (a v : Nat) : (s.setWord a v).sess = s.sess := rfl
@[simp] theorem State.setWord_tiles (a v : Nat) : (s.setWord a v).tiles = s.tiles := rfl
@[simp] theorem State.setWord_units (a v : Nat) : (s.setWord a v).units = s.units := rfl
@[simp] theorem State.setWord_paces (a v : Nat) : (s.setWord a v).paces = s.paces := rfl
@[simp] theorem State.setWord_lowPace (a v : Nat) : (s.setWord a v).lowPace = s.lowPace := rfl
@[simp] theorem State.setWord_sup (a v : Nat) : (s.setWord a v).sup = s.sup := rfl
@[simp] theorem State.setWord_charter (a v : Nat) : (s.setWord a v).charter = s.charter := rfl
@[simp] theorem State.setWord_imageA (a v : Nat) : (s.setWord a v).imageA = s.imageA := rfl
@[simp] theorem State.setWord_imageB (a v : Nat) : (s.setWord a v).imageB = s.imageB := rfl
@[simp] theorem State.setWord_xspi (a v : Nat) : (s.setWord a v).xspi = s.xspi := rfl
@[simp] theorem State.setWord_load (a v : Nat) : (s.setWord a v).load = s.load := rfl
@[simp] theorem State.setWord_startAt (a v : Nat) : (s.setWord a v).startAt = s.startAt := rfl
@[simp] theorem State.setWord_judged (a v : Nat) : (s.setWord a v).judged = s.judged := rfl
@[simp] theorem State.setWord_resetToLog (a v : Nat) : (s.setWord a v).resetToLog = s.resetToLog := rfl
@[simp] theorem State.setWord_links (a v : Nat) : (s.setWord a v).links = s.links := rfl
@[simp] theorem State.setWord_frames (a v : Nat) : (s.setWord a v).frames = s.frames := rfl
@[simp] theorem State.setWord_inss (a v : Nat) : (s.setWord a v).inss = s.inss := rfl
@[simp] theorem State.setWord_waitQ (a v : Nat) : (s.setWord a v).waitQ = s.waitQ := rfl
@[simp] theorem State.setWord_token (a v : Nat) : (s.setWord a v).token = s.token := rfl
@[simp] theorem State.setWord_tripSeq (a v : Nat) : (s.setWord a v).tripSeq = s.tripSeq := rfl
@[simp] theorem State.setWord_prots (a v : Nat) : (s.setWord a v).prots = s.prots := rfl
@[simp] theorem State.setWord_bus (a v : Nat) : (s.setWord a v).bus = s.bus := rfl
@[simp] theorem State.setWord_tripQ (a v : Nat) : (s.setWord a v).tripQ = s.tripQ := rfl
@[simp] theorem State.setWord_damageLog (a v : Nat) : (s.setWord a v).damageLog = s.damageLog := rfl
@[simp] theorem State.setWord_lockLog (a v : Nat) : (s.setWord a v).lockLog = s.lockLog := rfl
@[simp] theorem State.setWord_trims (a v : Nat) : (s.setWord a v).trims = s.trims := rfl
@[simp] theorem State.setWord_share (a v : Nat) : (s.setWord a v).share = s.share := rfl
@[simp] theorem State.setWord_strms (a v : Nat) : (s.setWord a v).strms = s.strms := rfl
@[simp] theorem State.setWord_win (a v : Nat) : (s.setWord a v).win = s.win := rfl
@[simp] theorem State.setWord_convs (a v : Nat) : (s.setWord a v).convs = s.convs := rfl
@[simp] theorem State.setWord_convBlocks (a v : Nat) : (s.setWord a v).convBlocks = s.convBlocks := rfl
@[simp] theorem State.setWord_settle (a v : Nat) : (s.setWord a v).settle = s.settle := rfl
@[simp] theorem State.setWord_tals (a v : Nat) : (s.setWord a v).tals = s.tals := rfl
@[simp] theorem State.setWord_trigs (a v : Nat) : (s.setWord a v).trigs = s.trigs := rfl
@[simp] theorem State.setWord_carriers (a v : Nat) : (s.setWord a v).carriers = s.carriers := rfl
@[simp] theorem State.setWord_chains (a v : Nat) : (s.setWord a v).chains = s.chains := rfl
@[simp] theorem State.setWord_nodes (a v : Nat) : (s.setWord a v).nodes = s.nodes := rfl
@[simp] theorem State.setWord_inst (a v : Nat) : (s.setWord a v).inst = s.inst := rfl
@[simp] theorem State.setWord_cells (a v : Nat) : (s.setWord a v).cells = s.cells := rfl
@[simp] theorem State.setWord_strEst (a v : Nat) : (s.setWord a v).strEst = s.strEst := rfl
@[simp] theorem State.setWord_blkEst (a v : Nat) : (s.setWord a v).blkEst = s.blkEst := rfl
@[simp] theorem State.setWord_keptNodes (a v : Nat) : (s.setWord a v).keptNodes = s.keptNodes := rfl
@[simp] theorem State.setWord_est (a v : Nat) : (s.setWord a v).est = s.est := rfl
@[simp] theorem State.setWord_ldgState (a v : Nat) : (s.setWord a v).ldgState = s.ldgState := rfl
@[simp] theorem State.setWord_recorder (a v : Nat) : (s.setWord a v).recorder = s.recorder := rfl
@[simp] theorem State.setWord_dsp (a v : Nat) : (s.setWord a v).dsp = s.dsp := rfl
@[simp] theorem State.setWord_evtFifo (a v : Nat) : (s.setWord a v).evtFifo = s.evtFifo := rfl
@[simp] theorem State.setWord_evtSeq (a v : Nat) : (s.setWord a v).evtSeq = s.evtSeq := rfl
@[simp] theorem State.setWord_evtPending (a v : Nat) : (s.setWord a v).evtPending = s.evtPending := rfl
@[simp] theorem State.setWord_com (a v : Nat) : (s.setWord a v).com = s.com := rfl
@[simp] theorem State.setWord_span (a v : Nat) : (s.setWord a v).span = s.span := rfl
@[simp] theorem State.setWord_tbs (a v : Nat) : (s.setWord a v).tbs = s.tbs := rfl
@[simp] theorem State.setWord_bel (a v : Nat) : (s.setWord a v).bel = s.bel := rfl
@[simp] theorem State.setWord_pars (a v : Nat) : (s.setWord a v).pars = s.pars := rfl
@[simp] theorem State.setWord_ldg (a v : Nat) : (s.setWord a v).ldg = s.ldg := rfl
@[simp] theorem State.setWord_tg (a v : Nat) : (s.setWord a v).tg = s.tg := rfl
@[simp] theorem State.setWord_almChs (a v : Nat) : (s.setWord a v).almChs = s.almChs := rfl
@[simp] theorem State.setWord_alm (a v : Nat) : (s.setWord a v).alm = s.alm := rfl
@[simp] theorem State.setWord_baseLog (a v : Nat) : (s.setWord a v).baseLog = s.baseLog := rfl
@[simp] theorem State.setWord_inj (a v : Nat) : (s.setWord a v).inj = s.inj := rfl

@[simp] theorem State.setSession_variant (k : Nat) (x : Sess) : (s.setSession k x).variant = s.variant := rfl
@[simp] theorem State.setSession_osc (k : Nat) (x : Sess) : (s.setSession k x).osc = s.osc := rfl
@[simp] theorem State.setSession_fresh (k : Nat) (x : Sess) : (s.setSession k x).fresh = s.fresh := rfl
@[simp] theorem State.setSession_regs (k : Nat) (x : Sess) : (s.setSession k x).regs = s.regs := rfl
@[simp] theorem State.setSession_cnts (k : Nat) (x : Sess) : (s.setSession k x).cnts = s.cnts := rfl
@[simp] theorem State.setSession_shadows (k : Nat) (x : Sess) : (s.setSession k x).shadows = s.shadows := rfl
@[simp] theorem State.setSession_mem (k : Nat) (x : Sess) : (s.setSession k x).mem = s.mem := rfl
@[simp] theorem State.setSession_pending (k : Nat) (x : Sess) : (s.setSession k x).pending = s.pending := rfl
@[simp] theorem State.setSession_resp (k : Nat) (x : Sess) : (s.setSession k x).resp = s.resp := rfl
@[simp] theorem State.setSession_outbox (k : Nat) (x : Sess) : (s.setSession k x).outbox = s.outbox := rfl
@[simp] theorem State.setSession_tiles (k : Nat) (x : Sess) : (s.setSession k x).tiles = s.tiles := rfl
@[simp] theorem State.setSession_units (k : Nat) (x : Sess) : (s.setSession k x).units = s.units := rfl
@[simp] theorem State.setSession_paces (k : Nat) (x : Sess) : (s.setSession k x).paces = s.paces := rfl
@[simp] theorem State.setSession_lowPace (k : Nat) (x : Sess) : (s.setSession k x).lowPace = s.lowPace := rfl
@[simp] theorem State.setSession_sup (k : Nat) (x : Sess) : (s.setSession k x).sup = s.sup := rfl
@[simp] theorem State.setSession_charter (k : Nat) (x : Sess) : (s.setSession k x).charter = s.charter := rfl
@[simp] theorem State.setSession_imageA (k : Nat) (x : Sess) : (s.setSession k x).imageA = s.imageA := rfl
@[simp] theorem State.setSession_imageB (k : Nat) (x : Sess) : (s.setSession k x).imageB = s.imageB := rfl
@[simp] theorem State.setSession_xspi (k : Nat) (x : Sess) : (s.setSession k x).xspi = s.xspi := rfl
@[simp] theorem State.setSession_load (k : Nat) (x : Sess) : (s.setSession k x).load = s.load := rfl
@[simp] theorem State.setSession_startAt (k : Nat) (x : Sess) : (s.setSession k x).startAt = s.startAt := rfl
@[simp] theorem State.setSession_judged (k : Nat) (x : Sess) : (s.setSession k x).judged = s.judged := rfl
@[simp] theorem State.setSession_resetToLog (k : Nat) (x : Sess) : (s.setSession k x).resetToLog = s.resetToLog := rfl
@[simp] theorem State.setSession_links (k : Nat) (x : Sess) : (s.setSession k x).links = s.links := rfl
@[simp] theorem State.setSession_frames (k : Nat) (x : Sess) : (s.setSession k x).frames = s.frames := rfl
@[simp] theorem State.setSession_inss (k : Nat) (x : Sess) : (s.setSession k x).inss = s.inss := rfl
@[simp] theorem State.setSession_waitQ (k : Nat) (x : Sess) : (s.setSession k x).waitQ = s.waitQ := rfl
@[simp] theorem State.setSession_token (k : Nat) (x : Sess) : (s.setSession k x).token = s.token := rfl
@[simp] theorem State.setSession_tripSeq (k : Nat) (x : Sess) : (s.setSession k x).tripSeq = s.tripSeq := rfl
@[simp] theorem State.setSession_prots (k : Nat) (x : Sess) : (s.setSession k x).prots = s.prots := rfl
@[simp] theorem State.setSession_bus (k : Nat) (x : Sess) : (s.setSession k x).bus = s.bus := rfl
@[simp] theorem State.setSession_tripQ (k : Nat) (x : Sess) : (s.setSession k x).tripQ = s.tripQ := rfl
@[simp] theorem State.setSession_damageLog (k : Nat) (x : Sess) : (s.setSession k x).damageLog = s.damageLog := rfl
@[simp] theorem State.setSession_lockLog (k : Nat) (x : Sess) : (s.setSession k x).lockLog = s.lockLog := rfl
@[simp] theorem State.setSession_trims (k : Nat) (x : Sess) : (s.setSession k x).trims = s.trims := rfl
@[simp] theorem State.setSession_share (k : Nat) (x : Sess) : (s.setSession k x).share = s.share := rfl
@[simp] theorem State.setSession_strms (k : Nat) (x : Sess) : (s.setSession k x).strms = s.strms := rfl
@[simp] theorem State.setSession_win (k : Nat) (x : Sess) : (s.setSession k x).win = s.win := rfl
@[simp] theorem State.setSession_convs (k : Nat) (x : Sess) : (s.setSession k x).convs = s.convs := rfl
@[simp] theorem State.setSession_convBlocks (k : Nat) (x : Sess) : (s.setSession k x).convBlocks = s.convBlocks := rfl
@[simp] theorem State.setSession_settle (k : Nat) (x : Sess) : (s.setSession k x).settle = s.settle := rfl
@[simp] theorem State.setSession_tals (k : Nat) (x : Sess) : (s.setSession k x).tals = s.tals := rfl
@[simp] theorem State.setSession_trigs (k : Nat) (x : Sess) : (s.setSession k x).trigs = s.trigs := rfl
@[simp] theorem State.setSession_carriers (k : Nat) (x : Sess) : (s.setSession k x).carriers = s.carriers := rfl
@[simp] theorem State.setSession_chains (k : Nat) (x : Sess) : (s.setSession k x).chains = s.chains := rfl
@[simp] theorem State.setSession_nodes (k : Nat) (x : Sess) : (s.setSession k x).nodes = s.nodes := rfl
@[simp] theorem State.setSession_inst (k : Nat) (x : Sess) : (s.setSession k x).inst = s.inst := rfl
@[simp] theorem State.setSession_cells (k : Nat) (x : Sess) : (s.setSession k x).cells = s.cells := rfl
@[simp] theorem State.setSession_strEst (k : Nat) (x : Sess) : (s.setSession k x).strEst = s.strEst := rfl
@[simp] theorem State.setSession_blkEst (k : Nat) (x : Sess) : (s.setSession k x).blkEst = s.blkEst := rfl
@[simp] theorem State.setSession_keptNodes (k : Nat) (x : Sess) : (s.setSession k x).keptNodes = s.keptNodes := rfl
@[simp] theorem State.setSession_est (k : Nat) (x : Sess) : (s.setSession k x).est = s.est := rfl
@[simp] theorem State.setSession_ldgState (k : Nat) (x : Sess) : (s.setSession k x).ldgState = s.ldgState := rfl
@[simp] theorem State.setSession_recorder (k : Nat) (x : Sess) : (s.setSession k x).recorder = s.recorder := rfl
@[simp] theorem State.setSession_dsp (k : Nat) (x : Sess) : (s.setSession k x).dsp = s.dsp := rfl
@[simp] theorem State.setSession_evtFifo (k : Nat) (x : Sess) : (s.setSession k x).evtFifo = s.evtFifo := rfl
@[simp] theorem State.setSession_evtSeq (k : Nat) (x : Sess) : (s.setSession k x).evtSeq = s.evtSeq := rfl
@[simp] theorem State.setSession_evtPending (k : Nat) (x : Sess) : (s.setSession k x).evtPending = s.evtPending := rfl
@[simp] theorem State.setSession_com (k : Nat) (x : Sess) : (s.setSession k x).com = s.com := rfl
@[simp] theorem State.setSession_span (k : Nat) (x : Sess) : (s.setSession k x).span = s.span := rfl
@[simp] theorem State.setSession_tbs (k : Nat) (x : Sess) : (s.setSession k x).tbs = s.tbs := rfl
@[simp] theorem State.setSession_bel (k : Nat) (x : Sess) : (s.setSession k x).bel = s.bel := rfl
@[simp] theorem State.setSession_pars (k : Nat) (x : Sess) : (s.setSession k x).pars = s.pars := rfl
@[simp] theorem State.setSession_ldg (k : Nat) (x : Sess) : (s.setSession k x).ldg = s.ldg := rfl
@[simp] theorem State.setSession_tg (k : Nat) (x : Sess) : (s.setSession k x).tg = s.tg := rfl
@[simp] theorem State.setSession_almChs (k : Nat) (x : Sess) : (s.setSession k x).almChs = s.almChs := rfl
@[simp] theorem State.setSession_alm (k : Nat) (x : Sess) : (s.setSession k x).alm = s.alm := rfl
@[simp] theorem State.setSession_baseLog (k : Nat) (x : Sess) : (s.setSession k x).baseLog = s.baseLog := rfl
@[simp] theorem State.setSession_inj (k : Nat) (x : Sess) : (s.setSession k x).inj = s.inj := rfl

@[simp] theorem State.setLk_variant (n : Nat) (x : Link) : (s.setLk n x).variant = s.variant := rfl
@[simp] theorem State.setLk_osc (n : Nat) (x : Link) : (s.setLk n x).osc = s.osc := rfl
@[simp] theorem State.setLk_fresh (n : Nat) (x : Link) : (s.setLk n x).fresh = s.fresh := rfl
@[simp] theorem State.setLk_regs (n : Nat) (x : Link) : (s.setLk n x).regs = s.regs := rfl
@[simp] theorem State.setLk_cnts (n : Nat) (x : Link) : (s.setLk n x).cnts = s.cnts := rfl
@[simp] theorem State.setLk_shadows (n : Nat) (x : Link) : (s.setLk n x).shadows = s.shadows := rfl
@[simp] theorem State.setLk_mem (n : Nat) (x : Link) : (s.setLk n x).mem = s.mem := rfl
@[simp] theorem State.setLk_pending (n : Nat) (x : Link) : (s.setLk n x).pending = s.pending := rfl
@[simp] theorem State.setLk_resp (n : Nat) (x : Link) : (s.setLk n x).resp = s.resp := rfl
@[simp] theorem State.setLk_outbox (n : Nat) (x : Link) : (s.setLk n x).outbox = s.outbox := rfl
@[simp] theorem State.setLk_sess (n : Nat) (x : Link) : (s.setLk n x).sess = s.sess := rfl
@[simp] theorem State.setLk_tiles (n : Nat) (x : Link) : (s.setLk n x).tiles = s.tiles := rfl
@[simp] theorem State.setLk_units (n : Nat) (x : Link) : (s.setLk n x).units = s.units := rfl
@[simp] theorem State.setLk_paces (n : Nat) (x : Link) : (s.setLk n x).paces = s.paces := rfl
@[simp] theorem State.setLk_lowPace (n : Nat) (x : Link) : (s.setLk n x).lowPace = s.lowPace := rfl
@[simp] theorem State.setLk_sup (n : Nat) (x : Link) : (s.setLk n x).sup = s.sup := rfl
@[simp] theorem State.setLk_charter (n : Nat) (x : Link) : (s.setLk n x).charter = s.charter := rfl
@[simp] theorem State.setLk_imageA (n : Nat) (x : Link) : (s.setLk n x).imageA = s.imageA := rfl
@[simp] theorem State.setLk_imageB (n : Nat) (x : Link) : (s.setLk n x).imageB = s.imageB := rfl
@[simp] theorem State.setLk_xspi (n : Nat) (x : Link) : (s.setLk n x).xspi = s.xspi := rfl
@[simp] theorem State.setLk_load (n : Nat) (x : Link) : (s.setLk n x).load = s.load := rfl
@[simp] theorem State.setLk_startAt (n : Nat) (x : Link) : (s.setLk n x).startAt = s.startAt := rfl
@[simp] theorem State.setLk_judged (n : Nat) (x : Link) : (s.setLk n x).judged = s.judged := rfl
@[simp] theorem State.setLk_resetToLog (n : Nat) (x : Link) : (s.setLk n x).resetToLog = s.resetToLog := rfl
@[simp] theorem State.setLk_frames (n : Nat) (x : Link) : (s.setLk n x).frames = s.frames := rfl
@[simp] theorem State.setLk_inss (n : Nat) (x : Link) : (s.setLk n x).inss = s.inss := rfl
@[simp] theorem State.setLk_waitQ (n : Nat) (x : Link) : (s.setLk n x).waitQ = s.waitQ := rfl
@[simp] theorem State.setLk_token (n : Nat) (x : Link) : (s.setLk n x).token = s.token := rfl
@[simp] theorem State.setLk_tripSeq (n : Nat) (x : Link) : (s.setLk n x).tripSeq = s.tripSeq := rfl
@[simp] theorem State.setLk_prots (n : Nat) (x : Link) : (s.setLk n x).prots = s.prots := rfl
@[simp] theorem State.setLk_bus (n : Nat) (x : Link) : (s.setLk n x).bus = s.bus := rfl
@[simp] theorem State.setLk_tripQ (n : Nat) (x : Link) : (s.setLk n x).tripQ = s.tripQ := rfl
@[simp] theorem State.setLk_damageLog (n : Nat) (x : Link) : (s.setLk n x).damageLog = s.damageLog := rfl
@[simp] theorem State.setLk_lockLog (n : Nat) (x : Link) : (s.setLk n x).lockLog = s.lockLog := rfl
@[simp] theorem State.setLk_trims (n : Nat) (x : Link) : (s.setLk n x).trims = s.trims := rfl
@[simp] theorem State.setLk_share (n : Nat) (x : Link) : (s.setLk n x).share = s.share := rfl
@[simp] theorem State.setLk_strms (n : Nat) (x : Link) : (s.setLk n x).strms = s.strms := rfl
@[simp] theorem State.setLk_win (n : Nat) (x : Link) : (s.setLk n x).win = s.win := rfl
@[simp] theorem State.setLk_convs (n : Nat) (x : Link) : (s.setLk n x).convs = s.convs := rfl
@[simp] theorem State.setLk_convBlocks (n : Nat) (x : Link) : (s.setLk n x).convBlocks = s.convBlocks := rfl
@[simp] theorem State.setLk_settle (n : Nat) (x : Link) : (s.setLk n x).settle = s.settle := rfl
@[simp] theorem State.setLk_tals (n : Nat) (x : Link) : (s.setLk n x).tals = s.tals := rfl
@[simp] theorem State.setLk_trigs (n : Nat) (x : Link) : (s.setLk n x).trigs = s.trigs := rfl
@[simp] theorem State.setLk_carriers (n : Nat) (x : Link) : (s.setLk n x).carriers = s.carriers := rfl
@[simp] theorem State.setLk_chains (n : Nat) (x : Link) : (s.setLk n x).chains = s.chains := rfl
@[simp] theorem State.setLk_nodes (n : Nat) (x : Link) : (s.setLk n x).nodes = s.nodes := rfl
@[simp] theorem State.setLk_inst (n : Nat) (x : Link) : (s.setLk n x).inst = s.inst := rfl
@[simp] theorem State.setLk_cells (n : Nat) (x : Link) : (s.setLk n x).cells = s.cells := rfl
@[simp] theorem State.setLk_strEst (n : Nat) (x : Link) : (s.setLk n x).strEst = s.strEst := rfl
@[simp] theorem State.setLk_blkEst (n : Nat) (x : Link) : (s.setLk n x).blkEst = s.blkEst := rfl
@[simp] theorem State.setLk_keptNodes (n : Nat) (x : Link) : (s.setLk n x).keptNodes = s.keptNodes := rfl
@[simp] theorem State.setLk_est (n : Nat) (x : Link) : (s.setLk n x).est = s.est := rfl
@[simp] theorem State.setLk_ldgState (n : Nat) (x : Link) : (s.setLk n x).ldgState = s.ldgState := rfl
@[simp] theorem State.setLk_recorder (n : Nat) (x : Link) : (s.setLk n x).recorder = s.recorder := rfl
@[simp] theorem State.setLk_dsp (n : Nat) (x : Link) : (s.setLk n x).dsp = s.dsp := rfl
@[simp] theorem State.setLk_evtFifo (n : Nat) (x : Link) : (s.setLk n x).evtFifo = s.evtFifo := rfl
@[simp] theorem State.setLk_evtSeq (n : Nat) (x : Link) : (s.setLk n x).evtSeq = s.evtSeq := rfl
@[simp] theorem State.setLk_evtPending (n : Nat) (x : Link) : (s.setLk n x).evtPending = s.evtPending := rfl
@[simp] theorem State.setLk_com (n : Nat) (x : Link) : (s.setLk n x).com = s.com := rfl
@[simp] theorem State.setLk_span (n : Nat) (x : Link) : (s.setLk n x).span = s.span := rfl
@[simp] theorem State.setLk_tbs (n : Nat) (x : Link) : (s.setLk n x).tbs = s.tbs := rfl
@[simp] theorem State.setLk_bel (n : Nat) (x : Link) : (s.setLk n x).bel = s.bel := rfl
@[simp] theorem State.setLk_pars (n : Nat) (x : Link) : (s.setLk n x).pars = s.pars := rfl
@[simp] theorem State.setLk_ldg (n : Nat) (x : Link) : (s.setLk n x).ldg = s.ldg := rfl
@[simp] theorem State.setLk_tg (n : Nat) (x : Link) : (s.setLk n x).tg = s.tg := rfl
@[simp] theorem State.setLk_almChs (n : Nat) (x : Link) : (s.setLk n x).almChs = s.almChs := rfl
@[simp] theorem State.setLk_alm (n : Nat) (x : Link) : (s.setLk n x).alm = s.alm := rfl
@[simp] theorem State.setLk_baseLog (n : Nat) (x : Link) : (s.setLk n x).baseLog = s.baseLog := rfl
@[simp] theorem State.setLk_inj (n : Nat) (x : Link) : (s.setLk n x).inj = s.inj := rfl

@[simp] theorem State.setIns_variant (n : Nat) (x : Ins) : (s.setIns n x).variant = s.variant := rfl
@[simp] theorem State.setIns_osc (n : Nat) (x : Ins) : (s.setIns n x).osc = s.osc := rfl
@[simp] theorem State.setIns_fresh (n : Nat) (x : Ins) : (s.setIns n x).fresh = s.fresh := rfl
@[simp] theorem State.setIns_regs (n : Nat) (x : Ins) : (s.setIns n x).regs = s.regs := rfl
@[simp] theorem State.setIns_cnts (n : Nat) (x : Ins) : (s.setIns n x).cnts = s.cnts := rfl
@[simp] theorem State.setIns_shadows (n : Nat) (x : Ins) : (s.setIns n x).shadows = s.shadows := rfl
@[simp] theorem State.setIns_mem (n : Nat) (x : Ins) : (s.setIns n x).mem = s.mem := rfl
@[simp] theorem State.setIns_pending (n : Nat) (x : Ins) : (s.setIns n x).pending = s.pending := rfl
@[simp] theorem State.setIns_resp (n : Nat) (x : Ins) : (s.setIns n x).resp = s.resp := rfl
@[simp] theorem State.setIns_outbox (n : Nat) (x : Ins) : (s.setIns n x).outbox = s.outbox := rfl
@[simp] theorem State.setIns_sess (n : Nat) (x : Ins) : (s.setIns n x).sess = s.sess := rfl
@[simp] theorem State.setIns_tiles (n : Nat) (x : Ins) : (s.setIns n x).tiles = s.tiles := rfl
@[simp] theorem State.setIns_units (n : Nat) (x : Ins) : (s.setIns n x).units = s.units := rfl
@[simp] theorem State.setIns_paces (n : Nat) (x : Ins) : (s.setIns n x).paces = s.paces := rfl
@[simp] theorem State.setIns_lowPace (n : Nat) (x : Ins) : (s.setIns n x).lowPace = s.lowPace := rfl
@[simp] theorem State.setIns_sup (n : Nat) (x : Ins) : (s.setIns n x).sup = s.sup := rfl
@[simp] theorem State.setIns_charter (n : Nat) (x : Ins) : (s.setIns n x).charter = s.charter := rfl
@[simp] theorem State.setIns_imageA (n : Nat) (x : Ins) : (s.setIns n x).imageA = s.imageA := rfl
@[simp] theorem State.setIns_imageB (n : Nat) (x : Ins) : (s.setIns n x).imageB = s.imageB := rfl
@[simp] theorem State.setIns_xspi (n : Nat) (x : Ins) : (s.setIns n x).xspi = s.xspi := rfl
@[simp] theorem State.setIns_load (n : Nat) (x : Ins) : (s.setIns n x).load = s.load := rfl
@[simp] theorem State.setIns_startAt (n : Nat) (x : Ins) : (s.setIns n x).startAt = s.startAt := rfl
@[simp] theorem State.setIns_judged (n : Nat) (x : Ins) : (s.setIns n x).judged = s.judged := rfl
@[simp] theorem State.setIns_resetToLog (n : Nat) (x : Ins) : (s.setIns n x).resetToLog = s.resetToLog := rfl
@[simp] theorem State.setIns_links (n : Nat) (x : Ins) : (s.setIns n x).links = s.links := rfl
@[simp] theorem State.setIns_frames (n : Nat) (x : Ins) : (s.setIns n x).frames = s.frames := rfl
@[simp] theorem State.setIns_waitQ (n : Nat) (x : Ins) : (s.setIns n x).waitQ = s.waitQ := rfl
@[simp] theorem State.setIns_token (n : Nat) (x : Ins) : (s.setIns n x).token = s.token := rfl
@[simp] theorem State.setIns_tripSeq (n : Nat) (x : Ins) : (s.setIns n x).tripSeq = s.tripSeq := rfl
@[simp] theorem State.setIns_prots (n : Nat) (x : Ins) : (s.setIns n x).prots = s.prots := rfl
@[simp] theorem State.setIns_bus (n : Nat) (x : Ins) : (s.setIns n x).bus = s.bus := rfl
@[simp] theorem State.setIns_tripQ (n : Nat) (x : Ins) : (s.setIns n x).tripQ = s.tripQ := rfl
@[simp] theorem State.setIns_damageLog (n : Nat) (x : Ins) : (s.setIns n x).damageLog = s.damageLog := rfl
@[simp] theorem State.setIns_lockLog (n : Nat) (x : Ins) : (s.setIns n x).lockLog = s.lockLog := rfl
@[simp] theorem State.setIns_trims (n : Nat) (x : Ins) : (s.setIns n x).trims = s.trims := rfl
@[simp] theorem State.setIns_share (n : Nat) (x : Ins) : (s.setIns n x).share = s.share := rfl
@[simp] theorem State.setIns_strms (n : Nat) (x : Ins) : (s.setIns n x).strms = s.strms := rfl
@[simp] theorem State.setIns_win (n : Nat) (x : Ins) : (s.setIns n x).win = s.win := rfl
@[simp] theorem State.setIns_convs (n : Nat) (x : Ins) : (s.setIns n x).convs = s.convs := rfl
@[simp] theorem State.setIns_convBlocks (n : Nat) (x : Ins) : (s.setIns n x).convBlocks = s.convBlocks := rfl
@[simp] theorem State.setIns_settle (n : Nat) (x : Ins) : (s.setIns n x).settle = s.settle := rfl
@[simp] theorem State.setIns_tals (n : Nat) (x : Ins) : (s.setIns n x).tals = s.tals := rfl
@[simp] theorem State.setIns_trigs (n : Nat) (x : Ins) : (s.setIns n x).trigs = s.trigs := rfl
@[simp] theorem State.setIns_carriers (n : Nat) (x : Ins) : (s.setIns n x).carriers = s.carriers := rfl
@[simp] theorem State.setIns_chains (n : Nat) (x : Ins) : (s.setIns n x).chains = s.chains := rfl
@[simp] theorem State.setIns_nodes (n : Nat) (x : Ins) : (s.setIns n x).nodes = s.nodes := rfl
@[simp] theorem State.setIns_inst (n : Nat) (x : Ins) : (s.setIns n x).inst = s.inst := rfl
@[simp] theorem State.setIns_cells (n : Nat) (x : Ins) : (s.setIns n x).cells = s.cells := rfl
@[simp] theorem State.setIns_strEst (n : Nat) (x : Ins) : (s.setIns n x).strEst = s.strEst := rfl
@[simp] theorem State.setIns_blkEst (n : Nat) (x : Ins) : (s.setIns n x).blkEst = s.blkEst := rfl
@[simp] theorem State.setIns_keptNodes (n : Nat) (x : Ins) : (s.setIns n x).keptNodes = s.keptNodes := rfl
@[simp] theorem State.setIns_est (n : Nat) (x : Ins) : (s.setIns n x).est = s.est := rfl
@[simp] theorem State.setIns_ldgState (n : Nat) (x : Ins) : (s.setIns n x).ldgState = s.ldgState := rfl
@[simp] theorem State.setIns_recorder (n : Nat) (x : Ins) : (s.setIns n x).recorder = s.recorder := rfl
@[simp] theorem State.setIns_dsp (n : Nat) (x : Ins) : (s.setIns n x).dsp = s.dsp := rfl
@[simp] theorem State.setIns_evtFifo (n : Nat) (x : Ins) : (s.setIns n x).evtFifo = s.evtFifo := rfl
@[simp] theorem State.setIns_evtSeq (n : Nat) (x : Ins) : (s.setIns n x).evtSeq = s.evtSeq := rfl
@[simp] theorem State.setIns_evtPending (n : Nat) (x : Ins) : (s.setIns n x).evtPending = s.evtPending := rfl
@[simp] theorem State.setIns_com (n : Nat) (x : Ins) : (s.setIns n x).com = s.com := rfl
@[simp] theorem State.setIns_span (n : Nat) (x : Ins) : (s.setIns n x).span = s.span := rfl
@[simp] theorem State.setIns_tbs (n : Nat) (x : Ins) : (s.setIns n x).tbs = s.tbs := rfl
@[simp] theorem State.setIns_bel (n : Nat) (x : Ins) : (s.setIns n x).bel = s.bel := rfl
@[simp] theorem State.setIns_pars (n : Nat) (x : Ins) : (s.setIns n x).pars = s.pars := rfl
@[simp] theorem State.setIns_ldg (n : Nat) (x : Ins) : (s.setIns n x).ldg = s.ldg := rfl
@[simp] theorem State.setIns_tg (n : Nat) (x : Ins) : (s.setIns n x).tg = s.tg := rfl
@[simp] theorem State.setIns_almChs (n : Nat) (x : Ins) : (s.setIns n x).almChs = s.almChs := rfl
@[simp] theorem State.setIns_alm (n : Nat) (x : Ins) : (s.setIns n x).alm = s.alm := rfl
@[simp] theorem State.setIns_baseLog (n : Nat) (x : Ins) : (s.setIns n x).baseLog = s.baseLog := rfl
@[simp] theorem State.setIns_inj (n : Nat) (x : Ins) : (s.setIns n x).inj = s.inj := rfl

@[simp] theorem State.setProt_variant (n : Nat) (x : Prot) : (s.setProt n x).variant = s.variant := rfl
@[simp] theorem State.setProt_osc (n : Nat) (x : Prot) : (s.setProt n x).osc = s.osc := rfl
@[simp] theorem State.setProt_fresh (n : Nat) (x : Prot) : (s.setProt n x).fresh = s.fresh := rfl
@[simp] theorem State.setProt_regs (n : Nat) (x : Prot) : (s.setProt n x).regs = s.regs := rfl
@[simp] theorem State.setProt_cnts (n : Nat) (x : Prot) : (s.setProt n x).cnts = s.cnts := rfl
@[simp] theorem State.setProt_shadows (n : Nat) (x : Prot) : (s.setProt n x).shadows = s.shadows := rfl
@[simp] theorem State.setProt_mem (n : Nat) (x : Prot) : (s.setProt n x).mem = s.mem := rfl
@[simp] theorem State.setProt_pending (n : Nat) (x : Prot) : (s.setProt n x).pending = s.pending := rfl
@[simp] theorem State.setProt_resp (n : Nat) (x : Prot) : (s.setProt n x).resp = s.resp := rfl
@[simp] theorem State.setProt_outbox (n : Nat) (x : Prot) : (s.setProt n x).outbox = s.outbox := rfl
@[simp] theorem State.setProt_sess (n : Nat) (x : Prot) : (s.setProt n x).sess = s.sess := rfl
@[simp] theorem State.setProt_tiles (n : Nat) (x : Prot) : (s.setProt n x).tiles = s.tiles := rfl
@[simp] theorem State.setProt_units (n : Nat) (x : Prot) : (s.setProt n x).units = s.units := rfl
@[simp] theorem State.setProt_paces (n : Nat) (x : Prot) : (s.setProt n x).paces = s.paces := rfl
@[simp] theorem State.setProt_lowPace (n : Nat) (x : Prot) : (s.setProt n x).lowPace = s.lowPace := rfl
@[simp] theorem State.setProt_sup (n : Nat) (x : Prot) : (s.setProt n x).sup = s.sup := rfl
@[simp] theorem State.setProt_charter (n : Nat) (x : Prot) : (s.setProt n x).charter = s.charter := rfl
@[simp] theorem State.setProt_imageA (n : Nat) (x : Prot) : (s.setProt n x).imageA = s.imageA := rfl
@[simp] theorem State.setProt_imageB (n : Nat) (x : Prot) : (s.setProt n x).imageB = s.imageB := rfl
@[simp] theorem State.setProt_xspi (n : Nat) (x : Prot) : (s.setProt n x).xspi = s.xspi := rfl
@[simp] theorem State.setProt_load (n : Nat) (x : Prot) : (s.setProt n x).load = s.load := rfl
@[simp] theorem State.setProt_startAt (n : Nat) (x : Prot) : (s.setProt n x).startAt = s.startAt := rfl
@[simp] theorem State.setProt_judged (n : Nat) (x : Prot) : (s.setProt n x).judged = s.judged := rfl
@[simp] theorem State.setProt_resetToLog (n : Nat) (x : Prot) : (s.setProt n x).resetToLog = s.resetToLog := rfl
@[simp] theorem State.setProt_links (n : Nat) (x : Prot) : (s.setProt n x).links = s.links := rfl
@[simp] theorem State.setProt_frames (n : Nat) (x : Prot) : (s.setProt n x).frames = s.frames := rfl
@[simp] theorem State.setProt_inss (n : Nat) (x : Prot) : (s.setProt n x).inss = s.inss := rfl
@[simp] theorem State.setProt_waitQ (n : Nat) (x : Prot) : (s.setProt n x).waitQ = s.waitQ := rfl
@[simp] theorem State.setProt_token (n : Nat) (x : Prot) : (s.setProt n x).token = s.token := rfl
@[simp] theorem State.setProt_tripSeq (n : Nat) (x : Prot) : (s.setProt n x).tripSeq = s.tripSeq := rfl
@[simp] theorem State.setProt_bus (n : Nat) (x : Prot) : (s.setProt n x).bus = s.bus := rfl
@[simp] theorem State.setProt_tripQ (n : Nat) (x : Prot) : (s.setProt n x).tripQ = s.tripQ := rfl
@[simp] theorem State.setProt_damageLog (n : Nat) (x : Prot) : (s.setProt n x).damageLog = s.damageLog := rfl
@[simp] theorem State.setProt_lockLog (n : Nat) (x : Prot) : (s.setProt n x).lockLog = s.lockLog := rfl
@[simp] theorem State.setProt_trims (n : Nat) (x : Prot) : (s.setProt n x).trims = s.trims := rfl
@[simp] theorem State.setProt_share (n : Nat) (x : Prot) : (s.setProt n x).share = s.share := rfl
@[simp] theorem State.setProt_strms (n : Nat) (x : Prot) : (s.setProt n x).strms = s.strms := rfl
@[simp] theorem State.setProt_win (n : Nat) (x : Prot) : (s.setProt n x).win = s.win := rfl
@[simp] theorem State.setProt_convs (n : Nat) (x : Prot) : (s.setProt n x).convs = s.convs := rfl
@[simp] theorem State.setProt_convBlocks (n : Nat) (x : Prot) : (s.setProt n x).convBlocks = s.convBlocks := rfl
@[simp] theorem State.setProt_settle (n : Nat) (x : Prot) : (s.setProt n x).settle = s.settle := rfl
@[simp] theorem State.setProt_tals (n : Nat) (x : Prot) : (s.setProt n x).tals = s.tals := rfl
@[simp] theorem State.setProt_trigs (n : Nat) (x : Prot) : (s.setProt n x).trigs = s.trigs := rfl
@[simp] theorem State.setProt_carriers (n : Nat) (x : Prot) : (s.setProt n x).carriers = s.carriers := rfl
@[simp] theorem State.setProt_chains (n : Nat) (x : Prot) : (s.setProt n x).chains = s.chains := rfl
@[simp] theorem State.setProt_nodes (n : Nat) (x : Prot) : (s.setProt n x).nodes = s.nodes := rfl
@[simp] theorem State.setProt_inst (n : Nat) (x : Prot) : (s.setProt n x).inst = s.inst := rfl
@[simp] theorem State.setProt_cells (n : Nat) (x : Prot) : (s.setProt n x).cells = s.cells := rfl
@[simp] theorem State.setProt_strEst (n : Nat) (x : Prot) : (s.setProt n x).strEst = s.strEst := rfl
@[simp] theorem State.setProt_blkEst (n : Nat) (x : Prot) : (s.setProt n x).blkEst = s.blkEst := rfl
@[simp] theorem State.setProt_keptNodes (n : Nat) (x : Prot) : (s.setProt n x).keptNodes = s.keptNodes := rfl
@[simp] theorem State.setProt_est (n : Nat) (x : Prot) : (s.setProt n x).est = s.est := rfl
@[simp] theorem State.setProt_ldgState (n : Nat) (x : Prot) : (s.setProt n x).ldgState = s.ldgState := rfl
@[simp] theorem State.setProt_recorder (n : Nat) (x : Prot) : (s.setProt n x).recorder = s.recorder := rfl
@[simp] theorem State.setProt_dsp (n : Nat) (x : Prot) : (s.setProt n x).dsp = s.dsp := rfl
@[simp] theorem State.setProt_evtFifo (n : Nat) (x : Prot) : (s.setProt n x).evtFifo = s.evtFifo := rfl
@[simp] theorem State.setProt_evtSeq (n : Nat) (x : Prot) : (s.setProt n x).evtSeq = s.evtSeq := rfl
@[simp] theorem State.setProt_evtPending (n : Nat) (x : Prot) : (s.setProt n x).evtPending = s.evtPending := rfl
@[simp] theorem State.setProt_com (n : Nat) (x : Prot) : (s.setProt n x).com = s.com := rfl
@[simp] theorem State.setProt_span (n : Nat) (x : Prot) : (s.setProt n x).span = s.span := rfl
@[simp] theorem State.setProt_tbs (n : Nat) (x : Prot) : (s.setProt n x).tbs = s.tbs := rfl
@[simp] theorem State.setProt_bel (n : Nat) (x : Prot) : (s.setProt n x).bel = s.bel := rfl
@[simp] theorem State.setProt_pars (n : Nat) (x : Prot) : (s.setProt n x).pars = s.pars := rfl
@[simp] theorem State.setProt_ldg (n : Nat) (x : Prot) : (s.setProt n x).ldg = s.ldg := rfl
@[simp] theorem State.setProt_tg (n : Nat) (x : Prot) : (s.setProt n x).tg = s.tg := rfl
@[simp] theorem State.setProt_almChs (n : Nat) (x : Prot) : (s.setProt n x).almChs = s.almChs := rfl
@[simp] theorem State.setProt_alm (n : Nat) (x : Prot) : (s.setProt n x).alm = s.alm := rfl
@[simp] theorem State.setProt_baseLog (n : Nat) (x : Prot) : (s.setProt n x).baseLog = s.baseLog := rfl
@[simp] theorem State.setProt_inj (n : Nat) (x : Prot) : (s.setProt n x).inj = s.inj := rfl

@[simp] theorem State.setTrim_variant (n : Nat) (x : Trim) : (s.setTrim n x).variant = s.variant := rfl
@[simp] theorem State.setTrim_osc (n : Nat) (x : Trim) : (s.setTrim n x).osc = s.osc := rfl
@[simp] theorem State.setTrim_fresh (n : Nat) (x : Trim) : (s.setTrim n x).fresh = s.fresh := rfl
@[simp] theorem State.setTrim_regs (n : Nat) (x : Trim) : (s.setTrim n x).regs = s.regs := rfl
@[simp] theorem State.setTrim_cnts (n : Nat) (x : Trim) : (s.setTrim n x).cnts = s.cnts := rfl
@[simp] theorem State.setTrim_shadows (n : Nat) (x : Trim) : (s.setTrim n x).shadows = s.shadows := rfl
@[simp] theorem State.setTrim_mem (n : Nat) (x : Trim) : (s.setTrim n x).mem = s.mem := rfl
@[simp] theorem State.setTrim_pending (n : Nat) (x : Trim) : (s.setTrim n x).pending = s.pending := rfl
@[simp] theorem State.setTrim_resp (n : Nat) (x : Trim) : (s.setTrim n x).resp = s.resp := rfl
@[simp] theorem State.setTrim_outbox (n : Nat) (x : Trim) : (s.setTrim n x).outbox = s.outbox := rfl
@[simp] theorem State.setTrim_sess (n : Nat) (x : Trim) : (s.setTrim n x).sess = s.sess := rfl
@[simp] theorem State.setTrim_tiles (n : Nat) (x : Trim) : (s.setTrim n x).tiles = s.tiles := rfl
@[simp] theorem State.setTrim_units (n : Nat) (x : Trim) : (s.setTrim n x).units = s.units := rfl
@[simp] theorem State.setTrim_paces (n : Nat) (x : Trim) : (s.setTrim n x).paces = s.paces := rfl
@[simp] theorem State.setTrim_lowPace (n : Nat) (x : Trim) : (s.setTrim n x).lowPace = s.lowPace := rfl
@[simp] theorem State.setTrim_sup (n : Nat) (x : Trim) : (s.setTrim n x).sup = s.sup := rfl
@[simp] theorem State.setTrim_charter (n : Nat) (x : Trim) : (s.setTrim n x).charter = s.charter := rfl
@[simp] theorem State.setTrim_imageA (n : Nat) (x : Trim) : (s.setTrim n x).imageA = s.imageA := rfl
@[simp] theorem State.setTrim_imageB (n : Nat) (x : Trim) : (s.setTrim n x).imageB = s.imageB := rfl
@[simp] theorem State.setTrim_xspi (n : Nat) (x : Trim) : (s.setTrim n x).xspi = s.xspi := rfl
@[simp] theorem State.setTrim_load (n : Nat) (x : Trim) : (s.setTrim n x).load = s.load := rfl
@[simp] theorem State.setTrim_startAt (n : Nat) (x : Trim) : (s.setTrim n x).startAt = s.startAt := rfl
@[simp] theorem State.setTrim_judged (n : Nat) (x : Trim) : (s.setTrim n x).judged = s.judged := rfl
@[simp] theorem State.setTrim_resetToLog (n : Nat) (x : Trim) : (s.setTrim n x).resetToLog = s.resetToLog := rfl
@[simp] theorem State.setTrim_links (n : Nat) (x : Trim) : (s.setTrim n x).links = s.links := rfl
@[simp] theorem State.setTrim_frames (n : Nat) (x : Trim) : (s.setTrim n x).frames = s.frames := rfl
@[simp] theorem State.setTrim_inss (n : Nat) (x : Trim) : (s.setTrim n x).inss = s.inss := rfl
@[simp] theorem State.setTrim_waitQ (n : Nat) (x : Trim) : (s.setTrim n x).waitQ = s.waitQ := rfl
@[simp] theorem State.setTrim_token (n : Nat) (x : Trim) : (s.setTrim n x).token = s.token := rfl
@[simp] theorem State.setTrim_tripSeq (n : Nat) (x : Trim) : (s.setTrim n x).tripSeq = s.tripSeq := rfl
@[simp] theorem State.setTrim_prots (n : Nat) (x : Trim) : (s.setTrim n x).prots = s.prots := rfl
@[simp] theorem State.setTrim_bus (n : Nat) (x : Trim) : (s.setTrim n x).bus = s.bus := rfl
@[simp] theorem State.setTrim_tripQ (n : Nat) (x : Trim) : (s.setTrim n x).tripQ = s.tripQ := rfl
@[simp] theorem State.setTrim_damageLog (n : Nat) (x : Trim) : (s.setTrim n x).damageLog = s.damageLog := rfl
@[simp] theorem State.setTrim_lockLog (n : Nat) (x : Trim) : (s.setTrim n x).lockLog = s.lockLog := rfl
@[simp] theorem State.setTrim_share (n : Nat) (x : Trim) : (s.setTrim n x).share = s.share := rfl
@[simp] theorem State.setTrim_strms (n : Nat) (x : Trim) : (s.setTrim n x).strms = s.strms := rfl
@[simp] theorem State.setTrim_win (n : Nat) (x : Trim) : (s.setTrim n x).win = s.win := rfl
@[simp] theorem State.setTrim_convs (n : Nat) (x : Trim) : (s.setTrim n x).convs = s.convs := rfl
@[simp] theorem State.setTrim_convBlocks (n : Nat) (x : Trim) : (s.setTrim n x).convBlocks = s.convBlocks := rfl
@[simp] theorem State.setTrim_settle (n : Nat) (x : Trim) : (s.setTrim n x).settle = s.settle := rfl
@[simp] theorem State.setTrim_tals (n : Nat) (x : Trim) : (s.setTrim n x).tals = s.tals := rfl
@[simp] theorem State.setTrim_trigs (n : Nat) (x : Trim) : (s.setTrim n x).trigs = s.trigs := rfl
@[simp] theorem State.setTrim_carriers (n : Nat) (x : Trim) : (s.setTrim n x).carriers = s.carriers := rfl
@[simp] theorem State.setTrim_chains (n : Nat) (x : Trim) : (s.setTrim n x).chains = s.chains := rfl
@[simp] theorem State.setTrim_nodes (n : Nat) (x : Trim) : (s.setTrim n x).nodes = s.nodes := rfl
@[simp] theorem State.setTrim_inst (n : Nat) (x : Trim) : (s.setTrim n x).inst = s.inst := rfl
@[simp] theorem State.setTrim_cells (n : Nat) (x : Trim) : (s.setTrim n x).cells = s.cells := rfl
@[simp] theorem State.setTrim_strEst (n : Nat) (x : Trim) : (s.setTrim n x).strEst = s.strEst := rfl
@[simp] theorem State.setTrim_blkEst (n : Nat) (x : Trim) : (s.setTrim n x).blkEst = s.blkEst := rfl
@[simp] theorem State.setTrim_keptNodes (n : Nat) (x : Trim) : (s.setTrim n x).keptNodes = s.keptNodes := rfl
@[simp] theorem State.setTrim_est (n : Nat) (x : Trim) : (s.setTrim n x).est = s.est := rfl
@[simp] theorem State.setTrim_ldgState (n : Nat) (x : Trim) : (s.setTrim n x).ldgState = s.ldgState := rfl
@[simp] theorem State.setTrim_recorder (n : Nat) (x : Trim) : (s.setTrim n x).recorder = s.recorder := rfl
@[simp] theorem State.setTrim_dsp (n : Nat) (x : Trim) : (s.setTrim n x).dsp = s.dsp := rfl
@[simp] theorem State.setTrim_evtFifo (n : Nat) (x : Trim) : (s.setTrim n x).evtFifo = s.evtFifo := rfl
@[simp] theorem State.setTrim_evtSeq (n : Nat) (x : Trim) : (s.setTrim n x).evtSeq = s.evtSeq := rfl
@[simp] theorem State.setTrim_evtPending (n : Nat) (x : Trim) : (s.setTrim n x).evtPending = s.evtPending := rfl
@[simp] theorem State.setTrim_com (n : Nat) (x : Trim) : (s.setTrim n x).com = s.com := rfl
@[simp] theorem State.setTrim_span (n : Nat) (x : Trim) : (s.setTrim n x).span = s.span := rfl
@[simp] theorem State.setTrim_tbs (n : Nat) (x : Trim) : (s.setTrim n x).tbs = s.tbs := rfl
@[simp] theorem State.setTrim_bel (n : Nat) (x : Trim) : (s.setTrim n x).bel = s.bel := rfl
@[simp] theorem State.setTrim_pars (n : Nat) (x : Trim) : (s.setTrim n x).pars = s.pars := rfl
@[simp] theorem State.setTrim_ldg (n : Nat) (x : Trim) : (s.setTrim n x).ldg = s.ldg := rfl
@[simp] theorem State.setTrim_tg (n : Nat) (x : Trim) : (s.setTrim n x).tg = s.tg := rfl
@[simp] theorem State.setTrim_almChs (n : Nat) (x : Trim) : (s.setTrim n x).almChs = s.almChs := rfl
@[simp] theorem State.setTrim_alm (n : Nat) (x : Trim) : (s.setTrim n x).alm = s.alm := rfl
@[simp] theorem State.setTrim_baseLog (n : Nat) (x : Trim) : (s.setTrim n x).baseLog = s.baseLog := rfl
@[simp] theorem State.setTrim_inj (n : Nat) (x : Trim) : (s.setTrim n x).inj = s.inj := rfl

@[simp] theorem State.setStrm_variant (n : Nat) (x : Strm) : (s.setStrm n x).variant = s.variant := rfl
@[simp] theorem State.setStrm_osc (n : Nat) (x : Strm) : (s.setStrm n x).osc = s.osc := rfl
@[simp] theorem State.setStrm_fresh (n : Nat) (x : Strm) : (s.setStrm n x).fresh = s.fresh := rfl
@[simp] theorem State.setStrm_regs (n : Nat) (x : Strm) : (s.setStrm n x).regs = s.regs := rfl
@[simp] theorem State.setStrm_cnts (n : Nat) (x : Strm) : (s.setStrm n x).cnts = s.cnts := rfl
@[simp] theorem State.setStrm_shadows (n : Nat) (x : Strm) : (s.setStrm n x).shadows = s.shadows := rfl
@[simp] theorem State.setStrm_mem (n : Nat) (x : Strm) : (s.setStrm n x).mem = s.mem := rfl
@[simp] theorem State.setStrm_pending (n : Nat) (x : Strm) : (s.setStrm n x).pending = s.pending := rfl
@[simp] theorem State.setStrm_resp (n : Nat) (x : Strm) : (s.setStrm n x).resp = s.resp := rfl
@[simp] theorem State.setStrm_outbox (n : Nat) (x : Strm) : (s.setStrm n x).outbox = s.outbox := rfl
@[simp] theorem State.setStrm_sess (n : Nat) (x : Strm) : (s.setStrm n x).sess = s.sess := rfl
@[simp] theorem State.setStrm_tiles (n : Nat) (x : Strm) : (s.setStrm n x).tiles = s.tiles := rfl
@[simp] theorem State.setStrm_units (n : Nat) (x : Strm) : (s.setStrm n x).units = s.units := rfl
@[simp] theorem State.setStrm_paces (n : Nat) (x : Strm) : (s.setStrm n x).paces = s.paces := rfl
@[simp] theorem State.setStrm_lowPace (n : Nat) (x : Strm) : (s.setStrm n x).lowPace = s.lowPace := rfl
@[simp] theorem State.setStrm_sup (n : Nat) (x : Strm) : (s.setStrm n x).sup = s.sup := rfl
@[simp] theorem State.setStrm_charter (n : Nat) (x : Strm) : (s.setStrm n x).charter = s.charter := rfl
@[simp] theorem State.setStrm_imageA (n : Nat) (x : Strm) : (s.setStrm n x).imageA = s.imageA := rfl
@[simp] theorem State.setStrm_imageB (n : Nat) (x : Strm) : (s.setStrm n x).imageB = s.imageB := rfl
@[simp] theorem State.setStrm_xspi (n : Nat) (x : Strm) : (s.setStrm n x).xspi = s.xspi := rfl
@[simp] theorem State.setStrm_load (n : Nat) (x : Strm) : (s.setStrm n x).load = s.load := rfl
@[simp] theorem State.setStrm_startAt (n : Nat) (x : Strm) : (s.setStrm n x).startAt = s.startAt := rfl
@[simp] theorem State.setStrm_judged (n : Nat) (x : Strm) : (s.setStrm n x).judged = s.judged := rfl
@[simp] theorem State.setStrm_resetToLog (n : Nat) (x : Strm) : (s.setStrm n x).resetToLog = s.resetToLog := rfl
@[simp] theorem State.setStrm_links (n : Nat) (x : Strm) : (s.setStrm n x).links = s.links := rfl
@[simp] theorem State.setStrm_frames (n : Nat) (x : Strm) : (s.setStrm n x).frames = s.frames := rfl
@[simp] theorem State.setStrm_inss (n : Nat) (x : Strm) : (s.setStrm n x).inss = s.inss := rfl
@[simp] theorem State.setStrm_waitQ (n : Nat) (x : Strm) : (s.setStrm n x).waitQ = s.waitQ := rfl
@[simp] theorem State.setStrm_token (n : Nat) (x : Strm) : (s.setStrm n x).token = s.token := rfl
@[simp] theorem State.setStrm_tripSeq (n : Nat) (x : Strm) : (s.setStrm n x).tripSeq = s.tripSeq := rfl
@[simp] theorem State.setStrm_prots (n : Nat) (x : Strm) : (s.setStrm n x).prots = s.prots := rfl
@[simp] theorem State.setStrm_bus (n : Nat) (x : Strm) : (s.setStrm n x).bus = s.bus := rfl
@[simp] theorem State.setStrm_tripQ (n : Nat) (x : Strm) : (s.setStrm n x).tripQ = s.tripQ := rfl
@[simp] theorem State.setStrm_damageLog (n : Nat) (x : Strm) : (s.setStrm n x).damageLog = s.damageLog := rfl
@[simp] theorem State.setStrm_lockLog (n : Nat) (x : Strm) : (s.setStrm n x).lockLog = s.lockLog := rfl
@[simp] theorem State.setStrm_trims (n : Nat) (x : Strm) : (s.setStrm n x).trims = s.trims := rfl
@[simp] theorem State.setStrm_share (n : Nat) (x : Strm) : (s.setStrm n x).share = s.share := rfl
@[simp] theorem State.setStrm_win (n : Nat) (x : Strm) : (s.setStrm n x).win = s.win := rfl
@[simp] theorem State.setStrm_convs (n : Nat) (x : Strm) : (s.setStrm n x).convs = s.convs := rfl
@[simp] theorem State.setStrm_convBlocks (n : Nat) (x : Strm) : (s.setStrm n x).convBlocks = s.convBlocks := rfl
@[simp] theorem State.setStrm_settle (n : Nat) (x : Strm) : (s.setStrm n x).settle = s.settle := rfl
@[simp] theorem State.setStrm_tals (n : Nat) (x : Strm) : (s.setStrm n x).tals = s.tals := rfl
@[simp] theorem State.setStrm_trigs (n : Nat) (x : Strm) : (s.setStrm n x).trigs = s.trigs := rfl
@[simp] theorem State.setStrm_carriers (n : Nat) (x : Strm) : (s.setStrm n x).carriers = s.carriers := rfl
@[simp] theorem State.setStrm_chains (n : Nat) (x : Strm) : (s.setStrm n x).chains = s.chains := rfl
@[simp] theorem State.setStrm_nodes (n : Nat) (x : Strm) : (s.setStrm n x).nodes = s.nodes := rfl
@[simp] theorem State.setStrm_inst (n : Nat) (x : Strm) : (s.setStrm n x).inst = s.inst := rfl
@[simp] theorem State.setStrm_cells (n : Nat) (x : Strm) : (s.setStrm n x).cells = s.cells := rfl
@[simp] theorem State.setStrm_strEst (n : Nat) (x : Strm) : (s.setStrm n x).strEst = s.strEst := rfl
@[simp] theorem State.setStrm_blkEst (n : Nat) (x : Strm) : (s.setStrm n x).blkEst = s.blkEst := rfl
@[simp] theorem State.setStrm_keptNodes (n : Nat) (x : Strm) : (s.setStrm n x).keptNodes = s.keptNodes := rfl
@[simp] theorem State.setStrm_est (n : Nat) (x : Strm) : (s.setStrm n x).est = s.est := rfl
@[simp] theorem State.setStrm_ldgState (n : Nat) (x : Strm) : (s.setStrm n x).ldgState = s.ldgState := rfl
@[simp] theorem State.setStrm_recorder (n : Nat) (x : Strm) : (s.setStrm n x).recorder = s.recorder := rfl
@[simp] theorem State.setStrm_dsp (n : Nat) (x : Strm) : (s.setStrm n x).dsp = s.dsp := rfl
@[simp] theorem State.setStrm_evtFifo (n : Nat) (x : Strm) : (s.setStrm n x).evtFifo = s.evtFifo := rfl
@[simp] theorem State.setStrm_evtSeq (n : Nat) (x : Strm) : (s.setStrm n x).evtSeq = s.evtSeq := rfl
@[simp] theorem State.setStrm_evtPending (n : Nat) (x : Strm) : (s.setStrm n x).evtPending = s.evtPending := rfl
@[simp] theorem State.setStrm_com (n : Nat) (x : Strm) : (s.setStrm n x).com = s.com := rfl
@[simp] theorem State.setStrm_span (n : Nat) (x : Strm) : (s.setStrm n x).span = s.span := rfl
@[simp] theorem State.setStrm_tbs (n : Nat) (x : Strm) : (s.setStrm n x).tbs = s.tbs := rfl
@[simp] theorem State.setStrm_bel (n : Nat) (x : Strm) : (s.setStrm n x).bel = s.bel := rfl
@[simp] theorem State.setStrm_pars (n : Nat) (x : Strm) : (s.setStrm n x).pars = s.pars := rfl
@[simp] theorem State.setStrm_ldg (n : Nat) (x : Strm) : (s.setStrm n x).ldg = s.ldg := rfl
@[simp] theorem State.setStrm_tg (n : Nat) (x : Strm) : (s.setStrm n x).tg = s.tg := rfl
@[simp] theorem State.setStrm_almChs (n : Nat) (x : Strm) : (s.setStrm n x).almChs = s.almChs := rfl
@[simp] theorem State.setStrm_alm (n : Nat) (x : Strm) : (s.setStrm n x).alm = s.alm := rfl
@[simp] theorem State.setStrm_baseLog (n : Nat) (x : Strm) : (s.setStrm n x).baseLog = s.baseLog := rfl
@[simp] theorem State.setStrm_inj (n : Nat) (x : Strm) : (s.setStrm n x).inj = s.inj := rfl

end Sys2Proof.Machine
end

