-- ==== Sys2Proof/Laws/Frame.lean ====
section
/-! SUPPORT. Frames: a state is framed by another within a mask of registers, the Granary and parts of State when
nothing outside the mask differs, and every primitive update stays within its own mask. -/

namespace Sys2Proof.Machine

set_option Elab.async false
set_option exponentiation.threshold 1200

/-- The parts of State beside the register tables, the Granary, the queue, the clock and the variant. -/
inductive Part
  | fresh | resp | outbox | sess | tiles | units | paces | lowPace | sup | charter | imageA | imageB | xspi | load
   | startAt | judged | resetToLog | links | frames | inss | waitQ | token | tripSeq | prots | bus | tripQ | damageLog
   | lockLog | trims | share | strms | win | convs | convBlocks | settle | tals | trigs | carriers | chains | nodes | inst
   | cells | strEst | blkEst | keptNodes | est | ldgState | recorder | dsp | evtFifo | evtSeq | evtPending | com
   | span | tbs | bel | pars | ldg | tg | almChs | alm | baseLog | inj
  deriving DecidableEq

/-- The mask of a list of registers. -/
def regMask (rs : List RegName) : Nat := rs.foldl (fun m r => m ||| 2 ^ r.ctorIdx) 0

/-- The mask of a list of parts. -/
def partMask (ps : List Part) : Nat := ps.foldl (fun m p => m ||| 2 ^ (1001 + p.ctorIdx)) 0

/-- The bit that stands for the Granary. -/
def memMask : Nat := 2 ^ 1000

/-- Every register, the Granary and every part. -/
def allMask : Nat := 2 ^ 1101 - 1

/-- Every bit of m is a bit of W. -/
abbrev SubMask (m W : Nat) : Prop := m &&& W = m

/-- W does not name part p. -/
abbrev PartFree (W : Nat) (p : Part) : Prop := W.testBit (1001 + p.ctorIdx) = false

theorem ctorIdx_lt (r : RegName) : r.ctorIdx < 1000 := by cases r <;> decide

theorem SubMask.trans {a b c : Nat} (h : SubMask b c) (g : SubMask a b) : SubMask a c := by
  unfold SubMask at *
  rw [← g, Nat.and_assoc, h]

theorem part_or {α : Type} {a b : α} {x : Bool} (h : a = b ∨ x = true) (e : x = false) : a = b := by
  rcases h with h | h
  · exact h
  · rw [e] at h; cases h

theorem bit_get {m W n : Nat} (hW : SubMask m W) (h : m.testBit n = true) : W.testBit n = true := by
  have : (m &&& W).testBit n = true := by rw [hW]; exact h
  rw [Nat.testBit_and, Bool.and_eq_true] at this
  exact this.2

theorem pow_get {n W : Nat} (hW : 2 ^ n &&& W = 2 ^ n) : W.testBit n = true := by
  have : (2 ^ n &&& W).testBit n = true := by rw [hW]; simp
  simpa using this

/-- t is o, but for the registers, the parts and the Granary that W names. -/
structure State.Framed (W : Nat) (o t : State) : Prop where
  variant : t.variant = o.variant
  pending : t.pending = o.pending
  osc : t.osc = o.osc
  canonical : o.Canonical → t.Canonical
  reg : ∀ r i j, W.testBit r.ctorIdx = false → t.reg r i j = o.reg r i j
  mem : W.testBit 1000 = false → t.mem = o.mem
  fresh : PartFree W .fresh → t.fresh = o.fresh
  resp : PartFree W .resp → t.resp = o.resp
  outbox : PartFree W .outbox → t.outbox = o.outbox
  sess : PartFree W .sess → t.sess = o.sess
  tiles : PartFree W .tiles → t.tiles = o.tiles
  units : PartFree W .units → t.units = o.units
  paces : PartFree W .paces → t.paces = o.paces
  lowPace : PartFree W .lowPace → t.lowPace = o.lowPace
  sup : PartFree W .sup → t.sup = o.sup
  charter : PartFree W .charter → t.charter = o.charter
  imageA : PartFree W .imageA → t.imageA = o.imageA
  imageB : PartFree W .imageB → t.imageB = o.imageB
  xspi : PartFree W .xspi → t.xspi = o.xspi
  load : PartFree W .load → t.load = o.load
  startAt : PartFree W .startAt → t.startAt = o.startAt
  judged : PartFree W .judged → t.judged = o.judged
  resetToLog : PartFree W .resetToLog → t.resetToLog = o.resetToLog
  links : PartFree W .links → t.links = o.links
  frames : PartFree W .frames → t.frames = o.frames
  inss : PartFree W .inss → t.inss = o.inss
  waitQ : PartFree W .waitQ → t.waitQ = o.waitQ
  token : PartFree W .token → t.token = o.token
  tripSeq : PartFree W .tripSeq → t.tripSeq = o.tripSeq
  prots : PartFree W .prots → t.prots = o.prots
  bus : PartFree W .bus → t.bus = o.bus
  tripQ : PartFree W .tripQ → t.tripQ = o.tripQ
  damageLog : PartFree W .damageLog → t.damageLog = o.damageLog
  lockLog : PartFree W .lockLog → t.lockLog = o.lockLog
  trims : PartFree W .trims → t.trims = o.trims
  share : PartFree W .share → t.share = o.share
  strms : PartFree W .strms → t.strms = o.strms
  win : PartFree W .win → t.win = o.win
  convs : PartFree W .convs → t.convs = o.convs
  convBlocks : PartFree W .convBlocks → t.convBlocks = o.convBlocks
  settle : PartFree W .settle → t.settle = o.settle
  tals : PartFree W .tals → t.tals = o.tals
  trigs : PartFree W .trigs → t.trigs = o.trigs
  carriers : PartFree W .carriers → t.carriers = o.carriers
  chains : PartFree W .chains → t.chains = o.chains
  nodes : PartFree W .nodes → t.nodes = o.nodes
  inst : PartFree W .inst → t.inst = o.inst
  cells : PartFree W .cells → t.cells = o.cells
  strEst : PartFree W .strEst → t.strEst = o.strEst
  blkEst : PartFree W .blkEst → t.blkEst = o.blkEst
  keptNodes : PartFree W .keptNodes → t.keptNodes = o.keptNodes
  est : PartFree W .est → t.est = o.est
  ldgState : PartFree W .ldgState → t.ldgState = o.ldgState
  recorder : PartFree W .recorder → t.recorder = o.recorder
  dsp : PartFree W .dsp → t.dsp = o.dsp
  evtFifo : PartFree W .evtFifo → t.evtFifo = o.evtFifo
  evtSeq : PartFree W .evtSeq → t.evtSeq = o.evtSeq
  evtPending : PartFree W .evtPending → t.evtPending = o.evtPending
  com : PartFree W .com → t.com = o.com
  span : PartFree W .span → t.span = o.span
  tbs : PartFree W .tbs → t.tbs = o.tbs
  bel : PartFree W .bel → t.bel = o.bel
  pars : PartFree W .pars → t.pars = o.pars
  ldg : PartFree W .ldg → t.ldg = o.ldg
  tg : PartFree W .tg → t.tg = o.tg
  almChs : PartFree W .almChs → t.almChs = o.almChs
  alm : PartFree W .alm → t.alm = o.alm
  baseLog : PartFree W .baseLog → t.baseLog = o.baseLog
  inj : PartFree W .inj → t.inj = o.inj

namespace State.Framed
variable {W : Nat} {o s t : State}

theorem refl (s : State) : State.Framed W s s :=
  ⟨rfl, rfl, rfl, id, fun _ _ _ _ => rfl, fun _ => rfl, fun _ => rfl, fun _ => rfl,
   fun _ => rfl, fun _ => rfl, fun _ => rfl, fun _ => rfl, fun _ => rfl,
   fun _ => rfl, fun _ => rfl, fun _ => rfl, fun _ => rfl, fun _ => rfl, fun _ => rfl, fun _ => rfl,
   fun _ => rfl, fun _ => rfl, fun _ => rfl, fun _ => rfl, fun _ => rfl, fun _ => rfl, fun _ => rfl,
   fun _ => rfl, fun _ => rfl, fun _ => rfl, fun _ => rfl, fun _ => rfl, fun _ => rfl, fun _ => rfl,
   fun _ => rfl, fun _ => rfl, fun _ => rfl, fun _ => rfl, fun _ => rfl, fun _ => rfl, fun _ => rfl,
   fun _ => rfl, fun _ => rfl, fun _ => rfl, fun _ => rfl, fun _ => rfl, fun _ => rfl, fun _ => rfl,
   fun _ => rfl, fun _ => rfl, fun _ => rfl, fun _ => rfl, fun _ => rfl, fun _ => rfl, fun _ => rfl,
   fun _ => rfl, fun _ => rfl, fun _ => rfl, fun _ => rfl, fun _ => rfl, fun _ => rfl, fun _ => rfl,
   fun _ => rfl, fun _ => rfl, fun _ => rfl, fun _ => rfl, fun _ => rfl, fun _ => rfl, fun _ => rfl⟩

theorem trans {a b c : State} (h : State.Framed W a b) (g : State.Framed W b c) : State.Framed W a c :=
  ⟨g.variant.trans h.variant, g.pending.trans h.pending, g.osc.trans h.osc, fun k => g.canonical (h.canonical k),
   fun r i j e => (g.reg r i j e).trans (h.reg r i j e), fun e => (g.mem e).trans (h.mem e),
   fun e => (g.fresh e).trans (h.fresh e), fun e => (g.resp e).trans (h.resp e),
    fun e => (g.outbox e).trans (h.outbox e),
   fun e => (g.sess e).trans (h.sess e), fun e => (g.tiles e).trans (h.tiles e), fun e => (g.units e).trans (h.units e),
   fun e => (g.paces e).trans (h.paces e), fun e => (g.lowPace e).trans (h.lowPace e),
    fun e => (g.sup e).trans (h.sup e),
   fun e => (g.charter e).trans (h.charter e), fun e => (g.imageA e).trans (h.imageA e),
    fun e => (g.imageB e).trans (h.imageB e),
   fun e => (g.xspi e).trans (h.xspi e),
   fun e => (g.load e).trans (h.load e), fun e => (g.startAt e).trans (h.startAt e),
   fun e => (g.judged e).trans (h.judged e),
    fun e => (g.resetToLog e).trans (h.resetToLog e),
   fun e => (g.links e).trans (h.links e), fun e => (g.frames e).trans (h.frames e),
    fun e => (g.inss e).trans (h.inss e),
   fun e => (g.waitQ e).trans (h.waitQ e), fun e => (g.token e).trans (h.token e),
    fun e => (g.tripSeq e).trans (h.tripSeq e),
   fun e => (g.prots e).trans (h.prots e), fun e => (g.bus e).trans (h.bus e), fun e => (g.tripQ e).trans (h.tripQ e),
   fun e => (g.damageLog e).trans (h.damageLog e), fun e => (g.lockLog e).trans (h.lockLog e),
    fun e => (g.trims e).trans (h.trims e),
   fun e => (g.share e).trans (h.share e), fun e => (g.strms e).trans (h.strms e), fun e => (g.win e).trans (h.win e),
   fun e => (g.convs e).trans (h.convs e), fun e => (g.convBlocks e).trans (h.convBlocks e),
    fun e => (g.settle e).trans (h.settle e),
   fun e => (g.tals e).trans (h.tals e), fun e => (g.trigs e).trans (h.trigs e),
   fun e => (g.carriers e).trans (h.carriers e),
    fun e => (g.chains e).trans (h.chains e),
   fun e => (g.nodes e).trans (h.nodes e), fun e => (g.inst e).trans (h.inst e), fun e => (g.cells e).trans (h.cells e),
   fun e => (g.strEst e).trans (h.strEst e), fun e => (g.blkEst e).trans (h.blkEst e),
    fun e => (g.keptNodes e).trans (h.keptNodes e),
   fun e => (g.est e).trans (h.est e), fun e => (g.ldgState e).trans (h.ldgState e),
    fun e => (g.recorder e).trans (h.recorder e),
   fun e => (g.dsp e).trans (h.dsp e), fun e => (g.evtFifo e).trans (h.evtFifo e),
    fun e => (g.evtSeq e).trans (h.evtSeq e),
   fun e => (g.evtPending e).trans (h.evtPending e), fun e => (g.com e).trans (h.com e),
    fun e => (g.span e).trans (h.span e),
   fun e => (g.tbs e).trans (h.tbs e), fun e => (g.bel e).trans (h.bel e), fun e => (g.pars e).trans (h.pars e),
   fun e => (g.ldg e).trans (h.ldg e), fun e => (g.tg e).trans (h.tg e), fun e => (g.almChs e).trans (h.almChs e),
   fun e => (g.alm e).trans (h.alm e), fun e => (g.baseLog e).trans (h.baseLog e), fun e => (g.inj e).trans (h.inj e)⟩

/-- Only the register tables and the Granary may differ. -/
theorem tables (hv : t.variant = s.variant) (hp : t.pending = s.pending) (ho : t.osc = s.osc) (hc : s.Canonical → t.Canonical)
    (hr : ∀ r i j, W.testBit r.ctorIdx = false → t.reg r i j = s.reg r i j) (hm : W.testBit 1000 = false → t.mem = s.mem)
    (he : t = { s with regs := t.regs, cnts := t.cnts, shadows := t.shadows, mem := t.mem }) : State.Framed W s t :=
  ⟨hv, hp, ho, hc, hr, hm, fun _ => by rw [he], fun _ => by rw [he], fun _ => by rw [he],
   fun _ => by rw [he], fun _ => by rw [he], fun _ => by rw [he], fun _ => by rw [he],
   fun _ => by rw [he], fun _ => by rw [he], fun _ => by rw [he], fun _ => by rw [he], fun _ => by rw [he],
   fun _ => by rw [he], fun _ => by rw [he], fun _ => by rw [he], fun _ => by rw [he], fun _ => by rw [he],
   fun _ => by rw [he], fun _ => by rw [he], fun _ => by rw [he], fun _ => by rw [he], fun _ => by rw [he],
   fun _ => by rw [he], fun _ => by rw [he], fun _ => by rw [he], fun _ => by rw [he], fun _ => by rw [he],
   fun _ => by rw [he], fun _ => by rw [he], fun _ => by rw [he], fun _ => by rw [he], fun _ => by rw [he],
   fun _ => by rw [he], fun _ => by rw [he], fun _ => by rw [he], fun _ => by rw [he], fun _ => by rw [he],
   fun _ => by rw [he], fun _ => by rw [he], fun _ => by rw [he], fun _ => by rw [he], fun _ => by rw [he],
   fun _ => by rw [he], fun _ => by rw [he], fun _ => by rw [he], fun _ => by rw [he], fun _ => by rw [he],
   fun _ => by rw [he], fun _ => by rw [he], fun _ => by rw [he], fun _ => by rw [he], fun _ => by rw [he],
   fun _ => by rw [he], fun _ => by rw [he], fun _ => by rw [he], fun _ => by rw [he], fun _ => by rw [he],
   fun _ => by rw [he], fun _ => by rw [he], fun _ => by rw [he], fun _ => by rw [he], fun _ => by rw [he],
   fun _ => by rw [he]⟩
theorem ite {c : Prop} {d : Decidable c} {a b : State} (h : State.Framed W o a) (g : State.Framed W o b) :
    State.Framed W o (if c then a else b) := by
  split <;> assumption

theorem foldl {α : Type} {f : State → α → State} (l : List α) (h : State.Framed W o s)
    (g : ∀ t e, State.Framed W o t → State.Framed W o (f t e)) : State.Framed W o (l.foldl f s) := by
  induction l generalizing s with
  | nil => exact h
  | cons e l ih => exact ih (g s e h)

theorem foldlMem {α : Type} {f : State → α → State} (l : List α) (h : State.Framed W o s)
    (g : ∀ t, ∀ e ∈ l, State.Framed W o t → State.Framed W o (f t e)) : State.Framed W o (l.foldl f s) := by
  induction l generalizing s with
  | nil => exact h
  | cons e l ih => exact ih (g s e (List.mem_cons_self ..) h) (fun t e he => g t e (List.mem_cons_of_mem _ he))

theorem foldlFst {α β : Type} {f : State × β → α → State × β} (l : List α) (b : β) (h : State.Framed W o s)
    (g : ∀ acc e, State.Framed W o acc.1 → State.Framed W o (f acc e).1) : State.Framed W o (l.foldl f (s, b)).1 := by
  induction l generalizing s b with
  | nil => exact h
  | cons e l ih => exact ih _ (g (s, b) e h)

/-- A record update: each part either stays or is named by W. -/
theorem mkOf {W : Nat} {o s : State} {variant} {osc} {fresh} {regs} {cnts} {shadows} {mem} {pending} {resp} {outbox} {sess} {tiles} {units} {paces} {lowPace} {sup} {charter} {imageA} {imageB} {xspi} {load} {startAt} {judged} {resetToLog} {links} {frames} {inss} {waitQ} {token} {tripSeq} {prots} {bus} {tripQ} {damageLog} {lockLog} {trims} {share} {strms} {win} {convs} {convBlocks} {settle} {tals} {trigs} {carriers} {chains} {nodes} {inst} {cells} {strEst} {blkEst} {keptNodes} {est} {ldgState} {recorder} {dsp} {evtFifo} {evtSeq} {evtPending} {com} {span} {tbs} {bel} {pars} {ldg} {tg} {almChs} {alm} {baseLog} {inj} (h : State.Framed W o s) (hv : variant = s.variant) (ho : osc = s.osc) (hr : regs = s.regs)
    (hc : cnts = s.cnts) (hs : shadows = s.shadows) (hm : mem = s.mem) (hp : pending = s.pending)
    (h_fresh : fresh = s.fresh ∨ W.testBit (1001 + Part.fresh.ctorIdx) = true := by first | exact .inl rfl | exact .inr (bit_get (by assumption) (by decide)))
    (h_resp : resp = s.resp ∨ W.testBit (1001 + Part.resp.ctorIdx) = true := by first | exact .inl rfl | exact .inr (bit_get (by assumption) (by decide)))
    (h_outbox : outbox = s.outbox ∨ W.testBit (1001 + Part.outbox.ctorIdx) = true := by first | exact .inl rfl | exact .inr (bit_get (by assumption) (by decide)))
    (h_sess : sess = s.sess ∨ W.testBit (1001 + Part.sess.ctorIdx) = true := by first | exact .inl rfl | exact .inr (bit_get (by assumption) (by decide)))
    (h_tiles : tiles = s.tiles ∨ W.testBit (1001 + Part.tiles.ctorIdx) = true := by first | exact .inl rfl | exact .inr (bit_get (by assumption) (by decide)))
    (h_units : units = s.units ∨ W.testBit (1001 + Part.units.ctorIdx) = true := by first | exact .inl rfl | exact .inr (bit_get (by assumption) (by decide)))
    (h_paces : paces = s.paces ∨ W.testBit (1001 + Part.paces.ctorIdx) = true := by first | exact .inl rfl | exact .inr (bit_get (by assumption) (by decide)))
    (h_lowPace : lowPace = s.lowPace ∨ W.testBit (1001 + Part.lowPace.ctorIdx) = true := by first | exact .inl rfl | exact .inr (bit_get (by assumption) (by decide)))
    (h_sup : sup = s.sup ∨ W.testBit (1001 + Part.sup.ctorIdx) = true := by first | exact .inl rfl | exact .inr (bit_get (by assumption) (by decide)))
    (h_charter : charter = s.charter ∨ W.testBit (1001 + Part.charter.ctorIdx) = true := by first | exact .inl rfl | exact .inr (bit_get (by assumption) (by decide)))
    (h_imageA : imageA = s.imageA ∨ W.testBit (1001 + Part.imageA.ctorIdx) = true := by first | exact .inl rfl | exact .inr (bit_get (by assumption) (by decide)))
    (h_imageB : imageB = s.imageB ∨ W.testBit (1001 + Part.imageB.ctorIdx) = true := by first | exact .inl rfl | exact .inr (bit_get (by assumption) (by decide)))
    (h_xspi : xspi = s.xspi ∨ W.testBit (1001 + Part.xspi.ctorIdx) = true := by first | exact .inl rfl | exact .inr (bit_get (by assumption) (by decide)))
    (h_load : load = s.load ∨ W.testBit (1001 + Part.load.ctorIdx) = true := by first | exact .inl rfl | exact .inr (bit_get (by assumption) (by decide)))
    (h_startAt : startAt = s.startAt ∨ W.testBit (1001 + Part.startAt.ctorIdx) = true := by first | exact .inl rfl | exact .inr (bit_get (by assumption) (by decide)))
    (h_judged : judged = s.judged ∨ W.testBit (1001 + Part.judged.ctorIdx) = true := by first | exact .inl rfl | exact .inr (bit_get (by assumption) (by decide)))
    (h_resetToLog : resetToLog = s.resetToLog ∨ W.testBit (1001 + Part.resetToLog.ctorIdx) = true := by first | exact .inl rfl | exact .inr (bit_get (by assumption) (by decide)))
    (h_links : links = s.links ∨ W.testBit (1001 + Part.links.ctorIdx) = true := by first | exact .inl rfl | exact .inr (bit_get (by assumption) (by decide)))
    (h_frames : frames = s.frames ∨ W.testBit (1001 + Part.frames.ctorIdx) = true := by first | exact .inl rfl | exact .inr (bit_get (by assumption) (by decide)))
    (h_inss : inss = s.inss ∨ W.testBit (1001 + Part.inss.ctorIdx) = true := by first | exact .inl rfl | exact .inr (bit_get (by assumption) (by decide)))
    (h_waitQ : waitQ = s.waitQ ∨ W.testBit (1001 + Part.waitQ.ctorIdx) = true := by first | exact .inl rfl | exact .inr (bit_get (by assumption) (by decide)))
    (h_token : token = s.token ∨ W.testBit (1001 + Part.token.ctorIdx) = true := by first | exact .inl rfl | exact .inr (bit_get (by assumption) (by decide)))
    (h_tripSeq : tripSeq = s.tripSeq ∨ W.testBit (1001 + Part.tripSeq.ctorIdx) = true := by first | exact .inl rfl | exact .inr (bit_get (by assumption) (by decide)))
    (h_prots : prots = s.prots ∨ W.testBit (1001 + Part.prots.ctorIdx) = true := by first | exact .inl rfl | exact .inr (bit_get (by assumption) (by decide)))
    (h_bus : bus = s.bus ∨ W.testBit (1001 + Part.bus.ctorIdx) = true := by first | exact .inl rfl | exact .inr (bit_get (by assumption) (by decide)))
    (h_tripQ : tripQ = s.tripQ ∨ W.testBit (1001 + Part.tripQ.ctorIdx) = true := by first | exact .inl rfl | exact .inr (bit_get (by assumption) (by decide)))
    (h_damageLog : damageLog = s.damageLog ∨ W.testBit (1001 + Part.damageLog.ctorIdx) = true := by first | exact .inl rfl | exact .inr (bit_get (by assumption) (by decide)))
    (h_lockLog : lockLog = s.lockLog ∨ W.testBit (1001 + Part.lockLog.ctorIdx) = true := by first | exact .inl rfl | exact .inr (bit_get (by assumption) (by decide)))
    (h_trims : trims = s.trims ∨ W.testBit (1001 + Part.trims.ctorIdx) = true := by first | exact .inl rfl | exact .inr (bit_get (by assumption) (by decide)))
    (h_share : share = s.share ∨ W.testBit (1001 + Part.share.ctorIdx) = true := by first | exact .inl rfl | exact .inr (bit_get (by assumption) (by decide)))
    (h_strms : strms = s.strms ∨ W.testBit (1001 + Part.strms.ctorIdx) = true := by first | exact .inl rfl | exact .inr (bit_get (by assumption) (by decide)))
    (h_win : win = s.win ∨ W.testBit (1001 + Part.win.ctorIdx) = true := by first | exact .inl rfl | exact .inr (bit_get (by assumption) (by decide)))
    (h_convs : convs = s.convs ∨ W.testBit (1001 + Part.convs.ctorIdx) = true := by first | exact .inl rfl | exact .inr (bit_get (by assumption) (by decide)))
    (h_convBlocks : convBlocks = s.convBlocks ∨ W.testBit (1001 + Part.convBlocks.ctorIdx) = true := by first | exact .inl rfl | exact .inr (bit_get (by assumption) (by decide)))
    (h_settle : settle = s.settle ∨ W.testBit (1001 + Part.settle.ctorIdx) = true := by first | exact .inl rfl | exact .inr (bit_get (by assumption) (by decide)))
    (h_tals : tals = s.tals ∨ W.testBit (1001 + Part.tals.ctorIdx) = true := by first | exact .inl rfl | exact .inr (bit_get (by assumption) (by decide)))
    (h_trigs : trigs = s.trigs ∨ W.testBit (1001 + Part.trigs.ctorIdx) = true := by first | exact .inl rfl | exact .inr (bit_get (by assumption) (by decide)))
    (h_carriers : carriers = s.carriers ∨ W.testBit (1001 + Part.carriers.ctorIdx) = true := by first | exact .inl rfl | exact .inr (bit_get (by assumption) (by decide)))
    (h_chains : chains = s.chains ∨ W.testBit (1001 + Part.chains.ctorIdx) = true := by first | exact .inl rfl | exact .inr (bit_get (by assumption) (by decide)))
    (h_nodes : nodes = s.nodes ∨ W.testBit (1001 + Part.nodes.ctorIdx) = true := by first | exact .inl rfl | exact .inr (bit_get (by assumption) (by decide)))
    (h_inst : inst = s.inst ∨ W.testBit (1001 + Part.inst.ctorIdx) = true := by first | exact .inl rfl | exact .inr (bit_get (by assumption) (by decide)))
    (h_cells : cells = s.cells ∨ W.testBit (1001 + Part.cells.ctorIdx) = true := by first | exact .inl rfl | exact .inr (bit_get (by assumption) (by decide)))
    (h_strEst : strEst = s.strEst ∨ W.testBit (1001 + Part.strEst.ctorIdx) = true := by first | exact .inl rfl | exact .inr (bit_get (by assumption) (by decide)))
    (h_blkEst : blkEst = s.blkEst ∨ W.testBit (1001 + Part.blkEst.ctorIdx) = true := by first | exact .inl rfl | exact .inr (bit_get (by assumption) (by decide)))
    (h_keptNodes : keptNodes = s.keptNodes ∨ W.testBit (1001 + Part.keptNodes.ctorIdx) = true := by first | exact .inl rfl | exact .inr (bit_get (by assumption) (by decide)))
    (h_est : est = s.est ∨ W.testBit (1001 + Part.est.ctorIdx) = true := by first | exact .inl rfl | exact .inr (bit_get (by assumption) (by decide)))
    (h_ldgState : ldgState = s.ldgState ∨ W.testBit (1001 + Part.ldgState.ctorIdx) = true := by first | exact .inl rfl | exact .inr (bit_get (by assumption) (by decide)))
    (h_recorder : recorder = s.recorder ∨ W.testBit (1001 + Part.recorder.ctorIdx) = true := by first | exact .inl rfl | exact .inr (bit_get (by assumption) (by decide)))
    (h_dsp : dsp = s.dsp ∨ W.testBit (1001 + Part.dsp.ctorIdx) = true := by first | exact .inl rfl | exact .inr (bit_get (by assumption) (by decide)))
    (h_evtFifo : evtFifo = s.evtFifo ∨ W.testBit (1001 + Part.evtFifo.ctorIdx) = true := by first | exact .inl rfl | exact .inr (bit_get (by assumption) (by decide)))
    (h_evtSeq : evtSeq = s.evtSeq ∨ W.testBit (1001 + Part.evtSeq.ctorIdx) = true := by first | exact .inl rfl | exact .inr (bit_get (by assumption) (by decide)))
    (h_evtPending : evtPending = s.evtPending ∨ W.testBit (1001 + Part.evtPending.ctorIdx) = true := by first | exact .inl rfl | exact .inr (bit_get (by assumption) (by decide)))
    (h_com : com = s.com ∨ W.testBit (1001 + Part.com.ctorIdx) = true := by first | exact .inl rfl | exact .inr (bit_get (by assumption) (by decide)))
    (h_span : span = s.span ∨ W.testBit (1001 + Part.span.ctorIdx) = true := by first | exact .inl rfl | exact .inr (bit_get (by assumption) (by decide)))
    (h_tbs : tbs = s.tbs ∨ W.testBit (1001 + Part.tbs.ctorIdx) = true := by first | exact .inl rfl | exact .inr (bit_get (by assumption) (by decide)))
    (h_bel : bel = s.bel ∨ W.testBit (1001 + Part.bel.ctorIdx) = true := by first | exact .inl rfl | exact .inr (bit_get (by assumption) (by decide)))
    (h_pars : pars = s.pars ∨ W.testBit (1001 + Part.pars.ctorIdx) = true := by first | exact .inl rfl | exact .inr (bit_get (by assumption) (by decide)))
    (h_ldg : ldg = s.ldg ∨ W.testBit (1001 + Part.ldg.ctorIdx) = true := by first | exact .inl rfl | exact .inr (bit_get (by assumption) (by decide)))
    (h_tg : tg = s.tg ∨ W.testBit (1001 + Part.tg.ctorIdx) = true := by first | exact .inl rfl | exact .inr (bit_get (by assumption) (by decide)))
    (h_almChs : almChs = s.almChs ∨ W.testBit (1001 + Part.almChs.ctorIdx) = true := by first | exact .inl rfl | exact .inr (bit_get (by assumption) (by decide)))
    (h_alm : alm = s.alm ∨ W.testBit (1001 + Part.alm.ctorIdx) = true := by first | exact .inl rfl | exact .inr (bit_get (by assumption) (by decide)))
    (h_baseLog : baseLog = s.baseLog ∨ W.testBit (1001 + Part.baseLog.ctorIdx) = true := by first | exact .inl rfl | exact .inr (bit_get (by assumption) (by decide)))
    (h_inj : inj = s.inj ∨ W.testBit (1001 + Part.inj.ctorIdx) = true := by first | exact .inl rfl | exact .inr (bit_get (by assumption) (by decide))) :
    State.Framed W o ⟨variant, osc, fresh, regs, cnts, shadows, mem, pending, resp, outbox, sess, tiles, units, paces, lowPace, sup, charter, imageA, imageB, xspi, load, startAt, judged, resetToLog, links, frames, inss, waitQ, token, tripSeq, prots, bus, tripQ, damageLog, lockLog, trims, share, strms, win, convs, convBlocks, settle, tals, trigs, carriers, chains, nodes, inst, cells, strEst, blkEst, keptNodes, est, ldgState, recorder, dsp, evtFifo, evtSeq, evtPending, com, span, tbs, bel, pars, ldg, tg, almChs, alm, baseLog, inj⟩ := by
  subst hv ho hr hc hs hm hp
  refine h.trans ⟨rfl, rfl, rfl, id, fun _ _ _ _ => rfl, fun _ => rfl, fun e => part_or h_fresh e,
   fun e => part_or h_resp e, fun e => part_or h_outbox e, fun e => part_or h_sess e, fun e => part_or h_tiles e,
   fun e => part_or h_units e, fun e => part_or h_paces e, fun e => part_or h_lowPace e,
   fun e => part_or h_sup e, fun e => part_or h_charter e, fun e => part_or h_imageA e,
   fun e => part_or h_imageB e,
   fun e => part_or h_xspi e, fun e => part_or h_load e, fun e => part_or h_startAt e,
   fun e => part_or h_judged e,
   fun e => part_or h_resetToLog e, fun e => part_or h_links e, fun e => part_or h_frames e,
   fun e => part_or h_inss e, fun e => part_or h_waitQ e, fun e => part_or h_token e,
   fun e => part_or h_tripSeq e, fun e => part_or h_prots e, fun e => part_or h_bus e,
   fun e => part_or h_tripQ e, fun e => part_or h_damageLog e, fun e => part_or h_lockLog e,
   fun e => part_or h_trims e, fun e => part_or h_share e, fun e => part_or h_strms e, fun e => part_or h_win e,
   fun e => part_or h_convs e, fun e => part_or h_convBlocks e, fun e => part_or h_settle e,
   fun e => part_or h_tals e, fun e => part_or h_trigs e,
   fun e => part_or h_carriers e, fun e => part_or h_chains e,
   fun e => part_or h_nodes e, fun e => part_or h_inst e, fun e => part_or h_cells e,
   fun e => part_or h_strEst e, fun e => part_or h_blkEst e, fun e => part_or h_keptNodes e,
   fun e => part_or h_est e, fun e => part_or h_ldgState e, fun e => part_or h_recorder e,
   fun e => part_or h_dsp e, fun e => part_or h_evtFifo e, fun e => part_or h_evtSeq e,
   fun e => part_or h_evtPending e, fun e => part_or h_com e, fun e => part_or h_span e,
   fun e => part_or h_tbs e, fun e => part_or h_bel e, fun e => part_or h_pars e, fun e => part_or h_ldg e,
   fun e => part_or h_tg e, fun e => part_or h_almChs e, fun e => part_or h_alm e, fun e => part_or h_baseLog e,
   fun e => part_or h_inj e⟩

/-- With every mask bit named, only the variant, the queue, the clock and the canonical form are kept. -/
theorem ofAll (hW : SubMask allMask W) (hv : t.variant = s.variant) (hp : t.pending = s.pending) (ho : t.osc = s.osc)
    (hc : s.Canonical → t.Canonical) : State.Framed W s t := by
  have h (n : Nat) (hn : n < 1101) {p : Prop} (e : W.testBit n = false) : p := by
    rw [bit_get hW (by simp only [allMask, Nat.testBit_two_pow_sub_one, decide_eq_true_eq]; exact hn)] at e
    cases e
  exact ⟨hv, hp, ho, hc, fun r _ _ => h _ (by have := ctorIdx_lt r; omega), h _ (by decide),
    h _ (by decide), h _ (by decide), h _ (by decide), h _ (by decide), h _ (by decide), h _ (by decide), h _ (by decide), h _ (by decide), h _ (by decide), h _ (by decide), h _ (by decide), h _ (by decide), h _ (by decide), h _ (by decide), h _ (by decide), h _ (by decide), h _ (by decide), h _ (by decide), h _ (by decide), h _ (by decide), h _ (by decide), h _ (by decide), h _ (by decide), h _ (by decide), h _ (by decide), h _ (by decide), h _ (by decide), h _ (by decide), h _ (by decide), h _ (by decide), h _ (by decide), h _ (by decide), h _ (by decide), h _ (by decide), h _ (by decide), h _ (by decide), h _ (by decide), h _ (by decide), h _ (by decide), h _ (by decide), h _ (by decide), h _ (by decide), h _ (by decide), h _ (by decide), h _ (by decide), h _ (by decide), h _ (by decide), h _ (by decide), h _ (by decide), h _ (by decide), h _ (by decide), h _ (by decide), h _ (by decide), h _ (by decide), h _ (by decide), h _ (by decide), h _ (by decide), h _ (by decide), h _ (by decide), h _ (by decide), h _ (by decide), h _ (by decide), h _ (by decide)⟩

theorem cut {x : State} {G : Prop} (h : State.Framed W o x) (g : State.Framed W o x → G) : G := g h
end State.Framed

theorem mask_get {r : RegName} {W : Nat} (hW : SubMask (regMask [r]) W) : W.testBit r.ctorIdx = true := by
  refine pow_get ?_
  unfold SubMask regMask at hW
  simpa only [List.foldl, Nat.zero_or] using hW

theorem mask_all (r : RegName) : SubMask (regMask [r]) allMask := by
  show regMask [r] &&& (2 ^ 1101 - 1) = regMask [r]
  rw [Nat.and_two_pow_sub_one_eq_mod]
  refine Nat.mod_eq_of_lt ?_
  simp only [regMask, List.foldl, Nat.zero_or]
  exact Nat.pow_lt_pow_right (by decide) (by have := ctorIdx_lt r; omega)

theorem State.setReg_framed {W : Nat} {o s : State} (r : RegName) (i j v : Nat) (hW : SubMask (regMask [r]) W)
    (h : State.Framed W o s) : State.Framed W o (s.setReg r i j v) := by
  refine h.trans (State.Framed.tables rfl rfl rfl (fun k => ⟨?_, k.2⟩) (fun r' i' j' e => ?_) (fun _ => rfl) rfl)
  · have := sparseWf_set s.regs (regDefault s.variant) (regKey r i j) (BitVec.ofNat 32 v) k.1
    rw [regDefault_regKey] at this
    exact this
  · refine State.reg_setReg_ne s v (Or.inl ?_)
    rintro rfl
    rw [mask_get hW] at e; cases e
theorem State.setFld_framed {W : Nat} {o s : State} (f : Fld) (v i j : Nat) (hW : SubMask (regMask [f.reg]) W)
    (h : State.Framed W o s) : State.Framed W o (s.setFld f v i j) := State.setReg_framed _ _ _ _ hW h
theorem State.setBit_framed {W : Nat} {o s : State} (f : Fld) (v : Bool) (i j : Nat) (hW : SubMask (regMask [f.reg]) W)
    (h : State.Framed W o s) : State.Framed W o (s.setBit f v i j) := State.setReg_framed _ _ _ _ hW h
theorem State.setSFld_framed {W : Nat} {o s : State} (f : Fld) (v : Int) (i j : Nat) (hW : SubMask (regMask [f.reg]) W)
    (h : State.Framed W o s) : State.Framed W o (s.setSFld f v i j) := State.setReg_framed _ _ _ _ hW h
theorem State.setSatFld_framed {W : Nat} {o s : State} (f : Fld) (v : Int) (i j : Nat) (hW : SubMask (regMask [f.reg]) W)
    (h : State.Framed W o s) : State.Framed W o (s.setSatFld f v i j) := State.setReg_framed _ _ _ _ hW h
theorem mem_get {W : Nat} (hW : SubMask memMask W) : W.testBit 1000 = true := pow_get hW
theorem State.putMem_framed {W : Nat} {o s t : State} (hW : SubMask memMask W)
    (h : State.Framed W o s) (ht : t = { s with mem := t.mem }) (hm : Memory.wf s.mem = true → Memory.wf t.mem = true) : State.Framed W o t := by
  rw [ht]
  refine h.trans (State.Framed.tables rfl rfl rfl (fun k => ⟨k.1, k.2.1, k.2.2.1, hm k.2.2.2⟩) (fun _ _ _ _ => rfl) (fun e => ?_) rfl)
  rw [mem_get hW] at e; cases e
theorem State.setWord_framed {W : Nat} {o s : State} (a v : Nat) (hW : SubMask memMask W)
    (h : State.Framed W o s) : State.Framed W o (s.setWord a v) :=
  State.putMem_framed hW h rfl (memPutLe_wf _ _ _ _)
theorem State.count_framed {W : Nat} {o s : State} (r : RegName) (i b : Nat)
    (h : State.Framed W o s) : State.Framed W o (s.count r i b) := by
  refine h.trans (State.Framed.tables rfl rfl rfl (fun k => ⟨k.1, ?_, k.2.2⟩) (fun _ _ _ _ => rfl) (fun _ => rfl) rfl)
  exact sparseWf_set s.cnts (fun _ => 0) _ _ k.2.1
theorem State.Framed.putCnts {W : Nat} {o s : State} (h : State.Framed W o s) {c : List (Nat × Word)}
    (hc : sparseWf s.cnts (fun _ => 0) = true → sparseWf c (fun _ => 0) = true) : State.Framed W o { s with cnts := c } :=
  h.trans (State.Framed.tables rfl rfl rfl (fun k => ⟨k.1, hc k.2.1, k.2.2⟩) (fun _ _ _ _ => rfl) (fun _ => rfl) rfl)

theorem State.flag_framed {W : Nat} {o s : State} (f : Fld) (i b : Nat) (hW : SubMask (regMask [f.reg]) W)
    (h : State.Framed W o s) : State.Framed W o (s.flag f i b) := State.count_framed _ _ _ (State.setReg_framed _ _ _ _ hW h)
theorem State.flagIf_framed {W : Nat} {o s : State} (c : Bool) (f : Fld) (i b : Nat) (hW : SubMask (regMask [f.reg]) W)
    (h : State.Framed W o s) : State.Framed W o (s.flagIf c f i b) := by
  unfold State.flagIf; exact .ite (State.flag_framed f i b hW h) h
theorem State.setShadow_framed {W : Nat} {o s : State} (who : Nat) (r : RegName) (i j v : Nat)
    (h : State.Framed W o s) : State.Framed W o (s.setShadow who r i j v) := by
  refine h.trans (State.Framed.tables rfl rfl rfl (fun k => ⟨k.1, k.2.1, ?_, k.2.2.2⟩) (fun _ _ _ _ => rfl) (fun _ => rfl) rfl)
  exact sparseWf_set s.shadows (fun _ => 0) _ _ k.2.2.1

def State.ledgerAt_writes : Nat := regMask [.LDG_SEQ, .LDG_STATE] ||| partMask [.ldg]
def State.showFill_writes : Nat := regMask [.LDG_STATE]
theorem State.showFill_framed {W : Nat} {o s : State} (hW : SubMask (regMask [.LDG_STATE]) W)
    (h : State.Framed W o s) : State.Framed W o (s.showFill) := by
  unfold State.showFill
  refine State.setFld_framed _ _ _ _ (hW.trans (by decide)) ?_
  exact h
theorem State.ledgerAt_framed {W : Nat} {o s : State} (kind : Nat) (urgent st : Bool) (keyv : Nat) (body : List Nat)
    (sec ns : Nat) (hW : SubMask State.ledgerAt_writes W)
    (h : State.Framed W o s) : State.Framed W o (s.ledgerAt kind urgent st keyv body sec ns) := by
  unfold State.ledgerAt
  lift_lets
  intro a b c d e
  refine State.showFill_framed (hW.trans (by decide)) ?_
  refine State.setReg_framed _ _ _ _ (hW.trans (by decide)) ?_
  refine State.setReg_framed _ _ _ _ (hW.trans (by decide)) ?_
  exact State.Framed.mkOf h rfl rfl rfl rfl rfl rfl rfl

def OutFramed (W : Nat) (o : State) (x : Host.Outcome State Fault Refusal) : Prop := ∃ t, x = .next t ∧ State.Framed W o t
theorem OutFramed.next {W : Nat} {o t : State} (h : State.Framed W o t) : OutFramed W o (.next t) := ⟨t, rfl, h⟩
theorem OutFramed.ite {W : Nat} {o : State} {c : Prop} {d : Decidable c} {a b : Host.Outcome State Fault Refusal} (h : OutFramed W o a) (g : OutFramed W o b) :
    OutFramed W o (if c then a else b) := by split <;> assumption
end Sys2Proof.Machine
end

