-- ==== Sys2Proof/Laws/FrameOps.lean ====
section
/-! SUPPORT. Frames of Machine/Ops.lean: for each operation, all it can write. -/

namespace Sys2Proof.Machine

set_option Elab.async false
set_option linter.unusedTactic false
set_option linter.unreachableTactic false
set_option exponentiation.threshold 1200

def State.loadShadows_writes : Nat := 0
theorem State.loadShadows_framed {W : Nat} {o s : State} (who : Nat) (r : RegName) (i : Nat) (js : List Nat)
    (hW : SubMask State.loadShadows_writes W) (hs : State.Framed W o s) :
    State.Framed W o (State.loadShadows s who r i js) := by
  delta State.loadShadows
  repeat' first
    | with_reducible assumption
    | (with_reducible refine State.setShadow_framed _ _ _ _ _ ?_)
    | (with_reducible refine State.Framed.foldl _ ?_ (fun t e h => ?_))

def State.draw_writes : Nat := partMask [.fresh]
theorem State.draw_framed {W : Nat} {o s : State}  (hW : SubMask State.draw_writes W) (hs : State.Framed W o s) :
    State.Framed W o (State.draw s) := by
  delta State.draw
  repeat' first
    | with_reducible assumption
    | (fail_if_no_progress with_reducible refine State.Framed.mkOf ?_ rfl rfl rfl rfl rfl rfl rfl)

def State.send_writes : Nat := partMask [.outbox]
theorem State.send_framed {W : Nat} {o s : State} (m : Msg) (hW : SubMask State.send_writes W)
    (hs : State.Framed W o s) :
    State.Framed W o (State.send s m) := by
  delta State.send
  repeat' first
    | with_reducible assumption
    | (fail_if_no_progress with_reducible refine State.Framed.mkOf ?_ rfl rfl rfl rfl rfl rfl rfl)

def State.answer_writes : Nat := partMask [.resp]
theorem State.answer_framed {W : Nat} {o s : State} (r : Resp) (hW : SubMask State.answer_writes W)
    (hs : State.Framed W o s) :
    State.Framed W o (State.answer s r) := by
  delta State.answer
  repeat' first
    | with_reducible assumption
    | (fail_if_no_progress with_reducible refine State.Framed.mkOf ?_ rfl rfl rfl rfl rfl rfl rfl)

def State.setWords_writes : Nat := memMask
theorem State.setWords_framed {W : Nat} {o s : State} (a : Nat) (vs : List Nat) (hW : SubMask State.setWords_writes W)
    (h : State.Framed W o s) : State.Framed W o (s.setWords a vs) := by
  induction vs generalizing s a with
  | nil => exact h
  | cons v vs ih => exact ih _ (State.setWord_framed _ _ hW h)

def State.judge_writes : Nat := partMask [.judged]
theorem State.judge_framed {W : Nat} {o s : State} (k : Nat) (hW : SubMask State.judge_writes W)
    (hs : State.Framed W o s) :
    State.Framed W o (State.judge s k) := by
  delta State.judge
  repeat' first
    | with_reducible assumption
    | (with_reducible refine State.Framed.ite ?_ ?_)
    | (fail_if_no_progress with_reducible refine State.Framed.mkOf ?_ rfl rfl rfl rfl rfl rfl rfl)

def State.setLk_writes : Nat := partMask [.links]
theorem State.setLk_framed {W : Nat} {o s : State} (n : Nat) (l : Link) (hW : SubMask State.setLk_writes W)
    (hs : State.Framed W o s) :
    State.Framed W o (State.setLk s n l) := by
  delta State.setLk
  repeat' first
    | with_reducible assumption
    | (fail_if_no_progress with_reducible refine State.Framed.mkOf ?_ rfl rfl rfl rfl rfl rfl rfl)

def State.setIns_writes : Nat := partMask [.inss]
theorem State.setIns_framed {W : Nat} {o s : State} (n : Nat) (x : Ins) (hW : SubMask State.setIns_writes W)
    (hs : State.Framed W o s) :
    State.Framed W o (State.setIns s n x) := by
  delta State.setIns
  repeat' first
    | with_reducible assumption
    | (fail_if_no_progress with_reducible refine State.Framed.mkOf ?_ rfl rfl rfl rfl rfl rfl rfl)

def State.setChain_writes : Nat := partMask [.chains]
theorem State.setChain_framed {W : Nat} {o s : State} (n : Nat) (x : Chain) (hW : SubMask State.setChain_writes W)
    (hs : State.Framed W o s) :
    State.Framed W o (State.setChain s n x) := by
  delta State.setChain
  repeat' first
    | with_reducible assumption
    | (fail_if_no_progress with_reducible refine State.Framed.mkOf ?_ rfl rfl rfl rfl rfl rfl rfl)

def State.setProt_writes : Nat := partMask [.prots]
theorem State.setProt_framed {W : Nat} {o s : State} (n : Nat) (x : Prot) (hW : SubMask State.setProt_writes W)
    (hs : State.Framed W o s) :
    State.Framed W o (State.setProt s n x) := by
  delta State.setProt
  repeat' first
    | with_reducible assumption
    | (fail_if_no_progress with_reducible refine State.Framed.mkOf ?_ rfl rfl rfl rfl rfl rfl rfl)

def State.setTrim_writes : Nat := partMask [.trims]
theorem State.setTrim_framed {W : Nat} {o s : State} (n : Nat) (x : Trim) (hW : SubMask State.setTrim_writes W)
    (hs : State.Framed W o s) :
    State.Framed W o (State.setTrim s n x) := by
  delta State.setTrim
  repeat' first
    | with_reducible assumption
    | (fail_if_no_progress with_reducible refine State.Framed.mkOf ?_ rfl rfl rfl rfl rfl rfl rfl)

def State.setStrm_writes : Nat := partMask [.strms]
theorem State.setStrm_framed {W : Nat} {o s : State} (n : Nat) (x : Strm) (hW : SubMask State.setStrm_writes W)
    (hs : State.Framed W o s) :
    State.Framed W o (State.setStrm s n x) := by
  delta State.setStrm
  repeat' first
    | with_reducible assumption
    | (fail_if_no_progress with_reducible refine State.Framed.mkOf ?_ rfl rfl rfl rfl rfl rfl rfl)

def State.setAlmCh_writes : Nat := partMask [.almChs]
theorem State.setAlmCh_framed {W : Nat} {o s : State} (n : Nat) (x : AlmCh) (hW : SubMask State.setAlmCh_writes W)
    (hs : State.Framed W o s) :
    State.Framed W o (State.setAlmCh s n x) := by
  delta State.setAlmCh
  repeat' first
    | with_reducible assumption
    | (fail_if_no_progress with_reducible refine State.Framed.mkOf ?_ rfl rfl rfl rfl rfl rfl rfl)

def State.setSession_writes : Nat := partMask [.sess]
theorem State.setSession_framed {W : Nat} {o s : State} (k : Nat) (x : Sess) (hW : SubMask State.setSession_writes W)
    (hs : State.Framed W o s) :
    State.Framed W o (State.setSession s k x) := by
  delta State.setSession
  repeat' first
    | with_reducible assumption
    | (fail_if_no_progress with_reducible refine State.Framed.mkOf ?_ rfl rfl rfl rfl rfl rfl rfl)

def State.ledger_writes : Nat := State.ledgerAt_writes
theorem State.ledger_framed {W : Nat} {o s : State} (kind : Nat) (body : List Nat)
    (hW : SubMask State.ledger_writes W) (hs : State.Framed W o s) :
    State.Framed W o (State.ledger s kind body) := by
  delta State.ledger
  repeat' first
    | with_reducible assumption
    | (with_reducible refine State.ledgerAt_framed _ _ _ _ _ _ _ (hW.trans (by decide)) ?_)

def State.ledgerState_writes : Nat := State.ledgerAt_writes
theorem State.ledgerState_framed {W : Nat} {o s : State} (kind keyv : Nat) (body : List Nat)
    (hW : SubMask State.ledgerState_writes W) (hs : State.Framed W o s) :
    State.Framed W o (State.ledgerState s kind keyv body) := by
  delta State.ledgerState
  repeat' first
    | with_reducible assumption
    | (with_reducible refine State.ledgerAt_framed _ _ _ _ _ _ _ (hW.trans (by decide)) ?_)

def State.ledgerBulk_writes : Nat := State.ledgerAt_writes
theorem State.ledgerBulk_framed {W : Nat} {o s : State} (kind keyv : Nat) (body : List Nat)
    (hW : SubMask State.ledgerBulk_writes W) (hs : State.Framed W o s) :
    State.Framed W o (State.ledgerBulk s kind keyv body) := by
  delta State.ledgerBulk
  repeat' first
    | with_reducible assumption
    | (with_reducible refine State.ledgerAt_framed _ _ _ _ _ _ _ (hW.trans (by decide)) ?_)

def State.touch_writes : Nat := State.setSession_writes
theorem State.touch_framed {W : Nat} {o s : State} (k : Nat) (hW : SubMask State.touch_writes W)
    (hs : State.Framed W o s) :
    State.Framed W o (State.touch s k) := by
  delta State.touch
  repeat' first
    | with_reducible assumption
    | (with_reducible refine State.Framed.ite ?_ ?_)
    | (with_reducible refine State.setSession_framed _ _ (hW.trans (by decide)) ?_)

def State.loadingRead_writes : Nat := State.answer_writes ||| State.touch_writes
theorem State.loadingRead_framed {W : Nat} {o s : State} (who : Nat) (r : RegName) (i j : Nat) (loads : List (RegName × Nat × Nat))
    (hW : SubMask State.loadingRead_writes W) (hs : State.Framed W o s) :
    State.Framed W o (State.loadingRead s who r i j loads) := by
  delta State.loadingRead
  repeat' first
    | with_reducible assumption
    | (with_reducible refine State.Framed.ite ?_ ?_)
    | (with_reducible refine State.setShadow_framed _ _ _ _ _ ?_)
    | (with_reducible refine State.answer_framed _ (hW.trans (by decide)) ?_)
    | (with_reducible refine State.touch_framed _ (hW.trans (by decide)) ?_)
    | (with_reducible refine State.Framed.foldl _ ?_ (fun t e h => ?_))

def State.auditRefused_writes : Nat := State.ledger_writes ||| State.setSession_writes
theorem State.auditRefused_framed {W : Nat} {o s : State} (k result addr old new : Nat)
    (hW : SubMask State.auditRefused_writes W) (hs : State.Framed W o s) :
    State.Framed W o (State.auditRefused s k result addr old new) := by
  delta State.auditRefused
  repeat' first
    | with_reducible assumption
    | (with_reducible refine State.Framed.ite ?_ ?_)
    | (with_reducible refine State.ledger_framed _ _ (hW.trans (by decide)) ?_)
    | (with_reducible refine State.setSession_framed _ _ (hW.trans (by decide)) ?_)

def State.auditWrite_writes : Nat := State.auditRefused_writes ||| State.ledger_writes |||
  State.setSession_writes
theorem State.auditWrite_framed {W : Nat} {o s : State} (k : Nat) (r : RegName) (i j result new : Nat)
    (hW : SubMask State.auditWrite_writes W) (hs : State.Framed W o s) :
    State.Framed W o (State.auditWrite s k r i j result new) := by
  delta State.auditWrite
  repeat' first
    | with_reducible assumption
    | (with_reducible refine State.Framed.ite ?_ ?_)
    | (with_reducible refine State.auditRefused_framed _ _ _ _ _ (hW.trans (by decide)) ?_)
    | (with_reducible refine State.ledger_framed _ _ (hW.trans (by decide)) ?_)
    | (with_reducible refine State.setSession_framed _ _ (hW.trans (by decide)) ?_)

def State.refuse_writes : Nat := regMask [.TG_FLAGS] ||| State.answer_writes ||| State.auditWrite_writes
theorem State.refuse_framed {W : Nat} {o s : State} (k : Nat) (r : RegName) (i j result new : Nat)
    (hW : SubMask State.refuse_writes W) (hs : State.Framed W o s) :
    State.Framed W o (State.refuse s k r i j result new) := by
  delta State.refuse
  repeat' first
    | with_reducible assumption
    | (with_reducible refine State.flag_framed _ _ _ (hW.trans (by decide)) ?_)
    | (with_reducible refine State.answer_framed _ (hW.trans (by decide)) ?_)
    | (with_reducible refine State.auditWrite_framed _ _ _ _ _ _ (hW.trans (by decide)) ?_)

def State.accept_writes : Nat := partMask [.resp] ||| State.auditWrite_writes
theorem State.accept_framed {W : Nat} {o s : State} (k : Nat) (r : RegName) (i j new : Nat)
    (hW : SubMask State.accept_writes W) (hs : State.Framed W o s) :
    State.Framed W o (State.accept s k r i j new) := by
  delta State.accept
  repeat' first
    | with_reducible assumption
    | (with_reducible refine State.auditWrite_framed _ _ _ _ _ _ (hW.trans (by decide)) ?_)
    | (fail_if_no_progress with_reducible refine State.Framed.mkOf ?_ rfl rfl rfl rfl rfl rfl rfl)

def State.sessionWrite_writes : Nat := State.touch_writes ||| State.refuse_writes ||| State.accept_writes |||
  State.answer_writes
theorem State.sessionWrite_framed {W : Nat} {o s : State} (k : Nat) (r : RegName) (i j value : Nat) (ok : Nat → Bool)
    (after : State → State) (hW : SubMask State.sessionWrite_writes W) (hr : SubMask (regMask [r]) W) (h : State.Framed W o s)
    (ha : ∀ t, State.Framed W o t → State.Framed W o (after t)) : State.Framed W o (s.sessionWrite k r i j value ok after) := by
  have ht := State.touch_framed (k := k) (hW.trans (by decide)) h
  unfold State.sessionWrite
  refine .ite ht (.ite (State.answer_framed _ (hW.trans (by decide)) ht) (.ite (State.answer_framed _ (hW.trans (by decide)) ht)
    (.ite (State.refuse_framed _ _ _ _ _ _ (hW.trans (by decide)) ht)
    (ha _ (State.setReg_framed _ _ _ _ hr (State.accept_framed _ _ _ _ _ (hW.trans (by decide)) ht))))))

def State.sessionCommand_writes : Nat := State.touch_writes ||| State.refuse_writes ||| State.accept_writes |||
  State.answer_writes
theorem State.sessionCommand_framed {W : Nat} {o s : State} (k : Nat) (r : RegName) (i j value : Nat) (ok : Bool)
    (act : State → State) (hW : SubMask State.sessionCommand_writes W) (h : State.Framed W o s)
    (ha : ∀ t, State.Framed W o t → State.Framed W o (act t)) : State.Framed W o (s.sessionCommand k r i j value ok act) := by
  have ht := State.touch_framed (k := k) (hW.trans (by decide)) h
  unfold State.sessionCommand
  refine .ite ht (.ite (State.answer_framed _ (hW.trans (by decide)) ht) (.ite (State.answer_framed _ (hW.trans (by decide)) ht)
    (.ite (State.refuse_framed _ _ _ _ _ _ (hW.trans (by decide)) ht)
    (ha _ (State.accept_framed _ _ _ _ _ (hW.trans (by decide)) ht)))))

end Sys2Proof.Machine
end

