-- ==== Sys2Proof/Laws/FrameFlags.lean ====
section
/-! SUPPORT. Frames of Machine/Flags.lean: for each operation, all it can write. -/

namespace Sys2Proof.Machine

set_option Elab.async false
set_option linter.unusedTactic false
set_option linter.unreachableTactic false
set_option exponentiation.threshold 1200

def State.publish_writes : Nat := partMask [.com]
theorem State.publish_framed {W : Nat} {o s : State} (v : Service) (words : List Nat) (hW : SubMask State.publish_writes W)
    (hs : State.Framed W o s) :
    State.Framed W o (State.publish s v words) := by
  delta State.publish
  repeat' first
    | with_reducible assumption
    | (fail_if_no_progress with_reducible refine State.Framed.mkOf ?_ rfl rfl rfl rfl rfl rfl rfl)
    | (intro x; refine State.Framed.cut (W := W) (o := o) (x := x) ?_ ?_; (on_goal 1 => unfold x); (on_goal 2 => (intro _; clear_value x)))
    | intro x

def State.event_writes : Nat := regMask [.DSP_FLAGS] ||| partMask [.evtFifo, .evtPending, .evtSeq, .outbox] |||
  State.publish_writes
theorem State.event_framed {W : Nat} {o s : State} (code ch : Nat) (ack : Bool) (hW : SubMask State.event_writes W)
    (hs : State.Framed W o s) :
    State.Framed W o (State.event s code ch ack) := by
  delta State.event
  repeat' first
    | with_reducible assumption
    | (with_reducible refine State.Framed.ite ?_ ?_)
    | (with_reducible refine State.publish_framed _ _ (hW.trans (by decide)) ?_)
    | (with_reducible refine State.flagIf_framed _ _ _ _ (hW.trans (by decide)) ?_)
    | (intro x; refine State.Framed.cut (W := W) (o := o) (x := x) ?_ ?_; (on_goal 1 => unfold x); (on_goal 2 => (intro _; clear_value x)))
    | (fail_if_no_progress with_reducible refine State.Framed.mkOf ?_ rfl rfl rfl rfl rfl rfl rfl)

def State.recStart_writes : Nat := regMask [.DSP_REC_STAMP, .DSP_REC_STATE, .DSP_REC_TRIG] |||
  partMask [.recorder]
theorem State.recStart_framed {W : Nat} {o s : State} (cause ch : Nat) (hW : SubMask State.recStart_writes W)
    (hs : State.Framed W o s) :
    State.Framed W o (State.recStart s cause ch) := by
  delta State.recStart
  repeat' first
    | with_reducible assumption
    | (with_reducible refine State.setReg_framed _ _ _ _ (hW.trans (by decide)) ?_)
    | (with_reducible refine State.setFld_framed _ _ _ _ (hW.trans (by decide)) ?_)
    | (with_reducible refine State.setBit_framed _ _ _ _ (hW.trans (by decide)) ?_)
    | (intro x; refine State.Framed.cut (W := W) (o := o) (x := x) ?_ ?_; (on_goal 1 => unfold x); (on_goal 2 => (intro _; clear_value x)))
    | (fail_if_no_progress with_reducible refine State.Framed.mkOf ?_ rfl rfl rfl rfl rfl rfl rfl)

def State.recAny_writes : Nat := regMask [.DSP_FLAGS, .DSP_REC_TRIG] ||| partMask [.recorder] |||
  State.recStart_writes
theorem State.recAny_framed {W : Nat} {o s : State} (cause ch : Nat) (hW : SubMask State.recAny_writes W)
    (hs : State.Framed W o s) :
    State.Framed W o (State.recAny s cause ch) := by
  delta State.recAny
  repeat' first
    | with_reducible assumption
    | (with_reducible refine State.Framed.ite ?_ ?_)
    | (with_reducible refine State.setBit_framed _ _ _ _ (hW.trans (by decide)) ?_)
    | (with_reducible refine State.flag_framed _ _ _ (hW.trans (by decide)) ?_)
    | (with_reducible refine State.recStart_framed _ _ (hW.trans (by decide)) ?_)
    | (intro x; refine State.Framed.cut (W := W) (o := o) (x := x) ?_ ?_; (on_goal 1 => unfold x); (on_goal 2 => (intro _; clear_value x)))
    | intro x
    | (fail_if_no_progress with_reducible refine State.Framed.mkOf ?_ rfl rfl rfl rfl rfl rfl rfl)

def State.recTrigger_writes : Nat := State.recAny_writes
theorem State.recTrigger_framed {W : Nat} {o s : State} (maskBit ch : Nat) (hW : SubMask State.recTrigger_writes W)
    (hs : State.Framed W o s) :
    State.Framed W o (State.recTrigger s maskBit ch) := by
  delta State.recTrigger
  repeat' first
    | with_reducible assumption
    | (with_reducible refine State.Framed.ite ?_ ?_)
    | (with_reducible refine State.recAny_framed _ _ (hW.trans (by decide)) ?_)

def State.limitsDue_writes : Nat := partMask [.dsp]
theorem State.limitsDue_framed {W : Nat} {o s : State} (n : Nat) (hW : SubMask State.limitsDue_writes W)
    (hs : State.Framed W o s) :
    State.Framed W o (State.limitsDue s n) := by
  delta State.limitsDue
  repeat' first
    | with_reducible assumption
    | (fail_if_no_progress with_reducible refine State.Framed.mkOf ?_ rfl rfl rfl rfl rfl rfl rfl)

def State.showFailwarn_writes : Nat := regMask [.SUP_STATE] ||| State.send_writes
theorem State.showFailwarn_framed {W : Nat} {o s : State}  (hW : SubMask State.showFailwarn_writes W)
    (hs : State.Framed W o s) :
    State.Framed W o (State.showFailwarn s) := by
  delta State.showFailwarn
  repeat' first
    | with_reducible assumption
    | (with_reducible refine State.Framed.ite ?_ ?_)
    | (with_reducible refine State.setBit_framed _ _ _ _ (hW.trans (by decide)) ?_)
    | (with_reducible refine State.send_framed _ (hW.trans (by decide)) ?_)

def State.setNode_writes : Nat := partMask [.nodes]
theorem State.setNode_framed {W : Nat} {o s : State} (n p : Nat) (x : Node) (hW : SubMask State.setNode_writes W)
    (hs : State.Framed W o s) :
    State.Framed W o (State.setNode s n p x) := by
  delta State.setNode
  repeat' first
    | with_reducible assumption
    | (fail_if_no_progress with_reducible refine State.Framed.mkOf ?_ rfl rfl rfl rfl rfl rfl rfl)

def State.nodeCmd_writes : Nat := State.setChain_writes
theorem State.nodeCmd_framed {W : Nat} {o s : State} (n p op word : Nat) (data : List Nat) (hW : SubMask State.nodeCmd_writes W)
    (hs : State.Framed W o s) :
    State.Framed W o (State.nodeCmd s n p op word data) := by
  delta State.nodeCmd
  repeat' first
    | with_reducible assumption
    | (with_reducible refine State.setChain_framed _ _ (hW.trans (by decide)) ?_)

def State.balStop_writes : Nat := regMask [.DSP_FLAGS, .DSP_STR_BAL] ||| partMask [.dsp] |||
  State.nodeCmd_writes
theorem State.balStop_framed {W : Nat} {o s : State} (n : Nat) (hW : SubMask State.balStop_writes W)
    (hs : State.Framed W o s) :
    State.Framed W o (State.balStop s n) := by
  delta State.balStop
  repeat' first
    | with_reducible assumption
    | (with_reducible refine State.Framed.ite ?_ ?_)
    | (with_reducible refine State.Framed.foldl _ ?_ (fun t e h => ?_))
    | (with_reducible refine State.flag_framed _ _ _ (hW.trans (by decide)) ?_)
    | (with_reducible refine State.setBit_framed _ _ _ _ (hW.trans (by decide)) ?_)
    | (with_reducible refine State.setFld_framed _ _ _ _ (hW.trans (by decide)) ?_)
    | (with_reducible refine State.nodeCmd_framed _ _ _ _ _ (hW.trans (by decide)) ?_)
    | (fail_if_no_progress with_reducible refine State.Framed.mkOf ?_ rfl rfl rfl rfl rfl rfl rfl)
    | (intro x; refine State.Framed.cut (W := W) (o := o) (x := x) ?_ ?_; (on_goal 1 => unfold x); (on_goal 2 => (intro _; clear_value x)))
    | intro x

def State.zeroRequest_writes : Nat := regMask [.SHR_FRAC] ||| partMask [.share] ||| State.balStop_writes |||
  State.setTrim_writes
theorem State.zeroRequest_framed {W : Nat} {o s : State} (n : Nat) (hW : SubMask State.zeroRequest_writes W)
    (hs : State.Framed W o s) :
    State.Framed W o (State.zeroRequest s n) := by
  delta State.zeroRequest
  repeat' first
    | with_reducible assumption
    | (with_reducible refine State.Framed.ite ?_ ?_)
    | (with_reducible refine State.balStop_framed _ (hW.trans (by decide)) ?_)
    | (with_reducible refine State.setFld_framed _ _ _ _ (hW.trans (by decide)) ?_)
    | (with_reducible refine State.setTrim_framed _ _ (hW.trans (by decide)) ?_)
    | (intro x; refine State.Framed.cut (W := W) (o := o) (x := x) ?_ ?_; (on_goal 1 => unfold x); (on_goal 2 => (intro _; clear_value x)))
    | split
    | (fail_if_no_progress with_reducible refine State.Framed.mkOf ?_ rfl rfl rfl rfl rfl rfl rfl)
    | (intro x; refine State.Framed.cut (W := W) (o := o) (x := x) ?_ ?_; (on_goal 1 => unfold x); (on_goal 2 => (intro _; clear_value x)))
    | intro x

def State.injEnd_writes : Nat := regMask [.COM_FLAGS, .INJ_STATE] ||| State.ledger_writes
theorem State.injEnd_framed {W : Nat} {o s : State} (cause : Nat) (hW : SubMask State.injEnd_writes W)
    (hs : State.Framed W o s) :
    State.Framed W o (State.injEnd s cause) := by
  delta State.injEnd
  repeat' first
    | with_reducible assumption
    | (with_reducible refine State.Framed.ite ?_ ?_)
    | (with_reducible refine State.setFld_framed _ _ _ _ (hW.trans (by decide)) ?_)
    | (with_reducible refine State.setBit_framed _ _ _ _ (hW.trans (by decide)) ?_)
    | (with_reducible refine State.flag_framed _ _ _ (hW.trans (by decide)) ?_)
    | (with_reducible refine State.count_framed _ _ _ ?_)
    | (with_reducible refine State.ledger_framed _ _ (hW.trans (by decide)) ?_)

def State.injPick_writes : Nat := regMask [.INJ_STATE] ||| partMask [.inj] ||| State.injEnd_writes
theorem State.injPick_framed {W : Nat} {o s : State} (target idx : Nat) (rx : Bool) (cls : Nat)
    (hW : SubMask State.injPick_writes W) (hs : State.Framed W o s) :
    State.Framed W o (State.injPick s target idx rx cls).1 := by
  delta State.injPick
  repeat' first
    | with_reducible assumption
    | (with_reducible refine State.setFld_framed _ _ _ _ (hW.trans (by decide)) ?_)
    | (with_reducible refine State.count_framed _ _ _ ?_)
    | (with_reducible refine State.injEnd_framed _ (hW.trans (by decide)) ?_)
    | (intro x; refine State.Framed.cut (W := W) (o := o) (x := x) ?_ ?_; (on_goal 1 => unfold x); (on_goal 2 => (intro _; clear_value x)))
    | intro x
    | lift_lets
    | split
    | (fail_if_no_progress with_reducible refine State.Framed.mkOf ?_ rfl rfl rfl rfl rfl rfl rfl)

def State.injPass_writes : Nat := State.send_writes
theorem State.injPass_framed {W : Nat} {o s : State} (act : Nat) (m : Msg) (hW : SubMask State.injPass_writes W)
    (hs : State.Framed W o s) :
    State.Framed W o (State.injPass s act m) := by
  delta State.injPass
  repeat' first
    | with_reducible assumption
    | (with_reducible refine State.Framed.ite ?_ ?_)
    | (with_reducible refine State.send_framed _ (hW.trans (by decide)) ?_)

def State.injRelease_writes : Nat := partMask [.inj] ||| State.send_writes
theorem State.injRelease_framed {W : Nat} {o s : State} (held : Option Msg) (hW : SubMask State.injRelease_writes W)
    (hs : State.Framed W o s) :
    State.Framed W o (State.injRelease s held) := by
  delta State.injRelease
  repeat' first
    | with_reducible assumption
    | (with_reducible refine State.send_framed _ (hW.trans (by decide)) ?_)
    | split
    | (fail_if_no_progress with_reducible refine State.Framed.mkOf ?_ rfl rfl rfl rfl rfl rfl rfl)

def State.injSend_writes : Nat := partMask [.inj] ||| State.injPass_writes ||| State.injPick_writes |||
  State.injRelease_writes
theorem State.injSend_framed {W : Nat} {o s : State} (target idx cls : Nat) (m : Msg)
    (hW : SubMask State.injSend_writes W) (hs : State.Framed W o s) :
    State.Framed W o (State.injSend s target idx cls m) := by
  delta State.injSend
  repeat' first
    | with_reducible assumption
    | (with_reducible refine State.Framed.ite ?_ ?_)
    | (with_reducible refine State.injPass_framed _ _ (hW.trans (by decide)) ?_)
    | (with_reducible refine State.injPick_framed _ _ _ _ (hW.trans (by decide)) ?_)
    | (with_reducible refine State.injRelease_framed _ (hW.trans (by decide)) ?_)
    | (intro x; refine State.Framed.cut (W := W) (o := o) (x := x) ?_ ?_; (on_goal 1 => unfold x); (on_goal 2 => (intro _; clear_value x)))
    | (fail_if_no_progress with_reducible refine State.Framed.mkOf ?_ rfl rfl rfl rfl rfl rfl rfl)

def State.injReceive_writes : Nat := partMask [.inj] ||| State.injPick_writes
theorem State.injReceive_framed {W : Nat} {o s : State} (target idx cls : Nat) (i : Instr)
    (hW : SubMask State.injReceive_writes W) (hs : State.Framed W o s) :
    State.Framed W o (State.injReceive s target idx cls i).1 := by
  delta State.injReceive
  repeat' first
    | with_reducible assumption
    | (with_reducible refine State.injPick_framed _ _ _ _ (hW.trans (by decide)) ?_)
    | (intro x; refine State.Framed.cut (W := W) (o := o) (x := x) ?_ ?_; (on_goal 1 => unfold x); (on_goal 2 => (intro _; clear_value x)))
    | (intro x; refine State.Framed.cut (W := W) (o := o) (x := x.1) ?_ ?_; (on_goal 1 => unfold x); (on_goal 2 => (intro _; clear_value x)))
    | intro x
    | lift_lets
    | split
    | (fail_if_no_progress with_reducible refine State.Framed.mkOf ?_ rfl rfl rfl rfl rfl rfl rfl)

def State.spanTest_writes : Nat := regMask [.COM_PORT_STATE]
theorem State.spanTest_framed {W : Nat} {o s : State} (p : Nat) (hW : SubMask State.spanTest_writes W)
    (hs : State.Framed W o s) :
    State.Framed W o (State.spanTest s p) := by
  delta State.spanTest
  repeat' first
    | with_reducible assumption
    | (with_reducible refine State.Framed.ite ?_ ?_)
    | (with_reducible refine State.setFld_framed _ _ _ _ (hW.trans (by decide)) ?_)

def State.spanStart_writes : Nat := regMask [.COM_PORT_STATE] ||| partMask [.span] ||| State.spanTest_writes
theorem State.spanStart_framed {W : Nat} {o s : State}  (hW : SubMask State.spanStart_writes W)
    (hs : State.Framed W o s) :
    State.Framed W o (State.spanStart s) := by
  delta State.spanStart
  repeat' first
    | with_reducible assumption
    | (with_reducible refine State.spanTest_framed _ (hW.trans (by decide)) ?_)
    | (with_reducible refine State.Framed.ite ?_ ?_)
    | (with_reducible refine State.setFld_framed _ _ _ _ (hW.trans (by decide)) ?_)
    | (intro x; refine State.Framed.cut (W := W) (o := o) (x := x) ?_ ?_; (on_goal 1 => unfold x); (on_goal 2 => (intro _; clear_value x)))
    | (fail_if_no_progress with_reducible refine State.Framed.mkOf ?_ rfl rfl rfl rfl rfl rfl rfl)

def State.injInsert_writes : Nat := State.injEnd_writes
theorem State.injInsert_framed {W : Nat} {o s : State} (n : Nat) (hW : SubMask State.injInsert_writes W)
    (hs : State.Framed W o s) :
    State.Framed W o (State.injInsert s n) := by
  delta State.injInsert
  repeat' first
    | with_reducible assumption
    | (with_reducible refine State.Framed.ite ?_ ?_)
    | (with_reducible refine State.injEnd_framed _ (hW.trans (by decide)) ?_)

end Sys2Proof.Machine
end

