-- ==== Sys2Proof/Laws/FrameOperands.lean ====
section
/-! SUPPORT. Frames of Machine/Operands.lean: for each operation, all it can write. -/

namespace Sys2Proof.Machine

set_option Elab.async false
set_option linter.unusedTactic false
set_option linter.unreachableTactic false
set_option exponentiation.threshold 1200

end Sys2Proof.Machine
end

