-- ==== Sys2Proof/Laws/FrameChannel.lean ====
section
/-! SUPPORT. Frames of Machine/Channel.lean: for each operation, all it can write. -/

namespace Sys2Proof.Machine

set_option Elab.async false
set_option linter.unusedTactic false
set_option linter.unreachableTactic false
set_option exponentiation.threshold 1200

def State.showAcc_writes : Nat := regMask [.PROT_SLOWACC]
theorem State.showAcc_framed {W : Nat} {o s : State} (n : Nat) (hW : SubMask State.showAcc_writes W)
    (hs : State.Framed W o s) :
    State.Framed W o (State.showAcc s n) := by
  delta State.showAcc
  repeat' first
    | with_reducible assumption
    | (with_reducible refine State.Framed.ite ?_ ?_)
    | (with_reducible refine State.setFld_framed _ _ _ _ (hW.trans (by decide)) ?_)
    | (intro x; refine State.Framed.cut (W := W) (o := o) (x := x) ?_ ?_; (on_goal 1 => unfold x); (on_goal 2 => (intro _; clear_value x)))
    | intro x

def State.derate_writes : Nat := regMask [.PROT_EFF, .PROT_SLOWACC, .PROT_STATE] ||| State.showAcc_writes
theorem State.derate_framed {W : Nat} {o s : State} (n : Nat) (hW : SubMask State.derate_writes W)
    (hs : State.Framed W o s) :
    State.Framed W o (State.derate s n) := by
  delta State.derate
  repeat' first
    | with_reducible assumption
    | (with_reducible refine State.Framed.ite ?_ ?_)
    | (with_reducible refine State.showAcc_framed _ (hW.trans (by decide)) ?_)
    | (with_reducible refine State.setFld_framed _ _ _ _ (hW.trans (by decide)) ?_)

def State.safeRun_writes : Nat := regMask [.PLK_STATE, .SSI_PERMIT_A] ||| State.setLk_writes
theorem State.safeRun_framed {W : Nat} {o s : State} (n : Nat) (hW : SubMask State.safeRun_writes W)
    (hs : State.Framed W o s) :
    State.Framed W o (State.safeRun s n) := by
  delta State.safeRun
  repeat' first
    | with_reducible assumption
    | (with_reducible refine State.Framed.ite ?_ ?_)
    | (with_reducible refine State.setReg_framed _ _ _ _ (hW.trans (by decide)) ?_)
    | (with_reducible refine State.setBit_framed _ _ _ _ (hW.trans (by decide)) ?_)
    | (with_reducible refine State.setLk_framed _ _ (hW.trans (by decide)) ?_)

def State.strReady_writes : Nat := regMask [.INS_STATE]
theorem State.strReady_framed {W : Nat} {o s : State} (n : Nat) (v : Bool) (hW : SubMask State.strReady_writes W)
    (hs : State.Framed W o s) :
    State.Framed W o (State.strReady s n v) := by
  delta State.strReady
  repeat' first
    | with_reducible assumption
    | (with_reducible refine State.setBit_framed _ _ _ _ (hW.trans (by decide)) ?_)

def State.urgentOpen_writes : Nat := regMask [.PLK_FLAGS] ||| State.send_writes ||| State.setTrim_writes
theorem State.urgentOpen_framed {W : Nat} {o s : State} (n : Nat) (hW : SubMask State.urgentOpen_writes W)
    (hs : State.Framed W o s) :
    State.Framed W o (State.urgentOpen s n) := by
  delta State.urgentOpen
  repeat' first
    | with_reducible assumption
    | (with_reducible refine State.flag_framed _ _ _ (hW.trans (by decide)) ?_)
    | (with_reducible refine State.send_framed _ (hW.trans (by decide)) ?_)
    | (with_reducible refine State.setTrim_framed _ _ (hW.trans (by decide)) ?_)

def State.showQueue_writes : Nat := regMask [.INS_STATE]
theorem State.showQueue_framed {W : Nat} {o s : State} (q : List Nat) (pos : Nat) (hW : SubMask State.showQueue_writes W)
    (hs : State.Framed W o s) : State.Framed W o (s.showQueue q pos) := by
  induction q generalizing s pos with
  | nil => exact hs
  | cons n q ih => exact ih _ (State.setFld_framed _ _ _ _ (hW.trans (by decide)) hs)

def State.showBus_writes : Nat := regMask [.INS_BUS] ||| State.showQueue_writes
theorem State.showBus_framed {W : Nat} {o s : State}  (hW : SubMask State.showBus_writes W)
    (hs : State.Framed W o s) :
    State.Framed W o (State.showBus s) := by
  delta State.showBus
  repeat' first
    | with_reducible assumption
    | (with_reducible refine State.setFld_framed _ _ _ _ (hW.trans (by decide)) ?_)
    | (with_reducible refine State.setBit_framed _ _ _ _ (hW.trans (by decide)) ?_)
    | (with_reducible refine State.showQueue_framed _ _ (hW.trans (by decide)) ?_)

def State.dropToken_writes : Nat := regMask [.INS_STATE] ||| partMask [.token]
theorem State.dropToken_framed {W : Nat} {o s : State} (n : Nat) (hW : SubMask State.dropToken_writes W)
    (hs : State.Framed W o s) :
    State.Framed W o (State.dropToken s n) := by
  delta State.dropToken
  repeat' first
    | with_reducible assumption
    | (with_reducible refine State.Framed.ite ?_ ?_)
    | (with_reducible refine State.setBit_framed _ _ _ _ (hW.trans (by decide)) ?_)
    | (fail_if_no_progress with_reducible refine State.Framed.mkOf ?_ rfl rfl rfl rfl rfl rfl rfl)

def State.dequeue_writes : Nat := regMask [.INS_STATE] ||| partMask [.waitQ]
theorem State.dequeue_framed {W : Nat} {o s : State} (n : Nat) (hW : SubMask State.dequeue_writes W)
    (hs : State.Framed W o s) :
    State.Framed W o (State.dequeue s n) := by
  delta State.dequeue
  repeat' first
    | with_reducible assumption
    | (with_reducible refine State.setFld_framed _ _ _ _ (hW.trans (by decide)) ?_)
    | (fail_if_no_progress with_reducible refine State.Framed.mkOf ?_ rfl rfl rfl rfl rfl rfl rfl)

def State.shareOut_writes : Nat := regMask [.TRM_LIVE, .TRM_STATE]
theorem State.shareOut_framed {W : Nat} {o s : State} (n : Nat) (hW : SubMask State.shareOut_writes W)
    (hs : State.Framed W o s) :
    State.Framed W o (State.shareOut s n) := by
  delta State.shareOut
  repeat' first
    | with_reducible assumption
    | (with_reducible refine State.setBit_framed _ _ _ _ (hW.trans (by decide)) ?_)
    | (with_reducible refine State.setFld_framed _ _ _ _ (hW.trans (by decide)) ?_)

def State.trimReturn_writes : Nat := regMask [.TRM_LIVE, .TRM_STATE] ||| State.setTrim_writes |||
  State.shareOut_writes
theorem State.trimReturn_framed {W : Nat} {o s : State} (n : Nat) (hW : SubMask State.trimReturn_writes W)
    (hs : State.Framed W o s) :
    State.Framed W o (State.trimReturn s n) := by
  delta State.trimReturn
  repeat' first
    | with_reducible assumption
    | (with_reducible refine State.shareOut_framed _ (hW.trans (by decide)) ?_)
    | (with_reducible refine State.Framed.ite ?_ ?_)
    | (with_reducible refine State.setFld_framed _ _ _ _ (hW.trans (by decide)) ?_)
    | (with_reducible refine State.setBit_framed _ _ _ _ (hW.trans (by decide)) ?_)
    | (with_reducible refine State.setTrim_framed _ _ (hW.trans (by decide)) ?_)

def State.gates_writes : Nat := regMask [.INS_STATE] ||| State.setIns_writes
theorem State.gates_framed {W : Nat} {o s : State} (n on lin rampOn rampOff vgs : Nat)
    (hW : SubMask State.gates_writes W) (hs : State.Framed W o s) :
    State.Framed W o (State.gates s n on lin rampOn rampOff vgs) := by
  delta State.gates
  repeat' first
    | with_reducible assumption
    | (with_reducible refine State.setFld_framed _ _ _ _ (hW.trans (by decide)) ?_)
    | (with_reducible refine State.setIns_framed _ _ (hW.trans (by decide)) ?_)

def State.gatesOff_writes : Nat := State.gates_writes
theorem State.gatesOff_framed {W : Nat} {o s : State} (n ramp : Nat) (hW : SubMask State.gatesOff_writes W)
    (hs : State.Framed W o s) :
    State.Framed W o (State.gatesOff s n ramp) := by
  delta State.gatesOff
  repeat' first
    | with_reducible assumption
    | (with_reducible refine State.gates_framed _ _ _ _ _ _ (hW.trans (by decide)) ?_)

def State.setCstate_writes : Nat := regMask [.INS_STATE] ||| State.limitsDue_writes ||| State.setIns_writes |||
  State.setTrim_writes
theorem State.setCstate_framed {W : Nat} {o s : State} (n st : Nat) (hW : SubMask State.setCstate_writes W)
    (hs : State.Framed W o s) :
    State.Framed W o (State.setCstate s n st) := by
  delta State.setCstate
  repeat' first
    | with_reducible assumption
    | (with_reducible refine State.setTrim_framed _ _ (hW.trans (by decide)) ?_)
    | (with_reducible refine State.Framed.ite ?_ ?_)
    | (with_reducible refine State.setFld_framed _ _ _ _ (hW.trans (by decide)) ?_)
    | (with_reducible refine State.limitsDue_framed _ (hW.trans (by decide)) ?_)
    | (with_reducible refine State.setIns_framed _ _ (hW.trans (by decide)) ?_)

def State.limitOut_writes : Nat := regMask [.INS_STATE, .PROT_STATE] ||| State.setProt_writes
theorem State.limitOut_framed {W : Nat} {o s : State} (n : Nat) (hW : SubMask State.limitOut_writes W)
    (hs : State.Framed W o s) :
    State.Framed W o (State.limitOut s n) := by
  delta State.limitOut
  repeat' first
    | with_reducible assumption
    | (with_reducible refine State.setBit_framed _ _ _ _ (hW.trans (by decide)) ?_)
    | (with_reducible refine State.setProt_framed _ _ (hW.trans (by decide)) ?_)

def State.showConduct_writes : Nat := regMask [.INS_TJ]
theorem State.showConduct_framed {W : Nat} {o s : State} (n : Nat) (hW : SubMask State.showConduct_writes W)
    (hs : State.Framed W o s) :
    State.Framed W o (State.showConduct s n) := by
  delta State.showConduct
  repeat' first
    | with_reducible assumption
    | (with_reducible refine State.setBit_framed _ _ _ _ (hW.trans (by decide)) ?_)
    | (with_reducible refine State.Framed.foldl _ ?_ (fun t e h => ?_))

def State.endRun_writes : Nat := regMask [.INS_LIVE, .INS_STATE, .PROT_STATE] ||| State.gatesOff_writes |||
  State.limitOut_writes ||| State.setIns_writes ||| State.setProt_writes ||| State.showConduct_writes |||
  State.strReady_writes ||| State.trimReturn_writes
theorem State.endRun_framed {W : Nat} {o s : State} (n ramp : Nat) (hW : SubMask State.endRun_writes W)
    (hs : State.Framed W o s) :
    State.Framed W o (State.endRun s n ramp) := by
  delta State.endRun
  repeat' first
    | with_reducible assumption
    | (with_reducible refine State.setIns_framed _ _ (hW.trans (by decide)) ?_)
    | (with_reducible refine State.showConduct_framed _ (hW.trans (by decide)) ?_)
    | (with_reducible refine State.Framed.ite ?_ ?_)
    | (with_reducible refine State.setFld_framed _ _ _ _ (hW.trans (by decide)) ?_)
    | (with_reducible refine State.setBit_framed _ _ _ _ (hW.trans (by decide)) ?_)
    | (with_reducible refine State.gatesOff_framed _ _ (hW.trans (by decide)) ?_)
    | (with_reducible refine State.limitOut_framed _ (hW.trans (by decide)) ?_)
    | (with_reducible refine State.setProt_framed _ _ (hW.trans (by decide)) ?_)
    | (with_reducible refine State.strReady_framed _ _ (hW.trans (by decide)) ?_)
    | (with_reducible refine State.trimReturn_framed _ (hW.trans (by decide)) ?_)

def State.lastInsertion_writes : Nat := regMask [.INS_LAST]
theorem State.lastInsertion_framed {W : Nat} {o s : State} (n : Nat) (hW : SubMask State.lastInsertion_writes W)
    (hs : State.Framed W o s) :
    State.Framed W o (State.lastInsertion s n) := by
  delta State.lastInsertion
  repeat' first
    | with_reducible assumption
    | (with_reducible refine State.setFld_framed _ _ _ _ (hW.trans (by decide)) ?_)

def State.insRecord_writes : Nat := State.ledger_writes
theorem State.insRecord_framed {W : Nat} {o s : State} (n cause st : Nat) (hW : SubMask State.insRecord_writes W)
    (hs : State.Framed W o s) :
    State.Framed W o (State.insRecord s n cause st) := by
  delta State.insRecord
  repeat' first
    | with_reducible assumption
    | (with_reducible refine State.ledger_framed _ _ (hW.trans (by decide)) ?_)

def State.enterRest_writes : Nat := regMask [.INS_FLAGS, .INS_STATE] ||| State.dequeue_writes |||
  State.dropToken_writes ||| State.endRun_writes ||| State.insRecord_writes ||| State.lastInsertion_writes |||
  State.safeRun_writes ||| State.setCstate_writes ||| State.showBus_writes
theorem State.enterRest_framed {W : Nat} {o s : State} (n st cause ramp : Nat) (hW : SubMask State.enterRest_writes W)
    (hs : State.Framed W o s) :
    State.Framed W o (State.enterRest s n st cause ramp) := by
  delta State.enterRest
  repeat' first
    | with_reducible assumption
    | (with_reducible refine State.Framed.ite ?_ ?_)
    | (with_reducible refine State.setFld_framed _ _ _ _ (hW.trans (by decide)) ?_)
    | (with_reducible refine State.flagIf_framed _ _ _ _ (hW.trans (by decide)) ?_)
    | (with_reducible refine State.dequeue_framed _ (hW.trans (by decide)) ?_)
    | (with_reducible refine State.dropToken_framed _ (hW.trans (by decide)) ?_)
    | (with_reducible refine State.endRun_framed _ _ (hW.trans (by decide)) ?_)
    | (with_reducible refine State.insRecord_framed _ _ _ (hW.trans (by decide)) ?_)
    | (with_reducible refine State.lastInsertion_framed _ (hW.trans (by decide)) ?_)
    | (with_reducible refine State.safeRun_framed _ (hW.trans (by decide)) ?_)
    | (with_reducible refine State.setCstate_framed _ _ (hW.trans (by decide)) ?_)
    | (with_reducible refine State.showBus_framed (hW.trans (by decide)) ?_)

def State.enterWait_writes : Nat := regMask [.INS_STATE] ||| partMask [.waitQ] ||| State.dropToken_writes |||
  State.setCstate_writes ||| State.setIns_writes ||| State.showBus_writes
theorem State.enterWait_framed {W : Nat} {o s : State} (n : Nat) (head : Bool) (hW : SubMask State.enterWait_writes W)
    (hs : State.Framed W o s) :
    State.Framed W o (State.enterWait s n head) := by
  delta State.enterWait
  repeat' first
    | with_reducible assumption
    | (with_reducible refine State.setFld_framed _ _ _ _ (hW.trans (by decide)) ?_)
    | (with_reducible refine State.dropToken_framed _ (hW.trans (by decide)) ?_)
    | (with_reducible refine State.setCstate_framed _ _ (hW.trans (by decide)) ?_)
    | (with_reducible refine State.setIns_framed _ _ (hW.trans (by decide)) ?_)
    | (with_reducible refine State.showBus_framed (hW.trans (by decide)) ?_)
    | (fail_if_no_progress with_reducible refine State.Framed.mkOf ?_ rfl rfl rfl rfl rfl rfl rfl)

def State.openingDone_writes : Nat := regMask [.INS_STATE] ||| State.enterRest_writes ||| State.enterWait_writes |||
  State.insRecord_writes ||| State.setIns_writes ||| State.setProt_writes
theorem State.openingDone_framed {W : Nat} {o s : State} (n : Nat) (hW : SubMask State.openingDone_writes W)
    (hs : State.Framed W o s) :
    State.Framed W o (State.openingDone s n) := by
  delta State.openingDone
  repeat' first
    | with_reducible assumption
    | (with_reducible refine State.Framed.ite ?_ ?_)
    | (with_reducible refine State.setFld_framed _ _ _ _ (hW.trans (by decide)) ?_)
    | (with_reducible refine State.enterRest_framed _ _ _ _ (hW.trans (by decide)) ?_)
    | (with_reducible refine State.enterWait_framed _ _ (hW.trans (by decide)) ?_)
    | (with_reducible refine State.insRecord_framed _ _ _ (hW.trans (by decide)) ?_)
    | (with_reducible refine State.setIns_framed _ _ (hW.trans (by decide)) ?_)
    | (with_reducible refine State.setProt_framed _ _ (hW.trans (by decide)) ?_)

def State.beginOpening_writes : Nat := regMask [.INS_FLAGS] ||| State.endRun_writes |||
  State.lastInsertion_writes ||| State.openingDone_writes ||| State.setCstate_writes ||| State.setIns_writes |||
  State.setProt_writes ||| State.showBus_writes
theorem State.beginOpening_framed {W : Nat} {o s : State} (n cause : Nat) (hW : SubMask State.beginOpening_writes W)
    (hs : State.Framed W o s) :
    State.Framed W o (State.beginOpening s n cause) := by
  delta State.beginOpening
  repeat' first
    | with_reducible assumption
    | (with_reducible refine State.Framed.ite ?_ ?_)
    | (with_reducible refine State.flagIf_framed _ _ _ _ (hW.trans (by decide)) ?_)
    | (with_reducible refine State.endRun_framed _ _ (hW.trans (by decide)) ?_)
    | (with_reducible refine State.lastInsertion_framed _ (hW.trans (by decide)) ?_)
    | (with_reducible refine State.openingDone_framed _ (hW.trans (by decide)) ?_)
    | (with_reducible refine State.setCstate_framed _ _ (hW.trans (by decide)) ?_)
    | (with_reducible refine State.setIns_framed _ _ (hW.trans (by decide)) ?_)
    | (with_reducible refine State.setProt_framed _ _ (hW.trans (by decide)) ?_)
    | (with_reducible refine State.showBus_framed (hW.trans (by decide)) ?_)

def State.inrushFirst_writes : Nat := regMask [.INS_FLAGS] ||| State.beginOpening_writes
theorem State.inrushFirst_framed {W : Nat} {o s : State} (n : Nat) (hW : SubMask State.inrushFirst_writes W)
    (hs : State.Framed W o s) :
    State.Framed W o (State.inrushFirst s n) := by
  delta State.inrushFirst
  repeat' first
    | with_reducible assumption
    | (with_reducible refine State.Framed.ite ?_ ?_)
    | (with_reducible refine State.flag_framed _ _ _ (hW.trans (by decide)) ?_)
    | (with_reducible refine State.beginOpening_framed _ _ (hW.trans (by decide)) ?_)

def State.busWatch_writes : Nat := regMask [.INS_FLAGS] ||| State.beginOpening_writes |||
  State.inrushFirst_writes
theorem State.busWatch_framed {W : Nat} {o s : State}  (hW : SubMask State.busWatch_writes W)
    (hs : State.Framed W o s) :
    State.Framed W o (State.busWatch s) := by
  delta State.busWatch
  repeat' first
    | with_reducible assumption
    | (with_reducible refine State.inrushFirst_framed _ (hW.trans (by decide)) ?_)
    | (with_reducible refine State.Framed.ite ?_ ?_)
    | (with_reducible refine State.flag_framed _ _ _ (hW.trans (by decide)) ?_)
    | (with_reducible refine State.beginOpening_framed _ _ (hW.trans (by decide)) ?_)
    | (with_reducible refine State.Framed.foldl _ ?_ (fun t e h => ?_))

def State.busOffWatch_writes : Nat := partMask [.bus]
theorem State.busOffWatch_framed {W : Nat} {o s : State}  (hW : SubMask State.busOffWatch_writes W)
    (hs : State.Framed W o s) :
    State.Framed W o (State.busOffWatch s) := by
  delta State.busOffWatch
  repeat' first
    | with_reducible assumption
    | (with_reducible refine State.Framed.ite ?_ ?_)
    | (fail_if_no_progress with_reducible refine State.Framed.mkOf ?_ rfl rfl rfl rfl rfl rfl rfl)

def State.tripRecord_writes : Nat := regMask [.PROT_LAST] ||| State.ledger_writes ||| State.ledgerState_writes
theorem State.tripRecord_framed {W : Nat} {o s : State} (n code kind sec ns : Nat)
    (hW : SubMask State.tripRecord_writes W) (hs : State.Framed W o s) :
    State.Framed W o (State.tripRecord s n code kind sec ns) := by
  delta State.tripRecord
  repeat' first
    | with_reducible assumption
    | (with_reducible refine State.Framed.ite ?_ ?_)
    | (with_reducible refine State.setReg_framed _ _ _ _ (hW.trans (by decide)) ?_)
    | (with_reducible refine State.ledger_framed _ _ (hW.trans (by decide)) ?_)
    | (with_reducible refine State.ledgerState_framed _ _ _ (hW.trans (by decide)) ?_)

def State.queueTrip_writes : Nat := partMask [.tripQ]
theorem State.queueTrip_framed {W : Nat} {o s : State} (n code sec ns : Nat) (lock : Bool)
    (hW : SubMask State.queueTrip_writes W) (hs : State.Framed W o s) :
    State.Framed W o (State.queueTrip s n code sec ns lock) := by
  delta State.queueTrip
  repeat' first
    | with_reducible assumption
    | (fail_if_no_progress with_reducible refine State.Framed.mkOf ?_ rfl rfl rfl rfl rfl rfl rfl)

def State.openSwitch_writes : Nat := State.safeRun_writes ||| State.setLk_writes ||| State.setProt_writes |||
  State.urgentOpen_writes
theorem State.openSwitch_framed {W : Nat} {o s : State} (n : Nat) (how : OpenBy)
    (hW : SubMask State.openSwitch_writes W) (hs : State.Framed W o s) :
    State.Framed W o (State.openSwitch s n how) := by
  delta State.openSwitch
  repeat' first
    | with_reducible assumption
    | (with_reducible refine State.safeRun_framed _ (hW.trans (by decide)) ?_)
    | (with_reducible refine State.setLk_framed _ _ (hW.trans (by decide)) ?_)
    | (with_reducible refine State.setProt_framed _ _ (hW.trans (by decide)) ?_)
    | (with_reducible refine State.urgentOpen_framed _ (hW.trans (by decide)) ?_)
    | (intro x; refine State.Framed.cut (W := W) (o := o) (x := x) ?_ ?_; (on_goal 1 => unfold x); (on_goal 2 => (intro _; clear_value x)))
    | split

def State.lockout_writes : Nat := regMask [.PROT_FLAGS, .PROT_STATE] ||| partMask [.lockLog] |||
  State.enterRest_writes ||| State.event_writes ||| State.openSwitch_writes ||| State.queueTrip_writes |||
  State.recTrigger_writes ||| State.safeRun_writes ||| State.setProt_writes ||| State.tripRecord_writes
theorem State.lockout_framed {W : Nat} {o s : State} (n code : Nat) (hW : SubMask State.lockout_writes W)
    (hs : State.Framed W o s) :
    State.Framed W o (State.lockout s n code) := by
  delta State.lockout
  repeat' first
    | with_reducible assumption
    | (with_reducible refine State.setFld_framed _ _ _ _ (hW.trans (by decide)) ?_)
    | (with_reducible refine State.setBit_framed _ _ _ _ (hW.trans (by decide)) ?_)
    | (with_reducible refine State.flag_framed _ _ _ (hW.trans (by decide)) ?_)
    | (with_reducible refine State.enterRest_framed _ _ _ _ (hW.trans (by decide)) ?_)
    | (with_reducible refine State.event_framed _ _ _ (hW.trans (by decide)) ?_)
    | (with_reducible refine State.openSwitch_framed _ _ (hW.trans (by decide)) ?_)
    | (with_reducible refine State.queueTrip_framed _ _ _ _ _ (hW.trans (by decide)) ?_)
    | (with_reducible refine State.recTrigger_framed _ _ (hW.trans (by decide)) ?_)
    | (with_reducible refine State.safeRun_framed _ (hW.trans (by decide)) ?_)
    | (with_reducible refine State.setProt_framed _ _ (hW.trans (by decide)) ?_)
    | (with_reducible refine State.tripRecord_framed _ _ _ _ _ (hW.trans (by decide)) ?_)
    | split
    | (fail_if_no_progress with_reducible refine State.Framed.mkOf ?_ rfl rfl rfl rfl rfl rfl rfl)

def State.countTrip_writes : Nat := regMask [.PROT_RETRY_STATE, .PROT_STATE] ||| State.setProt_writes
theorem State.countTrip_framed {W : Nat} {o s : State} (n : Nat) (hW : SubMask State.countTrip_writes W)
    (hs : State.Framed W o s) :
    State.Framed W o (State.countTrip s n) := by
  delta State.countTrip
  repeat' first
    | with_reducible assumption
    | (with_reducible refine State.setFld_framed _ _ _ _ (hW.trans (by decide)) ?_)
    | (with_reducible refine State.setBit_framed _ _ _ _ (hW.trans (by decide)) ?_)
    | (with_reducible refine State.setProt_framed _ _ (hW.trans (by decide)) ?_)

def State.tripBoth_writes : Nat := regMask [.PROT_FLAGS] ||| partMask [.tripQ] ||| State.tripRecord_writes
theorem State.tripBoth_framed {W : Nat} {o s : State} (n code sec ns : Nat) (hW : SubMask State.tripBoth_writes W)
    (hs : State.Framed W o s) :
    State.Framed W o (State.tripBoth s n code sec ns) := by
  delta State.tripBoth
  repeat' first
    | with_reducible assumption
    | (with_reducible refine State.tripRecord_framed _ _ _ _ _ (hW.trans (by decide)) ?_)
    | (with_reducible refine State.flag_framed _ _ _ (hW.trans (by decide)) ?_)
    | (with_reducible refine State.Framed.ite ?_ ?_)
    | (fail_if_no_progress with_reducible refine State.Framed.mkOf ?_ rfl rfl rfl rfl rfl rfl rfl)

def State.tripAt_writes : Nat := regMask [.PROT_FLAGS] ||| State.countTrip_writes ||| State.enterRest_writes |||
  State.event_writes ||| State.lockout_writes ||| State.openSwitch_writes ||| State.queueTrip_writes |||
  State.recTrigger_writes ||| State.setProt_writes ||| State.tripBoth_writes ||| State.tripRecord_writes
theorem State.tripAt_framed {W : Nat} {o s : State} (n code sec ns : Nat) (hW : SubMask State.tripAt_writes W)
    (hs : State.Framed W o s) :
    State.Framed W o (State.tripAt s n code sec ns) := by
  delta State.tripAt
  repeat' first
    | with_reducible assumption
    | (with_reducible refine State.tripBoth_framed _ _ _ _ (hW.trans (by decide)) ?_)
    | (with_reducible refine State.Framed.ite ?_ ?_)
    | (with_reducible refine State.flag_framed _ _ _ (hW.trans (by decide)) ?_)
    | (with_reducible refine State.countTrip_framed _ (hW.trans (by decide)) ?_)
    | (with_reducible refine State.enterRest_framed _ _ _ _ (hW.trans (by decide)) ?_)
    | (with_reducible refine State.event_framed _ _ _ (hW.trans (by decide)) ?_)
    | (with_reducible refine State.lockout_framed _ _ (hW.trans (by decide)) ?_)
    | (with_reducible refine State.openSwitch_framed _ _ (hW.trans (by decide)) ?_)
    | (with_reducible refine State.queueTrip_framed _ _ _ _ _ (hW.trans (by decide)) ?_)
    | (with_reducible refine State.recTrigger_framed _ _ (hW.trans (by decide)) ?_)
    | (with_reducible refine State.setProt_framed _ _ (hW.trans (by decide)) ?_)
    | (with_reducible refine State.tripRecord_framed _ _ _ _ _ (hW.trans (by decide)) ?_)
    | split

def State.tripModule_writes : Nat := State.tripAt_writes
theorem State.tripModule_framed {W : Nat} {o s : State} (n code : Nat) (hW : SubMask State.tripModule_writes W)
    (hs : State.Framed W o s) :
    State.Framed W o (State.tripModule s n code) := by
  delta State.tripModule
  repeat' first
    | with_reducible assumption
    | (with_reducible refine State.Framed.ite ?_ ?_)
    | (with_reducible refine State.tripAt_framed _ _ _ _ (hW.trans (by decide)) ?_)

def State.trip_writes : Nat := State.tripAt_writes
theorem State.trip_framed {W : Nat} {o s : State} (n code : Nat) (hW : SubMask State.trip_writes W)
    (hs : State.Framed W o s) :
    State.Framed W o (State.trip s n code) := by
  delta State.trip
  repeat' first
    | with_reducible assumption
    | (with_reducible refine State.Framed.ite ?_ ?_)
    | (with_reducible refine State.tripAt_framed _ _ _ _ (hW.trans (by decide)) ?_)

def State.clrTrip_writes : Nat := State.setLk_writes
theorem State.clrTrip_framed {W : Nat} {o s : State} (n : Nat) (hW : SubMask State.clrTrip_writes W)
    (hs : State.Framed W o s) :
    State.Framed W o (State.clrTrip s n) := by
  delta State.clrTrip
  repeat' first
    | with_reducible assumption
    | (with_reducible refine State.setLk_framed _ _ (hW.trans (by decide)) ?_)

def State.damage_writes : Nat := regMask [.INS_FLAGS, .INS_STATE, .INS_TJ, .PROT_DAMAGED, .PROT_FLAGS] |||
  partMask [.damageLog] ||| State.derate_writes ||| State.gates_writes ||| State.ledgerState_writes |||
  State.lockout_writes ||| State.setIns_writes ||| State.showConduct_writes
theorem State.damage_framed {W : Nat} {o s : State} (n g : Nat) (hW : SubMask State.damage_writes W)
    (hs : State.Framed W o s) :
    State.Framed W o (State.damage s n g) := by
  delta State.damage
  repeat' first
    | with_reducible assumption
    | (with_reducible refine State.showConduct_framed _ (hW.trans (by decide)) ?_)
    | (with_reducible refine State.Framed.ite ?_ ?_)
    | (with_reducible refine State.setFld_framed _ _ _ _ (hW.trans (by decide)) ?_)
    | (with_reducible refine State.setBit_framed _ _ _ _ (hW.trans (by decide)) ?_)
    | (with_reducible refine State.flagIf_framed _ _ _ _ (hW.trans (by decide)) ?_)
    | (with_reducible refine State.flag_framed _ _ _ (hW.trans (by decide)) ?_)
    | (with_reducible refine State.derate_framed _ (hW.trans (by decide)) ?_)
    | (with_reducible refine State.gates_framed _ _ _ _ _ _ (hW.trans (by decide)) ?_)
    | (with_reducible refine State.ledgerState_framed _ _ _ (hW.trans (by decide)) ?_)
    | (with_reducible refine State.lockout_framed _ _ (hW.trans (by decide)) ?_)
    | (with_reducible refine State.setIns_framed _ _ (hW.trans (by decide)) ?_)
    | (fail_if_no_progress with_reducible refine State.Framed.mkOf ?_ rfl rfl rfl rfl rfl rfl rfl)

def State.linkLoss_writes : Nat := regMask [.MEAS_FLAGS, .PLK_FLAGS, .PLK_STATE, .TRM_FLAGS, .TRM_STATE] |||
  State.enterRest_writes ||| State.safeRun_writes ||| State.setLk_writes ||| State.setTrim_writes |||
  State.shareOut_writes
theorem State.linkLoss_framed {W : Nat} {o s : State} (n : Nat) (hW : SubMask State.linkLoss_writes W)
    (hs : State.Framed W o s) :
    State.Framed W o (State.linkLoss s n) := by
  delta State.linkLoss
  repeat' first
    | with_reducible assumption
    | (with_reducible refine State.shareOut_framed _ (hW.trans (by decide)) ?_)
    | (with_reducible refine State.Framed.ite ?_ ?_)
    | (with_reducible refine State.setFld_framed _ _ _ _ (hW.trans (by decide)) ?_)
    | (with_reducible refine State.flag_framed _ _ _ (hW.trans (by decide)) ?_)
    | (with_reducible refine State.enterRest_framed _ _ _ _ (hW.trans (by decide)) ?_)
    | (with_reducible refine State.safeRun_framed _ (hW.trans (by decide)) ?_)
    | (with_reducible refine State.setLk_framed _ _ (hW.trans (by decide)) ?_)
    | (with_reducible refine State.setTrim_framed _ _ (hW.trans (by decide)) ?_)

end Sys2Proof.Machine
end

