-- ==== Sys2Proof/Laws/FramePackets.lean ====
section
/-! SUPPORT. Frames of Machine/Packets.lean: for each operation, all it can write. -/

namespace Sys2Proof.Machine

set_option Elab.async false
set_option linter.unusedTactic false
set_option linter.unreachableTactic false
set_option exponentiation.threshold 1200

def State.calRange_writes : Nat := regMask [.MEAS_FLAGS]
theorem State.calRange_framed {W : Nat} {o s : State} (n : Nat) (hW : SubMask State.calRange_writes W)
    (hs : State.Framed W o s) :
    State.Framed W o (State.calRange s n) := by
  delta State.calRange
  repeat' first
    | with_reducible assumption
    | (with_reducible refine State.flagIf_framed _ _ _ _ (hW.trans (by decide)) ?_)
    | (with_reducible refine State.Framed.foldl _ ?_ (fun t e h => ?_))
    | split

def State.admitStreams_writes : Nat := regMask [.MEAS_EPOCH, .MEAS_TALLY, .MEAS_ZERO] ||| partMask [.win] |||
  State.calRange_writes ||| State.setStrm_writes
theorem State.admitStreams_framed {W : Nat} {o s : State} (n : Nat) (hW : SubMask State.admitStreams_writes W)
    (hs : State.Framed W o s) :
    State.Framed W o (State.admitStreams s n) := by
  delta State.admitStreams
  repeat' first
    | with_reducible assumption
    | (with_reducible refine State.setReg_framed _ _ _ _ (hW.trans (by decide)) ?_)
    | (with_reducible refine State.setFld_framed _ _ _ _ (hW.trans (by decide)) ?_)
    | (with_reducible refine State.calRange_framed _ (hW.trans (by decide)) ?_)
    | (with_reducible refine State.setStrm_framed _ _ (hW.trans (by decide)) ?_)
    | (with_reducible refine State.Framed.foldl _ ?_ (fun t e h => ?_))

def State.lateSlice_writes : Nat := State.setChain_writes
theorem State.lateSlice_framed {W : Nat} {o s : State} (n : Nat) (q : Rat) (lost tu : Nat) (hW : SubMask State.lateSlice_writes W)
    (hs : State.Framed W o s) :
    State.Framed W o (State.lateSlice s n q lost tu) := by
  delta State.lateSlice
  repeat' first
    | with_reducible assumption
    | (with_reducible refine State.Framed.ite ?_ ?_)
    | (with_reducible refine State.setChain_framed _ _ (hW.trans (by decide)) ?_)
    | (fail_if_no_progress with_reducible refine State.Framed.mkOf ?_ rfl rfl rfl rfl rfl rfl rfl)
    | (intro x; refine State.Framed.cut (W := W) (o := o) (x := x) ?_ ?_; (on_goal 1 => unfold x); (on_goal 2 => (intro _; clear_value x)))
    | intro x

theorem State.setReg64_framed {W : Nat} {o s : State} (r : RegName) (i j v : Nat) (hW : SubMask (regMask [r]) W)
    (hs : State.Framed W o s) : State.Framed W o (s.setReg64 r i j v) :=
  State.setReg_framed _ _ _ _ hW (State.setReg_framed _ _ _ _ hW hs)

def State.addTally_writes : Nat := regMask [.MEAS_TALLY]
theorem State.addTally_framed {W : Nat} {o s : State} (n : Nat) (ps : List Pkt) (hW : SubMask State.addTally_writes W)
    (hs : State.Framed W o s) :
    State.Framed W o (State.addTally s n ps) := by
  delta State.addTally
  repeat' first
    | with_reducible assumption
    | (with_reducible refine State.setReg64_framed _ _ _ _ (hW.trans (by decide)) ?_)

def State.addCharge_writes : Nat := regMask [.MEAS_QCOUNT] ||| State.setStrm_writes
theorem State.addCharge_framed {W : Nat} {o s : State} (n : Nat) (ps : List Pkt)
    (hW : SubMask State.addCharge_writes W) (hs : State.Framed W o s) :
    State.Framed W o (State.addCharge s n ps) := by
  delta State.addCharge
  repeat' first
    | with_reducible assumption
    | (with_reducible refine State.Framed.ite ?_ ?_)
    | (with_reducible refine State.setReg64_framed _ _ _ _ (hW.trans (by decide)) ?_)
    | (with_reducible refine State.setStrm_framed _ _ (hW.trans (by decide)) ?_)

def State.sumPacket_writes : Nat := partMask [.win] ||| State.lateSlice_writes ||| State.setStrm_writes
theorem State.sumPacket_framed {W : Nat} {o s : State} (n : Nat) (t : Rat) (ps : List Pkt) (hW : SubMask State.sumPacket_writes W)
    (hs : State.Framed W o s) :
    State.Framed W o (State.sumPacket s n t ps) := by
  delta State.sumPacket
  repeat' first
    | with_reducible assumption
    | (with_reducible refine State.Framed.ite ?_ ?_)
    | (with_reducible refine State.setStrm_framed _ _ (hW.trans (by decide)) ?_)
    | (with_reducible refine State.lateSlice_framed _ _ _ _ (hW.trans (by decide)) ?_)
    | (fail_if_no_progress with_reducible refine State.Framed.mkOf ?_ rfl rfl rfl rfl rfl rfl rfl)
    | (intro x; refine State.Framed.cut (W := W) (o := o) (x := x) ?_ ?_; (on_goal 1 => unfold x); (on_goal 2 => (intro _; clear_value x)))
    | intro x

def State.takeSums_writes : Nat := State.setProt_writes ||| State.setTrim_writes
theorem State.takeSums_framed {W : Nat} {o s : State} (n : Nat) (ps : List Pkt) (t0 : Rat) (hW : SubMask State.takeSums_writes W)
    (hs : State.Framed W o s) :
    State.Framed W o (State.takeSums s n ps t0) := by
  delta State.takeSums
  repeat' first
    | with_reducible assumption
    | (with_reducible refine State.Framed.ite ?_ ?_)
    | (with_reducible refine State.setProt_framed _ _ (hW.trans (by decide)) ?_)
    | (with_reducible refine State.setTrim_framed _ _ (hW.trans (by decide)) ?_)

def State.tenPackets_writes : Nat := regMask [.MEAS_FLAGS] ||| State.addCharge_writes ||| State.addTally_writes |||
  State.setStrm_writes ||| State.sumPacket_writes ||| State.takeSums_writes
theorem State.tenPackets_framed {W : Nat} {o s : State} (n : Nat) (halves : List Nat) (t0 : Rat)
    (hW : SubMask State.tenPackets_writes W) (hs : State.Framed W o s) :
    State.Framed W o (State.tenPackets s n halves t0) := by
  delta State.tenPackets
  repeat' first
    | with_reducible assumption
    | (with_reducible refine State.sumPacket_framed _ _ _ (hW.trans (by decide)) ?_)
    | (with_reducible refine State.Framed.ite ?_ ?_)
    | (with_reducible refine State.flagIf_framed _ _ _ _ (hW.trans (by decide)) ?_)
    | (with_reducible refine State.addCharge_framed _ _ (hW.trans (by decide)) ?_)
    | (with_reducible refine State.addTally_framed _ _ (hW.trans (by decide)) ?_)
    | (with_reducible refine State.setStrm_framed _ _ (hW.trans (by decide)) ?_)
    | (with_reducible refine State.takeSums_framed _ _ _ (hW.trans (by decide)) ?_)
    | (with_reducible refine State.Framed.foldl _ ?_ (fun t e h => ?_))

def State.losePackets_writes : Nat := regMask [.MEAS_GAPCNT] ||| partMask [.win] ||| State.setStrm_writes |||
  State.setTrim_writes
theorem State.losePackets_framed {W : Nat} {o s : State} (n k : Nat) (t0 : Rat)
    (hW : SubMask State.losePackets_writes W) (hs : State.Framed W o s) :
    State.Framed W o (State.losePackets s n k t0) := by
  delta State.losePackets
  repeat' first
    | with_reducible assumption
    | (with_reducible refine State.setFld_framed _ _ _ _ (hW.trans (by decide)) ?_)
    | (with_reducible refine State.setStrm_framed _ _ (hW.trans (by decide)) ?_)
    | (with_reducible refine State.setTrim_framed _ _ (hW.trans (by decide)) ?_)

def State.bookLost_writes : Nat := State.lateSlice_writes ||| State.losePackets_writes
theorem State.bookLost_framed {W : Nat} {o s : State} (n k : Nat) (t0 : Rat) (hW : SubMask State.bookLost_writes W)
    (hs : State.Framed W o s) :
    State.Framed W o (State.bookLost s n k t0) := by
  delta State.bookLost
  repeat' first
    | with_reducible assumption
    | (with_reducible refine State.Framed.ite ?_ ?_)
    | (with_reducible refine State.losePackets_framed _ _ _ (hW.trans (by decide)) ?_)
    | (with_reducible refine State.lateSlice_framed _ _ _ _ (hW.trans (by decide)) ?_)
    | (intro x; refine State.Framed.cut (W := W) (o := o) (x := x) ?_ ?_; (on_goal 1 => unfold x); (on_goal 2 => (intro _; clear_value x)))
    | intro x

def State.breakFilters_writes : Nat := State.setStrm_writes
theorem State.breakFilters_framed {W : Nat} {o s : State} (n : Nat) (hW : SubMask State.breakFilters_writes W)
    (hs : State.Framed W o s) :
    State.Framed W o (State.breakFilters s n) := by
  delta State.breakFilters
  repeat' first
    | with_reducible assumption
    | (with_reducible refine State.setStrm_framed _ _ (hW.trans (by decide)) ?_)

def State.streamGap_writes : Nat := regMask [.MEAS_FLAGS] ||| State.bookLost_writes |||
  State.breakFilters_writes ||| State.losePackets_writes ||| State.setIns_writes ||| State.setStrm_writes
theorem State.streamGap_framed {W : Nat} {o s : State} (n pkts : Nat) (hW : SubMask State.streamGap_writes W)
    (hs : State.Framed W o s) :
    State.Framed W o (State.streamGap s n pkts) := by
  delta State.streamGap
  repeat' first
    | with_reducible assumption
    | (with_reducible refine State.bookLost_framed _ _ _ (hW.trans (by decide)) ?_)
    | (with_reducible refine State.Framed.ite ?_ ?_)
    | (with_reducible refine State.flag_framed _ _ _ (hW.trans (by decide)) ?_)
    | (with_reducible refine State.breakFilters_framed _ (hW.trans (by decide)) ?_)
    | (with_reducible refine State.losePackets_framed _ _ _ (hW.trans (by decide)) ?_)
    | (with_reducible refine State.setIns_framed _ _ (hW.trans (by decide)) ?_)
    | (with_reducible refine State.setStrm_framed _ _ (hW.trans (by decide)) ?_)

def State.closeGap_writes : Nat := regMask [.TB_FLAGS] ||| State.breakFilters_writes |||
  State.losePackets_writes ||| State.setIns_writes
theorem State.closeGap_framed {W : Nat} {o s : State} (n : Nat) (t0 : Rat) (hW : SubMask State.closeGap_writes W)
    (hs : State.Framed W o s) :
    State.Framed W o (State.closeGap s n t0) := by
  delta State.closeGap
  repeat' first
    | with_reducible assumption
    | (with_reducible refine State.flagIf_framed _ _ _ _ (hW.trans (by decide)) ?_)
    | (with_reducible refine State.Framed.ite ?_ ?_)
    | (with_reducible refine State.breakFilters_framed _ (hW.trans (by decide)) ?_)
    | (with_reducible refine State.losePackets_framed _ _ _ (hW.trans (by decide)) ?_)
    | (with_reducible refine State.setIns_framed _ _ (hW.trans (by decide)) ?_)
    | (intro x; refine State.Framed.cut (W := W) (o := o) (x := x) ?_ ?_; (on_goal 1 => unfold x); (on_goal 2 => (intro _; clear_value x)))
    | split

def State.prevPackets_writes : Nat := State.setStrm_writes ||| State.tenPackets_writes
theorem State.prevPackets_framed {W : Nat} {o s : State} (n : Nat) (halves : List Nat) (t0 : Rat) (hW : SubMask State.prevPackets_writes W)
    (hs : State.Framed W o s) :
    State.Framed W o (State.prevPackets s n halves t0) := by
  delta State.prevPackets
  repeat' first
    | with_reducible assumption
    | (with_reducible refine State.tenPackets_framed _ _ _ (hW.trans (by decide)) ?_)
    | (with_reducible refine State.setStrm_framed _ _ (hW.trans (by decide)) ?_)
    | (intro x; refine State.Framed.cut (W := W) (o := o) (x := x) ?_ ?_; (on_goal 1 => unfold x); (on_goal 2 => (intro _; clear_value x)))
    | intro x

def State.streamFrame_writes : Nat := regMask [.MEAS_FLAGS, .PLK_FLAGS] ||| State.bookLost_writes |||
  State.closeGap_writes ||| State.losePackets_writes ||| State.prevPackets_writes ||| State.setIns_writes |||
  State.setStrm_writes ||| State.setTrim_writes ||| State.tenPackets_writes
theorem State.streamFrame_framed {W : Nat} {o s : State} (n : Nat) (words : List Nat) (lag ofs ntc : Nat)
    (hW : SubMask State.streamFrame_writes W) (hs : State.Framed W o s) :
    State.Framed W o (State.streamFrame s n words lag ofs ntc) := by
  delta State.streamFrame
  repeat' first
    | with_reducible assumption
    | (with_reducible refine State.setIns_framed _ _ (hW.trans (by decide)) ?_)
    | (with_reducible refine State.prevPackets_framed _ _ _ (hW.trans (by decide)) ?_)
    | (with_reducible refine State.bookLost_framed _ _ _ (hW.trans (by decide)) ?_)
    | (with_reducible refine State.Framed.ite ?_ ?_)
    | (with_reducible refine State.flagIf_framed _ _ _ _ (hW.trans (by decide)) ?_)
    | (with_reducible refine State.closeGap_framed _ _ (hW.trans (by decide)) ?_)
    | (with_reducible refine State.losePackets_framed _ _ _ (hW.trans (by decide)) ?_)
    | (with_reducible refine State.setStrm_framed _ _ (hW.trans (by decide)) ?_)
    | (with_reducible refine State.setTrim_framed _ _ (hW.trans (by decide)) ?_)
    | (with_reducible refine State.tenPackets_framed _ _ _ (hW.trans (by decide)) ?_)

def State.showFast_writes : Nat := regMask [.MEAS_FAST]
theorem State.showFast_framed {W : Nat} {o s : State} (n st : Nat) (v : Rat) (rng : Nat) (hold stale sat : Bool) (upd : Nat)
    (hW : SubMask State.showFast_writes W) (hs : State.Framed W o s) :
    State.Framed W o (State.showFast s n st v rng hold stale sat upd) := by
  delta State.showFast
  repeat' first
    | with_reducible assumption
    | (with_reducible refine State.setFld_framed _ _ _ _ (hW.trans (by decide)) ?_)
    | (with_reducible refine State.setSatFld_framed _ _ _ _ (hW.trans (by decide)) ?_)
    | (with_reducible refine State.setBit_framed _ _ _ _ (hW.trans (by decide)) ?_)

def State.fastStream_writes : Nat := regMask [.MEAS_FLAGS] ||| partMask [.span, .win] ||| State.setStrm_writes |||
  State.showFast_writes
theorem State.fastStream_framed {W : Nat} {o s : State} (n skip st : Nat) (hW : SubMask State.fastStream_writes W)
    (hs : State.Framed W o s) :
    State.Framed W o (State.fastStream s n skip st) := by
  delta State.fastStream
  repeat' first
    | with_reducible assumption
    | (with_reducible refine State.Framed.ite ?_ ?_)
    | (with_reducible refine State.flagIf_framed _ _ _ _ (hW.trans (by decide)) ?_)
    | (with_reducible refine State.setStrm_framed _ _ (hW.trans (by decide)) ?_)
    | (with_reducible refine State.showFast_framed _ _ _ _ _ _ _ _ (hW.trans (by decide)) ?_)

def State.fastStale_writes : Nat := regMask [.MEAS_FAST, .MEAS_FLAGS]
theorem State.fastStale_framed {W : Nat} {o s : State} (n : Nat) (hW : SubMask State.fastStale_writes W)
    (hs : State.Framed W o s) :
    State.Framed W o (State.fastStale s n) := by
  delta State.fastStale
  repeat' first
    | with_reducible assumption
    | (with_reducible refine State.Framed.ite ?_ ?_)
    | (with_reducible refine State.setFld_framed _ _ _ _ (hW.trans (by decide)) ?_)
    | (with_reducible refine State.setBit_framed _ _ _ _ (hW.trans (by decide)) ?_)
    | (with_reducible refine State.flagIf_framed _ _ _ _ (hW.trans (by decide)) ?_)
    | (with_reducible refine State.Framed.foldl _ ?_ (fun t e h => ?_))

def State.fastAll_writes : Nat := State.fastStream_writes ||| State.setStrm_writes
theorem State.fastAll_framed {W : Nat} {o s : State} (n skip : Nat) (hW : SubMask State.fastAll_writes W)
    (hs : State.Framed W o s) :
    State.Framed W o (State.fastAll s n skip) := by
  delta State.fastAll
  repeat' first
    | with_reducible assumption
    | (with_reducible refine State.fastStream_framed _ _ _ (hW.trans (by decide)) ?_)
    | (with_reducible refine State.setStrm_framed _ _ (hW.trans (by decide)) ?_)
    | (with_reducible refine State.Framed.foldl _ ?_ (fun t e h => ?_))

def State.fastUpdate_writes : Nat := State.breakFilters_writes ||| State.fastAll_writes |||
  State.fastStale_writes ||| State.setStrm_writes
theorem State.fastUpdate_framed {W : Nat} {o s : State} (n : Nat) (hW : SubMask State.fastUpdate_writes W)
    (hs : State.Framed W o s) :
    State.Framed W o (State.fastUpdate s n).1 := by
  delta State.fastUpdate
  repeat' first
    | with_reducible assumption
    | (with_reducible refine State.breakFilters_framed _ (hW.trans (by decide)) ?_)
    | (with_reducible refine State.fastAll_framed _ _ (hW.trans (by decide)) ?_)
    | (with_reducible refine State.fastStale_framed _ (hW.trans (by decide)) ?_)
    | (with_reducible refine State.setStrm_framed _ _ (hW.trans (by decide)) ?_)
    | (intro x; refine State.Framed.cut (W := W) (o := o) (x := x) ?_ ?_; (on_goal 1 => unfold x); (on_goal 2 => (intro _; clear_value x)))
    | intro x
    | lift_lets
    | split

def State.fastLate_writes : Nat := State.fastAll_writes
theorem State.fastLate_framed {W : Nat} {o s : State} (n : Nat) (hW : SubMask State.fastLate_writes W)
    (hs : State.Framed W o s) :
    State.Framed W o (State.fastLate s n).1 := by
  delta State.fastLate
  repeat' first
    | with_reducible assumption
    | (with_reducible refine State.fastAll_framed _ _ (hW.trans (by decide)) ?_)
    | intro x
    | lift_lets
    | split

end Sys2Proof.Machine
end

