-- ==== Sys2Proof/Laws/FrameGuard.lean ====
section
/-! SUPPORT. Frames of Machine/Guard.lean: for each operation, all it can write. -/

namespace Sys2Proof.Machine

set_option Elab.async false
set_option linter.unusedTactic false
set_option linter.unreachableTactic false
set_option exponentiation.threshold 1200

def State.newRotation_writes : Nat := regMask [.INS_FLAGS, .INS_STATE] ||| State.gates_writes |||
  State.setIns_writes ||| State.showConduct_writes
theorem State.newRotation_framed {W : Nat} {o s : State} (n : Nat) (hW : SubMask State.newRotation_writes W)
    (hs : State.Framed W o s) :
    State.Framed W o (State.newRotation s n) := by
  delta State.newRotation
  repeat' first
    | with_reducible assumption
    | (with_reducible refine State.Framed.ite ?_ ?_)
    | (with_reducible refine State.setBit_framed _ _ _ _ (hW.trans (by decide)) ?_)
    | (with_reducible refine State.flagIf_framed _ _ _ _ (hW.trans (by decide)) ?_)
    | (with_reducible refine State.gates_framed _ _ _ _ _ _ (hW.trans (by decide)) ?_)
    | (with_reducible refine State.setIns_framed _ _ (hW.trans (by decide)) ?_)
    | (with_reducible refine State.showConduct_framed _ (hW.trans (by decide)) ?_)

def State.desatEvent_writes : Nat := State.damage_writes ||| State.newRotation_writes ||| State.setIns_writes |||
  State.tripModule_writes
theorem State.desatEvent_framed {W : Nat} {o s : State} (n mask : Nat) (hW : SubMask State.desatEvent_writes W)
    (hs : State.Framed W o s) :
    State.Framed W o (State.desatEvent s n mask) := by
  delta State.desatEvent
  repeat' first
    | with_reducible assumption
    | (with_reducible refine State.Framed.ite ?_ ?_)
    | (with_reducible refine State.damage_framed _ _ (hW.trans (by decide)) ?_)
    | (with_reducible refine State.newRotation_framed _ (hW.trans (by decide)) ?_)
    | (with_reducible refine State.setIns_framed _ _ (hW.trans (by decide)) ?_)
    | (with_reducible refine State.tripModule_framed _ _ (hW.trans (by decide)) ?_)

def State.takeValues_writes : Nat := regMask [.INS_LIVE] ||| State.setIns_writes ||| State.setProt_writes
theorem State.takeValues_framed {W : Nat} {o s : State} (n : Nat) (hW : SubMask State.takeValues_writes W)
    (hs : State.Framed W o s) :
    State.Framed W o (State.takeValues s n) := by
  delta State.takeValues
  repeat' first
    | with_reducible assumption
    | (with_reducible refine State.setFld_framed _ _ _ _ (hW.trans (by decide)) ?_)
    | (with_reducible refine State.setIns_framed _ _ (hW.trans (by decide)) ?_)
    | (with_reducible refine State.setProt_framed _ _ (hW.trans (by decide)) ?_)

def State.limitEnter_writes : Nat := regMask [.INS_FLAGS, .INS_STATE, .PROT_FLAGS, .PROT_STATE, .TRM_FLAGS, .TRM_STATE] |||
  State.gates_writes ||| State.limitsDue_writes ||| State.setIns_writes ||| State.setProt_writes |||
  State.strReady_writes
theorem State.limitEnter_framed {W : Nat} {o s : State} (n : Nat) (hW : SubMask State.limitEnter_writes W)
    (hs : State.Framed W o s) :
    State.Framed W o (State.limitEnter s n) := by
  delta State.limitEnter
  repeat' first
    | with_reducible assumption
    | (with_reducible refine State.setIns_framed _ _ (hW.trans (by decide)) ?_)
    | (with_reducible refine State.Framed.ite ?_ ?_)
    | (with_reducible refine State.setFld_framed _ _ _ _ (hW.trans (by decide)) ?_)
    | (with_reducible refine State.setBit_framed _ _ _ _ (hW.trans (by decide)) ?_)
    | (with_reducible refine State.flagIf_framed _ _ _ _ (hW.trans (by decide)) ?_)
    | (with_reducible refine State.flag_framed _ _ _ (hW.trans (by decide)) ?_)
    | (with_reducible refine State.gates_framed _ _ _ _ _ _ (hW.trans (by decide)) ?_)
    | (with_reducible refine State.limitsDue_framed _ (hW.trans (by decide)) ?_)
    | (with_reducible refine State.setProt_framed _ _ (hW.trans (by decide)) ?_)
    | (with_reducible refine State.strReady_framed _ _ (hW.trans (by decide)) ?_)

def State.limitWatch_writes : Nat := State.gates_writes ||| State.setProt_writes
theorem State.limitWatch_framed {W : Nat} {o s : State} (n : Nat) (hW : SubMask State.limitWatch_writes W)
    (hs : State.Framed W o s) :
    State.Framed W o (State.limitWatch s n) := by
  delta State.limitWatch
  repeat' first
    | with_reducible assumption
    | (with_reducible refine State.Framed.ite ?_ ?_)
    | (with_reducible refine State.gates_framed _ _ _ _ _ _ (hW.trans (by decide)) ?_)
    | (with_reducible refine State.setProt_framed _ _ (hW.trans (by decide)) ?_)

def State.reverseBlock_writes : Nat := regMask [.PROT_FLAGS, .PROT_STATE] ||| State.gatesOff_writes |||
  State.limitOut_writes ||| State.limitsDue_writes ||| State.setIns_writes ||| State.setProt_writes |||
  State.strReady_writes ||| State.trimReturn_writes ||| State.urgentOpen_writes
theorem State.reverseBlock_framed {W : Nat} {o s : State} (n : Nat) (hW : SubMask State.reverseBlock_writes W)
    (hs : State.Framed W o s) :
    State.Framed W o (State.reverseBlock s n) := by
  delta State.reverseBlock
  repeat' first
    | with_reducible assumption
    | (with_reducible refine State.Framed.ite ?_ ?_)
    | (with_reducible refine State.setBit_framed _ _ _ _ (hW.trans (by decide)) ?_)
    | (with_reducible refine State.flag_framed _ _ _ (hW.trans (by decide)) ?_)
    | (with_reducible refine State.gatesOff_framed _ _ (hW.trans (by decide)) ?_)
    | (with_reducible refine State.limitOut_framed _ (hW.trans (by decide)) ?_)
    | (with_reducible refine State.limitsDue_framed _ (hW.trans (by decide)) ?_)
    | (with_reducible refine State.setIns_framed _ _ (hW.trans (by decide)) ?_)
    | (with_reducible refine State.setProt_framed _ _ (hW.trans (by decide)) ?_)
    | (with_reducible refine State.strReady_framed _ _ (hW.trans (by decide)) ?_)
    | (with_reducible refine State.trimReturn_framed _ (hW.trans (by decide)) ?_)
    | (with_reducible refine State.urgentOpen_framed _ (hW.trans (by decide)) ?_)

def State.fastChecks_writes : Nat := regMask [.INS_FLAGS, .INS_LIVE] ||| State.beginOpening_writes |||
  State.inrushFirst_writes ||| State.limitEnter_writes ||| State.limitWatch_writes ||| State.reverseBlock_writes |||
  State.setAlmCh_writes ||| State.setIns_writes ||| State.takeValues_writes ||| State.trip_writes
theorem State.fastChecks_framed {W : Nat} {o s : State} (n : Nat) (hW : SubMask State.fastChecks_writes W)
    (hs : State.Framed W o s) :
    State.Framed W o (State.fastChecks s n) := by
  delta State.fastChecks
  repeat' first
    | with_reducible assumption
    | (with_reducible refine State.inrushFirst_framed _ (hW.trans (by decide)) ?_)
    | (with_reducible refine State.Framed.ite ?_ ?_)
    | (with_reducible refine State.setFld_framed _ _ _ _ (hW.trans (by decide)) ?_)
    | (with_reducible refine State.flagIf_framed _ _ _ _ (hW.trans (by decide)) ?_)
    | (with_reducible refine State.flag_framed _ _ _ (hW.trans (by decide)) ?_)
    | (with_reducible refine State.beginOpening_framed _ _ (hW.trans (by decide)) ?_)
    | (with_reducible refine State.limitEnter_framed _ (hW.trans (by decide)) ?_)
    | (with_reducible refine State.limitWatch_framed _ (hW.trans (by decide)) ?_)
    | (with_reducible refine State.reverseBlock_framed _ (hW.trans (by decide)) ?_)
    | (with_reducible refine State.setAlmCh_framed _ _ (hW.trans (by decide)) ?_)
    | (with_reducible refine State.setIns_framed _ _ (hW.trans (by decide)) ?_)
    | (with_reducible refine State.takeValues_framed _ (hW.trans (by decide)) ?_)
    | (with_reducible refine State.trip_framed _ _ (hW.trans (by decide)) ?_)
    | (fail_if_no_progress with_reducible refine State.Framed.mkOf ?_ rfl rfl rfl rfl rfl rfl rfl)

def State.lateChecks_writes : Nat := State.fastChecks_writes ||| State.fastLate_writes
theorem State.lateChecks_framed {W : Nat} {o s : State} (n : Nat) (hW : SubMask State.lateChecks_writes W)
    (hs : State.Framed W o s) :
    State.Framed W o (State.lateChecks s n) := by
  delta State.lateChecks
  repeat' first
    | with_reducible assumption
    | (with_reducible refine State.Framed.ite ?_ ?_)
    | (with_reducible refine State.fastChecks_framed _ (hW.trans (by decide)) ?_)
    | (with_reducible refine State.fastLate_framed _ (hW.trans (by decide)) ?_)

def State.freezeEnd_writes : Nat := State.setTrim_writes
theorem State.freezeEnd_framed {W : Nat} {o s : State} (n : Nat) (hW : SubMask State.freezeEnd_writes W)
    (hs : State.Framed W o s) :
    State.Framed W o (State.freezeEnd s n) := by
  delta State.freezeEnd
  repeat' first
    | with_reducible assumption
    | (with_reducible refine State.Framed.ite ?_ ?_)
    | (with_reducible refine State.setTrim_framed _ _ (hW.trans (by decide)) ?_)

def State.vsetTarget_writes : Nat := State.setTrim_writes
theorem State.vsetTarget_framed {W : Nat} {o s : State} (n : Nat) (hW : SubMask State.vsetTarget_writes W)
    (hs : State.Framed W o s) :
    State.Framed W o (State.vsetTarget s n) := by
  delta State.vsetTarget
  repeat' first
    | with_reducible assumption
    | (with_reducible refine State.Framed.ite ?_ ?_)
    | (with_reducible refine State.setTrim_framed _ _ (hW.trans (by decide)) ?_)
    | (intro x; refine State.Framed.cut (W := W) (o := o) (x := x) ?_ ?_; (on_goal 1 => unfold x); (on_goal 2 => (intro _; clear_value x)))
    | intro x

def State.enterVolt_writes : Nat := regMask [.TRM_STATE, .TRM_VSET] ||| State.setTrim_writes |||
  State.shareOut_writes ||| State.vsetTarget_writes
theorem State.enterVolt_framed {W : Nat} {o s : State} (n : Nat) (hW : SubMask State.enterVolt_writes W)
    (hs : State.Framed W o s) :
    State.Framed W o (State.enterVolt s n) := by
  delta State.enterVolt
  repeat' first
    | with_reducible assumption
    | (with_reducible refine State.vsetTarget_framed _ (hW.trans (by decide)) ?_)
    | (with_reducible refine State.shareOut_framed _ (hW.trans (by decide)) ?_)
    | (with_reducible refine State.setFld_framed _ _ _ _ (hW.trans (by decide)) ?_)
    | (with_reducible refine State.setSFld_framed _ _ _ _ (hW.trans (by decide)) ?_)
    | (with_reducible refine State.setTrim_framed _ _ (hW.trans (by decide)) ?_)

def State.shareStart_writes : Nat := State.enterVolt_writes ||| State.setTrim_writes
theorem State.shareStart_framed {W : Nat} {o s : State} (n : Nat) (hW : SubMask State.shareStart_writes W)
    (hs : State.Framed W o s) :
    State.Framed W o (State.shareStart s n) := by
  delta State.shareStart
  repeat' first
    | with_reducible assumption
    | (with_reducible refine State.Framed.ite ?_ ?_)
    | (with_reducible refine State.enterVolt_framed _ (hW.trans (by decide)) ?_)
    | (with_reducible refine State.setTrim_framed _ _ (hW.trans (by decide)) ?_)

def State.enterEnhance_writes : Nat := regMask [.INS_LIVE, .INS_STATE] ||| State.gates_writes |||
  State.setCstate_writes ||| State.setIns_writes ||| State.showBus_writes ||| State.showConduct_writes
theorem State.enterEnhance_framed {W : Nat} {o s : State} (n : Nat) (hW : SubMask State.enterEnhance_writes W)
    (hs : State.Framed W o s) :
    State.Framed W o (State.enterEnhance s n) := by
  delta State.enterEnhance
  repeat' first
    | with_reducible assumption
    | (with_reducible refine State.setFld_framed _ _ _ _ (hW.trans (by decide)) ?_)
    | (with_reducible refine State.setBit_framed _ _ _ _ (hW.trans (by decide)) ?_)
    | (with_reducible refine State.gates_framed _ _ _ _ _ _ (hW.trans (by decide)) ?_)
    | (with_reducible refine State.setCstate_framed _ _ (hW.trans (by decide)) ?_)
    | (with_reducible refine State.setIns_framed _ _ (hW.trans (by decide)) ?_)
    | (with_reducible refine State.showBus_framed (hW.trans (by decide)) ?_)
    | (with_reducible refine State.showConduct_framed _ (hW.trans (by decide)) ?_)

def State.hrZeroReq_writes : Nat := regMask [.HR_FLAGS] ||| State.event_writes ||| State.zeroRequest_writes
theorem State.hrZeroReq_framed {W : Nat} {o s : State} (n : Nat) (hW : SubMask State.hrZeroReq_writes W)
    (hs : State.Framed W o s) :
    State.Framed W o (State.hrZeroReq s n) := by
  delta State.hrZeroReq
  repeat' first
    | with_reducible assumption
    | (with_reducible refine State.flag_framed _ _ _ (hW.trans (by decide)) ?_)
    | (with_reducible refine State.zeroRequest_framed _ (hW.trans (by decide)) ?_)
    | (with_reducible refine State.event_framed _ _ _ (hW.trans (by decide)) ?_)

def State.leadFix_writes : Nat := State.gates_writes ||| State.setIns_writes ||| State.showConduct_writes
theorem State.leadFix_framed {W : Nat} {o s : State} (n : Nat) (hW : SubMask State.leadFix_writes W)
    (hs : State.Framed W o s) :
    State.Framed W o (State.leadFix s n) := by
  delta State.leadFix
  repeat' first
    | with_reducible assumption
    | (with_reducible refine State.Framed.ite ?_ ?_)
    | (with_reducible refine State.gates_framed _ _ _ _ _ _ (hW.trans (by decide)) ?_)
    | (with_reducible refine State.setIns_framed _ _ (hW.trans (by decide)) ?_)
    | (with_reducible refine State.showConduct_framed _ (hW.trans (by decide)) ?_)
    | split

def State.srWithheld_writes : Nat := regMask [.PROT_STATE, .SSI_FLAGS] ||| State.safeRun_writes
theorem State.srWithheld_framed {W : Nat} {o s : State} (n : Nat) (ok : Bool) (hW : SubMask State.srWithheld_writes W)
    (hs : State.Framed W o s) :
    State.Framed W o (State.srWithheld s n ok) := by
  delta State.srWithheld
  repeat' first
    | with_reducible assumption
    | (with_reducible refine State.setBit_framed _ _ _ _ (hW.trans (by decide)) ?_)
    | (with_reducible refine State.flag_framed _ _ _ (hW.trans (by decide)) ?_)
    | (with_reducible refine State.safeRun_framed _ (hW.trans (by decide)) ?_)
    | (intro x; refine State.Framed.cut (W := W) (o := o) (x := x) ?_ ?_; (on_goal 1 => unfold x); (on_goal 2 => (intro _; clear_value x)))
    | split

end Sys2Proof.Machine
end

