-- ==== Sys2Proof/Laws/FrameInsertion.lean ====
section
/-! SUPPORT. Frames of Machine/Insertion.lean: for each operation, all it can write. -/

namespace Sys2Proof.Machine

set_option Elab.async false
set_option linter.unusedTactic false
set_option linter.unreachableTactic false
set_option exponentiation.threshold 1200

def State.acceptInsert_writes : Nat := State.enterWait_writes ||| State.injInsert_writes ||| State.setIns_writes
theorem State.acceptInsert_framed {W : Nat} {o s : State} (n value : Nat) (hW : SubMask State.acceptInsert_writes W)
    (hs : State.Framed W o s) :
    State.Framed W o (State.acceptInsert s n value) := by
  delta State.acceptInsert
  repeat' first
    | with_reducible assumption
    | (with_reducible refine State.enterWait_framed _ _ (hW.trans (by decide)) ?_)
    | (with_reducible refine State.injInsert_framed _ (hW.trans (by decide)) ?_)
    | (with_reducible refine State.setIns_framed _ _ (hW.trans (by decide)) ?_)

def State.openCommand_writes : Nat := regMask [.INS_FLAGS] ||| State.beginOpening_writes |||
  State.clrTrip_writes ||| State.enterRest_writes
theorem State.openCommand_framed {W : Nat} {o s : State} (n : Nat) (hW : SubMask State.openCommand_writes W)
    (hs : State.Framed W o s) :
    State.Framed W o (State.openCommand s n) := by
  delta State.openCommand
  repeat' first
    | with_reducible assumption
    | (with_reducible refine State.Framed.ite ?_ ?_)
    | (with_reducible refine State.flagIf_framed _ _ _ _ (hW.trans (by decide)) ?_)
    | (with_reducible refine State.beginOpening_framed _ _ (hW.trans (by decide)) ?_)
    | (with_reducible refine State.clrTrip_framed _ (hW.trans (by decide)) ?_)
    | (with_reducible refine State.enterRest_framed _ _ _ _ (hW.trans (by decide)) ?_)

def State.takePlan_writes : Nat := State.setIns_writes
theorem State.takePlan_framed {W : Nat} {o s : State} (n : Nat) (hW : SubMask State.takePlan_writes W)
    (hs : State.Framed W o s) :
    State.Framed W o (State.takePlan s n) := by
  delta State.takePlan
  repeat' first
    | with_reducible assumption
    | (with_reducible refine State.setIns_framed _ _ (hW.trans (by decide)) ?_)

def State.enterCheck_writes : Nat := regMask [.INS_STATE] ||| partMask [.token] ||| State.dequeue_writes |||
  State.setCstate_writes ||| State.setIns_writes ||| State.showBus_writes ||| State.takePlan_writes
theorem State.enterCheck_framed {W : Nat} {o s : State} (n : Nat) (hW : SubMask State.enterCheck_writes W)
    (hs : State.Framed W o s) :
    State.Framed W o (State.enterCheck s n) := by
  delta State.enterCheck
  repeat' first
    | with_reducible assumption
    | (with_reducible refine State.setBit_framed _ _ _ _ (hW.trans (by decide)) ?_)
    | (with_reducible refine State.dequeue_framed _ (hW.trans (by decide)) ?_)
    | (with_reducible refine State.setCstate_framed _ _ (hW.trans (by decide)) ?_)
    | (with_reducible refine State.setIns_framed _ _ (hW.trans (by decide)) ?_)
    | (with_reducible refine State.showBus_framed (hW.trans (by decide)) ?_)
    | (with_reducible refine State.takePlan_framed _ (hW.trans (by decide)) ?_)
    | (fail_if_no_progress with_reducible refine State.Framed.mkOf ?_ rfl rfl rfl rfl rfl rfl rfl)

def State.enterSense_writes : Nat := State.setCstate_writes ||| State.setIns_writes ||| State.showBus_writes
theorem State.enterSense_framed {W : Nat} {o s : State} (n : Nat) (hW : SubMask State.enterSense_writes W)
    (hs : State.Framed W o s) :
    State.Framed W o (State.enterSense s n) := by
  delta State.enterSense
  repeat' first
    | with_reducible assumption
    | (with_reducible refine State.setCstate_framed _ _ (hW.trans (by decide)) ?_)
    | (with_reducible refine State.setIns_framed _ _ (hW.trans (by decide)) ?_)
    | (with_reducible refine State.showBus_framed (hW.trans (by decide)) ?_)

def State.alignTarget_writes : Nat := State.setTrim_writes
theorem State.alignTarget_framed {W : Nat} {o s : State} (n : Nat) (v : Rat) (hW : SubMask State.alignTarget_writes W)
    (hs : State.Framed W o s) :
    State.Framed W o (State.alignTarget s n v) := by
  delta State.alignTarget
  repeat' first
    | with_reducible assumption
    | (with_reducible refine State.setTrim_framed _ _ (hW.trans (by decide)) ?_)

def State.enterRamp_writes : Nat := regMask [.INS_STATE, .TRM_STATE] ||| State.gates_writes |||
  State.setCstate_writes ||| State.setIns_writes ||| State.showBus_writes ||| State.showConduct_writes
theorem State.enterRamp_framed {W : Nat} {o s : State} (n path : Nat) (hW : SubMask State.enterRamp_writes W)
    (hs : State.Framed W o s) :
    State.Framed W o (State.enterRamp s n path) := by
  delta State.enterRamp
  repeat' first
    | with_reducible assumption
    | (with_reducible refine State.Framed.ite ?_ ?_)
    | (with_reducible refine State.setFld_framed _ _ _ _ (hW.trans (by decide)) ?_)
    | (with_reducible refine State.gates_framed _ _ _ _ _ _ (hW.trans (by decide)) ?_)
    | (with_reducible refine State.setCstate_framed _ _ (hW.trans (by decide)) ?_)
    | (with_reducible refine State.setIns_framed _ _ (hW.trans (by decide)) ?_)
    | (with_reducible refine State.showBus_framed (hW.trans (by decide)) ?_)
    | (with_reducible refine State.showConduct_framed _ (hW.trans (by decide)) ?_)

def State.enterAlign_writes : Nat := regMask [.INS_STATE, .TRM_STATE] ||| State.alignTarget_writes |||
  State.setCstate_writes ||| State.setIns_writes ||| State.showBus_writes
theorem State.enterAlign_framed {W : Nat} {o s : State} (n : Nat) (hW : SubMask State.enterAlign_writes W)
    (hs : State.Framed W o s) :
    State.Framed W o (State.enterAlign s n) := by
  delta State.enterAlign
  repeat' first
    | with_reducible assumption
    | (with_reducible refine State.Framed.ite ?_ ?_)
    | (with_reducible refine State.setFld_framed _ _ _ _ (hW.trans (by decide)) ?_)
    | (with_reducible refine State.alignTarget_framed _ _ (hW.trans (by decide)) ?_)
    | (with_reducible refine State.setCstate_framed _ _ (hW.trans (by decide)) ?_)
    | (with_reducible refine State.setIns_framed _ _ (hW.trans (by decide)) ?_)
    | (with_reducible refine State.showBus_framed (hW.trans (by decide)) ?_)

def State.enterLimit_writes : Nat := regMask [.INS_STATE] ||| State.newRotation_writes |||
  State.setCstate_writes ||| State.setIns_writes ||| State.showBus_writes
theorem State.enterLimit_framed {W : Nat} {o s : State} (n : Nat) (hW : SubMask State.enterLimit_writes W)
    (hs : State.Framed W o s) :
    State.Framed W o (State.enterLimit s n) := by
  delta State.enterLimit
  repeat' first
    | with_reducible assumption
    | (with_reducible refine State.setFld_framed _ _ _ _ (hW.trans (by decide)) ?_)
    | (with_reducible refine State.newRotation_framed _ (hW.trans (by decide)) ?_)
    | (with_reducible refine State.setCstate_framed _ _ (hW.trans (by decide)) ?_)
    | (with_reducible refine State.setIns_framed _ _ (hW.trans (by decide)) ?_)
    | (with_reducible refine State.showBus_framed (hW.trans (by decide)) ?_)

def State.choosePath_writes : Nat := regMask [.INS_FLAGS] ||| State.enterAlign_writes |||
  State.enterLimit_writes ||| State.enterRamp_writes ||| State.enterRest_writes ||| State.event_writes
theorem State.choosePath_framed {W : Nat} {o s : State} (n : Nat) (v : Rat) (held : Bool)
    (hW : SubMask State.choosePath_writes W) (hs : State.Framed W o s) :
    State.Framed W o (State.choosePath s n v held) := by
  delta State.choosePath
  repeat' first
    | with_reducible assumption
    | (with_reducible refine State.Framed.ite ?_ ?_)
    | (with_reducible refine State.flag_framed _ _ _ (hW.trans (by decide)) ?_)
    | (with_reducible refine State.enterAlign_framed _ (hW.trans (by decide)) ?_)
    | (with_reducible refine State.enterLimit_framed _ (hW.trans (by decide)) ?_)
    | (with_reducible refine State.enterRamp_framed _ _ (hW.trans (by decide)) ?_)
    | (with_reducible refine State.enterRest_framed _ _ _ _ (hW.trans (by decide)) ?_)
    | (with_reducible refine State.event_framed _ _ _ (hW.trans (by decide)) ?_)

def State.senseDone_writes : Nat := regMask [.INS_VDIFF] ||| State.choosePath_writes ||| State.setIns_writes
theorem State.senseDone_framed {W : Nat} {o s : State} (n : Nat) (hW : SubMask State.senseDone_writes W)
    (hs : State.Framed W o s) :
    State.Framed W o (State.senseDone s n) := by
  delta State.senseDone
  repeat' first
    | with_reducible assumption
    | (with_reducible refine State.setSatFld_framed _ _ _ _ (hW.trans (by decide)) ?_)
    | (with_reducible refine State.choosePath_framed _ _ _ (hW.trans (by decide)) ?_)
    | (with_reducible refine State.setIns_framed _ _ (hW.trans (by decide)) ?_)

def State.reclose_writes : Nat := State.gates_writes ||| State.setIns_writes ||| State.setProt_writes
theorem State.reclose_framed {W : Nat} {o s : State} (n : Nat) (hW : SubMask State.reclose_writes W)
    (hs : State.Framed W o s) :
    State.Framed W o (State.reclose s n) := by
  delta State.reclose
  repeat' first
    | with_reducible assumption
    | (with_reducible refine State.gates_framed _ _ _ _ _ _ (hW.trans (by decide)) ?_)
    | (with_reducible refine State.setIns_framed _ _ (hW.trans (by decide)) ?_)
    | (with_reducible refine State.setProt_framed _ _ (hW.trans (by decide)) ?_)

def State.blockStep_writes : Nat := State.reclose_writes ||| State.setIns_writes ||| State.trip_writes
theorem State.blockStep_framed {W : Nat} {o s : State} (n : Nat) (v : Rat) (hW : SubMask State.blockStep_writes W)
    (hs : State.Framed W o s) :
    State.Framed W o (State.blockStep s n v) := by
  delta State.blockStep
  repeat' first
    | with_reducible assumption
    | (with_reducible refine State.Framed.ite ?_ ?_)
    | (with_reducible refine State.reclose_framed _ (hW.trans (by decide)) ?_)
    | (with_reducible refine State.setIns_framed _ _ (hW.trans (by decide)) ?_)
    | (with_reducible refine State.trip_framed _ _ (hW.trans (by decide)) ?_)

def State.vsw10Step_writes : Nat := State.blockStep_writes ||| State.enterEnhance_writes |||
  State.enterRamp_writes ||| State.setIns_writes
theorem State.vsw10Step_framed {W : Nat} {o s : State} (n : Nat) (v : Rat) (hW : SubMask State.vsw10Step_writes W)
    (hs : State.Framed W o s) :
    State.Framed W o (State.vsw10Step s n v) := by
  delta State.vsw10Step
  repeat' first
    | with_reducible assumption
    | (with_reducible refine State.Framed.ite ?_ ?_)
    | (with_reducible refine State.blockStep_framed _ _ (hW.trans (by decide)) ?_)
    | (with_reducible refine State.enterEnhance_framed _ (hW.trans (by decide)) ?_)
    | (with_reducible refine State.enterRamp_framed _ _ (hW.trans (by decide)) ?_)
    | (with_reducible refine State.setIns_framed _ _ (hW.trans (by decide)) ?_)

def State.enterReady_writes : Nat := regMask [.INS_FLAGS] ||| State.dropToken_writes ||| State.hrZeroReq_writes |||
  State.insRecord_writes ||| State.lastInsertion_writes ||| State.setCstate_writes ||| State.setProt_writes |||
  State.shareStart_writes ||| State.showBus_writes ||| State.strReady_writes ||| State.zeroRequest_writes
theorem State.enterReady_framed {W : Nat} {o s : State} (n : Nat) (hW : SubMask State.enterReady_writes W)
    (hs : State.Framed W o s) :
    State.Framed W o (State.enterReady s n) := by
  delta State.enterReady
  repeat' first
    | with_reducible assumption
    | (with_reducible refine State.hrZeroReq_framed _ (hW.trans (by decide)) ?_)
    | (with_reducible refine State.Framed.ite ?_ ?_)
    | (with_reducible refine State.zeroRequest_framed _ (hW.trans (by decide)) ?_)
    | (with_reducible refine State.flag_framed _ _ _ (hW.trans (by decide)) ?_)
    | (with_reducible refine State.dropToken_framed _ (hW.trans (by decide)) ?_)
    | (with_reducible refine State.insRecord_framed _ _ _ (hW.trans (by decide)) ?_)
    | (with_reducible refine State.lastInsertion_framed _ (hW.trans (by decide)) ?_)
    | (with_reducible refine State.setCstate_framed _ _ (hW.trans (by decide)) ?_)
    | (with_reducible refine State.setProt_framed _ _ (hW.trans (by decide)) ?_)
    | (with_reducible refine State.shareStart_framed _ (hW.trans (by decide)) ?_)
    | (with_reducible refine State.showBus_framed (hW.trans (by decide)) ?_)
    | (with_reducible refine State.strReady_framed _ _ (hW.trans (by decide)) ?_)

def State.showTj_writes : Nat := regMask [.INS_TJ]
theorem State.showTj_framed {W : Nat} {o s : State} (n : Nat) (hW : SubMask State.showTj_writes W)
    (hs : State.Framed W o s) :
    State.Framed W o (State.showTj s n) := by
  delta State.showTj
  repeat' first
    | with_reducible assumption
    | (with_reducible refine State.Framed.ite ?_ ?_)
    | (with_reducible refine State.setReg_framed _ _ _ _ (hW.trans (by decide)) ?_)
    | (with_reducible refine State.setSatFld_framed _ _ _ _ (hW.trans (by decide)) ?_)
    | (with_reducible refine State.setBit_framed _ _ _ _ (hW.trans (by decide)) ?_)
    | (with_reducible refine State.Framed.foldl _ ?_ (fun t e h => ?_))

def State.pauseLimit_writes : Nat := regMask [.INS_FLAGS, .INS_STATE] ||| State.gates_writes |||
  State.setIns_writes ||| State.showConduct_writes
theorem State.pauseLimit_framed {W : Nat} {o s : State} (n : Nat) (hW : SubMask State.pauseLimit_writes W)
    (hs : State.Framed W o s) :
    State.Framed W o (State.pauseLimit s n) := by
  delta State.pauseLimit
  repeat' first
    | with_reducible assumption
    | (with_reducible refine State.Framed.ite ?_ ?_)
    | (with_reducible refine State.setBit_framed _ _ _ _ (hW.trans (by decide)) ?_)
    | (with_reducible refine State.flag_framed _ _ _ (hW.trans (by decide)) ?_)
    | (with_reducible refine State.gates_framed _ _ _ _ _ _ (hW.trans (by decide)) ?_)
    | (with_reducible refine State.setIns_framed _ _ (hW.trans (by decide)) ?_)
    | (with_reducible refine State.showConduct_framed _ (hW.trans (by decide)) ?_)

def State.thermalActs_writes : Nat := State.newRotation_writes ||| State.pauseLimit_writes ||| State.trip_writes
theorem State.thermalActs_framed {W : Nat} {o s : State} (n : Nat) (hW : SubMask State.thermalActs_writes W)
    (hs : State.Framed W o s) :
    State.Framed W o (State.thermalActs s n) := by
  delta State.thermalActs
  repeat' first
    | with_reducible assumption
    | (with_reducible refine State.Framed.ite ?_ ?_)
    | (with_reducible refine State.newRotation_framed _ (hW.trans (by decide)) ?_)
    | (with_reducible refine State.pauseLimit_framed _ (hW.trans (by decide)) ?_)
    | (with_reducible refine State.trip_framed _ _ (hW.trans (by decide)) ?_)

end Sys2Proof.Machine
end

