-- ==== Sys2Proof/Laws/FrameTally.lean ====
section
/-! SUPPORT. Frames of Machine/Tally.lean: for each operation, all it can write. -/

namespace Sys2Proof.Machine

set_option Elab.async false
set_option linter.unusedTactic false
set_option linter.unreachableTactic false
set_option exponentiation.threshold 1200

def State.queueTrig_writes : Nat := regMask [.MEAS_SRC_FLAGS] ||| partMask [.trigs]
theorem State.queueTrig_framed {W : Nat} {o s : State} (target dly at_ : Nat) (hW : SubMask State.queueTrig_writes W)
    (hs : State.Framed W o s) :
    State.Framed W o (State.queueTrig s target dly at_) := by
  delta State.queueTrig
  repeat' first
    | with_reducible assumption
    | (with_reducible refine State.Framed.ite ?_ ?_)
    | (with_reducible refine State.flag_framed _ _ _ (hW.trans (by decide)) ?_)
    | (fail_if_no_progress with_reducible refine State.Framed.mkOf ?_ rfl rfl rfl rfl rfl rfl rfl)

def State.trigEventAt_writes : Nat := State.queueTrig_writes
theorem State.trigEventAt_framed {W : Nat} {o s : State} (code at_ : Nat) (hW : SubMask State.trigEventAt_writes W)
    (hs : State.Framed W o s) :
    State.Framed W o (State.trigEventAt s code at_) := by
  delta State.trigEventAt
  repeat' first
    | with_reducible assumption
    | (with_reducible refine State.Framed.ite ?_ ?_)
    | (with_reducible refine State.Framed.foldl _ ?_ (fun t e h => ?_))
    | (with_reducible refine State.queueTrig_framed _ _ _ (hW.trans (by decide)) ?_)
    | (intro x; refine State.Framed.cut (W := W) (o := o) (x := x) ?_ ?_; (on_goal 1 => unfold x); (on_goal 2 => (intro _; clear_value x)))
    | intro x

def State.trigEvent_writes : Nat := State.queueTrig_writes ||| State.trigEventAt_writes
theorem State.trigEvent_framed {W : Nat} {o s : State} (code : Nat) (hW : SubMask State.trigEvent_writes W)
    (hs : State.Framed W o s) :
    State.Framed W o (State.trigEvent s code) := by
  delta State.trigEvent
  repeat' first
    | with_reducible assumption
    | (with_reducible refine State.trigEventAt_framed _ _ (hW.trans (by decide)) ?_)
    | (with_reducible refine State.Framed.ite ?_ ?_)
    | (with_reducible refine State.queueTrig_framed _ _ _ (hW.trans (by decide)) ?_)
    | (with_reducible refine State.Framed.foldl _ ?_ (fun t e h => ?_))

def State.setTal_writes : Nat := partMask [.tals]
theorem State.setTal_framed {W : Nat} {o s : State} (t : Nat) (x : Tally) (hW : SubMask State.setTal_writes W)
    (hs : State.Framed W o s) :
    State.Framed W o (State.setTal s t x) := by
  delta State.setTal
  repeat' first
    | with_reducible assumption
    | (fail_if_no_progress with_reducible refine State.Framed.mkOf ?_ rfl rfl rfl rfl rfl rfl rfl)

def State.showTal_writes : Nat := regMask [.TAL_COUNT, .TAL_STATUS]
theorem State.showTal_framed {W : Nat} {o s : State} (t : Nat) (hW : SubMask State.showTal_writes W)
    (hs : State.Framed W o s) :
    State.Framed W o (State.showTal s t) := by
  delta State.showTal
  repeat' first
    | with_reducible assumption
    | (with_reducible refine State.setReg_framed _ _ _ _ (hW.trans (by decide)) ?_)
    | (with_reducible refine State.setBit_framed _ _ _ _ (hW.trans (by decide)) ?_)

def State.talAct_writes : Nat := regMask [.TAL_STATUS]
theorem State.talAct_framed {W : Nat} {o s : State} (t : Nat) (acts : List Nat) (hW : SubMask State.talAct_writes W)
    (hs : State.Framed W o s) :
    State.Framed W o (State.talAct s t acts) := by
  delta State.talAct
  repeat' first
    | with_reducible assumption
    | (with_reducible refine State.setBit_framed _ _ _ _ (hW.trans (by decide)) ?_)

def State.syncEvent_writes : Nat := State.setTal_writes
theorem State.syncEvent_framed {W : Nat} {o s : State} (code : Nat) (hW : SubMask State.syncEvent_writes W)
    (hs : State.Framed W o s) :
    State.Framed W o (State.syncEvent s code) := by
  delta State.syncEvent
  repeat' first
    | with_reducible assumption
    | (with_reducible refine State.Framed.ite ?_ ?_)
    | (with_reducible refine State.setTal_framed _ _ (hW.trans (by decide)) ?_)
    | (with_reducible refine State.Framed.foldl _ ?_ (fun t e h => ?_))

def State.talTrig_writes : Nat := State.trigEvent_writes
theorem State.talTrig_framed {W : Nat} {o s : State} (t what : Nat) (hW : SubMask State.talTrig_writes W)
    (hs : State.Framed W o s) :
    State.Framed W o (State.talTrig s t what) := by
  delta State.talTrig
  repeat' first
    | with_reducible assumption
    | (with_reducible refine State.Framed.ite ?_ ?_)
    | (with_reducible refine State.trigEvent_framed _ (hW.trans (by decide)) ?_)

def State.talScan_writes : Nat := State.setTal_writes
theorem State.talScan_framed {W : Nat} {o s : State} (t k : Nat) (hW : SubMask State.talScan_writes W)
    (hs : State.Framed W o s) : State.Framed W o (s.talScan t k).1 := by
  delta State.talScan
  beta_reduce
  refine State.Framed.foldlFst _ _ hs (fun acc e ha => ?_)
  dsimp only
  split
  · split
    · exact State.setTal_framed _ _ (hW.trans (by decide)) ha
    · exact ha
  · exact State.setTal_framed _ _ (hW.trans (by decide)) ha

def State.talEval_writes : Nat := State.talScan_writes ||| State.talTrig_writes ||| State.talAct_writes |||
  State.showTal_writes
theorem State.talEval_framed {W : Nat} {o s : State} (t : Nat) (acts : List Nat) (hW : SubMask State.talEval_writes W)
    (hs : State.Framed W o s) : State.Framed W o (s.talEval t acts) := by
  unfold State.talEval
  refine State.showTal_framed _ (hW.trans (by decide)) (State.talAct_framed _ _ (hW.trans (by decide)) ?_)
  refine State.Framed.foldlFst _ _ hs (fun acc k ha => ?_)
  have hq : State.Framed W o (acc.1.talScan t k).1 := State.talScan_framed _ _ (hW.trans (by decide)) ha
  dsimp only
  split
  · exact State.talTrig_framed _ _ (hW.trans (by decide)) hq
  · exact hq

def State.talArmRestart_writes : Nat := State.setTal_writes
theorem State.talArmRestart_framed {W : Nat} {o s : State} (t : Nat) (hW : SubMask State.talArmRestart_writes W)
    (hs : State.Framed W o s) :
    State.Framed W o (State.talArmRestart s t) := by
  delta State.talArmRestart
  repeat' first
    | with_reducible assumption
    | (with_reducible refine State.Framed.ite ?_ ?_)
    | (with_reducible refine State.setTal_framed _ _ (hW.trans (by decide)) ?_)
    | (with_reducible refine State.Framed.foldl _ ?_ (fun t e h => ?_))

def State.takeReload_writes : Nat := regMask [.TAL_STATUS] ||| State.setTal_writes
theorem State.takeReload_framed {W : Nat} {o s : State} (t : Nat) (hW : SubMask State.takeReload_writes W)
    (hs : State.Framed W o s) :
    State.Framed W o (State.takeReload s t).1 := by
  delta State.takeReload
  repeat' first
    | with_reducible assumption
    | (with_reducible refine State.setBit_framed _ _ _ _ (hW.trans (by decide)) ?_)
    | (with_reducible refine State.setTal_framed _ _ (hW.trans (by decide)) ?_)
    | split

def State.talZero_writes : Nat := State.setTal_writes ||| State.takeReload_writes ||| State.talArmRestart_writes |||
  State.talEval_writes ||| State.talTrig_writes
theorem State.talZero_framed {W : Nat} {o s : State} (t : Nat) (hW : SubMask State.talZero_writes W)
    (hs : State.Framed W o s) :
    State.Framed W o (State.talZero s t) := by
  delta State.talZero
  repeat' first
    | with_reducible assumption
    | (with_reducible refine State.talTrig_framed _ _ (hW.trans (by decide)) ?_)
    | (with_reducible refine State.Framed.ite ?_ ?_)
    | (with_reducible refine State.setTal_framed _ _ (hW.trans (by decide)) ?_)
    | (with_reducible refine State.takeReload_framed _ (hW.trans (by decide)) ?_)
    | (with_reducible refine State.talArmRestart_framed _ (hW.trans (by decide)) ?_)
    | (with_reducible refine State.talEval_framed _ _ (hW.trans (by decide)) ?_)

def State.talTick_writes : Nat := State.setTal_writes ||| State.talEval_writes ||| State.talZero_writes
theorem State.talTick_framed {W : Nat} {o s : State} (t : Nat) (hW : SubMask State.talTick_writes W)
    (hs : State.Framed W o s) :
    State.Framed W o (State.talTick s t) := by
  delta State.talTick
  repeat' first
    | with_reducible assumption
    | (with_reducible refine State.Framed.ite ?_ ?_)
    | (with_reducible refine State.setTal_framed _ _ (hW.trans (by decide)) ?_)
    | (with_reducible refine State.talEval_framed _ _ (hW.trans (by decide)) ?_)
    | (with_reducible refine State.talZero_framed _ (hW.trans (by decide)) ?_)

def State.talSource_writes : Nat := State.setTal_writes ||| State.talTick_writes
theorem State.talSource_framed {W : Nat} {o s : State} (t : Nat) (hW : SubMask State.talSource_writes W)
    (hs : State.Framed W o s) :
    State.Framed W o (State.talSource s t) := by
  delta State.talSource
  repeat' first
    | with_reducible assumption
    | (with_reducible refine State.Framed.ite ?_ ?_)
    | (with_reducible refine State.setTal_framed _ _ (hW.trans (by decide)) ?_)
    | (with_reducible refine State.talTick_framed _ (hW.trans (by decide)) ?_)

def State.talRestart_writes : Nat := regMask [.TAL_SLIP, .TAL_STATUS] ||| State.setTal_writes |||
  State.takeReload_writes ||| State.talArmRestart_writes ||| State.talEval_writes ||| State.talTrig_writes
theorem State.talRestart_framed {W : Nat} {o s : State} (t : Nat) (own : Bool)
    (hW : SubMask State.talRestart_writes W) (hs : State.Framed W o s) :
    State.Framed W o (State.talRestart s t own) := by
  delta State.talRestart
  repeat' first
    | with_reducible assumption
    | (with_reducible refine State.talTrig_framed _ _ (hW.trans (by decide)) ?_)
    | (with_reducible refine State.Framed.ite ?_ ?_)
    | (with_reducible refine State.setBit_framed _ _ _ _ (hW.trans (by decide)) ?_)
    | (with_reducible refine State.flagIf_framed _ _ _ _ (hW.trans (by decide)) ?_)
    | (with_reducible refine State.setTal_framed _ _ (hW.trans (by decide)) ?_)
    | (with_reducible refine State.takeReload_framed _ (hW.trans (by decide)) ?_)
    | (with_reducible refine State.talArmRestart_framed _ (hW.trans (by decide)) ?_)
    | (with_reducible refine State.talEval_framed _ _ (hW.trans (by decide)) ?_)
    | (fail_if_no_progress with_reducible refine State.Framed.mkOf ?_ rfl rfl rfl rfl rfl rfl rfl)

def State.talRun_writes : Nat := State.talRestart_writes ||| State.talSource_writes
theorem State.talRun_framed {W : Nat} {o s : State} (src sync : Nat → Bool) (hW : SubMask State.talRun_writes W)
    (hs : State.Framed W o s) :
    State.Framed W o (State.talRun s src sync) := by
  delta State.talRun
  repeat' first
    | with_reducible assumption
    | (with_reducible refine State.Framed.ite ?_ ?_)
    | (with_reducible refine State.Framed.foldl _ ?_ (fun t e h => ?_))
    | (with_reducible refine State.talSource_framed _ (hW.trans (by decide)) ?_)
    | (with_reducible refine State.talRestart_framed _ _ (hW.trans (by decide)) ?_)
    | split
    | (intro x; refine State.Framed.cut (W := W) (o := o) (x := x) ?_ ?_; (on_goal 1 => unfold x); (on_goal 2 => (intro _; clear_value x)))
    | intro x

def State.talEdgeAll_writes : Nat := State.talRun_writes
theorem State.talEdgeAll_framed {W : Nat} {o s : State} (tbHit : Nat → Bool) (hW : SubMask State.talEdgeAll_writes W)
    (hs : State.Framed W o s) :
    State.Framed W o (State.talEdgeAll s tbHit) := by
  delta State.talEdgeAll
  repeat' first
    | with_reducible assumption
    | (with_reducible refine State.talRun_framed _ _ (hW.trans (by decide)) ?_)
    | (with_reducible refine State.Framed.foldl _ ?_ (fun t e h => ?_))

def State.syncFirst_writes : Nat := State.talRun_writes
theorem State.syncFirst_framed {W : Nat} {o s : State} (t : Nat) (hW : SubMask State.syncFirst_writes W)
    (hs : State.Framed W o s) :
    State.Framed W o (State.syncFirst s t) := by
  delta State.syncFirst
  repeat' first
    | with_reducible assumption
    | (with_reducible refine State.Framed.ite ?_ ?_)
    | (with_reducible refine State.talRun_framed _ _ (hW.trans (by decide)) ?_)

def State.afterSync_writes : Nat := State.syncFirst_writes
theorem State.afterSync_framed {W : Nat} {o s : State} (r : RegName) (t k old : Nat)
    (hW : SubMask State.afterSync_writes W) (hr : SubMask (regMask [r]) W) (hs : State.Framed W o s) :
    State.Framed W o (State.afterSync s r t k old) := by
  delta State.afterSync
  exact State.setReg_framed _ _ _ _ hr (State.syncFirst_framed _ (hW.trans (by decide))
    (State.setReg_framed _ _ _ _ hr hs))

def State.talStart_writes : Nat := regMask [.TAL_STATUS] ||| State.setTal_writes ||| State.takeReload_writes |||
  State.talArmRestart_writes ||| State.talEval_writes
theorem State.talStart_framed {W : Nat} {o s : State} (t : Nat) (hW : SubMask State.talStart_writes W)
    (hs : State.Framed W o s) :
    State.Framed W o (State.talStart s t) := by
  delta State.talStart
  repeat' first
    | with_reducible assumption
    | (with_reducible refine State.setBit_framed _ _ _ _ (hW.trans (by decide)) ?_)
    | (with_reducible refine State.setTal_framed _ _ (hW.trans (by decide)) ?_)
    | (with_reducible refine State.takeReload_framed _ (hW.trans (by decide)) ?_)
    | (with_reducible refine State.talArmRestart_framed _ (hW.trans (by decide)) ?_)
    | (with_reducible refine State.talEval_framed _ _ (hW.trans (by decide)) ?_)

def State.talCfgWrite_writes : Nat := regMask [.TAL_CFG] ||| State.sessionWrite_writes ||| State.setTal_writes |||
  State.talStart_writes
theorem State.talCfgWrite_framed {W : Nat} {o s : State} (k t value : Nat) (hW : SubMask State.talCfgWrite_writes W)
    (hs : State.Framed W o s) :
    State.Framed W o (State.talCfgWrite s k t value) := by
  delta State.talCfgWrite
  repeat' first
    | with_reducible assumption
    | (with_reducible refine State.Framed.ite ?_ ?_)
    | (with_reducible refine State.sessionWrite_framed _ _ _ _ _ _ _ (hW.trans (by decide)) (hW.trans (by decide)) ?_ (fun t h => ?_))
    | (with_reducible refine State.setTal_framed _ _ (hW.trans (by decide)) ?_)
    | (with_reducible refine State.talStart_framed _ (hW.trans (by decide)) ?_)

def State.talArmWrite_writes : Nat := regMask [.TAL_LATE] ||| State.setTal_writes ||| State.talEval_writes
theorem State.talArmWrite_framed {W : Nat} {o s : State} (t : Nat) (ks : List Nat)
    (hW : SubMask State.talArmWrite_writes W) (hs : State.Framed W o s) :
    State.Framed W o (State.talArmWrite s t ks) := by
  delta State.talArmWrite
  repeat' first
    | with_reducible assumption
    | (with_reducible refine State.Framed.ite ?_ ?_)
    | (with_reducible refine State.flagIf_framed _ _ _ _ (hW.trans (by decide)) ?_)
    | (with_reducible refine State.setTal_framed _ _ (hW.trans (by decide)) ?_)
    | (with_reducible refine State.talEval_framed _ _ (hW.trans (by decide)) ?_)
    | (with_reducible refine State.Framed.foldl _ ?_ (fun t e h => ?_))

def State.carrier_writes : Nat := State.syncEvent_writes ||| State.trigEventAt_writes ||| State.trigEvent_writes
theorem State.carrier_framed {W : Nat} {o s : State} (n at_ : Nat) (hW : SubMask State.carrier_writes W)
    (hs : State.Framed W o s) :
    State.Framed W o (State.carrier s n at_) := by
  delta State.carrier
  repeat' first
    | with_reducible assumption
    | (with_reducible refine State.Framed.ite ?_ ?_)
    | (with_reducible refine State.trigEventAt_framed _ _ (hW.trans (by decide)) ?_)
    | (with_reducible refine State.syncEvent_framed _ (hW.trans (by decide)) ?_)
    | (with_reducible refine State.trigEvent_framed _ (hW.trans (by decide)) ?_)

def State.carriersDue_writes : Nat := partMask [.carriers] ||| State.carrier_writes
theorem State.carriersDue_framed {W : Nat} {o s : State} (hW : SubMask State.carriersDue_writes W)
    (hs : State.Framed W o s) : State.Framed W o (State.carriersDue s) := by
  delta State.carriersDue
  repeat' first
    | with_reducible assumption
    | (with_reducible refine State.carrier_framed _ _ (hW.trans (by decide)) ?_)
    | (with_reducible refine State.Framed.foldl _ ?_ (fun t e h => ?_))
    | (fail_if_no_progress with_reducible refine State.Framed.mkOf ?_ rfl rfl rfl rfl rfl rfl rfl)

end Sys2Proof.Machine
end

