-- ==== Sys2Proof/Laws/FrameAge.lean ====
section
/-! SUPPORT. Frames of Machine/Age.lean: for each operation, all it can write. -/

namespace Sys2Proof.Machine

set_option Elab.async false
set_option linter.unusedTactic false
set_option linter.unreachableTactic false
set_option exponentiation.threshold 1200

def State.setPlan_writes : Nat := partMask [.alm] ||| State.setAlmCh_writes
theorem State.setPlan_framed {W : Nat} {o s : State} (i : AlmItem) (n v : Nat) (hW : SubMask State.setPlan_writes W)
    (hs : State.Framed W o s) :
    State.Framed W o (State.setPlan s i n v) := by
  delta State.setPlan
  repeat' first
    | with_reducible assumption
    | (with_reducible refine State.setAlmCh_framed _ _ (hW.trans (by decide)) ?_)
    | split
    | (fail_if_no_progress with_reducible refine State.Framed.mkOf ?_ rfl rfl rfl rfl rfl rfl rfl)

def State.showStretch_writes : Nat := regMask [.ALM_STATE] ||| State.draw_writes
theorem State.showStretch_framed {W : Nat} {o s : State} (v : Nat) (hW : SubMask State.showStretch_writes W)
    (hs : State.Framed W o s) :
    State.Framed W o (State.showStretch s v) := by
  delta State.showStretch
  repeat' first
    | with_reducible assumption
    | (with_reducible refine State.setFld_framed _ _ _ _ (hW.trans (by decide)) ?_)
    | (with_reducible refine State.draw_framed (hW.trans (by decide)) ?_)

def State.stageDiv_writes : Nat := partMask [.est]
theorem State.stageDiv_framed {W : Nat} {o s : State}  (hW : SubMask State.stageDiv_writes W)
    (hs : State.Framed W o s) :
    State.Framed W o (State.stageDiv s) := by
  delta State.stageDiv
  repeat' first
    | with_reducible assumption
    | (fail_if_no_progress with_reducible refine State.Framed.mkOf ?_ rfl rfl rfl rfl rfl rfl rfl)

def State.putLevel_writes : Nat := regMask [.ALM_FLAGS, .ALM_STATE, .LRN_GFLAGS, .LRN_STATE] |||
  State.stageDiv_writes
theorem State.putLevel_framed {W : Nat} {o s : State} (v : Nat) (hW : SubMask State.putLevel_writes W)
    (hs : State.Framed W o s) :
    State.Framed W o (State.putLevel s v) := by
  delta State.putLevel
  repeat' first
    | with_reducible assumption
    | (with_reducible refine State.setFld_framed _ _ _ _ (hW.trans (by decide)) ?_)
    | (with_reducible refine State.setBit_framed _ _ _ _ (hW.trans (by decide)) ?_)
    | (with_reducible refine State.flagIf_framed _ _ _ _ (hW.trans (by decide)) ?_)
    | (with_reducible refine State.stageDiv_framed (hW.trans (by decide)) ?_)

def State.putItem_writes : Nat := regMask [.ALM_CH_PLAN, .ALM_CH_SOA, .ALM_STATE, .ALM_FLAGS] |||
  State.derate_writes ||| State.putLevel_writes ||| State.showStretch_writes
theorem State.putItem_framed {W : Nat} {o s : State} (i : AlmItem) (n old v : Nat) (hW : SubMask State.putItem_writes W)
    (hs : State.Framed W o s) : State.Framed W o (s.putItem i n old v) := by
  cases i
  case fAge => exact State.derate_framed _ (hW.trans (by decide)) (State.setFld_framed _ _ _ _ (hW.trans (by decide)) hs)
  case level => exact State.putLevel_framed _ (hW.trans (by decide)) hs
  case stretch => exact State.showStretch_framed _ (hW.trans (by decide)) (State.flagIf_framed _ _ _ _ (hW.trans (by decide)) hs)
  all_goals exact State.setFld_framed _ _ _ _ (hW.trans (by decide)) hs

def State.almRecord_writes : Nat := State.ledger_writes
theorem State.almRecord_framed {W : Nat} {o s : State} (i : AlmItem) (n cause source old new measure : Nat)
    (hW : SubMask State.almRecord_writes W) (hs : State.Framed W o s) :
    State.Framed W o (State.almRecord s i n cause source old new measure) := by
  delta State.almRecord
  repeat' first
    | with_reducible assumption
    | (with_reducible refine State.ledger_framed _ _ (hW.trans (by decide)) ?_)

def State.planItem_writes : Nat := State.almRecord_writes ||| State.putItem_writes ||| State.setPlan_writes
theorem State.planItem_framed {W : Nat} {o s : State} (i : AlmItem) (n v cause measure : Nat)
    (hW : SubMask State.planItem_writes W) (hs : State.Framed W o s) :
    State.Framed W o (State.planItem s i n v cause measure) := by
  delta State.planItem
  repeat' first
    | with_reducible assumption
    | (with_reducible refine State.Framed.ite ?_ ?_)
    | (with_reducible refine State.almRecord_framed _ _ _ _ _ _ _ (hW.trans (by decide)) ?_)
    | (with_reducible refine State.putItem_framed _ _ _ _ (hW.trans (by decide)) ?_)
    | (with_reducible refine State.setPlan_framed _ _ _ (hW.trans (by decide)) ?_)

def State.showBase_writes : Nat := regMask [.ALM_CH_SHUNT]
theorem State.showBase_framed {W : Nat} {o s : State} (n : Nat) (hW : SubMask State.showBase_writes W)
    (hs : State.Framed W o s) :
    State.Framed W o (State.showBase s n) := by
  delta State.showBase
  repeat' first
    | with_reducible assumption
    | (with_reducible refine State.setFld_framed _ _ _ _ (hW.trans (by decide)) ?_)
    | (with_reducible refine State.setBit_framed _ _ _ _ (hW.trans (by decide)) ?_)

def State.almAdmit_writes : Nat := regMask [.ALM_CH_GATE, .ALM_CH_RON, .ALM_CH_SHUNT] ||| State.planItem_writes |||
  State.setAlmCh_writes ||| State.showBase_writes
theorem State.almAdmit_framed {W : Nat} {o s : State} (n : Nat) (serial : List Nat) (first changed sameSerial : Bool)
    (hW : SubMask State.almAdmit_writes W) (hs : State.Framed W o s) :
    State.Framed W o (State.almAdmit s n serial first changed sameSerial) := by
  delta State.almAdmit
  repeat' first
    | with_reducible assumption
    | (with_reducible refine State.Framed.ite ?_ ?_)
    | (with_reducible refine State.setReg_framed _ _ _ _ (hW.trans (by decide)) ?_)
    | (with_reducible refine State.setSFld_framed _ _ _ _ (hW.trans (by decide)) ?_)
    | (with_reducible refine State.planItem_framed _ _ _ _ _ (hW.trans (by decide)) ?_)
    | (with_reducible refine State.setAlmCh_framed _ _ (hW.trans (by decide)) ?_)
    | (with_reducible refine State.showBase_framed _ (hW.trans (by decide)) ?_)
    | (with_reducible refine State.Framed.foldl _ ?_ (fun t e h => ?_))

def State.almWarn_writes : Nat := regMask [.ALM_FLAGS, .ALM_STATE] ||| partMask [.alm]
theorem State.almWarn_framed {W : Nat} {o s : State} (region : Nat) (hW : SubMask State.almWarn_writes W)
    (hs : State.Framed W o s) :
    State.Framed W o (State.almWarn s region) := by
  delta State.almWarn
  repeat' first
    | with_reducible assumption
    | (with_reducible refine State.Framed.ite ?_ ?_)
    | (with_reducible refine State.setBit_framed _ _ _ _ (hW.trans (by decide)) ?_)
    | (with_reducible refine State.flagIf_framed _ _ _ _ (hW.trans (by decide)) ?_)
    | (intro x; refine State.Framed.cut (W := W) (o := o) (x := x) ?_ ?_; (on_goal 1 => unfold x); (on_goal 2 => (intro _; clear_value x)))
    | (fail_if_no_progress with_reducible refine State.Framed.mkOf ?_ rfl rfl rfl rfl rfl rfl rfl)

end Sys2Proof.Machine
end

