-- ==== Sys2Proof/Laws/FramePierLink.lean ====
section
/-! SUPPORT. Frames of Machine/PierLink.lean: for each operation, all it can write. -/

namespace Sys2Proof.Machine

set_option Elab.async false
set_option linter.unusedTactic false
set_option linter.unreachableTactic false
set_option exponentiation.threshold 1200

def State.setLstate_writes : Nat := regMask [.PLK_STATE] ||| State.safeRun_writes ||| State.setLk_writes
theorem State.setLstate_framed {W : Nat} {o s : State} (n st : Nat) (hW : SubMask State.setLstate_writes W)
    (hs : State.Framed W o s) :
    State.Framed W o (State.setLstate s n st) := by
  delta State.setLstate
  repeat' first
    | with_reducible assumption
    | (with_reducible refine State.setFld_framed _ _ _ _ (hW.trans (by decide)) ?_)
    | (with_reducible refine State.safeRun_framed _ (hW.trans (by decide)) ?_)
    | (with_reducible refine State.setLk_framed _ _ (hW.trans (by decide)) ?_)

def State.enterFrame_writes : Nat := State.setLk_writes ||| State.setLstate_writes
theorem State.enterFrame_framed {W : Nat} {o s : State} (n : Nat) (hW : SubMask State.enterFrame_writes W)
    (hs : State.Framed W o s) :
    State.Framed W o (State.enterFrame s n) := by
  delta State.enterFrame
  repeat' first
    | with_reducible assumption
    | (with_reducible refine State.setLstate_framed _ _ (hW.trans (by decide)) ?_)
    | (with_reducible refine State.setLk_framed _ _ (hW.trans (by decide)) ?_)

def State.enterBlock_writes : Nat := State.enterFrame_writes ||| State.setLstate_writes
theorem State.enterBlock_framed {W : Nat} {o s : State} (n : Nat) (hW : SubMask State.enterBlock_writes W)
    (hs : State.Framed W o s) :
    State.Framed W o (State.enterBlock s n) := by
  delta State.enterBlock
  repeat' first
    | with_reducible assumption
    | (with_reducible refine State.Framed.ite ?_ ?_)
    | (with_reducible refine State.setLstate_framed _ _ (hW.trans (by decide)) ?_)
    | (with_reducible refine State.enterFrame_framed _ (hW.trans (by decide)) ?_)
    | (intro x; refine State.Framed.cut (W := W) (o := o) (x := x) ?_ ?_; (on_goal 1 => unfold x); (on_goal 2 => (intro _; clear_value x)))
    | intro x

def State.linkRefuse_writes : Nat := regMask [.PLK_FLAGS, .PLK_STATE] ||| State.enterBlock_writes |||
  State.judge_writes ||| State.setLk_writes ||| State.setLstate_writes
theorem State.linkRefuse_framed {W : Nat} {o s : State} (n code : Nat) (hW : SubMask State.linkRefuse_writes W)
    (hs : State.Framed W o s) :
    State.Framed W o (State.linkRefuse s n code) := by
  delta State.linkRefuse
  repeat' first
    | with_reducible assumption
    | (with_reducible refine State.judge_framed _ (hW.trans (by decide)) ?_)
    | (with_reducible refine State.enterBlock_framed _ (hW.trans (by decide)) ?_)
    | (with_reducible refine State.Framed.ite ?_ ?_)
    | (with_reducible refine State.setFld_framed _ _ _ _ (hW.trans (by decide)) ?_)
    | (with_reducible refine State.flag_framed _ _ _ (hW.trans (by decide)) ?_)
    | (with_reducible refine State.setLk_framed _ _ (hW.trans (by decide)) ?_)
    | (with_reducible refine State.setLstate_framed _ _ (hW.trans (by decide)) ?_)

def State.mbxStart_writes : Nat := State.setLk_writes
theorem State.mbxStart_framed {W : Nat} {o s : State} (n op obj : Nat) (hW : SubMask State.mbxStart_writes W)
    (hs : State.Framed W o s) :
    State.Framed W o (State.mbxStart s n op obj) := by
  delta State.mbxStart
  repeat' first
    | with_reducible assumption
    | (with_reducible refine State.setLk_framed _ _ (hW.trans (by decide)) ?_)

def State.configure_writes : Nat := regMask [.PLK_STATE] ||| State.mbxStart_writes ||| State.safeRun_writes |||
  State.setLk_writes
theorem State.configure_framed {W : Nat} {o s : State} (n : Nat) (reconf : Bool)
    (hW : SubMask State.configure_writes W) (hs : State.Framed W o s) :
    State.Framed W o (State.configure s n reconf) := by
  delta State.configure
  repeat' first
    | with_reducible assumption
    | (with_reducible refine State.setFld_framed _ _ _ _ (hW.trans (by decide)) ?_)
    | (with_reducible refine State.mbxStart_framed _ _ _ (hW.trans (by decide)) ?_)
    | (with_reducible refine State.safeRun_framed _ (hW.trans (by decide)) ?_)
    | (with_reducible refine State.setLk_framed _ _ (hW.trans (by decide)) ?_)

def State.newModule_writes : Nat := regMask [.INS_TJ, .PROT_DAMAGED] ||| State.setIns_writes |||
  State.setProt_writes ||| State.setTrim_writes
theorem State.newModule_framed {W : Nat} {o s : State} (n : Nat) (serial : List Nat) (same : Bool)
    (hW : SubMask State.newModule_writes W) (hs : State.Framed W o s) :
    State.Framed W o (State.newModule s n serial same) := by
  delta State.newModule
  repeat' first
    | with_reducible assumption
    | (with_reducible refine State.Framed.ite ?_ ?_)
    | (with_reducible refine State.setFld_framed _ _ _ _ (hW.trans (by decide)) ?_)
    | (with_reducible refine State.setBit_framed _ _ _ _ (hW.trans (by decide)) ?_)
    | (with_reducible refine State.setIns_framed _ _ (hW.trans (by decide)) ?_)
    | (with_reducible refine State.setProt_framed _ _ (hW.trans (by decide)) ?_)
    | (with_reducible refine State.setTrim_framed _ _ (hW.trans (by decide)) ?_)
    | (with_reducible refine State.Framed.foldl _ ?_ (fun t e h => ?_))

def State.showIdent_writes : Nat := regMask [.PLK_IDENT]
theorem State.showIdent_framed {W : Nat} {o s : State} (n : Nat) (id : List Nat)
    (hW : SubMask State.showIdent_writes W) (hs : State.Framed W o s) :
    State.Framed W o (State.showIdent s n id) := by
  delta State.showIdent
  repeat' first
    | with_reducible assumption
    | (with_reducible refine State.setReg_framed _ _ _ _ (hW.trans (by decide)) ?_)
    | (with_reducible refine State.Framed.foldl _ ?_ (fun t e h => ?_))

def State.groupsWatch_writes : Nat := State.lockout_writes
theorem State.groupsWatch_framed {W : Nat} {o s : State} (n was : Nat) (hW : SubMask State.groupsWatch_writes W)
    (hs : State.Framed W o s) :
    State.Framed W o (State.groupsWatch s n was) := by
  delta State.groupsWatch
  repeat' first
    | with_reducible assumption
    | (with_reducible refine State.Framed.ite ?_ ?_)
    | (with_reducible refine State.lockout_framed _ _ (hW.trans (by decide)) ?_)
    | (intro x; refine State.Framed.cut (W := W) (o := o) (x := x) ?_ ?_; (on_goal 1 => unfold x); (on_goal 2 => (intro _; clear_value x)))
    | intro x

def State.linkAdmit_writes : Nat := regMask [.PLK_DELAY, .PLK_FLAGS, .PLK_STATE] ||| State.admitStreams_writes |||
  State.almAdmit_writes ||| State.derate_writes ||| State.groupsWatch_writes ||| State.judge_writes |||
  State.ledger_writes ||| State.newModule_writes ||| State.setLk_writes ||| State.setLstate_writes |||
  State.setTrim_writes ||| State.showIdent_writes
theorem State.linkAdmit_framed {W : Nat} {o s : State} (n : Nat) (hW : SubMask State.linkAdmit_writes W)
    (hs : State.Framed W o s) :
    State.Framed W o (State.linkAdmit s n) := by
  delta State.linkAdmit
  repeat' first
    | with_reducible assumption
    | (with_reducible refine State.judge_framed _ (hW.trans (by decide)) ?_)
    | (with_reducible refine State.groupsWatch_framed _ _ (hW.trans (by decide)) ?_)
    | (with_reducible refine State.Framed.ite ?_ ?_)
    | (with_reducible refine State.setFld_framed _ _ _ _ (hW.trans (by decide)) ?_)
    | (with_reducible refine State.setBit_framed _ _ _ _ (hW.trans (by decide)) ?_)
    | (with_reducible refine State.flag_framed _ _ _ (hW.trans (by decide)) ?_)
    | (with_reducible refine State.admitStreams_framed _ (hW.trans (by decide)) ?_)
    | (with_reducible refine State.almAdmit_framed _ _ _ _ _ (hW.trans (by decide)) ?_)
    | (with_reducible refine State.derate_framed _ (hW.trans (by decide)) ?_)
    | (with_reducible refine State.ledger_framed _ _ (hW.trans (by decide)) ?_)
    | (with_reducible refine State.newModule_framed _ _ _ (hW.trans (by decide)) ?_)
    | (with_reducible refine State.setLk_framed _ _ (hW.trans (by decide)) ?_)
    | (with_reducible refine State.setLstate_framed _ _ (hW.trans (by decide)) ?_)
    | (with_reducible refine State.setTrim_framed _ _ (hW.trans (by decide)) ?_)
    | (with_reducible refine State.showIdent_framed _ _ (hW.trans (by decide)) ?_)

def State.blockGained_writes : Nat := State.enterFrame_writes ||| State.setLk_writes ||| State.setLstate_writes
theorem State.blockGained_framed {W : Nat} {o s : State} (n : Nat) (hW : SubMask State.blockGained_writes W)
    (hs : State.Framed W o s) :
    State.Framed W o (State.blockGained s n) := by
  delta State.blockGained
  repeat' first
    | with_reducible assumption
    | (with_reducible refine State.enterFrame_framed _ (hW.trans (by decide)) ?_)
    | (with_reducible refine State.Framed.ite ?_ ?_)
    | (with_reducible refine State.setLk_framed _ _ (hW.trans (by decide)) ?_)
    | (with_reducible refine State.setLstate_framed _ _ (hW.trans (by decide)) ?_)

def State.blockLost_writes : Nat := regMask [.PLK_FLAGS] ||| State.enterBlock_writes ||| State.linkLoss_writes |||
  State.setLk_writes ||| State.setLstate_writes
theorem State.blockLost_framed {W : Nat} {o s : State} (n : Nat) (hW : SubMask State.blockLost_writes W)
    (hs : State.Framed W o s) :
    State.Framed W o (State.blockLost s n) := by
  delta State.blockLost
  repeat' first
    | with_reducible assumption
    | (with_reducible refine State.enterBlock_framed _ (hW.trans (by decide)) ?_)
    | (with_reducible refine State.Framed.ite ?_ ?_)
    | (with_reducible refine State.flag_framed _ _ _ (hW.trans (by decide)) ?_)
    | (with_reducible refine State.linkLoss_framed _ (hW.trans (by decide)) ?_)
    | (with_reducible refine State.setLk_framed _ _ (hW.trans (by decide)) ?_)
    | (with_reducible refine State.setLstate_framed _ _ (hW.trans (by decide)) ?_)

def State.rampFrame_writes : Nat := partMask [.frames] ||| State.enterEnhance_writes |||
  State.inrushFirst_writes ||| State.setIns_writes
theorem State.rampFrame_framed {W : Nat} {o s : State} (n : Nat) (hW : SubMask State.rampFrame_writes W)
    (hs : State.Framed W o s) :
    State.Framed W o (State.rampFrame s n) := by
  delta State.rampFrame
  repeat' first
    | with_reducible assumption
    | (with_reducible refine State.inrushFirst_framed _ (hW.trans (by decide)) ?_)
    | (with_reducible refine State.Framed.ite ?_ ?_)
    | (with_reducible refine State.enterEnhance_framed _ (hW.trans (by decide)) ?_)
    | (with_reducible refine State.setIns_framed _ _ (hW.trans (by decide)) ?_)
    | (fail_if_no_progress with_reducible refine State.Framed.mkOf ?_ rfl rfl rfl rfl rfl rfl rfl)

def State.limitFrame_writes : Nat := State.draw_writes ||| State.setIns_writes
theorem State.limitFrame_framed {W : Nat} {o s : State} (n : Nat) (hW : SubMask State.limitFrame_writes W)
    (hs : State.Framed W o s) :
    State.Framed W o (State.limitFrame s n) := by
  delta State.limitFrame
  repeat' first
    | with_reducible assumption
    | (with_reducible refine State.Framed.ite ?_ ?_)
    | (with_reducible refine State.draw_framed (hW.trans (by decide)) ?_)
    | (with_reducible refine State.setIns_framed _ _ (hW.trans (by decide)) ?_)

def State.ilimFrame_writes : Nat := State.draw_writes ||| State.setIns_writes
theorem State.ilimFrame_framed {W : Nat} {o s : State} (n : Nat) (hW : SubMask State.ilimFrame_writes W)
    (hs : State.Framed W o s) :
    State.Framed W o (State.ilimFrame s n) := by
  delta State.ilimFrame
  repeat' first
    | with_reducible assumption
    | (with_reducible refine State.Framed.ite ?_ ?_)
    | (with_reducible refine State.draw_framed (hW.trans (by decide)) ?_)
    | (with_reducible refine State.setIns_framed _ _ (hW.trans (by decide)) ?_)

def State.trimFrame_writes : Nat := regMask [.TRM_STATE] ||| State.setTrim_writes ||| State.shareStart_writes
theorem State.trimFrame_framed {W : Nat} {o s : State} (n : Nat) (hW : SubMask State.trimFrame_writes W)
    (hs : State.Framed W o s) :
    State.Framed W o (State.trimFrame s n) := by
  delta State.trimFrame
  repeat' first
    | with_reducible assumption
    | (with_reducible refine State.shareStart_framed _ (hW.trans (by decide)) ?_)
    | (with_reducible refine State.Framed.ite ?_ ?_)
    | (with_reducible refine State.setFld_framed _ _ _ _ (hW.trans (by decide)) ?_)
    | (with_reducible refine State.setSatFld_framed _ _ _ _ (hW.trans (by decide)) ?_)
    | (with_reducible refine State.setTrim_framed _ _ (hW.trans (by decide)) ?_)

def State.trimSent_writes : Nat := State.setTrim_writes
theorem State.trimSent_framed {W : Nat} {o s : State} (n : Nat) (f : DownFrame) (hW : SubMask State.trimSent_writes W)
    (hs : State.Framed W o s) :
    State.Framed W o (State.trimSent s n f) := by
  delta State.trimSent
  repeat' first
    | with_reducible assumption
    | (with_reducible refine State.setTrim_framed _ _ (hW.trans (by decide)) ?_)
    | (fail_if_no_progress with_reducible refine State.Framed.mkOf ?_ rfl rfl rfl rfl rfl rfl rfl)
    | (intro x; refine State.Framed.cut (W := W) (o := o) (x := x) ?_ ?_; (on_goal 1 => unfold x); (on_goal 2 => (intro _; clear_value x)))
    | intro x

def State.linkTick_writes : Nat := regMask [.TRM_LOOP] ||| State.clrTrip_writes ||| State.draw_writes |||
  State.ilimFrame_writes ||| State.injSend_writes ||| State.limitFrame_writes ||| State.rampFrame_writes |||
  State.setIns_writes ||| State.setLk_writes ||| State.trimFrame_writes ||| State.trimSent_writes
theorem State.linkTick_framed {W : Nat} {o s : State} (n : Nat) (hW : SubMask State.linkTick_writes W)
    (hs : State.Framed W o s) :
    State.Framed W o (State.linkTick s n) := by
  delta State.linkTick
  repeat' first
    | with_reducible assumption
    | (with_reducible refine State.trimSent_framed _ _ (hW.trans (by decide)) ?_)
    | (with_reducible refine State.setIns_framed _ _ (hW.trans (by decide)) ?_)
    | (with_reducible refine State.setSFld_framed _ _ _ _ (hW.trans (by decide)) ?_)
    | (with_reducible refine State.Framed.ite ?_ ?_)
    | (with_reducible refine State.clrTrip_framed _ (hW.trans (by decide)) ?_)
    | (with_reducible refine State.draw_framed (hW.trans (by decide)) ?_)
    | (with_reducible refine State.ilimFrame_framed _ (hW.trans (by decide)) ?_)
    | (with_reducible refine State.injSend_framed _ _ _ _ (hW.trans (by decide)) ?_)
    | (with_reducible refine State.limitFrame_framed _ (hW.trans (by decide)) ?_)
    | (with_reducible refine State.rampFrame_framed _ (hW.trans (by decide)) ?_)
    | (with_reducible refine State.setLk_framed _ _ (hW.trans (by decide)) ?_)
    | (with_reducible refine State.trimFrame_framed _ (hW.trans (by decide)) ?_)
    | (fail_if_no_progress with_reducible refine State.Framed.mkOf ?_ rfl rfl rfl rfl rfl rfl rfl)

def State.carrierAhead_writes : Nat := partMask [.carriers]
theorem State.carrierAhead_framed {W : Nat} {o s : State} (n : Nat) (hW : SubMask State.carrierAhead_writes W)
    (hs : State.Framed W o s) :
    State.Framed W o (State.carrierAhead s n) := by
  delta State.carrierAhead
  repeat' first
    | with_reducible assumption
    | (fail_if_no_progress with_reducible refine State.Framed.mkOf ?_ rfl rfl rfl rfl rfl rfl rfl)

def State.takeMbx_writes : Nat := State.setLk_writes
theorem State.takeMbx_framed {W : Nat} {o s : State} (n : Nat) (b : Vector Byte 16)
    (hW : SubMask State.takeMbx_writes W) (hs : State.Framed W o s) :
    State.Framed W o (State.takeMbx s n b) := by
  delta State.takeMbx
  repeat' first
    | with_reducible assumption
    | (with_reducible refine State.Framed.ite ?_ ?_)
    | (with_reducible refine State.setLk_framed _ _ (hW.trans (by decide)) ?_)

def State.takeDelay_writes : Nat := regMask [.PLK_DELAY] ||| State.setLk_writes
theorem State.takeDelay_framed {W : Nat} {o s : State} (n lag ofs : Nat) (hW : SubMask State.takeDelay_writes W)
    (hs : State.Framed W o s) :
    State.Framed W o (State.takeDelay s n lag ofs) := by
  delta State.takeDelay
  repeat' first
    | with_reducible assumption
    | (with_reducible refine State.Framed.ite ?_ ?_)
    | (with_reducible refine State.setFld_framed _ _ _ _ (hW.trans (by decide)) ?_)
    | (with_reducible refine State.setLk_framed _ _ (hW.trans (by decide)) ?_)

def State.takeTel_writes : Nat := regMask [.PLK_FLAGS, .PLK_GTEL, .PLK_MODSTAT, .PLK_NTC, .PLK_STATE] |||
  State.setLk_writes
theorem State.takeTel_framed {W : Nat} {o s : State} (n : Nat) (f : UplinkFrame) (hW : SubMask State.takeTel_writes W)
    (hs : State.Framed W o s) :
    State.Framed W o (State.takeTel s n f) := by
  delta State.takeTel
  repeat' first
    | with_reducible assumption
    | (with_reducible refine State.setReg_framed _ _ _ _ (hW.trans (by decide)) ?_)
    | (with_reducible refine State.setBit_framed _ _ _ _ (hW.trans (by decide)) ?_)
    | (with_reducible refine State.flagIf_framed _ _ _ _ (hW.trans (by decide)) ?_)
    | (with_reducible refine State.setLk_framed _ _ (hW.trans (by decide)) ?_)
    | (with_reducible refine State.Framed.foldl _ ?_ (fun t e h => ?_))

def State.trimLocal_writes : Nat := State.setTrim_writes
theorem State.trimLocal_framed {W : Nat} {o s : State} (n : Nat) (st : Nat) (hW : SubMask State.trimLocal_writes W)
    (hs : State.Framed W o s) :
    State.Framed W o (State.trimLocal s n st) := by
  delta State.trimLocal
  repeat' first
    | with_reducible assumption
    | (with_reducible refine State.Framed.ite ?_ ?_)
    | (with_reducible refine State.setTrim_framed _ _ (hW.trans (by decide)) ?_)

def State.moduleTrips_writes : Nat := State.beginOpening_writes ||| State.desatEvent_writes |||
  State.inrushFirst_writes ||| State.trimReturn_writes ||| State.tripModule_writes ||| State.trip_writes
theorem State.moduleTrips_framed {W : Nat} {o s : State} (n old : Nat) (f : UplinkFrame)
    (hW : SubMask State.moduleTrips_writes W) (hs : State.Framed W o s) :
    State.Framed W o (State.moduleTrips s n old f) := by
  delta State.moduleTrips
  repeat' first
    | with_reducible assumption
    | (with_reducible refine State.inrushFirst_framed _ (hW.trans (by decide)) ?_)
    | (with_reducible refine State.Framed.ite ?_ ?_)
    | (with_reducible refine State.beginOpening_framed _ _ (hW.trans (by decide)) ?_)
    | (with_reducible refine State.desatEvent_framed _ _ (hW.trans (by decide)) ?_)
    | (with_reducible refine State.trimReturn_framed _ (hW.trans (by decide)) ?_)
    | (with_reducible refine State.trip_framed _ _ (hW.trans (by decide)) ?_)
    | (with_reducible refine State.tripModule_framed _ _ (hW.trans (by decide)) ?_)

def State.keepRise_writes : Nat := State.setAlmCh_writes
theorem State.keepRise_framed {W : Nat} {o s : State} (n g r : Nat) (hW : SubMask State.keepRise_writes W)
    (hs : State.Framed W o s) :
    State.Framed W o (State.keepRise s n g r) := by
  delta State.keepRise
  repeat' first
    | with_reducible assumption
    | (with_reducible refine State.Framed.ite ?_ ?_)
    | (with_reducible refine State.setAlmCh_framed _ _ (hW.trans (by decide)) ?_)

def State.passGroup_writes : Nat := State.setIns_writes
theorem State.passGroup_framed {W : Nat} {o s : State} (n g : Nat) (hW : SubMask State.passGroup_writes W)
    (hs : State.Framed W o s) :
    State.Framed W o (State.passGroup s n g) := by
  delta State.passGroup
  repeat' first
    | with_reducible assumption
    | (with_reducible refine State.setIns_framed _ _ (hW.trans (by decide)) ?_)

def State.gateCheck_writes : Nat := State.damage_writes ||| State.keepRise_writes ||| State.passGroup_writes |||
  State.setProt_writes
theorem State.gateCheck_framed {W : Nat} {o s : State} (n on lin : Nat) (checking : Bool) (g : Nat) (hW : SubMask State.gateCheck_writes W)
    (hs : State.Framed W o s) :
    State.Framed W o (State.gateCheck s n on lin checking g) := by
  delta State.gateCheck
  repeat' first
    | with_reducible assumption
    | (with_reducible refine State.Framed.ite ?_ ?_)
    | (with_reducible refine State.damage_framed _ _ (hW.trans (by decide)) ?_)
    | (with_reducible refine State.keepRise_framed _ _ _ (hW.trans (by decide)) ?_)
    | (with_reducible refine State.passGroup_framed _ _ (hW.trans (by decide)) ?_)
    | (with_reducible refine State.setProt_framed _ _ (hW.trans (by decide)) ?_)

def State.passedNext_writes : Nat := regMask [.PROT_STATE] ||| State.beginOpening_writes |||
  State.freezeEnd_writes ||| State.inrushFirst_writes ||| State.limitOut_writes ||| State.setCstate_writes |||
  State.setIns_writes ||| State.setProt_writes ||| State.shareStart_writes ||| State.showBus_writes |||
  State.strReady_writes
theorem State.passedNext_framed {W : Nat} {o s : State} (n : Nat) (hW : SubMask State.passedNext_writes W)
    (hs : State.Framed W o s) :
    State.Framed W o (State.passedNext s n) := by
  delta State.passedNext
  repeat' first
    | with_reducible assumption
    | (with_reducible refine State.inrushFirst_framed _ (hW.trans (by decide)) ?_)
    | (with_reducible refine State.beginOpening_framed _ _ (hW.trans (by decide)) ?_)
    | (with_reducible refine State.Framed.ite ?_ ?_)
    | (with_reducible refine State.setBit_framed _ _ _ _ (hW.trans (by decide)) ?_)
    | (with_reducible refine State.freezeEnd_framed _ (hW.trans (by decide)) ?_)
    | (with_reducible refine State.limitOut_framed _ (hW.trans (by decide)) ?_)
    | (with_reducible refine State.setCstate_framed _ _ (hW.trans (by decide)) ?_)
    | (with_reducible refine State.setIns_framed _ _ (hW.trans (by decide)) ?_)
    | (with_reducible refine State.setProt_framed _ _ (hW.trans (by decide)) ?_)
    | (with_reducible refine State.shareStart_framed _ (hW.trans (by decide)) ?_)
    | (with_reducible refine State.showBus_framed (hW.trans (by decide)) ?_)
    | (with_reducible refine State.strReady_framed _ _ (hW.trans (by decide)) ?_)

def State.groupReports_writes : Nat := State.clrTrip_writes ||| State.enterRest_writes |||
  State.gateCheck_writes ||| State.openingDone_writes ||| State.passedNext_writes ||| State.setIns_writes |||
  State.setProt_writes
theorem State.groupReports_framed {W : Nat} {o s : State} (n on lin : Nat) (checking : Bool) (hW : SubMask State.groupReports_writes W)
    (hs : State.Framed W o s) :
    State.Framed W o (State.groupReports s n on lin checking) := by
  delta State.groupReports
  repeat' first
    | with_reducible assumption
    | (with_reducible refine State.Framed.ite ?_ ?_)
    | (with_reducible refine State.clrTrip_framed _ (hW.trans (by decide)) ?_)
    | (with_reducible refine State.enterRest_framed _ _ _ _ (hW.trans (by decide)) ?_)
    | (with_reducible refine State.gateCheck_framed _ _ _ _ _ (hW.trans (by decide)) ?_)
    | (with_reducible refine State.openingDone_framed _ (hW.trans (by decide)) ?_)
    | (with_reducible refine State.passedNext_framed _ (hW.trans (by decide)) ?_)
    | (with_reducible refine State.setIns_framed _ _ (hW.trans (by decide)) ?_)
    | (with_reducible refine State.setProt_framed _ _ (hW.trans (by decide)) ?_)
    | (with_reducible refine State.Framed.foldl _ ?_ (fun t e h => ?_))
    | (intro x; refine State.Framed.cut (W := W) (o := o) (x := x) ?_ ?_; (on_goal 1 => unfold x); (on_goal 2 => (intro _; clear_value x)))
    | intro x
    | split

def State.ackWatch_writes : Nat := State.setLk_writes
theorem State.ackWatch_framed {W : Nat} {o s : State} (n ack : Nat) (hW : SubMask State.ackWatch_writes W)
    (hs : State.Framed W o s) :
    State.Framed W o (State.ackWatch s n ack) := by
  delta State.ackWatch
  repeat' first
    | with_reducible assumption
    | (with_reducible refine State.Framed.ite ?_ ?_)
    | (with_reducible refine State.setLk_framed _ _ (hW.trans (by decide)) ?_)

def State.frameMeasure_writes : Nat := State.setStrm_writes
theorem State.frameMeasure_framed {W : Nat} {o s : State} (n : Nat) (hW : SubMask State.frameMeasure_writes W)
    (hs : State.Framed W o s) :
    State.Framed W o (State.frameMeasure s n) := by
  delta State.frameMeasure
  repeat' first
    | with_reducible assumption
    | (with_reducible refine State.setStrm_framed _ _ (hW.trans (by decide)) ?_)

def State.goodFrame_writes : Nat := State.ackWatch_writes ||| State.frameMeasure_writes |||
  State.groupReports_writes ||| State.lateChecks_writes ||| State.leadFix_writes ||| State.mbxStart_writes |||
  State.moduleTrips_writes ||| State.setLk_writes ||| State.setLstate_writes ||| State.srWithheld_writes |||
  State.streamFrame_writes ||| State.takeDelay_writes ||| State.takeMbx_writes ||| State.takeTel_writes |||
  State.trimLocal_writes
theorem State.goodFrame_framed {W : Nat} {o s : State} (n : Nat) (f : UplinkFrame)
    (hW : SubMask State.goodFrame_writes W) (hs : State.Framed W o s) :
    State.Framed W o (State.goodFrame s n f) := by
  delta State.goodFrame
  repeat' first
    | with_reducible assumption
    | (with_reducible refine State.Framed.ite ?_ ?_)
    | (with_reducible refine State.ackWatch_framed _ _ (hW.trans (by decide)) ?_)
    | (with_reducible refine State.frameMeasure_framed _ (hW.trans (by decide)) ?_)
    | (with_reducible refine State.groupReports_framed _ _ _ _ (hW.trans (by decide)) ?_)
    | (with_reducible refine State.lateChecks_framed _ (hW.trans (by decide)) ?_)
    | (with_reducible refine State.leadFix_framed _ (hW.trans (by decide)) ?_)
    | (with_reducible refine State.mbxStart_framed _ _ _ (hW.trans (by decide)) ?_)
    | (with_reducible refine State.moduleTrips_framed _ _ _ (hW.trans (by decide)) ?_)
    | (with_reducible refine State.setLk_framed _ _ (hW.trans (by decide)) ?_)
    | (with_reducible refine State.setLstate_framed _ _ (hW.trans (by decide)) ?_)
    | (with_reducible refine State.srWithheld_framed _ _ (hW.trans (by decide)) ?_)
    | (with_reducible refine State.streamFrame_framed _ _ _ _ _ (hW.trans (by decide)) ?_)
    | (with_reducible refine State.takeDelay_framed _ _ _ (hW.trans (by decide)) ?_)
    | (with_reducible refine State.takeMbx_framed _ _ (hW.trans (by decide)) ?_)
    | (with_reducible refine State.takeTel_framed _ _ (hW.trans (by decide)) ?_)
    | (with_reducible refine State.trimLocal_framed _ _ (hW.trans (by decide)) ?_)

def State.badFrame_writes : Nat := regMask [.PLK_FLAGS] ||| State.setLk_writes ||| State.setStrm_writes |||
  State.streamGap_writes
theorem State.badFrame_framed {W : Nat} {o s : State} (n : Nat) (hW : SubMask State.badFrame_writes W)
    (hs : State.Framed W o s) :
    State.Framed W o (State.badFrame s n) := by
  delta State.badFrame
  repeat' first
    | with_reducible assumption
    | (with_reducible refine State.setStrm_framed _ _ (hW.trans (by decide)) ?_)
    | (with_reducible refine State.Framed.ite ?_ ?_)
    | (with_reducible refine State.flag_framed _ _ _ (hW.trans (by decide)) ?_)
    | (with_reducible refine State.setLk_framed _ _ (hW.trans (by decide)) ?_)
    | (with_reducible refine State.streamGap_framed _ _ (hW.trans (by decide)) ?_)
    | (fail_if_no_progress with_reducible refine State.Framed.mkOf ?_ rfl rfl rfl rfl rfl rfl rfl)

def State.uplinkRx_writes : Nat := regMask [.PLK_FLAGS] ||| State.badFrame_writes ||| State.goodFrame_writes
theorem State.uplinkRx_framed {W : Nat} {o s : State} (n : Nat) (frame : Option UplinkFrame)
    (hW : SubMask State.uplinkRx_writes W) (hs : State.Framed W o s) :
    State.Framed W o (State.uplinkRx s n frame) := by
  delta State.uplinkRx
  repeat' first
    | with_reducible assumption
    | (with_reducible refine State.flagIf_framed _ _ _ _ (hW.trans (by decide)) ?_)
    | (with_reducible refine State.badFrame_framed _ (hW.trans (by decide)) ?_)
    | (with_reducible refine State.goodFrame_framed _ _ (hW.trans (by decide)) ?_)
    | split

def State.uplinkHeld_writes : Nat := State.uplinkRx_writes
theorem State.uplinkHeld_framed {W : Nat} {o s : State} (i : Option Instr) (hW : SubMask State.uplinkHeld_writes W)
    (hs : State.Framed W o s) :
    State.Framed W o (State.uplinkHeld s i) := by
  delta State.uplinkHeld
  repeat' first
    | with_reducible assumption
    | (with_reducible refine State.uplinkRx_framed _ _ (hW.trans (by decide)) ?_)
    | split

def State.mbxDone_writes : Nat := State.admitStreams_writes ||| State.configure_writes |||
  State.linkAdmit_writes ||| State.linkRefuse_writes ||| State.mbxStart_writes ||| State.setLk_writes |||
  State.setLstate_writes
theorem State.mbxDone_framed {W : Nat} {o s : State} (n : Nat) (hW : SubMask State.mbxDone_writes W)
    (hs : State.Framed W o s) :
    State.Framed W o (State.mbxDone s n) := by
  delta State.mbxDone
  repeat' first
    | with_reducible assumption
    | (with_reducible refine State.Framed.ite ?_ ?_)
    | (with_reducible refine State.admitStreams_framed _ (hW.trans (by decide)) ?_)
    | (with_reducible refine State.configure_framed _ _ (hW.trans (by decide)) ?_)
    | (with_reducible refine State.linkAdmit_framed _ (hW.trans (by decide)) ?_)
    | (with_reducible refine State.linkRefuse_framed _ _ (hW.trans (by decide)) ?_)
    | (with_reducible refine State.mbxStart_framed _ _ _ (hW.trans (by decide)) ?_)
    | (with_reducible refine State.setLk_framed _ _ (hW.trans (by decide)) ?_)
    | (with_reducible refine State.setLstate_framed _ _ (hW.trans (by decide)) ?_)

def State.linkEnable_writes : Nat := State.enterBlock_writes ||| State.setLk_writes ||| State.setLstate_writes
theorem State.linkEnable_framed {W : Nat} {o s : State} (n : Nat) (hW : SubMask State.linkEnable_writes W)
    (hs : State.Framed W o s) :
    State.Framed W o (State.linkEnable s n) := by
  delta State.linkEnable
  repeat' first
    | with_reducible assumption
    | (with_reducible refine State.enterBlock_framed _ (hW.trans (by decide)) ?_)
    | (with_reducible refine State.Framed.ite ?_ ?_)
    | (with_reducible refine State.setLk_framed _ _ (hW.trans (by decide)) ?_)
    | (with_reducible refine State.setLstate_framed _ _ (hW.trans (by decide)) ?_)

def State.reParam_writes : Nat := State.configure_writes
theorem State.reParam_framed {W : Nat} {o s : State} (n : Nat) (hW : SubMask State.reParam_writes W)
    (hs : State.Framed W o s) :
    State.Framed W o (State.reParam s n) := by
  delta State.reParam
  repeat' first
    | with_reducible assumption
    | (with_reducible refine State.Framed.ite ?_ ?_)
    | (with_reducible refine State.configure_framed _ _ (hW.trans (by decide)) ?_)

end Sys2Proof.Machine
end

