-- ==== Sys2Proof/Laws/FrameProtection.lean ====
section
/-! SUPPORT. Frames of Machine/Protection.lean: for each operation, all it can write. -/

namespace Sys2Proof.Machine

set_option Elab.async false
set_option linter.unusedTactic false
set_option linter.unreachableTactic false
set_option exponentiation.threshold 1200

def State.slowUpdate_writes : Nat := regMask [.PROT_RETRY_STATE, .PROT_SLOWACC, .PROT_STATE] |||
  State.setProt_writes ||| State.showAcc_writes ||| State.trip_writes
theorem State.slowUpdate_framed {W : Nat} {o s : State} (n : Nat) (hW : SubMask State.slowUpdate_writes W)
    (hs : State.Framed W o s) :
    State.Framed W o (State.slowUpdate s n) := by
  delta State.slowUpdate
  repeat' first
    | with_reducible assumption
    | (with_reducible refine State.showAcc_framed _ (hW.trans (by decide)) ?_)
    | (with_reducible refine State.Framed.ite ?_ ?_)
    | (with_reducible refine State.setFld_framed _ _ _ _ (hW.trans (by decide)) ?_)
    | (with_reducible refine State.setBit_framed _ _ _ _ (hW.trans (by decide)) ?_)
    | (with_reducible refine State.setProt_framed _ _ (hW.trans (by decide)) ?_)
    | (with_reducible refine State.trip_framed _ _ (hW.trans (by decide)) ?_)
    | split
    | (fail_if_no_progress with_reducible refine State.Framed.mkOf ?_ rfl rfl rfl rfl rfl rfl rfl)

def State.shuntCompare_writes : Nat := regMask [.PROT_FLAGS] ||| State.setAlmCh_writes ||| State.setProt_writes |||
  State.trip_writes
theorem State.shuntCompare_framed {W : Nat} {o s : State} (n : Nat) (hW : SubMask State.shuntCompare_writes W)
    (hs : State.Framed W o s) :
    State.Framed W o (State.shuntCompare s n) := by
  delta State.shuntCompare
  repeat' first
    | with_reducible assumption
    | (with_reducible refine State.Framed.ite ?_ ?_)
    | (with_reducible refine State.flagIf_framed _ _ _ _ (hW.trans (by decide)) ?_)
    | (with_reducible refine State.setAlmCh_framed _ _ (hW.trans (by decide)) ?_)
    | (with_reducible refine State.setProt_framed _ _ (hW.trans (by decide)) ?_)
    | (with_reducible refine State.trip_framed _ _ (hW.trans (by decide)) ?_)

def State.busEnd_writes : Nat := regMask [.PROT_BUS_STATE] ||| partMask [.bus] ||| State.showFailwarn_writes
theorem State.busEnd_framed {W : Nat} {o s : State}  (hW : SubMask State.busEnd_writes W) (hs : State.Framed W o s) :
    State.Framed W o (State.busEnd s) := by
  delta State.busEnd
  repeat' first
    | with_reducible assumption
    | (with_reducible refine State.setBit_framed _ _ _ _ (hW.trans (by decide)) ?_)
    | (with_reducible refine State.showFailwarn_framed (hW.trans (by decide)) ?_)
    | (fail_if_no_progress with_reducible refine State.Framed.mkOf ?_ rfl rfl rfl rfl rfl rfl rfl)

def State.vbusUpdate_writes : Nat := regMask [.PROT_BUS_FLAGS, .PROT_BUS_STATE] ||| partMask [.bus] |||
  State.busEnd_writes
theorem State.vbusUpdate_framed {W : Nat} {o s : State}  (hW : SubMask State.vbusUpdate_writes W)
    (hs : State.Framed W o s) :
    State.Framed W o (State.vbusUpdate s) := by
  delta State.vbusUpdate
  repeat' first
    | with_reducible assumption
    | (with_reducible refine State.Framed.ite ?_ ?_)
    | (with_reducible refine State.setSatFld_framed _ _ _ _ (hW.trans (by decide)) ?_)
    | (with_reducible refine State.setBit_framed _ _ _ _ (hW.trans (by decide)) ?_)
    | (with_reducible refine State.flag_framed _ _ _ (hW.trans (by decide)) ?_)
    | (with_reducible refine State.busEnd_framed (hW.trans (by decide)) ?_)
    | (fail_if_no_progress with_reducible refine State.Framed.mkOf ?_ rfl rfl rfl rfl rfl rfl rfl)

def State.busTrip_writes : Nat := regMask [.PROT_BUS_FLAGS] ||| partMask [.bus] ||| State.trip_writes
theorem State.busTrip_framed {W : Nat} {o s : State} (code : Nat) (hW : SubMask State.busTrip_writes W)
    (hs : State.Framed W o s) :
    State.Framed W o (State.busTrip s code) := by
  delta State.busTrip
  repeat' first
    | with_reducible assumption
    | (with_reducible refine State.flagIf_framed _ _ _ _ (hW.trans (by decide)) ?_)
    | (with_reducible refine State.trip_framed _ _ (hW.trans (by decide)) ?_)
    | (with_reducible refine State.Framed.foldl _ ?_ (fun t e h => ?_))
    | (fail_if_no_progress with_reducible refine State.Framed.mkOf ?_ rfl rfl rfl rfl rfl rfl rfl)

def State.busQualified_writes : Nat := regMask [.PROT_BUS_FLAGS, .PROT_BUS_STATE] ||| partMask [.bus] |||
  State.busTrip_writes ||| State.enterWait_writes ||| State.recTrigger_writes ||| State.showFailwarn_writes
theorem State.busQualified_framed {W : Nat} {o s : State}  (hW : SubMask State.busQualified_writes W)
    (hs : State.Framed W o s) :
    State.Framed W o (State.busQualified s) := by
  delta State.busQualified
  repeat' first
    | with_reducible assumption
    | (with_reducible refine State.Framed.ite ?_ ?_)
    | (with_reducible refine State.setBit_framed _ _ _ _ (hW.trans (by decide)) ?_)
    | (with_reducible refine State.flag_framed _ _ _ (hW.trans (by decide)) ?_)
    | (with_reducible refine State.busTrip_framed _ (hW.trans (by decide)) ?_)
    | (with_reducible refine State.enterWait_framed _ _ (hW.trans (by decide)) ?_)
    | (with_reducible refine State.recTrigger_framed _ _ (hW.trans (by decide)) ?_)
    | (with_reducible refine State.showFailwarn_framed (hW.trans (by decide)) ?_)
    | (with_reducible refine State.Framed.foldl _ ?_ (fun t e h => ?_))
    | (fail_if_no_progress with_reducible refine State.Framed.mkOf ?_ rfl rfl rfl rfl rfl rfl rfl)

def State.openFail_writes : Nat := regMask [.PROT_STATE] ||| State.lockout_writes ||| State.safeRun_writes |||
  State.setLk_writes ||| State.setProt_writes ||| State.urgentOpen_writes
theorem State.openFail_framed {W : Nat} {o s : State} (n : Nat) (hW : SubMask State.openFail_writes W)
    (hs : State.Framed W o s) :
    State.Framed W o (State.openFail s n) := by
  delta State.openFail
  repeat' first
    | with_reducible assumption
    | (with_reducible refine State.setBit_framed _ _ _ _ (hW.trans (by decide)) ?_)
    | (with_reducible refine State.lockout_framed _ _ (hW.trans (by decide)) ?_)
    | (with_reducible refine State.safeRun_framed _ (hW.trans (by decide)) ?_)
    | (with_reducible refine State.setLk_framed _ _ (hW.trans (by decide)) ?_)
    | (with_reducible refine State.setProt_framed _ _ (hW.trans (by decide)) ?_)
    | (with_reducible refine State.urgentOpen_framed _ (hW.trans (by decide)) ?_)
    | (intro x; refine State.Framed.cut (W := W) (o := o) (x := x) ?_ ?_; (on_goal 1 => unfold x); (on_goal 2 => (intro _; clear_value x)))
    | intro x
    | lift_lets
    | split

def State.retryGo_writes : Nat := regMask [.PROT_FLAGS, .PROT_RETRY_STATE, .PROT_STATE] ||| State.clrTrip_writes |||
  State.enterRest_writes ||| State.enterWait_writes ||| State.setIns_writes ||| State.setProt_writes
theorem State.retryGo_framed {W : Nat} {o s : State} (n : Nat) (hW : SubMask State.retryGo_writes W)
    (hs : State.Framed W o s) :
    State.Framed W o (State.retryGo s n) := by
  delta State.retryGo
  repeat' first
    | with_reducible assumption
    | (with_reducible refine State.Framed.ite ?_ ?_)
    | (with_reducible refine State.setFld_framed _ _ _ _ (hW.trans (by decide)) ?_)
    | (with_reducible refine State.setBit_framed _ _ _ _ (hW.trans (by decide)) ?_)
    | (with_reducible refine State.flag_framed _ _ _ (hW.trans (by decide)) ?_)
    | (with_reducible refine State.clrTrip_framed _ (hW.trans (by decide)) ?_)
    | (with_reducible refine State.enterRest_framed _ _ _ _ (hW.trans (by decide)) ?_)
    | (with_reducible refine State.enterWait_framed _ _ (hW.trans (by decide)) ?_)
    | (with_reducible refine State.setIns_framed _ _ (hW.trans (by decide)) ?_)
    | (with_reducible refine State.setProt_framed _ _ (hW.trans (by decide)) ?_)

def State.clearLockout_writes : Nat := regMask [.PROT_RETRY_STATE, .PROT_STATE] ||| partMask [.lockLog] |||
  State.clrTrip_writes ||| State.enterRest_writes ||| State.ledgerState_writes ||| State.safeRun_writes |||
  State.setLk_writes ||| State.setProt_writes
theorem State.clearLockout_framed {W : Nat} {o s : State} (sess n : Nat) (hW : SubMask State.clearLockout_writes W)
    (hs : State.Framed W o s) :
    State.Framed W o (State.clearLockout s sess n) := by
  delta State.clearLockout
  repeat' first
    | with_reducible assumption
    | (with_reducible refine State.setFld_framed _ _ _ _ (hW.trans (by decide)) ?_)
    | (with_reducible refine State.setBit_framed _ _ _ _ (hW.trans (by decide)) ?_)
    | (with_reducible refine State.clrTrip_framed _ (hW.trans (by decide)) ?_)
    | (with_reducible refine State.enterRest_framed _ _ _ _ (hW.trans (by decide)) ?_)
    | (with_reducible refine State.ledgerState_framed _ _ _ (hW.trans (by decide)) ?_)
    | (with_reducible refine State.safeRun_framed _ (hW.trans (by decide)) ?_)
    | (with_reducible refine State.setLk_framed _ _ (hW.trans (by decide)) ?_)
    | (with_reducible refine State.setProt_framed _ _ (hW.trans (by decide)) ?_)
    | (fail_if_no_progress with_reducible refine State.Framed.mkOf ?_ rfl rfl rfl rfl rfl rfl rfl)

def State.clearDamaged_writes : Nat := regMask [.INS_TJ, .PROT_DAMAGED] ||| partMask [.damageLog] |||
  State.derate_writes ||| State.ledgerState_writes
theorem State.clearDamaged_framed {W : Nat} {o s : State} (sess n mask : Nat)
    (hW : SubMask State.clearDamaged_writes W) (hs : State.Framed W o s) :
    State.Framed W o (State.clearDamaged s sess n mask) := by
  delta State.clearDamaged
  repeat' first
    | with_reducible assumption
    | (with_reducible refine State.setFld_framed _ _ _ _ (hW.trans (by decide)) ?_)
    | (with_reducible refine State.setBit_framed _ _ _ _ (hW.trans (by decide)) ?_)
    | (with_reducible refine State.derate_framed _ (hW.trans (by decide)) ?_)
    | (with_reducible refine State.ledgerState_framed _ _ _ (hW.trans (by decide)) ?_)
    | (with_reducible refine State.Framed.foldl _ ?_ (fun t e h => ?_))
    | (fail_if_no_progress with_reducible refine State.Framed.mkOf ?_ rfl rfl rfl rfl rfl rfl rfl)

def State.sendCoord_writes : Nat := partMask [.tripSeq] ||| State.injSend_writes ||| State.send_writes
theorem State.sendCoord_framed {W : Nat} {o s : State} (es : List TripEntry) (hW : SubMask State.sendCoord_writes W)
    (hs : State.Framed W o s) :
    State.Framed W o (State.sendCoord s es) := by
  delta State.sendCoord
  repeat' first
    | with_reducible assumption
    | (with_reducible refine State.Framed.ite ?_ ?_)
    | (with_reducible refine State.injSend_framed _ _ _ _ (hW.trans (by decide)) ?_)
    | (with_reducible refine State.send_framed _ (hW.trans (by decide)) ?_)
    | (with_reducible refine State.Framed.foldl _ ?_ (fun t e h => ?_))
    | (fail_if_no_progress with_reducible refine State.Framed.mkOf ?_ rfl rfl rfl rfl rfl rfl rfl)

end Sys2Proof.Machine
end

