-- ==== Sys2Proof/Laws/FrameTrim.lean ====
section
/-! SUPPORT. Frames of Machine/Trim.lean: for each operation, all it can write. -/

namespace Sys2Proof.Machine

set_option Elab.async false
set_option linter.unusedTactic false
set_option linter.unreachableTactic false
set_option exponentiation.threshold 1200

def State.takePeriod_writes : Nat := regMask [.TRM_FLAGS, .TRM_LIVE] ||| State.setTrim_writes
theorem State.takePeriod_framed {W : Nat} {o s : State} (n : Nat) (hW : SubMask State.takePeriod_writes W)
    (hs : State.Framed W o s) :
    State.Framed W o (State.takePeriod s n) := by
  delta State.takePeriod
  repeat' first
    | with_reducible assumption
    | (with_reducible refine State.setSatFld_framed _ _ _ _ (hW.trans (by decide)) ?_)
    | (with_reducible refine State.flagIf_framed _ _ _ _ (hW.trans (by decide)) ?_)
    | (with_reducible refine State.setTrim_framed _ _ (hW.trans (by decide)) ?_)

def State.handover_writes : Nat := regMask [.TRM_FLAGS, .TRM_STATE] ||| State.enterVolt_writes |||
  State.setTrim_writes
theorem State.handover_framed {W : Nat} {o s : State} (n : Nat) (hW : SubMask State.handover_writes W)
    (hs : State.Framed W o s) :
    State.Framed W o (State.handover s n) := by
  delta State.handover
  repeat' first
    | with_reducible assumption
    | (with_reducible refine State.Framed.ite ?_ ?_)
    | (with_reducible refine State.setFld_framed _ _ _ _ (hW.trans (by decide)) ?_)
    | (with_reducible refine State.setBit_framed _ _ _ _ (hW.trans (by decide)) ?_)
    | (with_reducible refine State.flag_framed _ _ _ (hW.trans (by decide)) ?_)
    | (with_reducible refine State.enterVolt_framed _ (hW.trans (by decide)) ?_)
    | (with_reducible refine State.setTrim_framed _ _ (hW.trans (by decide)) ?_)

def State.showFrac_writes : Nat := regMask [.SHR_FRAC]
theorem State.showFrac_framed {W : Nat} {o s : State} (n : Nat) (hW : SubMask State.showFrac_writes W)
    (hs : State.Framed W o s) :
    State.Framed W o (State.showFrac s n) := by
  delta State.showFrac
  repeat' first
    | with_reducible assumption
    | (with_reducible refine State.setFld_framed _ _ _ _ (hW.trans (by decide)) ?_)

def State.reseedAll_writes : Nat := State.setTrim_writes
theorem State.reseedAll_framed {W : Nat} {o s : State} (itot : Rat) (ms : List Nat) (tg : List (Nat × Rat))
    (hW : SubMask State.reseedAll_writes W) (hs : State.Framed W o s) :
    State.Framed W o (State.reseedAll s itot ms tg) := by
  delta State.reseedAll
  repeat' first
    | with_reducible assumption
    | (with_reducible refine State.setTrim_framed _ _ (hW.trans (by decide)) ?_)
    | (with_reducible refine State.Framed.foldl _ ?_ (fun t e h => ?_))

def State.startMove_writes : Nat := regMask [.SHR_STATE] ||| partMask [.share] ||| State.setTrim_writes
theorem State.startMove_framed {W : Nat} {o s : State} (itot : Rat) (tg : List (Nat × Rat))
    (hW : SubMask State.startMove_writes W) (hs : State.Framed W o s) :
    State.Framed W o (State.startMove s itot tg) := by
  delta State.startMove
  repeat' first
    | with_reducible assumption
    | (with_reducible refine State.setBit_framed _ _ _ _ (hW.trans (by decide)) ?_)
    | (with_reducible refine State.setTrim_framed _ _ (hW.trans (by decide)) ?_)
    | (with_reducible refine State.Framed.foldl _ ?_ (fun t e h => ?_))
    | (fail_if_no_progress with_reducible refine State.Framed.mkOf ?_ rfl rfl rfl rfl rfl rfl rfl)

def State.advanceMove_writes : Nat := regMask [.SHR_STATE] ||| partMask [.share] ||| State.setTrim_writes
theorem State.advanceMove_framed {W : Nat} {o s : State} (ms : List Nat) (hW : SubMask State.advanceMove_writes W)
    (hs : State.Framed W o s) :
    State.Framed W o (State.advanceMove s ms) := by
  delta State.advanceMove
  repeat' first
    | with_reducible assumption
    | (with_reducible refine State.Framed.ite ?_ ?_)
    | (with_reducible refine State.setBit_framed _ _ _ _ (hW.trans (by decide)) ?_)
    | (with_reducible refine State.setTrim_framed _ _ (hW.trans (by decide)) ?_)
    | (with_reducible refine State.Framed.foldl _ ?_ (fun t e h => ?_))
    | (fail_if_no_progress with_reducible refine State.Framed.mkOf ?_ rfl rfl rfl rfl rfl rfl rfl)

def State.references_writes : Nat := regMask [.SHR_STATE, .TRM_FLAGS, .TRM_LIVE] ||| State.event_writes |||
  State.setTrim_writes
theorem State.references_framed {W : Nat} {o s : State} (itot : Rat) (ms : List Nat)
    (hW : SubMask State.references_writes W) (hs : State.Framed W o s) :
    State.Framed W o (State.references s itot ms) := by
  delta State.references
  repeat' first
    | with_reducible assumption
    | (with_reducible refine State.Framed.ite ?_ ?_)
    | (with_reducible refine State.setSatFld_framed _ _ _ _ (hW.trans (by decide)) ?_)
    | (with_reducible refine State.setBit_framed _ _ _ _ (hW.trans (by decide)) ?_)
    | (with_reducible refine State.flagIf_framed _ _ _ _ (hW.trans (by decide)) ?_)
    | (with_reducible refine State.event_framed _ _ _ (hW.trans (by decide)) ?_)
    | (with_reducible refine State.setTrim_framed _ _ (hW.trans (by decide)) ?_)
    | (with_reducible refine State.Framed.foldl _ ?_ (fun t e h => ?_))

def State.sendVcmd_writes : Nat := regMask [.TRM_FLAGS, .TRM_LOOP, .TRM_STATE] ||| State.setTrim_writes
theorem State.sendVcmd_framed {W : Nat} {o s : State} (n : Nat) (v lim : Rat) (hW : SubMask State.sendVcmd_writes W)
    (hs : State.Framed W o s) :
    State.Framed W o (State.sendVcmd s n v lim) := by
  delta State.sendVcmd
  repeat' first
    | with_reducible assumption
    | (with_reducible refine State.setSFld_framed _ _ _ _ (hW.trans (by decide)) ?_)
    | (with_reducible refine State.setBit_framed _ _ _ _ (hW.trans (by decide)) ?_)
    | (with_reducible refine State.flagIf_framed _ _ _ _ (hW.trans (by decide)) ?_)
    | (with_reducible refine State.setTrim_framed _ _ (hW.trans (by decide)) ?_)

def State.shareUpdate_writes : Nat := regMask [.TRM_FLAGS, .TRM_LIVE] ||| State.sendVcmd_writes |||
  State.setTrim_writes
theorem State.shareUpdate_framed {W : Nat} {o s : State} (n : Nat) (hW : SubMask State.shareUpdate_writes W)
    (hs : State.Framed W o s) :
    State.Framed W o (State.shareUpdate s n) := by
  delta State.shareUpdate
  repeat' first
    | with_reducible assumption
    | (with_reducible refine State.setSatFld_framed _ _ _ _ (hW.trans (by decide)) ?_)
    | (with_reducible refine State.Framed.ite ?_ ?_)
    | (with_reducible refine State.flagIf_framed _ _ _ _ (hW.trans (by decide)) ?_)
    | (with_reducible refine State.sendVcmd_framed _ _ _ (hW.trans (by decide)) ?_)
    | (with_reducible refine State.setTrim_framed _ _ (hW.trans (by decide)) ?_)

def State.centre_writes : Nat := regMask [.TRM_LOOP] ||| State.setTrim_writes
theorem State.centre_framed {W : Nat} {o s : State} (ms : List Nat) (hW : SubMask State.centre_writes W)
    (hs : State.Framed W o s) :
    State.Framed W o (State.centre s ms) := by
  delta State.centre
  repeat' first
    | with_reducible assumption
    | (with_reducible refine State.Framed.ite ?_ ?_)
    | (with_reducible refine State.setSatFld_framed _ _ _ _ (hW.trans (by decide)) ?_)
    | (with_reducible refine State.setTrim_framed _ _ (hW.trans (by decide)) ?_)
    | (with_reducible refine State.Framed.foldl _ ?_ (fun t e h => ?_))

def State.shareBoundary_writes : Nat := regMask [.SHR_ITOT, .SHR_STATE] ||| partMask [.share, .tg] |||
  State.advanceMove_writes ||| State.centre_writes ||| State.handover_writes ||| State.references_writes |||
  State.reseedAll_writes ||| State.shareUpdate_writes ||| State.showFrac_writes ||| State.startMove_writes |||
  State.takePeriod_writes ||| State.vsetTarget_writes
theorem State.shareBoundary_framed {W : Nat} {o s : State}  (hW : SubMask State.shareBoundary_writes W)
    (hs : State.Framed W o s) :
    State.Framed W o (State.shareBoundary s) := by
  delta State.shareBoundary
  repeat' first
    | with_reducible assumption
    | (with_reducible refine State.vsetTarget_framed _ (hW.trans (by decide)) ?_)
    | (with_reducible refine State.Framed.ite ?_ ?_)
    | (with_reducible refine State.setFld_framed _ _ _ _ (hW.trans (by decide)) ?_)
    | (with_reducible refine State.setSatFld_framed _ _ _ _ (hW.trans (by decide)) ?_)
    | (with_reducible refine State.setBit_framed _ _ _ _ (hW.trans (by decide)) ?_)
    | (with_reducible refine State.advanceMove_framed _ (hW.trans (by decide)) ?_)
    | (with_reducible refine State.centre_framed _ (hW.trans (by decide)) ?_)
    | (with_reducible refine State.handover_framed _ (hW.trans (by decide)) ?_)
    | (with_reducible refine State.references_framed _ _ (hW.trans (by decide)) ?_)
    | (with_reducible refine State.reseedAll_framed _ _ _ (hW.trans (by decide)) ?_)
    | (with_reducible refine State.shareUpdate_framed _ (hW.trans (by decide)) ?_)
    | (with_reducible refine State.showFrac_framed _ (hW.trans (by decide)) ?_)
    | (with_reducible refine State.startMove_framed _ _ (hW.trans (by decide)) ?_)
    | (with_reducible refine State.takePeriod_framed _ (hW.trans (by decide)) ?_)
    | (with_reducible refine State.Framed.foldl _ ?_ (fun t e h => ?_))
    | (fail_if_no_progress with_reducible refine State.Framed.mkOf ?_ rfl rfl rfl rfl rfl rfl rfl)

def State.shareEnWritten_writes : Nat := regMask [.TRM_LIVE, .TRM_STATE] ||| State.enterVolt_writes |||
  State.setTrim_writes ||| State.shareOut_writes ||| State.shareStart_writes
theorem State.shareEnWritten_framed {W : Nat} {o s : State} (n : Nat) (hW : SubMask State.shareEnWritten_writes W)
    (hs : State.Framed W o s) :
    State.Framed W o (State.shareEnWritten s n) := by
  delta State.shareEnWritten
  repeat' first
    | with_reducible assumption
    | (with_reducible refine State.shareStart_framed _ (hW.trans (by decide)) ?_)
    | (with_reducible refine State.shareOut_framed _ (hW.trans (by decide)) ?_)
    | (with_reducible refine State.Framed.ite ?_ ?_)
    | (with_reducible refine State.setFld_framed _ _ _ _ (hW.trans (by decide)) ?_)
    | (with_reducible refine State.setBit_framed _ _ _ _ (hW.trans (by decide)) ?_)
    | (with_reducible refine State.enterVolt_framed _ (hW.trans (by decide)) ?_)
    | (with_reducible refine State.setTrim_framed _ _ (hW.trans (by decide)) ?_)

def State.trimCompare_writes : Nat := regMask [.TRM_FLAGS] ||| State.setAlmCh_writes ||| State.setTrim_writes
theorem State.trimCompare_framed {W : Nat} {o s : State} (n : Nat) (hW : SubMask State.trimCompare_writes W)
    (hs : State.Framed W o s) :
    State.Framed W o (State.trimCompare s n) := by
  delta State.trimCompare
  repeat' first
    | with_reducible assumption
    | (with_reducible refine State.Framed.ite ?_ ?_)
    | (with_reducible refine State.flag_framed _ _ _ (hW.trans (by decide)) ?_)
    | (with_reducible refine State.setAlmCh_framed _ _ (hW.trans (by decide)) ?_)
    | (with_reducible refine State.setTrim_framed _ _ (hW.trans (by decide)) ?_)

end Sys2Proof.Machine
end

