-- ==== Sys2Proof/Laws/FrameFabric.lean ====
section
/-! SUPPORT. Frames of Machine/Fabric.lean: for each operation, all it can write. -/

namespace Sys2Proof.Machine

set_option Elab.async false
set_option linter.unusedTactic false
set_option linter.unreachableTactic false
set_option exponentiation.threshold 1200

def State.setUnit_writes : Nat := partMask [.units]
theorem State.setUnit_framed {W : Nat} {o s : State} (key : Nat) (u : UnitRec) (hW : SubMask State.setUnit_writes W)
    (hs : State.Framed W o s) :
    State.Framed W o (State.setUnit s key u) := by
  delta State.setUnit
  repeat' first
    | with_reducible assumption
    | (fail_if_no_progress with_reducible refine State.Framed.mkOf ?_ rfl rfl rfl rfl rfl rfl rfl)

def State.showRestarting_writes : Nat := regMask [.KEY_FAB_STATE]
theorem State.showRestarting_framed {W : Nat} {o s : State}  (hW : SubMask State.showRestarting_writes W)
    (hs : State.Framed W o s) :
    State.Framed W o (State.showRestarting s) := by
  delta State.showRestarting
  repeat' first
    | with_reducible assumption
    | (with_reducible refine State.setFld_framed _ _ _ _ (hW.trans (by decide)) ?_)

def State.errRecordAt_writes : Nat := regMask [.KEY_ERR_FLAGS, .KEY_ERR_SEQ] ||| memMask ||| State.ledger_writes |||
  State.setWords_writes
theorem State.errRecordAt_framed {W : Nat} {o s : State} (cls level : Nat) (x : Site) (cause count sec ns detail action attempt : Nat)
    (hW : SubMask State.errRecordAt_writes W) (hs : State.Framed W o s) :
    State.Framed W o (State.errRecordAt s cls level x cause count sec ns detail action attempt) := by
  delta State.errRecordAt
  repeat' first
    | with_reducible assumption
    | (with_reducible refine State.setReg_framed _ _ _ _ (hW.trans (by decide)) ?_)
    | (with_reducible refine State.flag_framed _ _ _ (hW.trans (by decide)) ?_)
    | (with_reducible refine State.ledger_framed _ _ (hW.trans (by decide)) ?_)
    | (with_reducible refine State.setWords_framed _ _ (hW.trans (by decide)) ?_)
    | split

def State.errRecord_writes : Nat := State.errRecordAt_writes
theorem State.errRecord_framed {W : Nat} {o s : State} (cls level : Nat) (x : Site) (cause detail action attempt : Nat)
    (hW : SubMask State.errRecord_writes W) (hs : State.Framed W o s) :
    State.Framed W o (State.errRecord s cls level x cause detail action attempt) := by
  delta State.errRecord
  repeat' first
    | with_reducible assumption
    | (with_reducible refine State.errRecordAt_framed _ _ _ _ _ _ _ _ _ _ (hW.trans (by decide)) ?_)

def State.safeEnter_writes : Nat := regMask [.KEY_FAB_STATE, .KEY_SAFE_CAUSE] ||| State.enterRest_writes |||
  State.errRecord_writes ||| State.injEnd_writes ||| State.recTrigger_writes ||| State.safeRun_writes
theorem State.safeEnter_framed {W : Nat} {o s : State} (x : Site) (cause detail : Nat)
    (hW : SubMask State.safeEnter_writes W) (hs : State.Framed W o s) :
    State.Framed W o (State.safeEnter s x cause detail) := by
  delta State.safeEnter
  repeat' first
    | with_reducible assumption
    | (with_reducible refine State.Framed.ite ?_ ?_)
    | (with_reducible refine State.setFld_framed _ _ _ _ (hW.trans (by decide)) ?_)
    | (with_reducible refine State.enterRest_framed _ _ _ _ (hW.trans (by decide)) ?_)
    | (with_reducible refine State.errRecord_framed _ _ _ _ _ _ _ (hW.trans (by decide)) ?_)
    | (with_reducible refine State.injEnd_framed _ (hW.trans (by decide)) ?_)
    | (with_reducible refine State.recTrigger_framed _ _ (hW.trans (by decide)) ?_)
    | (with_reducible refine State.safeRun_framed _ (hW.trans (by decide)) ?_)
    | (with_reducible refine State.Framed.foldl _ ?_ (fun t e h => ?_))

def State.correctedError_writes : Nat := partMask [.fresh, .tiles]
theorem State.correctedError_framed {W : Nat} {o s : State} (x : Site) (cause : Nat)
    (hW : SubMask State.correctedError_writes W) (hs : State.Framed W o s) :
    State.Framed W o (State.correctedError s x cause).1 := by
  delta State.correctedError
  repeat' first
    | with_reducible assumption
    | intro x
    | lift_lets
    | split
    | (fail_if_no_progress with_reducible refine State.Framed.mkOf ?_ rfl rfl rfl rfl rfl rfl rfl)

def State.showRetired_writes : Nat := regMask [.KEY_FAB_STATE, .KEY_RETIRED_HI, .KEY_RETIRED_LO] |||
  State.showRestarting_writes
theorem State.showRetired_framed {W : Nat} {o s : State} (x : Site) (hW : SubMask State.showRetired_writes W)
    (hs : State.Framed W o s) :
    State.Framed W o (State.showRetired s x) := by
  delta State.showRetired
  repeat' first
    | with_reducible assumption
    | (with_reducible refine State.Framed.ite ?_ ?_)
    | (with_reducible refine State.setFld_framed _ _ _ _ (hW.trans (by decide)) ?_)
    | (with_reducible refine State.setReg_framed _ _ _ _ (hW.trans (by decide)) ?_)
    | (with_reducible refine State.showRestarting_framed (hW.trans (by decide)) ?_)
    | split
    | (intro x; refine State.Framed.cut (W := W) (o := o) (x := x) ?_ ?_; (on_goal 1 => unfold x); (on_goal 2 => (intro _; clear_value x)))
    | intro x

def State.retireUnit_writes : Nat := regMask [.KEY_FAB_STATE, .KEY_RETIRED_HI, .KEY_RETIRED_LO] |||
  State.errRecord_writes ||| State.safeEnter_writes ||| State.setUnit_writes ||| State.showRestarting_writes |||
  State.showRetired_writes
theorem State.retireUnit_framed {W : Nat} {o s : State} (x : Site) (cause detail attempt : Nat)
    (hW : SubMask State.retireUnit_writes W) (hs : State.Framed W o s) :
    State.Framed W o (State.retireUnit s x cause detail attempt).1 := by
  delta State.retireUnit
  repeat' first
    | with_reducible assumption
    | (with_reducible refine State.Framed.ite ?_ ?_)
    | (with_reducible refine State.showRetired_framed _ (hW.trans (by decide)) ?_)
    | (with_reducible refine State.setReg_framed _ _ _ _ (hW.trans (by decide)) ?_)
    | (with_reducible refine State.setFld_framed _ _ _ _ (hW.trans (by decide)) ?_)
    | (with_reducible refine State.errRecord_framed _ _ _ _ _ _ _ (hW.trans (by decide)) ?_)
    | (with_reducible refine State.safeEnter_framed _ _ _ (hW.trans (by decide)) ?_)
    | (with_reducible refine State.setUnit_framed _ _ (hW.trans (by decide)) ?_)
    | (with_reducible refine State.showRestarting_framed (hW.trans (by decide)) ?_)
    | (intro x; refine State.Framed.cut (W := W) (o := o) (x := x) ?_ ?_; (on_goal 1 => unfold x); (on_goal 2 => (intro _; clear_value x)))
    | intro x
    | lift_lets
    | split

def State.containUnit_writes : Nat := regMask [.KEY_ERR_FLAGS] ||| State.errRecord_writes |||
  State.retireUnit_writes ||| State.safeEnter_writes ||| State.setUnit_writes ||| State.showRestarting_writes
theorem State.containUnit_framed {W : Nat} {o s : State} (x : Site) (cause detail : Nat)
    (hW : SubMask State.containUnit_writes W) (hs : State.Framed W o s) :
    State.Framed W o (State.containUnit s x cause detail).1 := by
  delta State.containUnit
  repeat' first
    | with_reducible assumption
    | (with_reducible refine State.flag_framed _ _ _ (hW.trans (by decide)) ?_)
    | (with_reducible refine State.errRecord_framed _ _ _ _ _ _ _ (hW.trans (by decide)) ?_)
    | (with_reducible refine State.retireUnit_framed _ _ _ _ (hW.trans (by decide)) ?_)
    | (with_reducible refine State.safeEnter_framed _ _ _ (hW.trans (by decide)) ?_)
    | (with_reducible refine State.setUnit_framed _ _ (hW.trans (by decide)) ?_)
    | (with_reducible refine State.showRestarting_framed (hW.trans (by decide)) ?_)
    | (intro x; refine State.Framed.cut (W := W) (o := o) (x := x) ?_ ?_; (on_goal 1 => unfold x); (on_goal 2 => (intro _; clear_value x)))
    | intro x
    | lift_lets
    | split

end Sys2Proof.Machine
end

