-- ==== Sys2Proof/Laws/FrameMeasure.lean ====
section
/-! SUPPORT. Frames of Machine/Measure.lean: for each operation, all it can write. -/

namespace Sys2Proof.Machine

set_option Elab.async false
set_option linter.unusedTactic false
set_option linter.unreachableTactic false
set_option exponentiation.threshold 1200

def State.weffStep_writes : Nat := regMask [.MEAS_FLAGS] ||| State.setStrm_writes
theorem State.weffStep_framed {W : Nat} {o s : State} (n : Nat) (hW : SubMask State.weffStep_writes W)
    (hs : State.Framed W o s) :
    State.Framed W o (State.weffStep s n) := by
  delta State.weffStep
  repeat' first
    | with_reducible assumption
    | (with_reducible refine State.Framed.ite ?_ ?_)
    | (with_reducible refine State.flagIf_framed _ _ _ _ (hW.trans (by decide)) ?_)
    | (with_reducible refine State.setStrm_framed _ _ (hW.trans (by decide)) ?_)

def State.learnZero_writes : Nat := regMask [.MEAS_FLAGS, .MEAS_ZERO] ||| State.setStrm_writes
theorem State.learnZero_framed {W : Nat} {o s : State} (n st : Nat) (hW : SubMask State.learnZero_writes W)
    (hs : State.Framed W o s) :
    State.Framed W o (State.learnZero s n st) := by
  delta State.learnZero
  repeat' first
    | with_reducible assumption
    | (with_reducible refine State.Framed.ite ?_ ?_)
    | (with_reducible refine State.setSatFld_framed _ _ _ _ (hW.trans (by decide)) ?_)
    | (with_reducible refine State.flag_framed _ _ _ (hW.trans (by decide)) ?_)
    | (with_reducible refine State.setStrm_framed _ _ (hW.trans (by decide)) ?_)

def State.zeroStep_writes : Nat := State.learnZero_writes ||| State.setStrm_writes
theorem State.zeroStep_framed {W : Nat} {o s : State} (n : Nat) (hW : SubMask State.zeroStep_writes W)
    (hs : State.Framed W o s) :
    State.Framed W o (State.zeroStep s n) := by
  delta State.zeroStep
  repeat' first
    | with_reducible assumption
    | (with_reducible refine State.Framed.ite ?_ ?_)
    | (with_reducible refine State.learnZero_framed _ _ (hW.trans (by decide)) ?_)
    | (with_reducible refine State.setStrm_framed _ _ (hW.trans (by decide)) ?_)

def State.winFallback_writes : Nat := regMask [.MEAS_GFLAGS, .MEAS_WIN_STATE] ||| partMask [.win]
theorem State.winFallback_framed {W : Nat} {o s : State}  (hW : SubMask State.winFallback_writes W)
    (hs : State.Framed W o s) :
    State.Framed W o (State.winFallback s) := by
  delta State.winFallback
  repeat' first
    | with_reducible assumption
    | (with_reducible refine State.Framed.ite ?_ ?_)
    | (with_reducible refine State.setFld_framed _ _ _ _ (hW.trans (by decide)) ?_)
    | (with_reducible refine State.setBit_framed _ _ _ _ (hW.trans (by decide)) ?_)
    | (with_reducible refine State.flag_framed _ _ _ (hW.trans (by decide)) ?_)
    | (intro x; refine State.Framed.cut (W := W) (o := o) (x := x) ?_ ?_; (on_goal 1 => unfold x); (on_goal 2 => (intro _; clear_value x)))
    | intro x
    | split
    | (fail_if_no_progress with_reducible refine State.Framed.mkOf ?_ rfl rfl rfl rfl rfl rfl rfl)

def State.tb2Qual_writes : Nat := regMask [.MEAS_WIN_STATE] ||| partMask [.win] ||| State.winFallback_writes
theorem State.tb2Qual_framed {W : Nat} {o s : State} (q : Bool) (hW : SubMask State.tb2Qual_writes W)
    (hs : State.Framed W o s) :
    State.Framed W o (State.tb2Qual s q) := by
  delta State.tb2Qual
  repeat' first
    | with_reducible assumption
    | (with_reducible refine State.Framed.ite ?_ ?_)
    | (with_reducible refine State.setFld_framed _ _ _ _ (hW.trans (by decide)) ?_)
    | (with_reducible refine State.setBit_framed _ _ _ _ (hW.trans (by decide)) ?_)
    | (with_reducible refine State.winFallback_framed (hW.trans (by decide)) ?_)
    | (fail_if_no_progress with_reducible refine State.Framed.mkOf ?_ rfl rfl rfl rfl rfl rfl rfl)

def State.showRequal_writes : Nat := regMask [.MEAS_WIN_STATE]
theorem State.showRequal_framed {W : Nat} {o s : State}  (hW : SubMask State.showRequal_writes W)
    (hs : State.Framed W o s) :
    State.Framed W o (State.showRequal s) := by
  delta State.showRequal
  repeat' first
    | with_reducible assumption
    | (with_reducible refine State.setFld_framed _ _ _ _ (hW.trans (by decide)) ?_)
    | split

def State.gridBoundary_writes : Nat := regMask [.MEAS_WIN_STATE] ||| partMask [.win] ||| State.showRequal_writes |||
  State.syncEvent_writes ||| State.tb2Qual_writes ||| State.trigEvent_writes
theorem State.gridBoundary_framed {W : Nat} {o s : State}  (hW : SubMask State.gridBoundary_writes W)
    (hs : State.Framed W o s) :
    State.Framed W o (State.gridBoundary s) := by
  delta State.gridBoundary
  repeat' first
    | with_reducible assumption
    | (with_reducible refine State.setFld_framed _ _ _ _ (hW.trans (by decide)) ?_)
    | (with_reducible refine State.showRequal_framed (hW.trans (by decide)) ?_)
    | (with_reducible refine State.syncEvent_framed _ (hW.trans (by decide)) ?_)
    | (with_reducible refine State.tb2Qual_framed _ (hW.trans (by decide)) ?_)
    | (with_reducible refine State.trigEvent_framed _ (hW.trans (by decide)) ?_)
    | split
    | (fail_if_no_progress with_reducible refine State.Framed.mkOf ?_ rfl rfl rfl rfl rfl rfl rfl)

def State.cycleWatch_writes : Nat := partMask [.win] ||| State.tb2Qual_writes
theorem State.cycleWatch_framed {W : Nat} {o s : State}  (hW : SubMask State.cycleWatch_writes W)
    (hs : State.Framed W o s) :
    State.Framed W o (State.cycleWatch s) := by
  delta State.cycleWatch
  repeat' first
    | with_reducible assumption
    | (with_reducible refine State.tb2Qual_framed _ (hW.trans (by decide)) ?_)
    | split
    | (fail_if_no_progress with_reducible refine State.Framed.mkOf ?_ rfl rfl rfl rfl rfl rfl rfl)

def State.ronPoint_writes : Nat := State.setAlmCh_writes
theorem State.ronPoint_framed {W : Nat} {o s : State} (n : Nat) (hW : SubMask State.ronPoint_writes W)
    (hs : State.Framed W o s) :
    State.Framed W o (State.ronPoint s n) := by
  delta State.ronPoint
  repeat' first
    | with_reducible assumption
    | (with_reducible refine State.Framed.ite ?_ ?_)
    | (with_reducible refine State.setAlmCh_framed _ _ (hW.trans (by decide)) ?_)

def State.closeWindow_writes : Nat := regMask [.MEAS_WIN, .MEAS_WSEQ] ||| partMask [.win] ||| memMask |||
  State.ronPoint_writes ||| State.setStrm_writes ||| State.setWords_writes
theorem State.closeWindow_framed {W : Nat} {o s : State} (w : Win) (e : Int) (short : Bool) (cyc : Nat) (n : Nat)
    (hW : SubMask State.closeWindow_writes W) (hs : State.Framed W o s) :
    State.Framed W o (State.closeWindow s w e short cyc n) := by
  delta State.closeWindow
  repeat' first
    | with_reducible assumption
    | (with_reducible refine State.Framed.ite ?_ ?_)
    | (with_reducible refine State.setReg_framed _ _ _ _ (hW.trans (by decide)) ?_)
    | (with_reducible refine State.ronPoint_framed _ (hW.trans (by decide)) ?_)
    | (with_reducible refine State.setStrm_framed _ _ (hW.trans (by decide)) ?_)
    | (with_reducible refine State.setWords_framed _ _ (hW.trans (by decide)) ?_)
    | (with_reducible refine State.Framed.foldl _ ?_ (fun t e h => ?_))

end Sys2Proof.Machine
end

