-- ==== Sys2Proof/Laws/FrameCells.lean ====
section
/-! SUPPORT. Frames of Machine/Cells.lean: for each operation, all it can write. -/

namespace Sys2Proof.Machine

set_option Elab.async false
set_option linter.unusedTactic false
set_option linter.unreachableTactic false
set_option exponentiation.threshold 1200

def State.setCell_writes : Nat := partMask [.cells]
theorem State.setCell_framed {W : Nat} {o s : State} (k : Nat) (c : Cell) (hW : SubMask State.setCell_writes W)
    (hs : State.Framed W o s) :
    State.Framed W o (State.setCell s k c) := by
  delta State.setCell
  repeat' first
    | with_reducible assumption
    | (fail_if_no_progress with_reducible refine State.Framed.mkOf ?_ rfl rfl rfl rfl rfl rfl rfl)

def State.setStrE_writes : Nat := partMask [.strEst]
theorem State.setStrE_framed {W : Nat} {o s : State} (n : Nat) (x : StrEst) (hW : SubMask State.setStrE_writes W)
    (hs : State.Framed W o s) :
    State.Framed W o (State.setStrE s n x) := by
  delta State.setStrE
  repeat' first
    | with_reducible assumption
    | (fail_if_no_progress with_reducible refine State.Framed.mkOf ?_ rfl rfl rfl rfl rfl rfl rfl)

def State.setEntry_writes : Nat := partMask [.est] ||| State.setWords_writes ||| memMask
theorem State.setEntry_framed {W : Nat} {o s : State} (k e : Nat) (x : ImpEntry)
    (hW : SubMask State.setEntry_writes W) (hs : State.Framed W o s) :
    State.Framed W o (State.setEntry s k e x) := by
  delta State.setEntry
  repeat' first
    | with_reducible assumption
    | (with_reducible refine State.Framed.ite ?_ ?_)
    | (with_reducible refine State.setWords_framed _ _ (hW.trans (by decide)) ?_)
    | (intro x; refine State.Framed.cut (W := W) (o := o) (x := x) ?_ ?_; (on_goal 1 => unfold x); (on_goal 2 => (intro _; clear_value x)))
    | (fail_if_no_progress with_reducible refine State.Framed.mkOf ?_ rfl rfl rfl rfl rfl rfl rfl)

def State.propagate_writes : Nat := State.setEntry_writes
theorem State.propagate_framed {W : Nat} {o s : State} (k t sb : Nat) (hW : SubMask State.propagate_writes W)
    (hs : State.Framed W o s) :
    State.Framed W o (State.propagate s k t sb) := by
  delta State.propagate
  repeat' first
    | with_reducible assumption
    | (with_reducible refine State.setEntry_framed _ _ _ (hW.trans (by decide)) ?_)
    | (with_reducible refine State.Framed.foldl _ ?_ (fun t e h => ?_))
    | (intro x; clear_value x)
    | lift_lets
    | split

def State.seedTable_writes : Nat := memMask ||| State.setWords_writes
theorem State.seedTable_framed {W : Nat} {o s : State} (k : Nat) (hW : SubMask State.seedTable_writes W)
    (hs : State.Framed W o s) :
    State.Framed W o (State.seedTable s k) := by
  delta State.seedTable
  repeat' first
    | with_reducible assumption
    | (with_reducible refine State.setWords_framed _ _ (hW.trans (by decide)) ?_)

def State.putCell_writes : Nat := memMask ||| State.setCell_writes ||| State.setWords_writes
theorem State.putCell_framed {W : Nat} {o s : State} (k : Nat) (c : Cell) (hW : SubMask State.putCell_writes W)
    (hs : State.Framed W o s) :
    State.Framed W o (State.putCell s k c) := by
  delta State.putCell
  repeat' first
    | with_reducible assumption
    | (with_reducible refine State.setCell_framed _ _ (hW.trans (by decide)) ?_)
    | (with_reducible refine State.setWords_framed _ _ (hW.trans (by decide)) ?_)

def State.dropAnchor_writes : Nat := regMask [.LRN_FLAGS]
theorem State.dropAnchor_framed {W : Nat} {o s : State} (k : Nat) (c : Cell) (hW : SubMask State.dropAnchor_writes W)
    (hs : State.Framed W o s) :
    State.Framed W o (State.dropAnchor s k c).1 := by
  delta State.dropAnchor
  repeat' first
    | with_reducible assumption
    | (with_reducible refine State.flagIf_framed _ _ _ _ (hW.trans (by decide)) ?_)

def State.seeding_writes : Nat := State.dropAnchor_writes
theorem State.seeding_framed {W : Nat} {o s : State} (k : Nat) (c : Cell) (hW : SubMask State.seeding_writes W)
    (hs : State.Framed W o s) :
    State.Framed W o (State.seeding s k c).1 := by
  delta State.seeding
  repeat' first
    | with_reducible assumption
    | (with_reducible refine State.dropAnchor_framed _ _ (hW.trans (by decide)) ?_)

def State.freshCell_writes : Nat := State.seedTable_writes
theorem State.freshCell_framed {W : Nat} {o s : State} (k : Nat) (c : Cell) (hW : SubMask State.freshCell_writes W)
    (hs : State.Framed W o s) :
    State.Framed W o (State.freshCell s k c).1 := by
  delta State.freshCell
  repeat' first
    | with_reducible assumption
    | (with_reducible refine State.seedTable_framed _ (hW.trans (by decide)) ?_)

def State.restoreTable_writes : Nat := memMask ||| State.seedTable_writes ||| State.setWords_writes
theorem State.restoreTable_framed {W : Nat} {o s : State} (k : Nat) (hW : SubMask State.restoreTable_writes W)
    (hs : State.Framed W o s) :
    State.Framed W o (State.restoreTable s k) := by
  delta State.restoreTable
  repeat' first
    | with_reducible assumption
    | (with_reducible refine State.seedTable_framed _ (hW.trans (by decide)) ?_)
    | (with_reducible refine State.setWords_framed _ _ (hW.trans (by decide)) ?_)
    | (with_reducible refine State.Framed.foldl _ ?_ (fun t e h => ?_))

def State.restoreCell_writes : Nat := regMask [.EST_FLAGS, .LRN_FLAGS] ||| State.freshCell_writes |||
  State.seeding_writes ||| State.putCell_writes ||| State.restoreTable_writes
theorem State.restoreCell_framed {W : Nat} {o s : State} (k : Nat) (hW : SubMask State.restoreCell_writes W)
    (hs : State.Framed W o s) : State.Framed W o (s.restoreCell k) := by
  have hf (t : State) (ht : State.Framed W o t) : State.Framed W o
      (((((t.freshCell k (t.cell k)).1.seeding k (t.freshCell k (t.cell k)).2).1.putCell k
        ((t.freshCell k (t.cell k)).1.seeding k (t.freshCell k (t.cell k)).2).2))) :=
    State.putCell_framed _ _ (hW.trans (by decide)) (State.seeding_framed _ _ (hW.trans (by decide))
      (State.freshCell_framed _ _ (hW.trans (by decide)) ht))
  unfold State.restoreCell
  split
  · exact hs
  · split
    · exact hf _ hs
    · dsimp only
      split
      · refine State.putCell_framed _ _ (hW.trans (by decide)) (State.flagIf_framed _ _ _ _ (hW.trans (by decide)) ?_)
        exact State.restoreTable_framed _ (hW.trans (by decide)) hs
      · exact hf _ (State.flag_framed _ _ _ (hW.trans (by decide)) hs)

def State.swapCells_writes : Nat := regMask [.EST_FLAGS] ||| partMask [.cells, .keptNodes] |||
  State.dropAnchor_writes ||| State.freshCell_writes ||| State.putCell_writes ||| State.seeding_writes
theorem State.swapCells_framed {W : Nat} {o s : State} (n p : Nat) (hW : SubMask State.swapCells_writes W)
    (hs : State.Framed W o s) :
    State.Framed W o (State.swapCells s n p) := by
  delta State.swapCells
  repeat' first
    | with_reducible assumption
    | (with_reducible refine State.Framed.ite ?_ ?_)
    | (with_reducible refine State.flag_framed _ _ _ (hW.trans (by decide)) ?_)
    | (with_reducible refine State.dropAnchor_framed _ _ (hW.trans (by decide)) ?_)
    | (with_reducible refine State.freshCell_framed _ _ (hW.trans (by decide)) ?_)
    | (with_reducible refine State.putCell_framed _ _ (hW.trans (by decide)) ?_)
    | (with_reducible refine State.seeding_framed _ _ (hW.trans (by decide)) ?_)
    | (with_reducible refine State.Framed.foldl _ ?_ (fun t e h => ?_))
    | (fail_if_no_progress with_reducible refine State.Framed.mkOf ?_ rfl rfl rfl rfl rfl rfl rfl)

def State.cellsAdmitted_writes : Nat := State.restoreCell_writes ||| State.swapCells_writes
theorem State.cellsAdmitted_framed {W : Nat} {o s : State} (n p : Nat) (changed : Bool)
    (hW : SubMask State.cellsAdmitted_writes W) (hs : State.Framed W o s) :
    State.Framed W o (State.cellsAdmitted s n p changed) := by
  delta State.cellsAdmitted
  repeat' first
    | with_reducible assumption
    | (with_reducible refine State.Framed.ite ?_ ?_)
    | (with_reducible refine State.restoreCell_framed _ (hW.trans (by decide)) ?_)
    | (with_reducible refine State.swapCells_framed _ _ (hW.trans (by decide)) ?_)
    | (with_reducible refine State.Framed.foldl _ ?_ (fun t e h => ?_))

def State.mapCells_writes : Nat := regMask [.HR_NODE] ||| State.putCell_writes
theorem State.mapCells_framed {W : Nat} {o s : State}  (hW : SubMask State.mapCells_writes W)
    (hs : State.Framed W o s) :
    State.Framed W o (State.mapCells s) := by
  delta State.mapCells
  repeat' first
    | with_reducible assumption
    | (with_reducible refine State.setFld_framed _ _ _ _ (hW.trans (by decide)) ?_)
    | (with_reducible refine State.putCell_framed _ _ (hW.trans (by decide)) ?_)
    | (with_reducible refine State.Framed.foldl _ ?_ (fun t e h => ?_))

end Sys2Proof.Machine
end

