-- ==== Sys2Proof/Laws/FrameHedgerow.lean ====
section
/-! SUPPORT. Frames of Machine/Hedgerow.lean: for each operation, all it can write. -/

namespace Sys2Proof.Machine

set_option Elab.async false
set_option linter.unusedTactic false
set_option linter.unreachableTactic false
set_option exponentiation.threshold 1200

def State.showChain_writes : Nat := regMask [.HR_STATE]
theorem State.showChain_framed {W : Nat} {o s : State} (n : Nat) (hW : SubMask State.showChain_writes W)
    (hs : State.Framed W o s) :
    State.Framed W o (State.showChain s n) := by
  delta State.showChain
  repeat' first
    | with_reducible assumption
    | (with_reducible refine State.setFld_framed _ _ _ _ (hW.trans (by decide)) ?_)

def State.setNstate_writes : Nat := regMask [.HR_NODE] ||| State.judge_writes ||| State.showChain_writes
theorem State.setNstate_framed {W : Nat} {o s : State} (n p st : Nat) (hW : SubMask State.setNstate_writes W)
    (hs : State.Framed W o s) :
    State.Framed W o (State.setNstate s n p st) := by
  delta State.setNstate
  repeat' first
    | with_reducible assumption
    | (with_reducible refine State.Framed.ite ?_ ?_)
    | (with_reducible refine State.judge_framed _ (hW.trans (by decide)) ?_)
    | (with_reducible refine State.setFld_framed _ _ _ _ (hW.trans (by decide)) ?_)
    | (with_reducible refine State.showChain_framed _ (hW.trans (by decide)) ?_)

def State.setHstate_writes : Nat := regMask [.HR_STATE] ||| State.setChain_writes
theorem State.setHstate_framed {W : Nat} {o s : State} (n st : Nat) (hW : SubMask State.setHstate_writes W)
    (hs : State.Framed W o s) :
    State.Framed W o (State.setHstate s n st) := by
  delta State.setHstate
  repeat' first
    | with_reducible assumption
    | (with_reducible refine State.setFld_framed _ _ _ _ (hW.trans (by decide)) ?_)
    | (with_reducible refine State.setChain_framed _ _ (hW.trans (by decide)) ?_)

def State.requeue_writes : Nat := State.setChain_writes
theorem State.requeue_framed {W : Nat} {o s : State} (n : Nat) (hW : SubMask State.requeue_writes W)
    (hs : State.Framed W o s) :
    State.Framed W o (State.requeue s n) := by
  delta State.requeue
  repeat' first
    | with_reducible assumption
    | (with_reducible refine State.Framed.ite ?_ ?_)
    | (with_reducible refine State.setChain_framed _ _ (hW.trans (by decide)) ?_)
    | (fail_if_no_progress with_reducible refine State.Framed.mkOf ?_ rfl rfl rfl rfl rfl rfl rfl)
    | (intro x; refine State.Framed.cut (W := W) (o := o) (x := x) ?_ ?_; (on_goal 1 => unfold x); (on_goal 2 => (intro _; clear_value x)))
    | intro x

def State.showReach_writes : Nat := regMask [.HR_NODE, .HR_STATE] ||| State.requeue_writes
theorem State.showReach_framed {W : Nat} {o s : State} (n : Nat) (hW : SubMask State.showReach_writes W)
    (hs : State.Framed W o s) :
    State.Framed W o (State.showReach s n) := by
  delta State.showReach
  repeat' first
    | with_reducible assumption
    | (with_reducible refine State.requeue_framed _ (hW.trans (by decide)) ?_)
    | (with_reducible refine State.setFld_framed _ _ _ _ (hW.trans (by decide)) ?_)
    | (with_reducible refine State.setBit_framed _ _ _ _ (hW.trans (by decide)) ?_)
    | (with_reducible refine State.Framed.foldl _ ?_ (fun t e h => ?_))

def State.capacity_writes : Nat := regMask [.HR_FLAGS] ||| State.event_writes ||| State.hrZeroReq_writes
theorem State.capacity_framed {W : Nat} {o s : State} (n : Nat) (hW : SubMask State.capacity_writes W)
    (hs : State.Framed W o s) :
    State.Framed W o (State.capacity s n) := by
  delta State.capacity
  repeat' first
    | with_reducible assumption
    | (with_reducible refine State.Framed.ite ?_ ?_)
    | (with_reducible refine State.flag_framed _ _ _ (hW.trans (by decide)) ?_)
    | (with_reducible refine State.event_framed _ _ _ (hW.trans (by decide)) ?_)
    | (with_reducible refine State.hrZeroReq_framed _ (hW.trans (by decide)) ?_)

def State.dropCmds_writes : Nat := State.setChain_writes
theorem State.dropCmds_framed {W : Nat} {o s : State} (n p : Nat) (hW : SubMask State.dropCmds_writes W)
    (hs : State.Framed W o s) :
    State.Framed W o (State.dropCmds s n p) := by
  delta State.dropCmds
  repeat' first
    | with_reducible assumption
    | (with_reducible refine State.setChain_framed _ _ (hW.trans (by decide)) ?_)

def State.refuseNode_writes : Nat := regMask [.HR_FLAGS, .HR_NODE] ||| State.capacity_writes |||
  State.dropCmds_writes ||| State.nodeCmd_writes ||| State.setNstate_writes
theorem State.refuseNode_framed {W : Nat} {o s : State} (n p cause : Nat) (hW : SubMask State.refuseNode_writes W)
    (hs : State.Framed W o s) :
    State.Framed W o (State.refuseNode s n p cause) := by
  delta State.refuseNode
  repeat' first
    | with_reducible assumption
    | (with_reducible refine State.Framed.ite ?_ ?_)
    | (with_reducible refine State.setFld_framed _ _ _ _ (hW.trans (by decide)) ?_)
    | (with_reducible refine State.flag_framed _ _ _ (hW.trans (by decide)) ?_)
    | (with_reducible refine State.capacity_framed _ (hW.trans (by decide)) ?_)
    | (with_reducible refine State.dropCmds_framed _ _ (hW.trans (by decide)) ?_)
    | (with_reducible refine State.nodeCmd_framed _ _ _ _ _ (hW.trans (by decide)) ?_)
    | (with_reducible refine State.setNstate_framed _ _ _ (hW.trans (by decide)) ?_)

def State.sendTiming_writes : Nat := State.nodeCmd_writes
theorem State.sendTiming_framed {W : Nat} {o s : State} (n p : Nat) (hW : SubMask State.sendTiming_writes W)
    (hs : State.Framed W o s) :
    State.Framed W o (State.sendTiming s n p) := by
  delta State.sendTiming
  repeat' first
    | with_reducible assumption
    | (with_reducible refine State.nodeCmd_framed _ _ _ _ _ (hW.trans (by decide)) ?_)

def State.identify_writes : Nat := regMask [.HR_NODE] ||| State.dropCmds_writes ||| State.nodeCmd_writes |||
  State.setNode_writes ||| State.setNstate_writes
theorem State.identify_framed {W : Nat} {o s : State} (n p : Nat) (hW : SubMask State.identify_writes W)
    (hs : State.Framed W o s) :
    State.Framed W o (State.identify s n p) := by
  delta State.identify
  repeat' first
    | with_reducible assumption
    | (with_reducible refine State.setFld_framed _ _ _ _ (hW.trans (by decide)) ?_)
    | (with_reducible refine State.dropCmds_framed _ _ (hW.trans (by decide)) ?_)
    | (with_reducible refine State.nodeCmd_framed _ _ _ _ _ (hW.trans (by decide)) ?_)
    | (with_reducible refine State.setNode_framed _ _ _ (hW.trans (by decide)) ?_)
    | (with_reducible refine State.setNstate_framed _ _ _ (hW.trans (by decide)) ?_)

def State.sendEnum_writes : Nat := State.injSend_writes ||| State.setChain_writes
theorem State.sendEnum_framed {W : Nat} {o s : State} (n : Nat) (bToo : Bool) (hW : SubMask State.sendEnum_writes W)
    (hs : State.Framed W o s) :
    State.Framed W o (State.sendEnum s n bToo) := by
  delta State.sendEnum
  repeat' first
    | with_reducible assumption
    | (with_reducible refine State.Framed.ite ?_ ?_)
    | (with_reducible refine State.injSend_framed _ _ _ _ (hW.trans (by decide)) ?_)
    | (with_reducible refine State.setChain_framed _ _ (hW.trans (by decide)) ?_)

def State.enterEnum_writes : Nat := State.sendEnum_writes ||| State.setChain_writes ||| State.setHstate_writes
theorem State.enterEnum_framed {W : Nat} {o s : State} (n : Nat) (hW : SubMask State.enterEnum_writes W)
    (hs : State.Framed W o s) :
    State.Framed W o (State.enterEnum s n) := by
  delta State.enterEnum
  repeat' first
    | with_reducible assumption
    | (with_reducible refine State.sendEnum_framed _ _ (hW.trans (by decide)) ?_)
    | (with_reducible refine State.setChain_framed _ _ (hW.trans (by decide)) ?_)
    | (with_reducible refine State.setHstate_framed _ _ (hW.trans (by decide)) ?_)

def State.enterLinkUp_writes : Nat := State.enterEnum_writes ||| State.setHstate_writes
theorem State.enterLinkUp_framed {W : Nat} {o s : State} (n : Nat) (hW : SubMask State.enterLinkUp_writes W)
    (hs : State.Framed W o s) :
    State.Framed W o (State.enterLinkUp s n) := by
  delta State.enterLinkUp
  repeat' first
    | with_reducible assumption
    | (with_reducible refine State.Framed.ite ?_ ?_)
    | (with_reducible refine State.enterEnum_framed _ (hW.trans (by decide)) ?_)
    | (with_reducible refine State.setHstate_framed _ _ (hW.trans (by decide)) ?_)

def State.chainUp_writes : Nat := State.enterLinkUp_writes
theorem State.chainUp_framed {W : Nat} {o s : State} (n : Nat) (hW : SubMask State.chainUp_writes W)
    (hs : State.Framed W o s) :
    State.Framed W o (State.chainUp s n) := by
  delta State.chainUp
  repeat' first
    | with_reducible assumption
    | (with_reducible refine State.Framed.ite ?_ ?_)
    | (with_reducible refine State.enterLinkUp_framed _ (hW.trans (by decide)) ?_)

def State.chainDown_writes : Nat := regMask [.HR_NODE, .HR_STATE] ||| State.setChain_writes |||
  State.setHstate_writes ||| State.showChain_writes ||| State.showReach_writes
theorem State.chainDown_framed {W : Nat} {o s : State} (n : Nat) (hW : SubMask State.chainDown_writes W)
    (hs : State.Framed W o s) :
    State.Framed W o (State.chainDown s n) := by
  delta State.chainDown
  repeat' first
    | with_reducible assumption
    | (with_reducible refine State.setFld_framed _ _ _ _ (hW.trans (by decide)) ?_)
    | (with_reducible refine State.setBit_framed _ _ _ _ (hW.trans (by decide)) ?_)
    | (with_reducible refine State.setChain_framed _ _ (hW.trans (by decide)) ?_)
    | (with_reducible refine State.setHstate_framed _ _ (hW.trans (by decide)) ?_)
    | (with_reducible refine State.showChain_framed _ (hW.trans (by decide)) ?_)
    | (with_reducible refine State.showReach_framed _ (hW.trans (by decide)) ?_)
    | (with_reducible refine State.Framed.foldl _ ?_ (fun t e h => ?_))

def State.identDone_writes : Nat := State.setHstate_writes
theorem State.identDone_framed {W : Nat} {o s : State} (n : Nat) (hW : SubMask State.identDone_writes W)
    (hs : State.Framed W o s) :
    State.Framed W o (State.identDone s n) := by
  delta State.identDone
  repeat' first
    | with_reducible assumption
    | (with_reducible refine State.Framed.ite ?_ ?_)
    | (with_reducible refine State.setHstate_framed _ _ (hW.trans (by decide)) ?_)

def State.enterRun_writes : Nat := State.setChain_writes ||| State.setHstate_writes ||| State.setNode_writes
theorem State.enterRun_framed {W : Nat} {o s : State} (n : Nat) (hW : SubMask State.enterRun_writes W)
    (hs : State.Framed W o s) :
    State.Framed W o (State.enterRun s n) := by
  delta State.enterRun
  repeat' first
    | with_reducible assumption
    | (with_reducible refine State.Framed.ite ?_ ?_)
    | (with_reducible refine State.setChain_framed _ _ (hW.trans (by decide)) ?_)
    | (with_reducible refine State.setHstate_framed _ _ (hW.trans (by decide)) ?_)
    | (with_reducible refine State.setNode_framed _ _ _ (hW.trans (by decide)) ?_)
    | (with_reducible refine State.Framed.foldl _ ?_ (fun t e h => ?_))

def State.timingDone_writes : Nat := State.enterRun_writes
theorem State.timingDone_framed {W : Nat} {o s : State} (n : Nat) (hW : SubMask State.timingDone_writes W)
    (hs : State.Framed W o s) :
    State.Framed W o (State.timingDone s n) := by
  delta State.timingDone
  repeat' first
    | with_reducible assumption
    | (with_reducible refine State.Framed.ite ?_ ?_)
    | (with_reducible refine State.enterRun_framed _ (hW.trans (by decide)) ?_)

def State.healCheck_writes : Nat := State.setChain_writes
theorem State.healCheck_framed {W : Nat} {o s : State} (n : Nat) (hW : SubMask State.healCheck_writes W)
    (hs : State.Framed W o s) :
    State.Framed W o (State.healCheck s n) := by
  delta State.healCheck
  repeat' first
    | with_reducible assumption
    | (with_reducible refine State.Framed.ite ?_ ?_)
    | (with_reducible refine State.setChain_framed _ _ (hW.trans (by decide)) ?_)

def State.admitNode_writes : Nat := regMask [.HR_FLAGS] ||| State.cellsAdmitted_writes |||
  State.healCheck_writes ||| State.identDone_writes ||| State.ledger_writes ||| State.nodeCmd_writes |||
  State.refuseNode_writes ||| State.sendTiming_writes ||| State.setNode_writes ||| State.setNstate_writes |||
  State.timingDone_writes
theorem State.admitNode_framed {W : Nat} {o s : State} (n p : Nat) (hW : SubMask State.admitNode_writes W)
    (hs : State.Framed W o s) :
    State.Framed W o (State.admitNode s n p) := by
  delta State.admitNode
  repeat' first
    | with_reducible assumption
    | (with_reducible refine State.Framed.ite ?_ ?_)
    | (with_reducible refine State.flag_framed _ _ _ (hW.trans (by decide)) ?_)
    | (with_reducible refine State.cellsAdmitted_framed _ _ _ (hW.trans (by decide)) ?_)
    | (with_reducible refine State.healCheck_framed _ (hW.trans (by decide)) ?_)
    | (with_reducible refine State.identDone_framed _ (hW.trans (by decide)) ?_)
    | (with_reducible refine State.ledger_framed _ _ (hW.trans (by decide)) ?_)
    | (with_reducible refine State.nodeCmd_framed _ _ _ _ _ (hW.trans (by decide)) ?_)
    | (with_reducible refine State.refuseNode_framed _ _ _ (hW.trans (by decide)) ?_)
    | (with_reducible refine State.sendTiming_framed _ _ (hW.trans (by decide)) ?_)
    | (with_reducible refine State.setNode_framed _ _ _ (hW.trans (by decide)) ?_)
    | (with_reducible refine State.setNstate_framed _ _ _ (hW.trans (by decide)) ?_)
    | (with_reducible refine State.timingDone_framed _ (hW.trans (by decide)) ?_)

def State.admitReady_writes : Nat := State.admitNode_writes
theorem State.admitReady_framed {W : Nat} {o s : State} (n : Nat) (hW : SubMask State.admitReady_writes W)
    (hs : State.Framed W o s) :
    State.Framed W o (State.admitReady s n) := by
  delta State.admitReady
  repeat' first
    | with_reducible assumption
    | (with_reducible refine State.Framed.ite ?_ ?_)
    | (with_reducible refine State.Framed.foldl _ ?_ (fun t e h => ?_))
    | (with_reducible refine State.admitNode_framed _ _ (hW.trans (by decide)) ?_)
    | split

def State.foundNodes_writes : Nat := State.identify_writes ||| State.setNode_writes ||| State.setNstate_writes
theorem State.foundNodes_framed {W : Nat} {o s : State} (n : Nat) (ps : List Nat)
    (hW : SubMask State.foundNodes_writes W) (hs : State.Framed W o s) :
    State.Framed W o (State.foundNodes s n ps) := by
  delta State.foundNodes
  repeat' first
    | with_reducible assumption
    | (with_reducible refine State.setNode_framed _ _ _ (hW.trans (by decide)) ?_)
    | (with_reducible refine State.Framed.ite ?_ ?_)
    | (with_reducible refine State.identify_framed _ _ (hW.trans (by decide)) ?_)
    | (with_reducible refine State.setNstate_framed _ _ _ (hW.trans (by decide)) ?_)
    | (with_reducible refine State.Framed.foldl _ ?_ (fun t e h => ?_))

def State.extraNodes_writes : Nat := regMask [.HR_FLAGS] ||| State.capacity_writes ||| State.setChain_writes |||
  State.showChain_writes
theorem State.extraNodes_framed {W : Nat} {o s : State} (n count : Nat) (hW : SubMask State.extraNodes_writes W)
    (hs : State.Framed W o s) :
    State.Framed W o (State.extraNodes s n count) := by
  delta State.extraNodes
  repeat' first
    | with_reducible assumption
    | (with_reducible refine State.Framed.ite ?_ ?_)
    | (with_reducible refine State.flag_framed _ _ _ (hW.trans (by decide)) ?_)
    | (with_reducible refine State.capacity_framed _ (hW.trans (by decide)) ?_)
    | (with_reducible refine State.setChain_framed _ _ (hW.trans (by decide)) ?_)
    | (with_reducible refine State.showChain_framed _ (hW.trans (by decide)) ?_)

def State.enumRing_writes : Nat := regMask [.HR_STATE] ||| State.extraNodes_writes ||| State.foundNodes_writes |||
  State.identDone_writes ||| State.setChain_writes ||| State.setHstate_writes ||| State.showReach_writes |||
  State.timingDone_writes
theorem State.enumRing_framed {W : Nat} {o s : State} (n count : Nat) (hW : SubMask State.enumRing_writes W)
    (hs : State.Framed W o s) :
    State.Framed W o (State.enumRing s n count) := by
  delta State.enumRing
  repeat' first
    | with_reducible assumption
    | (with_reducible refine State.setBit_framed _ _ _ _ (hW.trans (by decide)) ?_)
    | (with_reducible refine State.extraNodes_framed _ _ (hW.trans (by decide)) ?_)
    | (with_reducible refine State.foundNodes_framed _ _ (hW.trans (by decide)) ?_)
    | (with_reducible refine State.identDone_framed _ (hW.trans (by decide)) ?_)
    | (with_reducible refine State.setChain_framed _ _ (hW.trans (by decide)) ?_)
    | (with_reducible refine State.setHstate_framed _ _ (hW.trans (by decide)) ?_)
    | (with_reducible refine State.showReach_framed _ (hW.trans (by decide)) ?_)
    | (with_reducible refine State.timingDone_framed _ (hW.trans (by decide)) ?_)

def State.enumSplit_writes : Nat := regMask [.HR_FLAGS, .HR_STATE] ||| State.extraNodes_writes |||
  State.foundNodes_writes ||| State.identDone_writes ||| State.setChain_writes ||| State.setHstate_writes |||
  State.showReach_writes ||| State.timingDone_writes
theorem State.enumSplit_framed {W : Nat} {o s : State} (n a b : Nat) (hW : SubMask State.enumSplit_writes W)
    (hs : State.Framed W o s) :
    State.Framed W o (State.enumSplit s n a b) := by
  delta State.enumSplit
  repeat' first
    | with_reducible assumption
    | (with_reducible refine State.setBit_framed _ _ _ _ (hW.trans (by decide)) ?_)
    | (with_reducible refine State.flagIf_framed _ _ _ _ (hW.trans (by decide)) ?_)
    | (with_reducible refine State.extraNodes_framed _ _ (hW.trans (by decide)) ?_)
    | (with_reducible refine State.foundNodes_framed _ _ (hW.trans (by decide)) ?_)
    | (with_reducible refine State.identDone_framed _ (hW.trans (by decide)) ?_)
    | (with_reducible refine State.setChain_framed _ _ (hW.trans (by decide)) ?_)
    | (with_reducible refine State.setHstate_framed _ _ (hW.trans (by decide)) ?_)
    | (with_reducible refine State.showReach_framed _ (hW.trans (by decide)) ?_)
    | (with_reducible refine State.timingDone_framed _ (hW.trans (by decide)) ?_)

def State.ringKept_writes : Nat := State.dropCmds_writes ||| State.extraNodes_writes ||| State.identify_writes |||
  State.setChain_writes ||| State.setNstate_writes
theorem State.ringKept_framed {W : Nat} {o s : State} (n count : Nat) (hW : SubMask State.ringKept_writes W)
    (hs : State.Framed W o s) :
    State.Framed W o (State.ringKept s n count) := by
  delta State.ringKept
  repeat' first
    | with_reducible assumption
    | (with_reducible refine State.setChain_framed _ _ (hW.trans (by decide)) ?_)
    | (with_reducible refine State.Framed.ite ?_ ?_)
    | (with_reducible refine State.Framed.foldl _ ?_ (fun t e h => ?_))
    | (with_reducible refine State.setNstate_framed _ _ _ (hW.trans (by decide)) ?_)
    | (with_reducible refine State.identify_framed _ _ (hW.trans (by decide)) ?_)
    | (with_reducible refine State.extraNodes_framed _ _ (hW.trans (by decide)) ?_)
    | (with_reducible refine State.dropCmds_framed _ _ (hW.trans (by decide)) ?_)
    | (intro x; refine State.Framed.cut (W := W) (o := o) (x := x) ?_ ?_; (on_goal 1 => unfold x); (on_goal 2 => (intro _; clear_value x)))
    | intro x

def State.enumHeal_writes : Nat := State.extraNodes_writes ||| State.foundNodes_writes |||
  State.healCheck_writes ||| State.ringKept_writes ||| State.setChain_writes
theorem State.enumHeal_framed {W : Nat} {o s : State} (n count : Nat) (hW : SubMask State.enumHeal_writes W)
    (hs : State.Framed W o s) :
    State.Framed W o (State.enumHeal s n count) := by
  delta State.enumHeal
  repeat' first
    | with_reducible assumption
    | (with_reducible refine State.ringKept_framed _ _ (hW.trans (by decide)) ?_)
    | (with_reducible refine State.Framed.ite ?_ ?_)
    | (with_reducible refine State.extraNodes_framed _ _ (hW.trans (by decide)) ?_)
    | (with_reducible refine State.foundNodes_framed _ _ (hW.trans (by decide)) ?_)
    | (with_reducible refine State.healCheck_framed _ (hW.trans (by decide)) ?_)
    | (with_reducible refine State.setChain_framed _ _ (hW.trans (by decide)) ?_)

def State.enumRx_writes : Nat := State.enumHeal_writes ||| State.enumRing_writes ||| State.enumSplit_writes |||
  State.setChain_writes
theorem State.enumRx_framed {W : Nat} {o s : State} (n : Nat) (fromB atB : Bool) (count : Nat) (good : Bool)
    (hW : SubMask State.enumRx_writes W) (hs : State.Framed W o s) :
    State.Framed W o (State.enumRx s n fromB atB count good) := by
  delta State.enumRx
  repeat' first
    | with_reducible assumption
    | (with_reducible refine State.Framed.ite ?_ ?_)
    | (with_reducible refine State.enumHeal_framed _ _ (hW.trans (by decide)) ?_)
    | (with_reducible refine State.enumRing_framed _ _ (hW.trans (by decide)) ?_)
    | (with_reducible refine State.enumSplit_framed _ _ _ (hW.trans (by decide)) ?_)
    | (with_reducible refine State.setChain_framed _ _ (hW.trans (by decide)) ?_)

def State.breakChain_writes : Nat := regMask [.HR_FLAGS, .HR_STATE] ||| State.admitReady_writes |||
  State.enterEnum_writes ||| State.setChain_writes ||| State.showReach_writes
theorem State.breakChain_framed {W : Nat} {o s : State} (n : Nat) (a b : Option Nat)
    (hW : SubMask State.breakChain_writes W) (hs : State.Framed W o s) :
    State.Framed W o (State.breakChain s n a b) := by
  delta State.breakChain
  repeat' first
    | with_reducible assumption
    | (with_reducible refine State.admitReady_framed _ (hW.trans (by decide)) ?_)
    | (with_reducible refine State.Framed.ite ?_ ?_)
    | (with_reducible refine State.setBit_framed _ _ _ _ (hW.trans (by decide)) ?_)
    | (with_reducible refine State.flagIf_framed _ _ _ _ (hW.trans (by decide)) ?_)
    | (with_reducible refine State.enterEnum_framed _ (hW.trans (by decide)) ?_)
    | (with_reducible refine State.setChain_framed _ _ (hW.trans (by decide)) ?_)
    | (with_reducible refine State.showReach_framed _ (hW.trans (by decide)) ?_)

def State.closeSlice_writes : Nat := regMask [.HR_FLAGS, .HR_STATE] ||| State.setChain_writes |||
  State.setProt_writes ||| State.setStrm_writes ||| State.showReach_writes
theorem State.closeSlice_framed {W : Nat} {o s : State} (n k : Nat) (t : Int) (hW : SubMask State.closeSlice_writes W)
    (hs : State.Framed W o s) :
    State.Framed W o (State.closeSlice s n k t) := by
  delta State.closeSlice
  repeat' first
    | with_reducible assumption
    | (with_reducible refine State.Framed.ite ?_ ?_)
    | (with_reducible refine State.setBit_framed _ _ _ _ (hW.trans (by decide)) ?_)
    | (with_reducible refine State.flag_framed _ _ _ (hW.trans (by decide)) ?_)
    | (with_reducible refine State.setChain_framed _ _ (hW.trans (by decide)) ?_)
    | (with_reducible refine State.setProt_framed _ _ (hW.trans (by decide)) ?_)
    | (with_reducible refine State.setStrm_framed _ _ (hW.trans (by decide)) ?_)
    | (with_reducible refine State.showReach_framed _ (hW.trans (by decide)) ?_)
    | (fail_if_no_progress with_reducible refine State.Framed.mkOf ?_ rfl rfl rfl rfl rfl rfl rfl)

def State.skipInstant_writes : Nat := State.setChain_writes ||| State.setStrm_writes
theorem State.skipInstant_framed {W : Nat} {o s : State} (n k : Nat) (t : Int)
    (hW : SubMask State.skipInstant_writes W) (hs : State.Framed W o s) :
    State.Framed W o (State.skipInstant s n k t) := by
  delta State.skipInstant
  repeat' first
    | with_reducible assumption
    | (with_reducible refine State.setStrm_framed _ _ (hW.trans (by decide)) ?_)
    | (with_reducible refine State.setChain_framed _ _ (hW.trans (by decide)) ?_)
    | (fail_if_no_progress with_reducible refine State.Framed.mkOf ?_ rfl rfl rfl rfl rfl rfl rfl)

def State.recInstant_writes : Nat := partMask [.recorder] ||| State.draw_writes
theorem State.recInstant_framed {W : Nat} {o s : State} (k : Nat) (t : Int) (skipped : Bool) (hW : SubMask State.recInstant_writes W)
    (hs : State.Framed W o s) :
    State.Framed W o (State.recInstant s k t skipped) := by
  delta State.recInstant
  repeat' first
    | with_reducible assumption
    | (with_reducible refine State.draw_framed (hW.trans (by decide)) ?_)
    | (fail_if_no_progress with_reducible refine State.Framed.mkOf ?_ rfl rfl rfl rfl rfl rfl rfl)

def State.nextCmd_writes : Nat := partMask [.frames] ||| State.setChain_writes ||| State.setNode_writes
theorem State.nextCmd_framed {W : Nat} {o s : State} (n : Nat) (endB : Bool) (hW : SubMask State.nextCmd_writes W)
    (hs : State.Framed W o s) :
    State.Framed W o (State.nextCmd s n endB).1 := by
  delta State.nextCmd
  repeat' first
    | with_reducible assumption
    | (with_reducible refine State.setNode_framed _ _ _ (hW.trans (by decide)) ?_)
    | (with_reducible refine State.Framed.ite ?_ ?_)
    | (with_reducible refine State.setChain_framed _ _ (hW.trans (by decide)) ?_)
    | intro x
    | split
    | lift_lets

def State.sendFrame_writes : Nat := State.injSend_writes ||| State.setChain_writes
theorem State.sendFrame_framed {W : Nat} {o s : State} (n : Nat) (endB : Bool) (type k first count : Nat) (cmd : List Nat)
    (hW : SubMask State.sendFrame_writes W) (hs : State.Framed W o s) :
    State.Framed W o (State.sendFrame s n endB type k first count cmd) := by
  delta State.sendFrame
  repeat' first
    | with_reducible assumption
    | (with_reducible refine State.injSend_framed _ _ _ _ (hW.trans (by decide)) ?_)
    | (with_reducible refine State.setChain_framed _ _ (hW.trans (by decide)) ?_)

def State.sweepEnd_writes : Nat := State.nextCmd_writes ||| State.sendFrame_writes
theorem State.sweepEnd_framed {W : Nat} {o s : State} (n k : Nat) (endB : Bool) (hW : SubMask State.sweepEnd_writes W)
    (hs : State.Framed W o s) :
    State.Framed W o (State.sweepEnd s n k endB) := by
  delta State.sweepEnd
  repeat' first
    | with_reducible assumption
    | (with_reducible refine State.nextCmd_framed _ _ (hW.trans (by decide)) ?_)
    | (with_reducible refine State.sendFrame_framed _ _ _ _ _ _ _ (hW.trans (by decide)) ?_)
    | (intro x; refine State.Framed.cut (W := W) (o := o) (x := x.1) ?_ ?_; (on_goal 1 => unfold x); (on_goal 2 => (intro _; clear_value x)))
    | (intro x; clear_value x)
    | lift_lets
    | split

def State.identWord_writes : Nat := State.admitNode_writes ||| State.admitReady_writes ||| State.nodeCmd_writes |||
  State.setNode_writes
theorem State.identWord_framed {W : Nat} {o s : State} (n p w v : Nat) (hW : SubMask State.identWord_writes W)
    (hs : State.Framed W o s) :
    State.Framed W o (State.identWord s n p w v) := by
  delta State.identWord
  repeat' first
    | with_reducible assumption
    | (with_reducible refine State.admitReady_framed _ (hW.trans (by decide)) ?_)
    | (with_reducible refine State.Framed.ite ?_ ?_)
    | (with_reducible refine State.admitNode_framed _ _ (hW.trans (by decide)) ?_)
    | (with_reducible refine State.nodeCmd_framed _ _ _ _ _ (hW.trans (by decide)) ?_)
    | (with_reducible refine State.setNode_framed _ _ _ (hW.trans (by decide)) ?_)
    | (fail_if_no_progress with_reducible refine State.Framed.mkOf ?_ rfl rfl rfl rfl rfl rfl rfl)

def State.nodeAnswer_writes : Nat := regMask [.HR_FLAGS] ||| State.identWord_writes ||| State.setChain_writes |||
  State.setNode_writes ||| State.timingDone_writes
theorem State.nodeAnswer_framed {W : Nat} {o s : State} (n p result tag data : Nat)
    (hW : SubMask State.nodeAnswer_writes W) (hs : State.Framed W o s) :
    State.Framed W o (State.nodeAnswer s n p result tag data) := by
  delta State.nodeAnswer
  repeat' first
    | with_reducible assumption
    | (with_reducible refine State.flagIf_framed _ _ _ _ (hW.trans (by decide)) ?_)
    | (with_reducible refine State.identWord_framed _ _ _ _ (hW.trans (by decide)) ?_)
    | (with_reducible refine State.setChain_framed _ _ (hW.trans (by decide)) ?_)
    | (with_reducible refine State.setNode_framed _ _ _ (hW.trans (by decide)) ?_)
    | (with_reducible refine State.timingDone_framed _ (hW.trans (by decide)) ?_)
    | (intro x; refine State.Framed.cut (W := W) (o := o) (x := x) ?_ ?_; (on_goal 1 => unfold x); (on_goal 2 => (intro _; clear_value x)))
    | intro x
    | split
    | lift_lets

def State.takeSlot_writes : Nat := regMask [.HR_BAL, .HR_FLAGS] ||| partMask [.cells] ||| State.setChain_writes |||
  State.setNode_writes
theorem State.takeSlot_framed {W : Nat} {o s : State} (n : Nat) (recover : Bool) (r : Rec) (x : Slot)
    (hW : SubMask State.takeSlot_writes W) (hs : State.Framed W o s) :
    State.Framed W o (State.takeSlot s n recover r x) := by
  delta State.takeSlot
  repeat' first
    | with_reducible assumption
    | (with_reducible refine State.setReg_framed _ _ _ _ (hW.trans (by decide)) ?_)
    | (with_reducible refine State.flagIf_framed _ _ _ _ (hW.trans (by decide)) ?_)
    | (with_reducible refine State.setChain_framed _ _ (hW.trans (by decide)) ?_)
    | (with_reducible refine State.setNode_framed _ _ _ (hW.trans (by decide)) ?_)

def State.slotRx_writes : Nat := regMask [.HR_FLAGS] ||| State.identify_writes ||| State.nodeAnswer_writes |||
  State.setChain_writes ||| State.takeSlot_writes
theorem State.slotRx_framed {W : Nat} {o s : State} (n k : Nat) (recover hdrGood : Bool) (x : Slot)
    (hW : SubMask State.slotRx_writes W) (hs : State.Framed W o s) :
    State.Framed W o (State.slotRx s n k recover hdrGood x) := by
  delta State.slotRx
  repeat' first
    | with_reducible assumption
    | (with_reducible refine State.Framed.ite ?_ ?_)
    | (with_reducible refine State.flag_framed _ _ _ (hW.trans (by decide)) ?_)
    | (with_reducible refine State.identify_framed _ _ (hW.trans (by decide)) ?_)
    | (with_reducible refine State.nodeAnswer_framed _ _ _ _ _ (hW.trans (by decide)) ?_)
    | (with_reducible refine State.setChain_framed _ _ (hW.trans (by decide)) ?_)
    | (with_reducible refine State.takeSlot_framed _ _ _ _ (hW.trans (by decide)) ?_)
    | intro x
    | split

def State.sweepRx_writes : Nat := State.slotRx_writes
theorem State.sweepRx_framed {W : Nat} {o s : State} (n : Nat) (recover : Bool) (k : Nat) (hdrGood : Bool) (slots : List Slot)
    (hW : SubMask State.sweepRx_writes W) (hs : State.Framed W o s) :
    State.Framed W o (State.sweepRx s n recover k hdrGood slots) := by
  delta State.sweepRx
  repeat' first
    | with_reducible assumption
    | (with_reducible refine State.Framed.ite ?_ ?_)
    | (with_reducible refine State.slotRx_framed _ _ _ _ _ (hW.trans (by decide)) ?_)
    | (with_reducible refine State.Framed.foldl _ ?_ (fun t e h => ?_))

def State.missNode_writes : Nat := regMask [.HR_FLAGS] ||| State.dropCmds_writes ||| State.setNode_writes |||
  State.setNstate_writes
theorem State.missNode_framed {W : Nat} {o s : State} (n p : Nat) (r : Rec) (hW : SubMask State.missNode_writes W)
    (hs : State.Framed W o s) :
    State.Framed W o (State.missNode s n p r) := by
  delta State.missNode
  repeat' first
    | with_reducible assumption
    | (with_reducible refine State.Framed.ite ?_ ?_)
    | (with_reducible refine State.flag_framed _ _ _ (hW.trans (by decide)) ?_)
    | (with_reducible refine State.dropCmds_framed _ _ (hW.trans (by decide)) ?_)
    | (with_reducible refine State.setNode_framed _ _ _ (hW.trans (by decide)) ?_)
    | (with_reducible refine State.setNstate_framed _ _ _ (hW.trans (by decide)) ?_)

def State.putLatest_writes : Nat := memMask
theorem State.putLatest_framed {W : Nat} {o s : State} (n : Nat) (r : Rec) (hW : SubMask State.putLatest_writes W)
    (hs : State.Framed W o s) :
    State.Framed W o (State.putLatest s n r) := by
  delta State.putLatest
  repeat' first
    | with_reducible assumption
    | (with_reducible refine State.Framed.foldl _ ?_ (fun t e h => ?_))
    | (with_reducible refine State.setWord_framed _ _ (hW.trans (by decide)) ?_)
    | (intro x; refine State.Framed.cut (W := W) (o := o) (x := x) ?_ ?_; (on_goal 1 => unfold x); (on_goal 2 => (intro _; clear_value x)))
    | intro x

def State.finalise_writes : Nat := regMask [.HR_FLAGS, .HR_MISS_CNT, .HR_STATE, .HR_SWEEP, .HR_SWEEP_STAT] |||
  State.missNode_writes ||| State.putLatest_writes ||| State.recTrigger_writes ||| State.setChain_writes |||
  memMask
theorem State.finalise_framed {W : Nat} {o s : State} (n : Nat) (r : Rec) (hW : SubMask State.finalise_writes W)
    (hs : State.Framed W o s) :
    State.Framed W o (State.finalise s n r) := by
  delta State.finalise
  repeat' first
    | with_reducible assumption
    | (with_reducible refine State.recTrigger_framed _ _ (hW.trans (by decide)) ?_)
    | (with_reducible refine State.Framed.ite ?_ ?_)
    | (with_reducible refine State.putLatest_framed _ _ (hW.trans (by decide)) ?_)
    | (with_reducible refine State.setReg_framed _ _ _ _ (hW.trans (by decide)) ?_)
    | (with_reducible refine State.setFld_framed _ _ _ _ (hW.trans (by decide)) ?_)
    | (with_reducible refine State.setBit_framed _ _ _ _ (hW.trans (by decide)) ?_)
    | (with_reducible refine State.flagIf_framed _ _ _ _ (hW.trans (by decide)) ?_)
    | (with_reducible refine State.setWord_framed _ _ (hW.trans (by decide)) ?_)
    | (with_reducible refine State.missNode_framed _ _ _ (hW.trans (by decide)) ?_)
    | (with_reducible refine State.setChain_framed _ _ (hW.trans (by decide)) ?_)
    | (with_reducible refine State.Framed.foldl _ ?_ (fun t e h => ?_))
    | (fail_if_no_progress with_reducible refine State.Framed.mkOf ?_ rfl rfl rfl rfl rfl rfl rfl)

def State.newDelay_writes : Nat := regMask [.HR_DELAY] ||| State.sendTiming_writes ||| State.setNode_writes
theorem State.newDelay_framed {W : Nat} {o s : State} (n p : Nat) (endB : Bool) (d : Rat)
    (hW : SubMask State.newDelay_writes W) (hs : State.Framed W o s) :
    State.Framed W o (State.newDelay s n p endB d) := by
  delta State.newDelay
  repeat' first
    | with_reducible assumption
    | (with_reducible refine State.Framed.ite ?_ ?_)
    | (with_reducible refine State.setFld_framed _ _ _ _ (hW.trans (by decide)) ?_)
    | (with_reducible refine State.sendTiming_framed _ _ (hW.trans (by decide)) ?_)
    | (with_reducible refine State.setNode_framed _ _ _ (hW.trans (by decide)) ?_)

def State.probeRx_writes : Nat := State.newDelay_writes ||| State.setNode_writes
theorem State.probeRx_framed {W : Nat} {o s : State} (n : Nat) (endB : Bool) (p roundTripNs : Nat)
    (hW : SubMask State.probeRx_writes W) (hs : State.Framed W o s) :
    State.Framed W o (State.probeRx s n endB p roundTripNs) := by
  delta State.probeRx
  repeat' first
    | with_reducible assumption
    | (with_reducible refine State.Framed.ite ?_ ?_)
    | (with_reducible refine State.newDelay_framed _ _ _ _ (hW.trans (by decide)) ?_)
    | (with_reducible refine State.setNode_framed _ _ _ (hW.trans (by decide)) ?_)

def State.hrTake_writes : Nat := State.enumRx_writes ||| State.probeRx_writes ||| State.sweepRx_writes
theorem State.hrTake_framed {W : Nat} {o s : State} (i : Instr) (good : Bool) (hW : SubMask State.hrTake_writes W)
    (hs : State.Framed W o s) :
    State.Framed W o (State.hrTake s i good) := by
  delta State.hrTake
  repeat' first
    | with_reducible assumption
    | (with_reducible refine State.enumRx_framed _ _ _ _ _ (hW.trans (by decide)) ?_)
    | (with_reducible refine State.probeRx_framed _ _ _ _ (hW.trans (by decide)) ?_)
    | (with_reducible refine State.sweepRx_framed _ _ _ _ _ (hW.trans (by decide)) ?_)
    | split

def State.hrRx_writes : Nat := State.hrTake_writes ||| State.injReceive_writes
theorem State.hrRx_framed {W : Nat} {o s : State} (n : Nat) (i : Instr) (hW : SubMask State.hrRx_writes W)
    (hs : State.Framed W o s) :
    State.Framed W o (State.hrRx s n i) := by
  delta State.hrRx
  repeat' first
    | with_reducible assumption
    | (with_reducible refine State.hrTake_framed _ _ (hW.trans (by decide)) ?_)
    | (with_reducible refine State.injReceive_framed _ _ _ _ (hW.trans (by decide)) ?_)
    | (intro x; refine State.Framed.cut (W := W) (o := o) (x := x) ?_ ?_; (on_goal 1 => unfold x); (on_goal 2 => (intro _; clear_value x)))
    | (intro x; refine State.Framed.cut (W := W) (o := o) (x := x.1) ?_ ?_; (on_goal 1 => unfold x); (on_goal 2 => (intro _; clear_value x)))
    | lift_lets
    | split

end Sys2Proof.Machine
end

