-- ==== Sys2Proof/Laws/FrameConvert.lean ====
section
/-! SUPPORT. Frames of Machine/Convert.lean: for each operation, all it can write. -/

namespace Sys2Proof.Machine

set_option Elab.async false
set_option linter.unusedTactic false
set_option linter.unreachableTactic false
set_option exponentiation.threshold 1200

def State.setConv_writes : Nat := partMask [.convs]
theorem State.setConv_framed {W : Nat} {o s : State} (a : Nat) (c : Conv) (hW : SubMask State.setConv_writes W)
    (hs : State.Framed W o s) :
    State.Framed W o (State.setConv s a c) := by
  delta State.setConv
  repeat' first
    | with_reducible assumption
    | (fail_if_no_progress with_reducible refine State.Framed.mkOf ?_ rfl rfl rfl rfl rfl rfl rfl)

def State.setConvBlock_writes : Nat := partMask [.convBlocks]
theorem State.setConvBlock_framed {W : Nat} {o s : State} (b : Nat) (c : ConvBlock)
    (hW : SubMask State.setConvBlock_writes W) (hs : State.Framed W o s) :
    State.Framed W o (State.setConvBlock s b c) := by
  delta State.setConvBlock
  repeat' first
    | with_reducible assumption
    | (fail_if_no_progress with_reducible refine State.Framed.mkOf ?_ rfl rfl rfl rfl rfl rfl rfl)

def State.invalidate_writes : Nat := regMask [.MEAS_RES, .MEAS_RVALID]
theorem State.invalidate_framed {W : Nat} {o s : State} (i : Nat) (hW : SubMask State.invalidate_writes W)
    (hs : State.Framed W o s) :
    State.Framed W o (State.invalidate s i) := by
  delta State.invalidate
  repeat' first
    | with_reducible assumption
    | (with_reducible refine State.setReg_framed _ _ _ _ (hW.trans (by decide)) ?_)

def State.invalidateConv_writes : Nat := State.invalidate_writes
theorem State.invalidateConv_framed {W : Nat} {o s : State} (a : Nat) (hW : SubMask State.invalidateConv_writes W)
    (hs : State.Framed W o s) :
    State.Framed W o (State.invalidateConv s a) := by
  delta State.invalidateConv
  repeat' first
    | with_reducible assumption
    | (with_reducible refine State.invalidate_framed _ (hW.trans (by decide)) ?_)
    | (with_reducible refine State.Framed.foldl _ ?_ (fun t e h => ?_))

def State.invalidateBlock_writes : Nat := State.invalidateConv_writes
theorem State.invalidateBlock_framed {W : Nat} {o s : State} (b : Nat) (hW : SubMask State.invalidateBlock_writes W)
    (hs : State.Framed W o s) :
    State.Framed W o (State.invalidateBlock s b) := by
  delta State.invalidateBlock
  repeat' first
    | with_reducible assumption
    | (with_reducible refine State.invalidateConv_framed _ (hW.trans (by decide)) ?_)
    | (with_reducible refine State.Framed.foldl _ ?_ (fun t e h => ?_))

def State.convBegin_writes : Nat := partMask [.startAt] ||| State.setConv_writes
theorem State.convBegin_framed {W : Nat} {o s : State} (a : Nat) (act : ConvAct) (first : Bool)
    (hW : SubMask State.convBegin_writes W) (hs : State.Framed W o s) :
    State.Framed W o (State.convBegin s a act first) := by
  delta State.convBegin
  repeat' first
    | with_reducible assumption
    | (with_reducible refine State.setConv_framed _ _ (hW.trans (by decide)) ?_)

def State.convApply_writes : Nat := regMask [.MEAS_SEQ_CFG, .MEAS_INJ_CFG, .MEAS_ADC_CFG, .MEAS_IN_CFG, .MEAS_OW_CFG] |||
  State.setConv_writes ||| State.invalidate_writes
theorem State.convApply_framed {W : Nat} {o s : State} (a : Nat) (hW : SubMask State.convApply_writes W)
    (hs : State.Framed W o s) : State.Framed W o (s.convApply a) := by
  unfold State.convApply
  refine State.Framed.foldl _ (State.Framed.foldl _ (State.setConv_framed _ _ (hW.trans (by decide)) hs)
    (fun t e ht => State.setReg_framed _ _ _ _ (hW.trans (by cases e.1 <;> decide)) ht)) (fun t e ht => ?_)
  exact State.Framed.ite ht (State.invalidate_framed _ (hW.trans (by decide)) ht)

def State.setAdcIn_writes : Nat := State.setConv_writes
theorem State.setAdcIn_framed {W : Nat} {o s : State} (a l : Nat) (f : AdcIn → AdcIn)
    (hW : SubMask State.setAdcIn_writes W) (hs : State.Framed W o s) :
    State.Framed W o (State.setAdcIn s a l f) := by
  delta State.setAdcIn
  repeat' first
    | with_reducible assumption
    | (with_reducible refine State.setConv_framed _ _ (hW.trans (by decide)) ?_)

def State.passStart_writes : Nat := State.convBegin_writes
theorem State.passStart_framed {W : Nat} {o s : State} (a : Nat) (hW : SubMask State.passStart_writes W)
    (hs : State.Framed W o s) :
    State.Framed W o (State.passStart s a) := by
  delta State.passStart
  repeat' first
    | with_reducible assumption
    | (with_reducible refine State.convBegin_framed _ _ _ (hW.trans (by decide)) ?_)
    | split

def State.convKick_writes : Nat := State.convApply_writes ||| State.convBegin_writes ||| State.passStart_writes |||
  State.setConv_writes
theorem State.convKick_framed {W : Nat} {o s : State} (a : Nat) (hW : SubMask State.convKick_writes W)
    (hs : State.Framed W o s) :
    State.Framed W o (State.convKick s a) := by
  delta State.convKick
  repeat' first
    | with_reducible assumption
    | (with_reducible refine State.Framed.ite ?_ ?_)
    | (with_reducible refine State.convApply_framed _ (hW.trans (by decide)) ?_)
    | (with_reducible refine State.convBegin_framed _ _ _ (hW.trans (by decide)) ?_)
    | (with_reducible refine State.passStart_framed _ (hW.trans (by decide)) ?_)
    | (with_reducible refine State.setConv_framed _ _ (hW.trans (by decide)) ?_)
    | (intro x; refine State.Framed.cut (W := W) (o := o) (x := x) ?_ ?_; (on_goal 1 => unfold x); (on_goal 2 => (intro _; clear_value x)))
    | split

def State.convHalt_writes : Nat := regMask [.MEAS_SRC_FLAGS] ||| State.setConv_writes
theorem State.convHalt_framed {W : Nat} {o s : State} (a : Nat) (hW : SubMask State.convHalt_writes W)
    (hs : State.Framed W o s) :
    State.Framed W o (State.convHalt s a) := by
  delta State.convHalt
  repeat' first
    | with_reducible assumption
    | (with_reducible refine State.flagIf_framed _ _ _ _ (hW.trans (by decide)) ?_)
    | (with_reducible refine State.setConv_framed _ _ (hW.trans (by decide)) ?_)
    | (intro x; refine State.Framed.cut (W := W) (o := o) (x := x) ?_ ?_; (on_goal 1 => unfold x); (on_goal 2 => (intro _; clear_value x)))
    | intro x
    | lift_lets
    | split

def State.passEnd_writes : Nat := State.convApply_writes ||| State.convBegin_writes ||| State.convKick_writes |||
  State.setConv_writes
theorem State.passEnd_framed {W : Nat} {o s : State} (a : Nat) (hW : SubMask State.passEnd_writes W)
    (hs : State.Framed W o s) :
    State.Framed W o (State.passEnd s a) := by
  delta State.passEnd
  repeat' first
    | with_reducible assumption
    | (with_reducible refine State.convApply_framed _ (hW.trans (by decide)) ?_)
    | (with_reducible refine State.convBegin_framed _ _ _ (hW.trans (by decide)) ?_)
    | (with_reducible refine State.convKick_framed _ (hW.trans (by decide)) ?_)
    | (with_reducible refine State.setConv_framed _ _ (hW.trans (by decide)) ?_)
    | (intro x; refine State.Framed.cut (W := W) (o := o) (x := x) ?_ ?_; (on_goal 1 => unfold x); (on_goal 2 => (intro _; clear_value x)))
    | intro x
    | lift_lets
    | split

def State.injStart_writes : Nat := State.convBegin_writes ||| State.convHalt_writes ||| State.convKick_writes
theorem State.injStart_framed {W : Nat} {o s : State} (a : Nat) (hW : SubMask State.injStart_writes W)
    (hs : State.Framed W o s) :
    State.Framed W o (State.injStart s a) := by
  delta State.injStart
  repeat' first
    | with_reducible assumption
    | (with_reducible refine State.convBegin_framed _ _ _ (hW.trans (by decide)) ?_)
    | (with_reducible refine State.convHalt_framed _ (hW.trans (by decide)) ?_)
    | (with_reducible refine State.convKick_framed _ (hW.trans (by decide)) ?_)
    | (intro x; refine State.Framed.cut (W := W) (o := o) (x := x) ?_ ?_; (on_goal 1 => unfold x); (on_goal 2 => (intro _; clear_value x)))
    | lift_lets
    | split

def State.fireRegular_writes : Nat := regMask [.MEAS_SRC_FLAGS] ||| State.passStart_writes |||
  State.setConv_writes
theorem State.fireRegular_framed {W : Nat} {o s : State} (a : Nat) (hW : SubMask State.fireRegular_writes W)
    (hs : State.Framed W o s) :
    State.Framed W o (State.fireRegular s a) := by
  delta State.fireRegular
  repeat' first
    | with_reducible assumption
    | (with_reducible refine State.Framed.ite ?_ ?_)
    | (with_reducible refine State.flag_framed _ _ _ (hW.trans (by decide)) ?_)
    | (with_reducible refine State.passStart_framed _ (hW.trans (by decide)) ?_)
    | (with_reducible refine State.setConv_framed _ _ (hW.trans (by decide)) ?_)
    | split

def State.fireInjected_writes : Nat := regMask [.MEAS_SRC_FLAGS] ||| State.injStart_writes |||
  State.setConv_writes
theorem State.fireInjected_framed {W : Nat} {o s : State} (a : Nat) (hW : SubMask State.fireInjected_writes W)
    (hs : State.Framed W o s) :
    State.Framed W o (State.fireInjected s a) := by
  delta State.fireInjected
  repeat' first
    | with_reducible assumption
    | (with_reducible refine State.setConv_framed _ _ (hW.trans (by decide)) ?_)
    | (with_reducible refine State.flag_framed _ _ _ (hW.trans (by decide)) ?_)
    | (with_reducible refine State.injStart_framed _ (hW.trans (by decide)) ?_)
    | split

def State.fireGroup_writes : Nat := regMask [.MEAS_GRP_STAMP] ||| State.fireInjected_writes |||
  State.fireRegular_writes
theorem State.fireGroup_framed {W : Nat} {o s : State} (g : Nat) (hW : SubMask State.fireGroup_writes W)
    (hs : State.Framed W o s) :
    State.Framed W o (State.fireGroup s g) := by
  delta State.fireGroup
  repeat' first
    | with_reducible assumption
    | (with_reducible refine State.Framed.ite ?_ ?_)
    | (with_reducible refine State.setReg_framed _ _ _ _ (hW.trans (by decide)) ?_)
    | (with_reducible refine State.fireInjected_framed _ (hW.trans (by decide)) ?_)
    | (with_reducible refine State.fireRegular_framed _ (hW.trans (by decide)) ?_)
    | (with_reducible refine State.Framed.foldl _ ?_ (fun t e h => ?_))

def State.swTrig_writes : Nat := State.sessionCommand_writes ||| State.queueTrig_writes
theorem State.swTrig_framed {W : Nat} {o s : State} (k value target dly : Nat) (ok : Bool) (fire : State → State)
    (hW : SubMask State.swTrig_writes W) (hs : State.Framed W o s) (hf : ∀ t, State.Framed W o t → State.Framed W o (fire t)) :
    State.Framed W o (s.swTrig k value target dly ok fire) :=
  State.sessionCommand_framed _ _ _ _ _ _ _ (hW.trans (by decide)) hs
    (fun t ht => State.Framed.ite (hf t ht) (State.queueTrig_framed _ _ _ (hW.trans (by decide)) ht))

def State.clipIf_writes : Nat := regMask [.MEAS_CLIP]
theorem State.clipIf_framed {W : Nat} {o s : State} (ext : Bool) (i : Nat) (hW : SubMask State.clipIf_writes W)
    (hs : State.Framed W o s) :
    State.Framed W o (State.clipIf s ext i) := by
  delta State.clipIf
  repeat' first
    | with_reducible assumption
    | (with_reducible refine State.flagIf_framed _ _ _ _ (hW.trans (by decide)) ?_)

def State.regResult_writes : Nat := regMask [.MEAS_RES, .MEAS_RVALID] ||| State.clipIf_writes |||
  State.setAdcIn_writes
theorem State.regResult_framed {W : Nat} {o s : State} (a l : Nat) (raw : Int) (hW : SubMask State.regResult_writes W)
    (hs : State.Framed W o s) :
    State.Framed W o (State.regResult s a l raw) := by
  delta State.regResult
  repeat' first
    | with_reducible assumption
    | (with_reducible refine State.Framed.ite ?_ ?_)
    | (with_reducible refine State.setReg_framed _ _ _ _ (hW.trans (by decide)) ?_)
    | (with_reducible refine State.clipIf_framed _ _ (hW.trans (by decide)) ?_)
    | (with_reducible refine State.setAdcIn_framed _ _ _ (hW.trans (by decide)) ?_)

def State.owResult_writes : Nat := regMask [.MEAS_OW_FLAGS, .MEAS_OW_STATE, .MEAS_SRC_FLAGS] |||
  State.invalidate_writes ||| State.setAdcIn_writes
theorem State.owResult_framed {W : Nat} {o s : State} (a l : Nat) (raw : Int) (hW : SubMask State.owResult_writes W)
    (hs : State.Framed W o s) :
    State.Framed W o (State.owResult s a l raw) := by
  delta State.owResult
  repeat' first
    | with_reducible assumption
    | (with_reducible refine State.Framed.ite ?_ ?_)
    | (with_reducible refine State.setReg_framed _ _ _ _ (hW.trans (by decide)) ?_)
    | (with_reducible refine State.flag_framed _ _ _ (hW.trans (by decide)) ?_)
    | (with_reducible refine State.invalidate_framed _ (hW.trans (by decide)) ?_)
    | (with_reducible refine State.setAdcIn_framed _ _ _ (hW.trans (by decide)) ?_)

def State.regNext_writes : Nat := State.convBegin_writes ||| State.passEnd_writes ||| State.setConv_writes
theorem State.regNext_framed {W : Nat} {o s : State} (a k : Nat) (hW : SubMask State.regNext_writes W)
    (hs : State.Framed W o s) :
    State.Framed W o (State.regNext s a k) := by
  delta State.regNext
  repeat' first
    | with_reducible assumption
    | (with_reducible refine State.convBegin_framed _ _ _ (hW.trans (by decide)) ?_)
    | (with_reducible refine State.passEnd_framed _ (hW.trans (by decide)) ?_)
    | (with_reducible refine State.setConv_framed _ _ (hW.trans (by decide)) ?_)
    | (intro x; refine State.Framed.cut (W := W) (o := o) (x := x) ?_ ?_; (on_goal 1 => unfold x); (on_goal 2 => (intro _; clear_value x)))
    | intro x
    | lift_lets
    | split

def State.injNext_writes : Nat := State.convBegin_writes ||| State.convKick_writes ||| State.setConv_writes
theorem State.injNext_framed {W : Nat} {o s : State} (a k : Nat) (hW : SubMask State.injNext_writes W)
    (hs : State.Framed W o s) :
    State.Framed W o (State.injNext s a k) := by
  delta State.injNext
  repeat' first
    | with_reducible assumption
    | (with_reducible refine State.convBegin_framed _ _ _ (hW.trans (by decide)) ?_)
    | (with_reducible refine State.convKick_framed _ (hW.trans (by decide)) ?_)
    | (with_reducible refine State.setConv_framed _ _ (hW.trans (by decide)) ?_)
    | split

def State.convOff_writes : Nat := State.invalidateConv_writes ||| State.setConv_writes
theorem State.convOff_framed {W : Nat} {o s : State} (a : Nat) (hW : SubMask State.convOff_writes W)
    (hs : State.Framed W o s) :
    State.Framed W o (State.convOff s a) := by
  delta State.convOff
  repeat' first
    | with_reducible assumption
    | (with_reducible refine State.invalidateConv_framed _ (hW.trans (by decide)) ?_)
    | (with_reducible refine State.setConv_framed _ _ (hW.trans (by decide)) ?_)

def State.convYield_writes : Nat := regMask [.MEAS_SRC_FLAGS] ||| State.setConv_writes
theorem State.convYield_framed {W : Nat} {o s : State} (a : Nat) (hW : SubMask State.convYield_writes W)
    (hs : State.Framed W o s) :
    State.Framed W o (State.convYield s a) := by
  delta State.convYield
  repeat' first
    | with_reducible assumption
    | (with_reducible refine State.Framed.ite ?_ ?_)
    | (with_reducible refine State.flag_framed _ _ _ (hW.trans (by decide)) ?_)
    | (with_reducible refine State.setConv_framed _ _ (hW.trans (by decide)) ?_)
    | split
    | (fail_if_no_progress with_reducible refine State.Framed.mkOf ?_ rfl rfl rfl rfl rfl rfl rfl)
    | (intro x; refine State.Framed.cut (W := W) (o := o) (x := x) ?_ ?_; (on_goal 1 => unfold x); (on_goal 2 => (intro _; clear_value x)))
    | intro x

def State.calBegin_writes : Nat := State.convHalt_writes ||| State.convYield_writes |||
  State.invalidateBlock_writes ||| State.setConvBlock_writes
theorem State.calBegin_framed {W : Nat} {o s : State} (b : Nat) (startup auto : Bool)
    (hW : SubMask State.calBegin_writes W) (hs : State.Framed W o s) :
    State.Framed W o (State.calBegin s b startup auto) := by
  delta State.calBegin
  repeat' first
    | with_reducible assumption
    | (with_reducible refine State.convYield_framed _ (hW.trans (by decide)) ?_)
    | (with_reducible refine State.Framed.ite ?_ ?_)
    | (with_reducible refine State.convHalt_framed _ (hW.trans (by decide)) ?_)
    | (with_reducible refine State.invalidateBlock_framed _ (hW.trans (by decide)) ?_)
    | (with_reducible refine State.setConvBlock_framed _ _ (hW.trans (by decide)) ?_)
    | (with_reducible refine State.Framed.foldl _ ?_ (fun t e h => ?_))
    | (fail_if_no_progress with_reducible refine State.Framed.mkOf ?_ rfl rfl rfl rfl rfl rfl rfl)

def State.calAll_writes : Nat := State.calBegin_writes
theorem State.calAll_framed {W : Nat} {o s : State}  (hW : SubMask State.calAll_writes W) (hs : State.Framed W o s) :
    State.Framed W o (State.calAll s) := by
  delta State.calAll
  repeat' first
    | with_reducible assumption
    | (with_reducible refine State.calBegin_framed _ _ _ (hW.trans (by decide)) ?_)
    | (with_reducible refine State.Framed.foldl _ ?_ (fun t e h => ?_))

def State.calEnter_writes : Nat := partMask [.settle] ||| State.calAll_writes
theorem State.calEnter_framed {W : Nat} {o s : State}  (hW : SubMask State.calEnter_writes W)
    (hs : State.Framed W o s) :
    State.Framed W o (State.calEnter s ) := by
  delta State.calEnter
  repeat' first
    | with_reducible assumption
    | (with_reducible refine State.calAll_framed (hW.trans (by decide)) ?_)
    | (fail_if_no_progress with_reducible refine State.Framed.mkOf ?_ rfl rfl rfl rfl rfl rfl rfl)
    | (intro x; refine State.Framed.cut (W := W) (o := o) (x := x) ?_ ?_; (on_goal 1 => unfold x); (on_goal 2 => (intro _; clear_value x)))
    | intro x

def State.calConv_writes : Nat := regMask [.MEAS_CAL, .MEAS_SRC_FLAGS]
theorem State.calConv_framed {W : Nat} {o s : State} (a : Nat) (tj : Int) (r : CalRun)
    (hW : SubMask State.calConv_writes W) (hs : State.Framed W o s) :
    State.Framed W o (State.calConv s a tj r).1 := by
  delta State.calConv
  repeat' first
    | with_reducible assumption
    | (with_reducible refine State.setFld_framed _ _ _ _ (hW.trans (by decide)) ?_)
    | (with_reducible refine State.setSatFld_framed _ _ _ _ (hW.trans (by decide)) ?_)
    | (with_reducible refine State.setBit_framed _ _ _ _ (hW.trans (by decide)) ?_)
    | (with_reducible refine State.flagIf_framed _ _ _ _ (hW.trans (by decide)) ?_)

def State.convContained_writes : Nat := regMask [.MEAS_CAL_CMD] ||| State.convHalt_writes |||
  State.convOff_writes ||| State.invalidateBlock_writes ||| State.setConvBlock_writes
theorem State.convContained_framed {W : Nat} {o s : State} (b : Nat) (v : Verdict)
    (hW : SubMask State.convContained_writes W) (hs : State.Framed W o s) :
    State.Framed W o (State.convContained s b v) := by
  delta State.convContained
  repeat' first
    | with_reducible assumption
    | (with_reducible refine State.setReg_framed _ _ _ _ (hW.trans (by decide)) ?_)
    | (with_reducible refine State.convHalt_framed _ (hW.trans (by decide)) ?_)
    | (with_reducible refine State.convOff_framed _ (hW.trans (by decide)) ?_)
    | (with_reducible refine State.invalidateBlock_framed _ (hW.trans (by decide)) ?_)
    | (with_reducible refine State.setConvBlock_framed _ _ (hW.trans (by decide)) ?_)
    | (with_reducible refine State.Framed.foldl _ ?_ (fun t e h => ?_))
    | (intro x; refine State.Framed.cut (W := W) (o := o) (x := x) ?_ ?_; (on_goal 1 => unfold x); (on_goal 2 => (intro _; clear_value x)))
    | split

def State.refLose_writes : Nat := regMask [.MEAS_CONV_REF, .MEAS_SRC_FLAGS] ||| State.invalidateConv_writes
theorem State.refLose_framed {W : Nat} {o s : State} (a : Nat) (hW : SubMask State.refLose_writes W)
    (hs : State.Framed W o s) :
    State.Framed W o (State.refLose s a) := by
  delta State.refLose
  repeat' first
    | with_reducible assumption
    | (with_reducible refine State.setFld_framed _ _ _ _ (hW.trans (by decide)) ?_)
    | (with_reducible refine State.flagIf_framed _ _ _ _ (hW.trans (by decide)) ?_)
    | (with_reducible refine State.invalidateConv_framed _ (hW.trans (by decide)) ?_)

def State.dropRecent_writes : Nat := State.invalidate_writes
theorem State.dropRecent_framed {W : Nat} {o s : State} (a : Nat) (hW : SubMask State.dropRecent_writes W)
    (hs : State.Framed W o s) :
    State.Framed W o (State.dropRecent s a) := by
  delta State.dropRecent
  repeat' first
    | with_reducible assumption
    | (with_reducible refine State.invalidate_framed _ (hW.trans (by decide)) ?_)
    | (with_reducible refine State.Framed.foldl _ ?_ (fun t e h => ?_))
    | split

def State.switchBegin_writes : Nat := regMask [.MEAS_CONV_REF] ||| State.convHalt_writes |||
  State.setConv_writes
theorem State.switchBegin_framed {W : Nat} {o s : State} (a target : Nat) (kind : SwitchKind)
    (hW : SubMask State.switchBegin_writes W) (hs : State.Framed W o s) :
    State.Framed W o (State.switchBegin s a target kind) := by
  delta State.switchBegin
  repeat' first
    | with_reducible assumption
    | (with_reducible refine State.setBit_framed _ _ _ _ (hW.trans (by decide)) ?_)
    | (with_reducible refine State.convHalt_framed _ (hW.trans (by decide)) ?_)
    | (with_reducible refine State.setConv_framed _ _ (hW.trans (by decide)) ?_)

def State.refWatch_writes : Nat := State.convHalt_writes ||| State.dropRecent_writes ||| State.refLose_writes |||
  State.setConv_writes ||| State.switchBegin_writes
theorem State.refWatch_framed {W : Nat} {o s : State} (a : Nat) (hW : SubMask State.refWatch_writes W)
    (hs : State.Framed W o s) :
    State.Framed W o (State.refWatch s a) := by
  delta State.refWatch
  repeat' first
    | with_reducible assumption
    | (with_reducible refine State.convHalt_framed _ (hW.trans (by decide)) ?_)
    | (with_reducible refine State.dropRecent_framed _ (hW.trans (by decide)) ?_)
    | (with_reducible refine State.refLose_framed _ (hW.trans (by decide)) ?_)
    | (with_reducible refine State.setConv_framed _ _ (hW.trans (by decide)) ?_)
    | (with_reducible refine State.switchBegin_framed _ _ _ (hW.trans (by decide)) ?_)
    | intro x
    | lift_lets
    | split

def State.enterRollCall_writes : Nat := regMask [.KEY_START_MARK, .KEY_START_STATE] ||| State.chainUp_writes |||
  State.linkEnable_writes ||| State.spanStart_writes
theorem State.enterRollCall_framed {W : Nat} {o s : State}  (hW : SubMask State.enterRollCall_writes W)
    (hs : State.Framed W o s) :
    State.Framed W o (State.enterRollCall s) := by
  delta State.enterRollCall
  repeat' first
    | with_reducible assumption
    | (with_reducible refine State.setReg_framed _ _ _ _ (hW.trans (by decide)) ?_)
    | (with_reducible refine State.setFld_framed _ _ _ _ (hW.trans (by decide)) ?_)
    | (with_reducible refine State.chainUp_framed _ (hW.trans (by decide)) ?_)
    | (with_reducible refine State.linkEnable_framed _ (hW.trans (by decide)) ?_)
    | (with_reducible refine State.spanStart_framed (hW.trans (by decide)) ?_)
    | (with_reducible refine State.Framed.foldl _ ?_ (fun t e h => ?_))
    | split

def State.settleCheck_writes : Nat := State.enterRollCall_writes
theorem State.settleCheck_framed {W : Nat} {o s : State}  (hW : SubMask State.settleCheck_writes W)
    (hs : State.Framed W o s) :
    State.Framed W o (State.settleCheck s) := by
  delta State.settleCheck
  repeat' first
    | with_reducible assumption
    | (with_reducible refine State.Framed.ite ?_ ?_)
    | (with_reducible refine State.enterRollCall_framed (hW.trans (by decide)) ?_)

def State.enterSettle_writes : Nat := regMask [.KEY_START_MARK, .KEY_START_STATE, .MEAS_REF_STATE, .MEAS_SRC_FLAGS] |||
  partMask [.settle] ||| State.calAll_writes ||| State.convKick_writes ||| State.refWatch_writes |||
  State.setConv_writes ||| State.settleCheck_writes
theorem State.enterSettle_framed {W : Nat} {o s : State}  (hW : SubMask State.enterSettle_writes W)
    (hs : State.Framed W o s) :
    State.Framed W o (State.enterSettle s) := by
  delta State.enterSettle
  repeat' first
    | with_reducible assumption
    | (with_reducible refine State.setReg_framed _ _ _ _ (hW.trans (by decide)) ?_)
    | (with_reducible refine State.setFld_framed _ _ _ _ (hW.trans (by decide)) ?_)
    | (with_reducible refine State.setBit_framed _ _ _ _ (hW.trans (by decide)) ?_)
    | (with_reducible refine State.flagIf_framed _ _ _ _ (hW.trans (by decide)) ?_)
    | (with_reducible refine State.calAll_framed (hW.trans (by decide)) ?_)
    | (with_reducible refine State.convKick_framed _ (hW.trans (by decide)) ?_)
    | (with_reducible refine State.refWatch_framed _ (hW.trans (by decide)) ?_)
    | (with_reducible refine State.setConv_framed _ _ (hW.trans (by decide)) ?_)
    | (with_reducible refine State.settleCheck_framed (hW.trans (by decide)) ?_)
    | (with_reducible refine State.Framed.foldl _ ?_ (fun t e h => ?_))
    | (intro x; clear_value x)
    | split
    | (fail_if_no_progress with_reducible refine State.Framed.mkOf ?_ rfl rfl rfl rfl rfl rfl rfl)

def State.recalFrom_writes : Nat := regMask [.MEAS_REF_STATE] ||| partMask [.settle] ||| State.calBegin_writes
theorem State.recalFrom_framed {W : Nat} {o s : State} (l : List Nat) (hW : SubMask State.recalFrom_writes W)
    (hs : State.Framed W o s) :
    State.Framed W o (State.recalFrom s l) := by
  induction l generalizing s with
  | nil => exact State.setBit_framed _ _ _ _ (hW.trans (by decide)) (State.Framed.mkOf hs rfl rfl rfl rfl rfl rfl rfl)
  | cons b rest ih =>
    unfold State.recalFrom
    refine State.Framed.ite (ih hs) (State.Framed.ite ?_ (State.calBegin_framed _ _ _ (hW.trans (by decide)) ?_)) <;>
      exact State.Framed.mkOf hs rfl rfl rfl rfl rfl rfl rfl

def State.recalDone_writes : Nat := regMask [.MEAS_REF_STATE] ||| partMask [.settle] ||| State.recalFrom_writes
theorem State.recalDone_framed {W : Nat} {o s : State} (b : Nat) (hW : SubMask State.recalDone_writes W)
    (hs : State.Framed W o s) :
    State.Framed W o (State.recalDone s b) := by
  delta State.recalDone
  repeat' first
    | with_reducible assumption
    | (with_reducible refine State.recalFrom_framed _ (hW.trans (by decide)) ?_)
    | (with_reducible refine State.setBit_framed _ _ _ _ (hW.trans (by decide)) ?_)
    | split
    | (fail_if_no_progress with_reducible refine State.Framed.mkOf ?_ rfl rfl rfl rfl rfl rfl rfl)

def State.calMoved_writes : Nat := State.enterSettle_writes ||| State.recalFrom_writes |||
  State.settleCheck_writes
theorem State.calMoved_framed {W : Nat} {o s : State}  (hW : SubMask State.calMoved_writes W)
    (hs : State.Framed W o s) :
    State.Framed W o (State.calMoved s ) := by
  delta State.calMoved
  repeat' first
    | with_reducible assumption
    | (with_reducible refine State.Framed.ite ?_ ?_)
    | (with_reducible refine State.settleCheck_framed (hW.trans (by decide)) ?_)
    | (with_reducible refine State.recalFrom_framed _ (hW.trans (by decide)) ?_)
    | (with_reducible refine State.enterSettle_framed (hW.trans (by decide)) ?_)
    | split
    | (intro x; refine State.Framed.cut (W := W) (o := o) (x := x) ?_ ?_; (on_goal 1 => unfold x); (on_goal 2 => (intro _; clear_value x)))
    | intro x

def State.checkRefs_writes : Nat := State.setConvBlock_writes
theorem State.checkRefs_framed {W : Nat} {o s : State} (b : Nat) (intPpm extPpm : Int)
    (hW : SubMask State.checkRefs_writes W) (hs : State.Framed W o s) :
    State.Framed W o (State.checkRefs s b intPpm extPpm) := by
  delta State.checkRefs
  repeat' first
    | with_reducible assumption
    | (with_reducible refine State.setConvBlock_framed _ _ (hW.trans (by decide)) ?_)

def State.showRefs_writes : Nat := regMask [.MEAS_REF_STATE]
theorem State.showRefs_framed {W : Nat} {o s : State} (b : Nat) (intPpm : Int) (hW : SubMask State.showRefs_writes W)
    (hs : State.Framed W o s) :
    State.Framed W o (State.showRefs s b intPpm) := by
  delta State.showRefs
  repeat' first
    | with_reducible assumption
    | (with_reducible refine State.Framed.ite ?_ ?_)
    | (with_reducible refine State.setSatFld_framed _ _ _ _ (hW.trans (by decide)) ?_)
    | (with_reducible refine State.setBit_framed _ _ _ _ (hW.trans (by decide)) ?_)

def State.intBad_writes : Nat := regMask [.MEAS_SRC_FLAGS] ||| State.containUnit_writes |||
  State.convContained_writes ||| State.correctedError_writes ||| State.setConvBlock_writes
theorem State.intBad_framed {W : Nat} {o s : State} (b : Nat) (hW : SubMask State.intBad_writes W)
    (hs : State.Framed W o s) :
    State.Framed W o (State.intBad s b) := by
  delta State.intBad
  repeat' first
    | with_reducible assumption
    | (with_reducible refine State.Framed.ite ?_ ?_)
    | (with_reducible refine State.flag_framed _ _ _ (hW.trans (by decide)) ?_)
    | (with_reducible refine State.containUnit_framed _ _ _ (hW.trans (by decide)) ?_)
    | (with_reducible refine State.convContained_framed _ _ (hW.trans (by decide)) ?_)
    | (with_reducible refine State.correctedError_framed _ _ (hW.trans (by decide)) ?_)
    | (with_reducible refine State.setConvBlock_framed _ _ (hW.trans (by decide)) ?_)

def State.intBack_writes : Nat := regMask [.MEAS_REF_STATE] ||| partMask [.settle] ||| State.calAll_writes |||
  State.recalFrom_writes ||| State.setConvBlock_writes
theorem State.intBack_framed {W : Nat} {o s : State} (b : Nat) (hW : SubMask State.intBack_writes W)
    (hs : State.Framed W o s) :
    State.Framed W o (State.intBack s b) := by
  delta State.intBack
  repeat' first
    | with_reducible assumption
    | (with_reducible refine State.recalFrom_framed _ (hW.trans (by decide)) ?_)
    | (with_reducible refine State.Framed.ite ?_ ?_)
    | (with_reducible refine State.setBit_framed _ _ _ _ (hW.trans (by decide)) ?_)
    | (with_reducible refine State.calAll_framed (hW.trans (by decide)) ?_)
    | (with_reducible refine State.setConvBlock_framed _ _ (hW.trans (by decide)) ?_)
    | (fail_if_no_progress with_reducible refine State.Framed.mkOf ?_ rfl rfl rfl rfl rfl rfl rfl)

end Sys2Proof.Machine
end

