-- ==== Sys2Proof/Laws/FrameLearn.lean ====
section
/-! SUPPORT. Frames of Machine/Learn.lean: for each operation, all it can write. -/

namespace Sys2Proof.Machine

set_option Elab.async false
set_option linter.unusedTactic false
set_option linter.unreachableTactic false
set_option exponentiation.threshold 1200

def State.learnRecord_writes : Nat := partMask [.ldgState] ||| State.ledgerBulk_writes
theorem State.learnRecord_framed {W : Nat} {o s : State} (k : Nat) (hW : SubMask State.learnRecord_writes W)
    (hs : State.Framed W o s) :
    State.Framed W o (State.learnRecord s k) := by
  delta State.learnRecord
  repeat' first
    | with_reducible assumption
    | (with_reducible refine State.ledgerBulk_framed _ _ _ (hW.trans (by decide)) ?_)
    | (intro x; refine State.Framed.cut (W := W) (o := o) (x := x) ?_ ?_; (on_goal 1 => unfold x); (on_goal 2 => (intro _; clear_value x)))
    | (fail_if_no_progress with_reducible refine State.Framed.mkOf ?_ rfl rfl rfl rfl rfl rfl rfl)

def State.storeLearned_writes : Nat := State.propagate_writes ||| State.putCell_writes ||| State.setEntry_writes
theorem State.storeLearned_framed {W : Nat} {o s : State} (k : Nat) (t soc : Rat) (b : Nat) (e : ImpEntry)
    (hW : SubMask State.storeLearned_writes W) (hs : State.Framed W o s) :
    State.Framed W o (State.storeLearned s k t soc b e) := by
  delta State.storeLearned
  repeat' first
    | with_reducible assumption
    | (with_reducible refine State.Framed.ite ?_ ?_)
    | (with_reducible refine State.propagate_framed _ _ _ (hW.trans (by decide)) ?_)
    | (with_reducible refine State.putCell_framed _ _ (hW.trans (by decide)) ?_)
    | (with_reducible refine State.setEntry_framed _ _ _ (hW.trans (by decide)) ?_)

def State.updateRs_writes : Nat := regMask [.LRN_FLAGS] ||| State.storeLearned_writes
theorem State.updateRs_framed {W : Nat} {o s : State} (k : Nat) (t soc : Rat) (b : Nat) (meas : Rat)
    (hW : SubMask State.updateRs_writes W) (hs : State.Framed W o s) :
    State.Framed W o (State.updateRs s k t soc b meas) := by
  delta State.updateRs
  repeat' first
    | with_reducible assumption
    | (with_reducible refine State.flag_framed _ _ _ (hW.trans (by decide)) ?_)
    | (with_reducible refine State.storeLearned_framed _ _ _ _ _ (hW.trans (by decide)) ?_)

def State.updateRc_writes : Nat := regMask [.LRN_FLAGS] ||| State.storeLearned_writes
theorem State.updateRc_framed {W : Nat} {o s : State} (k : Nat) (t soc : Rat) (b : Nat) (ra ta rb tb : Rat)
    (hW : SubMask State.updateRc_writes W) (hs : State.Framed W o s) :
    State.Framed W o (State.updateRc s k t soc b ra ta rb tb) := by
  delta State.updateRc
  repeat' first
    | with_reducible assumption
    | (with_reducible refine State.flag_framed _ _ _ (hW.trans (by decide)) ?_)
    | (with_reducible refine State.storeLearned_framed _ _ _ _ _ (hW.trans (by decide)) ?_)

def State.rlxReject_writes : Nat := regMask [.LRN_FLAGS] ||| State.putCell_writes
theorem State.rlxReject_framed {W : Nat} {o s : State} (k : Nat) (hW : SubMask State.rlxReject_writes W)
    (hs : State.Framed W o s) :
    State.Framed W o (State.rlxReject s k) := by
  delta State.rlxReject
  repeat' first
    | with_reducible assumption
    | (with_reducible refine State.flag_framed _ _ _ (hW.trans (by decide)) ?_)
    | (with_reducible refine State.putCell_framed _ _ (hW.trans (by decide)) ?_)

def State.relaxFit_writes : Nat := regMask [.LRN_FLAGS] ||| State.putCell_writes ||| State.rlxReject_writes |||
  State.updateRc_writes
theorem State.relaxFit_framed {W : Nat} {o s : State} (k : Nat) (hW : SubMask State.relaxFit_writes W)
    (hs : State.Framed W o s) :
    State.Framed W o (State.relaxFit s k) := by
  delta State.relaxFit
  repeat' first
    | with_reducible assumption
    | (with_reducible refine State.Framed.ite ?_ ?_)
    | (with_reducible refine State.flag_framed _ _ _ (hW.trans (by decide)) ?_)
    | (with_reducible refine State.updateRc_framed _ _ _ _ _ _ _ _ (hW.trans (by decide)) ?_)
    | (with_reducible refine State.rlxReject_framed _ (hW.trans (by decide)) ?_)
    | (with_reducible refine State.putCell_framed _ _ (hW.trans (by decide)) ?_)
    | (fail_if_no_progress with_reducible refine State.Framed.mkOf ?_ rfl rfl rfl rfl rfl rfl rfl)
    | (intro x; refine State.Framed.cut (W := W) (o := o) (x := x) ?_ ?_; (on_goal 1 => unfold x); (on_goal 2 => (intro _; clear_value x)))
    | intro x

def State.rippleCell_writes : Nat := regMask [.LRN_FLAGS] ||| State.updateRs_writes
theorem State.rippleCell_framed {W : Nat} {o s : State} (k : Nat) (win : List Rec) (cur : List Rat) (lines : List Nat) (fs : Nat)
    (hW : SubMask State.rippleCell_writes W) (hs : State.Framed W o s) :
    State.Framed W o (State.rippleCell s k win cur lines fs) := by
  delta State.rippleCell
  repeat' first
    | with_reducible assumption
    | (with_reducible refine State.Framed.ite ?_ ?_)
    | (with_reducible refine State.flag_framed _ _ _ (hW.trans (by decide)) ?_)
    | (with_reducible refine State.updateRs_framed _ _ _ _ _ (hW.trans (by decide)) ?_)
    | split

def State.setAnchor_writes : Nat := State.learnRecord_writes ||| State.putCell_writes
theorem State.setAnchor_framed {W : Nat} {o s : State} (k : Nat) (soc sg : Rat) (kind : Nat)
    (hW : SubMask State.setAnchor_writes W) (hs : State.Framed W o s) :
    State.Framed W o (State.setAnchor s k soc sg kind) := by
  delta State.setAnchor
  repeat' first
    | with_reducible assumption
    | (with_reducible refine State.learnRecord_framed _ (hW.trans (by decide)) ?_)
    | (with_reducible refine State.putCell_framed _ _ (hW.trans (by decide)) ?_)

def State.capUpdate_writes : Nat := regMask [.LRN_FLAGS] ||| State.learnRecord_writes ||| State.putCell_writes
theorem State.capUpdate_framed {W : Nat} {o s : State} (k : Nat) (qm vm : Rat) (virt : Nat)
    (hW : SubMask State.capUpdate_writes W) (hs : State.Framed W o s) :
    State.Framed W o (State.capUpdate s k qm vm virt) := by
  delta State.capUpdate
  repeat' first
    | with_reducible assumption
    | (with_reducible refine State.Framed.ite ?_ ?_)
    | (with_reducible refine State.flag_framed _ _ _ (hW.trans (by decide)) ?_)
    | (with_reducible refine State.learnRecord_framed _ (hW.trans (by decide)) ?_)
    | (with_reducible refine State.putCell_framed _ _ (hW.trans (by decide)) ?_)

def State.takePoint_writes : Nat := State.capUpdate_writes ||| State.setAnchor_writes
theorem State.takePoint_framed {W : Nat} {o s : State} (k : Nat) (soc sg : Rat) (kind : Nat)
    (hW : SubMask State.takePoint_writes W) (hs : State.Framed W o s) :
    State.Framed W o (State.takePoint s k soc sg kind) := by
  delta State.takePoint
  repeat' first
    | with_reducible assumption
    | (with_reducible refine State.capUpdate_framed _ _ _ _ (hW.trans (by decide)) ?_)
    | (with_reducible refine State.setAnchor_framed _ _ _ _ (hW.trans (by decide)) ?_)
    | split

def State.restPoint_writes : Nat := regMask [.LRN_FLAGS] ||| State.takePoint_writes
theorem State.restPoint_framed {W : Nat} {o s : State} (k : Nat) (v : Rat) (hW : SubMask State.restPoint_writes W)
    (hs : State.Framed W o s) :
    State.Framed W o (State.restPoint s k v) := by
  delta State.restPoint
  repeat' first
    | with_reducible assumption
    | (with_reducible refine State.flag_framed _ _ _ (hW.trans (by decide)) ?_)
    | (with_reducible refine State.takePoint_framed _ _ _ _ (hW.trans (by decide)) ?_)

def State.virtualRest_writes : Nat := regMask [.LRN_FLAGS] ||| State.setCell_writes ||| State.takePoint_writes
theorem State.virtualRest_framed {W : Nat} {o s : State} (k : Nat) (v i : Rat) (t : Int)
    (hW : SubMask State.virtualRest_writes W) (hs : State.Framed W o s) :
    State.Framed W o (State.virtualRest s k v i t) := by
  delta State.virtualRest
  repeat' first
    | with_reducible assumption
    | (with_reducible refine State.Framed.ite ?_ ?_)
    | (with_reducible refine State.flag_framed _ _ _ (hW.trans (by decide)) ?_)
    | (with_reducible refine State.setCell_framed _ _ (hW.trans (by decide)) ?_)
    | (with_reducible refine State.takePoint_framed _ _ _ _ (hW.trans (by decide)) ?_)

def State.keepEntry_writes : Nat := partMask [.ldgState]
theorem State.keepEntry_framed {W : Nat} {o s : State} (k e : Nat) (hW : SubMask State.keepEntry_writes W)
    (hs : State.Framed W o s) :
    State.Framed W o (State.keepEntry s k e) := by
  delta State.keepEntry
  repeat' first
    | with_reducible assumption
    | (fail_if_no_progress with_reducible refine State.Framed.mkOf ?_ rfl rfl rfl rfl rfl rfl rfl)

def State.showRecon_writes : Nat := regMask [.LRN_STR_RECON] ||| State.ledgerBulk_writes
theorem State.showRecon_framed {W : Nat} {o s : State} (n kind tu : Nat) (dq sg : Rat)
    (hW : SubMask State.showRecon_writes W) (hs : State.Framed W o s) :
    State.Framed W o (State.showRecon s n kind tu dq sg) := by
  delta State.showRecon
  repeat' first
    | with_reducible assumption
    | (with_reducible refine State.setFld_framed _ _ _ _ (hW.trans (by decide)) ?_)
    | (with_reducible refine State.setSatFld_framed _ _ _ _ (hW.trans (by decide)) ?_)
    | (with_reducible refine State.ledgerBulk_framed _ _ _ (hW.trans (by decide)) ?_)

end Sys2Proof.Machine
end

