-- ==== Sys2Proof/Laws/FrameEstimate.lean ====
section
/-! SUPPORT. Frames of Machine/Estimate.lean: for each operation, all it can write. -/

namespace Sys2Proof.Machine

set_option Elab.async false
set_option linter.unusedTactic false
set_option linter.unreachableTactic false
set_option exponentiation.threshold 1200

def State.setBlkE_writes : Nat := partMask [.blkEst]
theorem State.setBlkE_framed {W : Nat} {o s : State} (b : Nat) (x : BlkEst) (hW : SubMask State.setBlkE_writes W)
    (hs : State.Framed W o s) :
    State.Framed W o (State.setBlkE s b x) := by
  delta State.setBlkE
  repeat' first
    | with_reducible assumption
    | (fail_if_no_progress with_reducible refine State.Framed.mkOf ?_ rfl rfl rfl rfl rfl rfl rfl)

def State.seedStep_writes : Nat := regMask [.EST_FLAGS] ||| State.putCell_writes
theorem State.seedStep_framed {W : Nat} {o s : State} (k : Nat) (c : Cell) (v i dt : Rat) (m : Nat) (t : Int)
    (hW : SubMask State.seedStep_writes W) (hs : State.Framed W o s) :
    State.Framed W o (State.seedStep s k c v i dt m t) := by
  delta State.seedStep
  repeat' first
    | with_reducible assumption
    | (with_reducible refine State.Framed.ite ?_ ?_)
    | (with_reducible refine State.flag_framed _ _ _ (hW.trans (by decide)) ?_)
    | (with_reducible refine State.putCell_framed _ _ (hW.trans (by decide)) ?_)

def State.holdStep_writes : Nat := State.rlxReject_writes ||| State.setCell_writes
theorem State.holdStep_framed {W : Nat} {o s : State} (k p j : Nat) (x : StepIn) (i : Rat) (past : Option Rat) (before : Cell)
    (hW : SubMask State.holdStep_writes W) (hs : State.Framed W o s) :
    State.Framed W o (State.holdStep s k p j x i past before) := by
  delta State.holdStep
  repeat' first
    | with_reducible assumption
    | (with_reducible refine State.Framed.ite ?_ ?_)
    | (with_reducible refine State.rlxReject_framed _ (hW.trans (by decide)) ?_)
    | (with_reducible refine State.setCell_framed _ _ (hW.trans (by decide)) ?_)
    | split

def State.restStep_writes : Nat := State.restPoint_writes ||| State.setCell_writes ||| State.virtualRest_writes
theorem State.restStep_framed {W : Nat} {o s : State} (k : Nat) (x : StepIn) (v i : Rat) (m : Nat) (was : Rat)
    (hW : SubMask State.restStep_writes W) (hs : State.Framed W o s) :
    State.Framed W o (State.restStep s k x v i m was) := by
  delta State.restStep
  repeat' first
    | with_reducible assumption
    | (with_reducible refine State.Framed.ite ?_ ?_)
    | (with_reducible refine State.restPoint_framed _ _ (hW.trans (by decide)) ?_)
    | (with_reducible refine State.setCell_framed _ _ (hW.trans (by decide)) ?_)
    | (with_reducible refine State.virtualRest_framed _ _ _ _ (hW.trans (by decide)) ?_)

def State.nextEstate_writes : Nat := regMask [.EST_FLAGS]
theorem State.nextEstate_framed {W : Nat} {o s : State} (n : Nat) (c : Cell) (r : Corr) (t : Int)
    (hW : SubMask State.nextEstate_writes W) (hs : State.Framed W o s) :
    State.Framed W o (State.nextEstate s n c r t).1 := by
  delta State.nextEstate
  repeat' first
    | with_reducible assumption
    | (with_reducible refine State.flagIf_framed _ _ _ _ (hW.trans (by decide)) ?_)
    | (with_reducible refine State.flag_framed _ _ _ (hW.trans (by decide)) ?_)
    | (intro x; refine State.Framed.cut (W := W) (o := o) (x := x) ?_ ?_; (on_goal 1 => unfold x); (on_goal 2 => (intro _; clear_value x)))
    | intro x
    | split
    | lift_lets

def State.cellStep_writes : Nat := regMask [.EST_FLAGS] ||| State.holdStep_writes ||| State.nextEstate_writes |||
  State.putCell_writes ||| State.restStep_writes ||| State.seedStep_writes ||| State.seeding_writes
theorem State.cellStep_framed {W : Nat} {o s : State} (k : Nat) (x : StepIn) (past : Option Rat)
    (hW : SubMask State.cellStep_writes W) (hs : State.Framed W o s) :
    State.Framed W o (State.cellStep s k x past) := by
  delta State.cellStep
  repeat' first
    | with_reducible assumption
    | (with_reducible refine State.Framed.ite ?_ ?_)
    | (with_reducible refine State.flagIf_framed _ _ _ _ (hW.trans (by decide)) ?_)
    | (with_reducible refine State.flag_framed _ _ _ (hW.trans (by decide)) ?_)
    | (with_reducible refine State.holdStep_framed _ _ _ _ _ _ _ (hW.trans (by decide)) ?_)
    | (with_reducible refine State.nextEstate_framed _ _ _ _ (hW.trans (by decide)) ?_)
    | (with_reducible refine State.putCell_framed _ _ (hW.trans (by decide)) ?_)
    | (with_reducible refine State.restStep_framed _ _ _ _ _ _ (hW.trans (by decide)) ?_)
    | (with_reducible refine State.seedStep_framed _ _ _ _ _ _ _ (hW.trans (by decide)) ?_)
    | (with_reducible refine State.seeding_framed _ _ (hW.trans (by decide)) ?_)
    | (intro x; refine State.Framed.cut (W := W) (o := o) (x := x) ?_ ?_; (on_goal 1 => unfold x); (on_goal 2 => (intro _; clear_value x)))
    | split

def State.powerCell_writes : Nat := regMask [.EST_FLAGS] ||| State.putCell_writes
theorem State.powerCell_framed {W : Nat} {o s : State} (k : Nat) (iref : Rat) (hW : SubMask State.powerCell_writes W)
    (hs : State.Framed W o s) :
    State.Framed W o (State.powerCell s k iref) := by
  delta State.powerCell
  repeat' first
    | with_reducible assumption
    | (with_reducible refine State.Framed.ite ?_ ?_)
    | (with_reducible refine State.flagIf_framed _ _ _ _ (hW.trans (by decide)) ?_)
    | (with_reducible refine State.putCell_framed _ _ (hW.trans (by decide)) ?_)

def State.takeDiv_writes : Nat := regMask [.EST_GFLAGS, .EST_STATE] ||| partMask [.est]
theorem State.takeDiv_framed {W : Nat} {o s : State} (t : Int) (hW : SubMask State.takeDiv_writes W)
    (hs : State.Framed W o s) :
    State.Framed W o (State.takeDiv s t) := by
  delta State.takeDiv
  repeat' first
    | with_reducible assumption
    | (with_reducible refine State.setFld_framed _ _ _ _ (hW.trans (by decide)) ?_)
    | (with_reducible refine State.flagIf_framed _ _ _ _ (hW.trans (by decide)) ?_)
    | split
    | (fail_if_no_progress with_reducible refine State.Framed.mkOf ?_ rfl rfl rfl rfl rfl rfl rfl)

def State.markLate_writes : Nat := regMask [.EST_GFLAGS] ||| partMask [.alm] ||| State.setStrE_writes
theorem State.markLate_framed {W : Nat} {o s : State} (n : Nat) (t : Int) (hW : SubMask State.markLate_writes W)
    (hs : State.Framed W o s) :
    State.Framed W o (State.markLate s n t) := by
  delta State.markLate
  repeat' first
    | with_reducible assumption
    | (with_reducible refine State.Framed.ite ?_ ?_)
    | (with_reducible refine State.flag_framed _ _ _ (hW.trans (by decide)) ?_)
    | (with_reducible refine State.setStrE_framed _ _ (hW.trans (by decide)) ?_)
    | (fail_if_no_progress with_reducible refine State.Framed.mkOf ?_ rfl rfl rfl rfl rfl rfl rfl)
    | (intro x; refine State.Framed.cut (W := W) (o := o) (x := x) ?_ ?_; (on_goal 1 => unfold x); (on_goal 2 => (intro _; clear_value x)))
    | intro x

def State.enginePause_writes : Nat := regMask [.EST_FLAGS] ||| State.putCell_writes ||| State.rlxReject_writes |||
  State.setBlkE_writes ||| State.setCell_writes
theorem State.enginePause_framed {W : Nat} {o s : State} (e : Nat) (hW : SubMask State.enginePause_writes W)
    (hs : State.Framed W o s) :
    State.Framed W o (State.enginePause s e) := by
  delta State.enginePause
  repeat' first
    | with_reducible assumption
    | (with_reducible refine State.Framed.ite ?_ ?_)
    | (with_reducible refine State.flag_framed _ _ _ (hW.trans (by decide)) ?_)
    | (with_reducible refine State.putCell_framed _ _ (hW.trans (by decide)) ?_)
    | (with_reducible refine State.rlxReject_framed _ (hW.trans (by decide)) ?_)
    | (with_reducible refine State.setBlkE_framed _ _ (hW.trans (by decide)) ?_)
    | (with_reducible refine State.setCell_framed _ _ (hW.trans (by decide)) ?_)
    | (with_reducible refine State.Framed.foldl _ ?_ (fun t e h => ?_))

def State.blockResume_writes : Nat := State.dropAnchor_writes ||| State.putCell_writes |||
  State.restoreCell_writes ||| State.setBlkE_writes ||| State.setCell_writes
theorem State.blockResume_framed {W : Nat} {o s : State} (b : Nat) (hW : SubMask State.blockResume_writes W)
    (hs : State.Framed W o s) :
    State.Framed W o (State.blockResume s b) := by
  delta State.blockResume
  dsimp only
  repeat' first
    | with_reducible assumption
    | (with_reducible refine State.setCell_framed _ _ (hW.trans (by decide)) ?_)
    | (with_reducible refine State.Framed.ite ?_ ?_)
    | (with_reducible refine State.dropAnchor_framed _ _ (hW.trans (by decide)) ?_)
    | (with_reducible refine State.putCell_framed _ _ (hW.trans (by decide)) ?_)
    | (with_reducible refine State.restoreCell_framed _ (hW.trans (by decide)) ?_)
    | (with_reducible refine State.setBlkE_framed _ _ (hW.trans (by decide)) ?_)
    | (with_reducible refine State.Framed.foldl _ ?_ (fun t e h => ?_))
    | split
    | (fail_if_no_progress with_reducible refine State.Framed.mkOf ?_ rfl rfl rfl rfl rfl rfl rfl)
    | (intro x; refine State.Framed.cut (W := W) (o := o) (x := x) ?_ ?_; (on_goal 1 => unfold x); (on_goal 2 => (intro _; clear_value x)))
    | intro x

def State.dropKept_writes : Nat := partMask [.keptNodes]
theorem State.dropKept_framed {W : Nat} {o s : State} (n p : Nat) (hW : SubMask State.dropKept_writes W)
    (hs : State.Framed W o s) :
    State.Framed W o (State.dropKept s n p) := by
  delta State.dropKept
  repeat' first
    | with_reducible assumption
    | (fail_if_no_progress with_reducible refine State.Framed.mkOf ?_ rfl rfl rfl rfl rfl rfl rfl)

def State.swapCmd_writes : Nat := State.sessionCommand_writes
theorem State.swapCmd_framed {W : Nat} {o s : State} (k n p action key : Nat) (act : State → State)
    (hW : SubMask State.swapCmd_writes W) (hs : State.Framed W o s) (ha : ∀ t, State.Framed W o t → State.Framed W o (act t)) :
    State.Framed W o (s.swapCmd k n p action key act) :=
  State.sessionCommand_framed _ _ _ _ _ _ _ (hW.trans (by decide)) hs ha

def State.showLearn_writes : Nat := regMask [.LRN_STR_AGE, .LRN_STR_CAP, .LRN_STR_EFC]
theorem State.showLearn_framed {W : Nat} {o s : State} (n : Nat) (hW : SubMask State.showLearn_writes W)
    (hs : State.Framed W o s) :
    State.Framed W o (State.showLearn s n) := by
  delta State.showLearn
  repeat' first
    | with_reducible assumption
    | (with_reducible refine State.setReg_framed _ _ _ _ (hW.trans (by decide)) ?_)
    | (with_reducible refine State.setFld_framed _ _ _ _ (hW.trans (by decide)) ?_)

def State.aggString_writes : Nat := regMask [.EST_FLAGS, .EST_STR_CNT, .EST_STR_E, .EST_STR_LIM, .EST_STR_SOC, .EST_STR_SOH, .EST_STR_SOPC, .EST_STR_SOPD, .EST_STR_STAMP] |||
  State.balStop_writes ||| State.setStrE_writes ||| State.showLearn_writes
theorem State.aggString_framed {W : Nat} {o s : State} (n : Nat) (a : Int) (hW : SubMask State.aggString_writes W)
    (hs : State.Framed W o s) :
    State.Framed W o (State.aggString s n a) := by
  delta State.aggString
  repeat' first
    | with_reducible assumption
    | (with_reducible refine State.Framed.ite ?_ ?_)
    | (with_reducible refine State.balStop_framed _ (hW.trans (by decide)) ?_)
    | (with_reducible refine State.setReg_framed _ _ _ _ (hW.trans (by decide)) ?_)
    | (with_reducible refine State.setFld_framed _ _ _ _ (hW.trans (by decide)) ?_)
    | (with_reducible refine State.setBit_framed _ _ _ _ (hW.trans (by decide)) ?_)
    | (with_reducible refine State.flagIf_framed _ _ _ _ (hW.trans (by decide)) ?_)
    | (with_reducible refine State.setStrE_framed _ _ (hW.trans (by decide)) ?_)
    | (with_reducible refine State.showLearn_framed _ (hW.trans (by decide)) ?_)
    | (with_reducible refine State.Framed.foldl _ ?_ (fun t e h => ?_))
    | split
    | (fail_if_no_progress with_reducible refine State.Framed.mkOf ?_ rfl rfl rfl rfl rfl rfl rfl)

def State.aggContainer_writes : Nat := regMask [.EST_CTR_E, .EST_CTR_SET, .EST_CTR_SOC, .EST_CTR_SOPC, .EST_CTR_SOPD, .EST_CTR_SOPSET, .EST_CTR_STAMP]
theorem State.aggContainer_framed {W : Nat} {o s : State} (a : Int) (hW : SubMask State.aggContainer_writes W)
    (hs : State.Framed W o s) :
    State.Framed W o (State.aggContainer s a) := by
  delta State.aggContainer
  repeat' first
    | with_reducible assumption
    | (with_reducible refine State.setReg_framed _ _ _ _ (hW.trans (by decide)) ?_)
    | (with_reducible refine State.setFld_framed _ _ _ _ (hW.trans (by decide)) ?_)
    | (with_reducible refine State.Framed.foldl _ ?_ (fun t e h => ?_))

end Sys2Proof.Machine
end

