-- ==== Sys2Proof/Laws/FrameServices.lean ====
section
/-! SUPPORT. Frames of Machine/Services.lean: for each operation, all it can write. -/

namespace Sys2Proof.Machine

set_option Elab.async false
set_option linter.unusedTactic false
set_option linter.unreachableTactic false
set_option exponentiation.threshold 1200

def State.keepRequest_writes : Nat := partMask [.dsp]
theorem State.keepRequest_framed {W : Nat} {o s : State}  (hW : SubMask State.keepRequest_writes W)
    (hs : State.Framed W o s) :
    State.Framed W o (State.keepRequest s) := by
  delta State.keepRequest
  repeat' first
    | with_reducible assumption
    | (with_reducible refine State.Framed.ite ?_ ?_)
    | (fail_if_no_progress with_reducible refine State.Framed.mkOf ?_ rfl rfl rfl rfl rfl rfl rfl)

def State.publishLimits_writes : Nat := regMask [.DSP_LIM_CHG, .DSP_LIM_DIS, .DSP_LIM_I] ||| State.draw_writes |||
  State.publish_writes ||| State.send_writes
theorem State.publishLimits_framed {W : Nat} {o s : State} (gone : Nat) (hW : SubMask State.publishLimits_writes W)
    (hs : State.Framed W o s) :
    State.Framed W o (State.publishLimits s gone) := by
  delta State.publishLimits
  repeat' first
    | with_reducible assumption
    | (with_reducible refine State.publish_framed _ _ (hW.trans (by decide)) ?_)
    | (with_reducible refine State.setReg_framed _ _ _ _ (hW.trans (by decide)) ?_)
    | (with_reducible refine State.setFld_framed _ _ _ _ (hW.trans (by decide)) ?_)
    | (with_reducible refine State.draw_framed (hW.trans (by decide)) ?_)
    | (with_reducible refine State.send_framed _ (hW.trans (by decide)) ?_)
    | (with_reducible refine State.Framed.foldl _ ?_ (fun t e h => ?_))

def State.reqLimited_writes : Nat := regMask [.DSP_FLAGS, .DSP_STATE] ||| State.balStop_writes |||
  State.event_writes
theorem State.reqLimited_framed {W : Nat} {o s : State}  (hW : SubMask State.reqLimited_writes W)
    (hs : State.Framed W o s) :
    State.Framed W o (State.reqLimited s) := by
  delta State.reqLimited
  repeat' first
    | with_reducible assumption
    | (with_reducible refine State.setBit_framed _ _ _ _ (hW.trans (by decide)) ?_)
    | (with_reducible refine State.Framed.ite ?_ ?_)
    | (with_reducible refine State.Framed.foldl _ ?_ (fun t e h => ?_))
    | (with_reducible refine State.balStop_framed _ (hW.trans (by decide)) ?_)
    | (with_reducible refine State.flag_framed _ _ _ (hW.trans (by decide)) ?_)
    | (with_reducible refine State.event_framed _ _ _ (hW.trans (by decide)) ?_)

def State.noteCharge_writes : Nat := partMask [.dsp]
theorem State.noteCharge_framed {W : Nat} {o s : State}  (hW : SubMask State.noteCharge_writes W)
    (hs : State.Framed W o s) :
    State.Framed W o (State.noteCharge s) := by
  delta State.noteCharge
  repeat' first
    | with_reducible assumption
    | (fail_if_no_progress with_reducible refine State.Framed.mkOf ?_ rfl rfl rfl rfl rfl rfl rfl)

def State.dispatchPass_writes : Nat := regMask [.DSP_FLAGS, .DSP_LIM_STAMP, .DSP_STATE, .DSP_STR_A] |||
  partMask [.dsp] ||| State.draw_writes ||| State.noteCharge_writes ||| State.publishLimits_writes |||
  State.reqLimited_writes ||| State.setTrim_writes
theorem State.dispatchPass_framed {W : Nat} {o s : State} (a : Int) (hW : SubMask State.dispatchPass_writes W)
    (hs : State.Framed W o s) :
    State.Framed W o (State.dispatchPass s a) := by
  delta State.dispatchPass
  repeat' first
    | with_reducible assumption
    | (with_reducible refine State.Framed.ite ?_ ?_)
    | (with_reducible refine State.setReg_framed _ _ _ _ (hW.trans (by decide)) ?_)
    | (with_reducible refine State.setFld_framed _ _ _ _ (hW.trans (by decide)) ?_)
    | (with_reducible refine State.setBit_framed _ _ _ _ (hW.trans (by decide)) ?_)
    | (with_reducible refine State.flagIf_framed _ _ _ _ (hW.trans (by decide)) ?_)
    | (with_reducible refine State.draw_framed (hW.trans (by decide)) ?_)
    | (with_reducible refine State.noteCharge_framed (hW.trans (by decide)) ?_)
    | (with_reducible refine State.publishLimits_framed _ (hW.trans (by decide)) ?_)
    | (with_reducible refine State.reqLimited_framed (hW.trans (by decide)) ?_)
    | (with_reducible refine State.setTrim_framed _ _ (hW.trans (by decide)) ?_)
    | (with_reducible refine State.Framed.foldl _ ?_ (fun t e h => ?_))
    | (intro x; clear_value x)
    | (fail_if_no_progress with_reducible refine State.Framed.mkOf ?_ rfl rfl rfl rfl rfl rfl rfl)

def State.balSend_writes : Nat := State.nodeCmd_writes
theorem State.balSend_framed {W : Nat} {o s : State} (n p : Nat) (old new : List Nat)
    (hW : SubMask State.balSend_writes W) (hs : State.Framed W o s) :
    State.Framed W o (State.balSend s n p old new) := by
  delta State.balSend
  repeat' first
    | with_reducible assumption
    | (with_reducible refine State.Framed.ite ?_ ?_)
    | (with_reducible refine State.nodeCmd_framed _ _ _ _ _ (hW.trans (by decide)) ?_)

def State.balString_writes : Nat := regMask [.DSP_FLAGS, .DSP_STR_BAL] ||| partMask [.dsp] |||
  State.balSend_writes ||| State.balStop_writes ||| State.nodeCmd_writes
theorem State.balString_framed {W : Nat} {o s : State} (n : Nat) (hW : SubMask State.balString_writes W)
    (hs : State.Framed W o s) :
    State.Framed W o (State.balString s n) := by
  delta State.balString
  repeat' first
    | with_reducible assumption
    | (with_reducible refine State.balStop_framed _ (hW.trans (by decide)) ?_)
    | (with_reducible refine State.Framed.ite ?_ ?_)
    | (with_reducible refine State.setFld_framed _ _ _ _ (hW.trans (by decide)) ?_)
    | (with_reducible refine State.setBit_framed _ _ _ _ (hW.trans (by decide)) ?_)
    | (with_reducible refine State.flag_framed _ _ _ (hW.trans (by decide)) ?_)
    | (with_reducible refine State.balSend_framed _ _ _ _ (hW.trans (by decide)) ?_)
    | (with_reducible refine State.nodeCmd_framed _ _ _ _ _ (hW.trans (by decide)) ?_)
    | (with_reducible refine State.Framed.foldl _ ?_ (fun t e h => ?_))
    | (fail_if_no_progress with_reducible refine State.Framed.mkOf ?_ rfl rfl rfl rfl rfl rfl rfl)

def State.hvacEval_writes : Nat := regMask [.DSP_FLAGS, .DSP_HVAC, .DSP_HVAC_T] ||| partMask [.dsp] |||
  State.draw_writes ||| State.event_writes ||| State.publish_writes ||| State.send_writes
theorem State.hvacEval_framed {W : Nat} {o s : State}  (hW : SubMask State.hvacEval_writes W)
    (hs : State.Framed W o s) :
    State.Framed W o (State.hvacEval s) := by
  delta State.hvacEval
  repeat' first
    | with_reducible assumption
    | (with_reducible refine State.publish_framed _ _ (hW.trans (by decide)) ?_)
    | (with_reducible refine State.Framed.ite ?_ ?_)
    | (with_reducible refine State.setFld_framed _ _ _ _ (hW.trans (by decide)) ?_)
    | (with_reducible refine State.setSFld_framed _ _ _ _ (hW.trans (by decide)) ?_)
    | (with_reducible refine State.setSatFld_framed _ _ _ _ (hW.trans (by decide)) ?_)
    | (with_reducible refine State.flagIf_framed _ _ _ _ (hW.trans (by decide)) ?_)
    | (with_reducible refine State.flag_framed _ _ _ (hW.trans (by decide)) ?_)
    | (with_reducible refine State.draw_framed (hW.trans (by decide)) ?_)
    | (with_reducible refine State.event_framed _ _ _ (hW.trans (by decide)) ?_)
    | (with_reducible refine State.send_framed _ (hW.trans (by decide)) ?_)
    | (fail_if_no_progress with_reducible refine State.Framed.mkOf ?_ rfl rfl rfl rfl rfl rfl rfl)

def State.recFreeze_writes : Nat := regMask [.DSP_FLAGS, .DSP_REC_STATE] ||| partMask [.recorder] |||
  State.event_writes ||| State.ledger_writes
theorem State.recFreeze_framed {W : Nat} {o s : State}  (hW : SubMask State.recFreeze_writes W)
    (hs : State.Framed W o s) :
    State.Framed W o (State.recFreeze s) := by
  delta State.recFreeze
  repeat' first
    | with_reducible assumption
    | (with_reducible refine State.setFld_framed _ _ _ _ (hW.trans (by decide)) ?_)
    | (with_reducible refine State.flag_framed _ _ _ (hW.trans (by decide)) ?_)
    | (with_reducible refine State.event_framed _ _ _ (hW.trans (by decide)) ?_)
    | (with_reducible refine State.ledger_framed _ _ (hW.trans (by decide)) ?_)
    | (fail_if_no_progress with_reducible refine State.Framed.mkOf ?_ rfl rfl rfl rfl rfl rfl rfl)

def State.putFrame_writes : Nat := memMask
theorem State.putFrame_framed {W : Nat} {o s : State} (f : Nat) (r : RecInst) (trig : Bool) (hW : SubMask State.putFrame_writes W)
    (hs : State.Framed W o s) : State.Framed W o (s.putFrame f r trig) := by
  unfold State.putFrame
  generalize (List.range 16384).flatMap _ = cells
  exact State.putMem_framed hW hs rfl (fun h => memPutBytes_wf _ _ _ (memPutBytes_wf _ _ _ h))

def State.recFrame_writes : Nat := regMask [.DSP_REC_STATE, .DSP_REC_TRIG] ||| partMask [.recorder] |||
  State.putFrame_writes ||| State.recFreeze_writes
theorem State.recFrame_framed {W : Nat} {o s : State} (r : RecInst) (hW : SubMask State.recFrame_writes W)
    (hs : State.Framed W o s) :
    State.Framed W o (State.recFrame s r) := by
  delta State.recFrame
  repeat' first
    | with_reducible assumption
    | (with_reducible refine State.Framed.ite ?_ ?_)
    | (with_reducible refine State.setFld_framed _ _ _ _ (hW.trans (by decide)) ?_)
    | (with_reducible refine State.setBit_framed _ _ _ _ (hW.trans (by decide)) ?_)
    | (with_reducible refine State.putFrame_framed _ _ _ (hW.trans (by decide)) ?_)
    | (with_reducible refine State.recFreeze_framed (hW.trans (by decide)) ?_)
    | (fail_if_no_progress with_reducible refine State.Framed.mkOf ?_ rfl rfl rfl rfl rfl rfl rfl)

def State.recCmd_writes : Nat := State.sessionCommand_writes
theorem State.recCmd_framed {W : Nat} {o s : State} (k bits : Nat) (act : State → State)
    (hW : SubMask State.recCmd_writes W) (hs : State.Framed W o s) (ha : ∀ t, State.Framed W o t → State.Framed W o (act t)) :
    State.Framed W o (s.recCmd k bits act) :=
  State.sessionCommand_framed _ _ _ _ _ _ _ (hW.trans (by decide)) hs ha

def State.armRec_writes : Nat := regMask [.DSP_REC_STATE, .DSP_REC_TRIG] ||| partMask [.recorder]
theorem State.armRec_framed {W : Nat} {o s : State}  (hW : SubMask State.armRec_writes W) (hs : State.Framed W o s) :
    State.Framed W o (State.armRec s) := by
  delta State.armRec
  repeat' first
    | with_reducible assumption
    | (with_reducible refine State.Framed.ite ?_ ?_)
    | (with_reducible refine State.setReg_framed _ _ _ _ (hW.trans (by decide)) ?_)
    | (with_reducible refine State.setFld_framed _ _ _ _ (hW.trans (by decide)) ?_)
    | (intro x; refine State.Framed.cut (W := W) (o := o) (x := x) ?_ ?_; (on_goal 1 => unfold x); (on_goal 2 => (intro _; clear_value x)))
    | (fail_if_no_progress with_reducible refine State.Framed.mkOf ?_ rfl rfl rfl rfl rfl rfl rfl)

def State.stopRec_writes : Nat := regMask [.DSP_REC_STATE] ||| partMask [.recorder]
theorem State.stopRec_framed {W : Nat} {o s : State}  (hW : SubMask State.stopRec_writes W)
    (hs : State.Framed W o s) :
    State.Framed W o (State.stopRec s) := by
  delta State.stopRec
  repeat' first
    | with_reducible assumption
    | (with_reducible refine State.setFld_framed _ _ _ _ (hW.trans (by decide)) ?_)
    | (fail_if_no_progress with_reducible refine State.Framed.mkOf ?_ rfl rfl rfl rfl rfl rfl rfl)

end Sys2Proof.Machine
end

