-- ==== Sys2Proof/Laws/FrameCommons.lean ====
section
/-! SUPPORT. Frames of Machine/Commons.lean: for each operation, all it can write. -/

namespace Sys2Proof.Machine

set_option Elab.async false
set_option linter.unusedTactic false
set_option linter.unreachableTactic false
set_option exponentiation.threshold 1200

def State.showSessions_writes : Nat := regMask [.COM_STATE, .TG_STATE]
theorem State.showSessions_framed {W : Nat} {o s : State}  (hW : SubMask State.showSessions_writes W)
    (hs : State.Framed W o s) :
    State.Framed W o (State.showSessions s) := by
  delta State.showSessions
  repeat' first
    | with_reducible assumption
    | (with_reducible refine State.setFld_framed _ _ _ _ (hW.trans (by decide)) ?_)
    | (with_reducible refine State.setBit_framed _ _ _ _ (hW.trans (by decide)) ?_)

def State.auditSession_writes : Nat := State.ledger_writes
theorem State.auditSession_framed {W : Nat} {o s : State} (k role what cert : Nat)
    (hW : SubMask State.auditSession_writes W) (hs : State.Framed W o s) :
    State.Framed W o (State.auditSession s k role what cert) := by
  delta State.auditSession
  repeat' first
    | with_reducible assumption
    | (with_reducible refine State.ledger_framed _ _ (hW.trans (by decide)) ?_)

def State.auditSummary_writes : Nat := State.ledger_writes
theorem State.auditSummary_framed {W : Nat} {o s : State} (k count what : Nat)
    (hW : SubMask State.auditSummary_writes W) (hs : State.Framed W o s) :
    State.Framed W o (State.auditSummary s k count what) := by
  delta State.auditSummary
  repeat' first
    | with_reducible assumption
    | (with_reducible refine State.ledger_framed _ _ (hW.trans (by decide)) ?_)

def State.setMem_writes : Nat := memMask
theorem State.setMem_framed {W : Nat} {o s : State} (a n v : Nat) (hW : SubMask State.setMem_writes W)
    (hs : State.Framed W o s) : State.Framed W o (s.setMem a n v) :=
  State.putMem_framed hW hs rfl (memPutLe_wf _ _ _ _)

def State.setQFill_writes : Nat := memMask ||| State.setMem_writes
theorem State.setQFill_framed {W : Nat} {o s : State} (q v : Nat) (hW : SubMask State.setQFill_writes W)
    (hs : State.Framed W o s) :
    State.Framed W o (State.setQFill s q v) := by
  delta State.setQFill
  repeat' first
    | with_reducible assumption
    | (with_reducible refine State.setMem_framed _ _ _ (hW.trans (by decide)) ?_)

def State.qIn_writes : Nat := memMask ||| State.setMem_writes
theorem State.qIn_framed {W : Nat} {o s : State} (q : Nat) (hW : SubMask State.qIn_writes W)
    (hs : State.Framed W o s) :
    State.Framed W o (State.qIn s q) := by
  delta State.qIn
  repeat' first
    | with_reducible assumption
    | (with_reducible refine State.setMem_framed _ _ _ (hW.trans (by decide)) ?_)

def State.qOut_writes : Nat := memMask ||| State.setMem_writes
theorem State.qOut_framed {W : Nat} {o s : State} (q : Nat) (hW : SubMask State.qOut_writes W)
    (hs : State.Framed W o s) :
    State.Framed W o (State.qOut s q) := by
  delta State.qOut
  repeat' first
    | with_reducible assumption
    | (with_reducible refine State.setMem_framed _ _ _ (hW.trans (by decide)) ?_)

def State.qDrop_writes : Nat := regMask [.COM_FLAGS] ||| memMask ||| State.setMem_writes
theorem State.qDrop_framed {W : Nat} {o s : State} (q : Nat) (hW : SubMask State.qDrop_writes W)
    (hs : State.Framed W o s) :
    State.Framed W o (State.qDrop s q) := by
  delta State.qDrop
  repeat' first
    | with_reducible assumption
    | (with_reducible refine State.flag_framed _ _ _ (hW.trans (by decide)) ?_)
    | (with_reducible refine State.setMem_framed _ _ _ (hW.trans (by decide)) ?_)

def State.qBind_writes : Nat := memMask ||| State.setMem_writes
theorem State.qBind_framed {W : Nat} {o s : State} (q cls port owner depth : Nat) (hW : SubMask State.qBind_writes W)
    (hs : State.Framed W o s) :
    State.Framed W o (State.qBind s q cls port owner depth) := by
  delta State.qBind
  repeat' first
    | with_reducible assumption
    | (with_reducible refine State.setMem_framed _ _ _ (hW.trans (by decide)) ?_)

def State.showQueues_writes : Nat := regMask [.COM_STATE]
theorem State.showQueues_framed {W : Nat} {o s : State}  (hW : SubMask State.showQueues_writes W)
    (hs : State.Framed W o s) :
    State.Framed W o (State.showQueues s) := by
  delta State.showQueues
  repeat' first
    | with_reducible assumption
    | (with_reducible refine State.setFld_framed _ _ _ _ (hW.trans (by decide)) ?_)

def State.qRelease_writes : Nat := partMask [.com] ||| memMask ||| State.setMem_writes ||| State.setQFill_writes
theorem State.qRelease_framed {W : Nat} {o s : State} (q : Nat) (hW : SubMask State.qRelease_writes W)
    (hs : State.Framed W o s) :
    State.Framed W o (State.qRelease s q) := by
  delta State.qRelease
  repeat' first
    | with_reducible assumption
    | (with_reducible refine State.setMem_framed _ _ _ (hW.trans (by decide)) ?_)
    | (with_reducible refine State.setQFill_framed _ _ (hW.trans (by decide)) ?_)
    | (intro x; refine State.Framed.cut (W := W) (o := o) (x := x) ?_ ?_; (on_goal 1 => unfold x); (on_goal 2 => (intro _; clear_value x)))
    | (fail_if_no_progress with_reducible refine State.Framed.mkOf ?_ rfl rfl rfl rfl rfl rfl rfl)

def State.closeSession_writes : Nat := regMask [.TG_FLAGS] ||| partMask [.com] ||| State.auditSession_writes |||
  State.auditSummary_writes ||| State.injEnd_writes ||| State.qRelease_writes ||| State.setSession_writes |||
  State.showQueues_writes ||| State.showSessions_writes
theorem State.closeSession_framed {W : Nat} {o s : State} (k : Nat) (hW : SubMask State.closeSession_writes W)
    (hs : State.Framed W o s) :
    State.Framed W o (State.closeSession s k) := by
  delta State.closeSession
  repeat' first
    | with_reducible assumption
    | (with_reducible refine State.Framed.ite ?_ ?_)
    | (with_reducible refine State.flag_framed _ _ _ (hW.trans (by decide)) ?_)
    | (with_reducible refine State.auditSession_framed _ _ _ _ (hW.trans (by decide)) ?_)
    | (with_reducible refine State.auditSummary_framed _ _ _ (hW.trans (by decide)) ?_)
    | (with_reducible refine State.injEnd_framed _ (hW.trans (by decide)) ?_)
    | (with_reducible refine State.qRelease_framed _ (hW.trans (by decide)) ?_)
    | (with_reducible refine State.setSession_framed _ _ (hW.trans (by decide)) ?_)
    | (with_reducible refine State.showQueues_framed (hW.trans (by decide)) ?_)
    | (with_reducible refine State.showSessions_framed (hW.trans (by decide)) ?_)
    | (with_reducible refine State.Framed.foldl _ ?_ (fun t e h => ?_))
    | (fail_if_no_progress with_reducible refine State.Framed.mkOf ?_ rfl rfl rfl rfl rfl rfl rfl)

def State.refuseHandshake_writes : Nat := regMask [.TG_FLAGS] ||| State.answer_writes |||
  State.auditSession_writes
theorem State.refuseHandshake_framed {W : Nat} {o s : State} (h : Handshake) (auth : Bool)
    (hW : SubMask State.refuseHandshake_writes W) (hs : State.Framed W o s) :
    State.Framed W o (State.refuseHandshake s h auth) := by
  delta State.refuseHandshake
  repeat' first
    | with_reducible assumption
    | (with_reducible refine State.flagIf_framed _ _ _ _ (hW.trans (by decide)) ?_)
    | (with_reducible refine State.answer_framed _ (hW.trans (by decide)) ?_)
    | (with_reducible refine State.auditSession_framed _ _ _ _ (hW.trans (by decide)) ?_)

def State.openSession_writes : Nat := State.setSession_writes ||| State.auditSession_writes |||
  State.showSessions_writes ||| State.answer_writes ||| partMask [.com]
theorem State.openSession_framed {W : Nat} {o s : State} (k : Nat) (r : Role) (h : Handshake)
    (hW : SubMask State.openSession_writes W) (hs : State.Framed W o s) : State.Framed W o (s.openSession k r h) := by
  unfold State.openSession
  refine State.answer_framed _ (hW.trans (by decide)) (State.showSessions_framed (hW.trans (by decide))
    (State.auditSession_framed _ _ _ _ (hW.trans (by decide)) ?_))
  have h1 := State.setSession_framed k ⟨true, r, h.certId.toNat, s.now, 0, 0, [], 0, 0⟩ (hW.trans (by decide)) hs
  have h2 : State.Framed W o { s.setSession k ⟨true, r, h.certId.toNat, s.now, 0, 0, [], 0, 0⟩ with
      shadows := (s.setSession k ⟨true, r, h.certId.toNat, s.now, 0, 0, [], 0, 0⟩).shadows.filter fun e => (Nat.unpair e.1).1 != k } :=
    h1.trans (State.Framed.tables rfl rfl rfl (fun k => ⟨k.1, k.2.1, sparseWf_filter _ _ _ k.2.2.1, k.2.2.2⟩)
      (fun _ _ _ _ => rfl) (fun _ => rfl) rfl)
  exact State.Framed.mkOf h2 rfl rfl rfl rfl rfl rfl rfl

def State.deviceBind_writes : Nat := State.draw_writes ||| State.qBind_writes
theorem State.deviceBind_framed {W : Nat} {o s : State} (q cls port : Nat) (hW : SubMask State.deviceBind_writes W)
    (hs : State.Framed W o s) :
    State.Framed W o (State.deviceBind s q cls port) := by
  delta State.deviceBind
  repeat' first
    | with_reducible assumption
    | (with_reducible refine State.draw_framed (hW.trans (by decide)) ?_)
    | (with_reducible refine State.qBind_framed _ _ _ _ _ (hW.trans (by decide)) ?_)
    | split

def State.nextSeq_writes : Nat := partMask [.span, .tripSeq]
theorem State.nextSeq_framed {W : Nat} {o s : State} (cls : Nat) (hW : SubMask State.nextSeq_writes W)
    (hs : State.Framed W o s) :
    State.Framed W o (State.nextSeq s cls).1 := by
  delta State.nextSeq
  repeat' first
    | with_reducible assumption
    | split
    | (fail_if_no_progress with_reducible refine State.Framed.mkOf ?_ rfl rfl rfl rfl rfl rfl rfl)

def State.setFrames_writes : Nat := partMask [.com]
theorem State.setFrames_framed {W : Nat} {o s : State} (q : Nat) (fs : List QFrame)
    (hW : SubMask State.setFrames_writes W) (hs : State.Framed W o s) :
    State.Framed W o (State.setFrames s q fs) := by
  delta State.setFrames
  repeat' first
    | with_reducible assumption
    | (fail_if_no_progress with_reducible refine State.Framed.mkOf ?_ rfl rfl rfl rfl rfl rfl rfl)

def State.enqueue_writes : Nat := partMask [.com] ||| State.nextSeq_writes ||| State.qDrop_writes |||
  State.qIn_writes ||| State.qOut_writes ||| State.setFrames_writes ||| State.setQFill_writes
theorem State.enqueue_framed {W : Nat} {o s : State} (q kind dst : Nat) (payload : List Byte) (hW : SubMask State.enqueue_writes W)
    (hs : State.Framed W o s) :
    State.Framed W o (State.enqueue s q kind dst payload) := by
  delta State.enqueue
  repeat' first
    | with_reducible assumption
    | (with_reducible refine State.Framed.ite ?_ ?_)
    | (with_reducible refine State.setQFill_framed _ _ (hW.trans (by decide)) ?_)
    | (with_reducible refine State.setFrames_framed _ _ (hW.trans (by decide)) ?_)
    | (with_reducible refine State.qOut_framed _ (hW.trans (by decide)) ?_)
    | (with_reducible refine State.qIn_framed _ (hW.trans (by decide)) ?_)
    | (with_reducible refine State.qDrop_framed _ (hW.trans (by decide)) ?_)
    | (with_reducible refine State.nextSeq_framed _ (hW.trans (by decide)) ?_)
    | (fail_if_no_progress with_reducible refine State.Framed.mkOf ?_ rfl rfl rfl rfl rfl rfl rfl)
    | (intro x; refine State.Framed.cut (W := W) (o := o) (x := x) ?_ ?_; (on_goal 1 => unfold x); (on_goal 2 => (intro _; clear_value x)))
    | intro x

def State.flushPubs_writes : Nat := partMask [.com] ||| State.enqueue_writes
theorem State.flushPubs_framed {W : Nat} {o s : State}  (hW : SubMask State.flushPubs_writes W)
    (hs : State.Framed W o s) :
    State.Framed W o (State.flushPubs s ) := by
  delta State.flushPubs
  repeat' first
    | with_reducible assumption
    | (with_reducible refine State.Framed.foldl _ ?_ (fun t e h => ?_))
    | (with_reducible refine State.enqueue_framed _ _ _ _ (hW.trans (by decide)) ?_)
    | split
    | (fail_if_no_progress with_reducible refine State.Framed.mkOf ?_ rfl rfl rfl rfl rfl rfl rfl)

def State.showBulk_writes : Nat := regMask [.COM_PORT_STATE]
theorem State.showBulk_framed {W : Nat} {o s : State} (p : Nat) (hW : SubMask State.showBulk_writes W)
    (hs : State.Framed W o s) :
    State.Framed W o (State.showBulk s p) := by
  delta State.showBulk
  repeat' first
    | with_reducible assumption
    | (with_reducible refine State.setFld_framed _ _ _ _ (hW.trans (by decide)) ?_)

def State.bulkAge_writes : Nat := partMask [.com] ||| State.showBulk_writes
theorem State.bulkAge_framed {W : Nat} {o s : State}  (hW : SubMask State.bulkAge_writes W)
    (hs : State.Framed W o s) :
    State.Framed W o (State.bulkAge s) := by
  delta State.bulkAge
  repeat' first
    | with_reducible assumption
    | (with_reducible refine State.Framed.ite ?_ ?_)
    | (with_reducible refine State.showBulk_framed _ (hW.trans (by decide)) ?_)
    | (with_reducible refine State.Framed.foldl _ ?_ (fun t e h => ?_))
    | (fail_if_no_progress with_reducible refine State.Framed.mkOf ?_ rfl rfl rfl rfl rfl rfl rfl)

def State.chooseOffer_writes : Nat := partMask [.com]
theorem State.chooseOffer_framed {W : Nat} {o s : State} (p cls : Nat) (os : List (Nat × QFrame × Nat))
    (hW : SubMask State.chooseOffer_writes W) (hs : State.Framed W o s) :
    State.Framed W o (State.chooseOffer s p cls os).1 := by
  delta State.chooseOffer
  repeat' first
    | with_reducible assumption
    | (intro x; refine State.Framed.cut (W := W) (o := o) (x := x) ?_ ?_; (on_goal 1 => unfold x); (on_goal 2 => (intro _; clear_value x)))
    | (fail_if_no_progress with_reducible refine State.Framed.mkOf ?_ rfl rfl rfl rfl rfl rfl rfl)

def State.deliver_writes : Nat := State.qIn_writes ||| State.qOut_writes ||| State.touch_writes
theorem State.deliver_framed {W : Nat} {o s : State} (q : Nat) (hW : SubMask State.deliver_writes W)
    (hs : State.Framed W o s) :
    State.Framed W o (State.deliver s q) := by
  delta State.deliver
  repeat' first
    | with_reducible assumption
    | (with_reducible refine State.Framed.ite ?_ ?_)
    | (with_reducible refine State.qIn_framed _ (hW.trans (by decide)) ?_)
    | (with_reducible refine State.qOut_framed _ (hW.trans (by decide)) ?_)
    | (with_reducible refine State.touch_framed _ (hW.trans (by decide)) ?_)

theorem State.prpCount_framed {W : Nat} {o s : State} (f : Fld) (p : Nat) (hW : SubMask (regMask [f.reg]) W)
    (hs : State.Framed W o s) : State.Framed W o (s.prpCount f p) :=
  State.setFld_framed _ _ _ _ hW hs

def State.ethRx_writes : Nat := regMask [.ETH_PRP_CNT] ||| partMask [.com] ||| State.deliver_writes
theorem State.ethRx_framed {W : Nat} {o s : State} (p : Nat) (f : EthFrame) (hW : SubMask State.ethRx_writes W)
    (hs : State.Framed W o s) :
    State.Framed W o (State.ethRx s p f) := by
  delta State.ethRx
  repeat' first
    | with_reducible assumption
    | (with_reducible refine State.Framed.ite ?_ ?_)
    | (with_reducible refine State.deliver_framed _ (hW.trans (by decide)) ?_)
    | (with_reducible refine State.prpCount_framed _ _ (hW.trans (by decide)) ?_)
    | split
    | (fail_if_no_progress with_reducible refine State.Framed.mkOf ?_ rfl rfl rfl rfl rfl rfl rfl)

def State.ethCfgWritten_writes : Nat := partMask [.com]
theorem State.ethCfgWritten_framed {W : Nat} {o s : State}  (hW : SubMask State.ethCfgWritten_writes W)
    (hs : State.Framed W o s) :
    State.Framed W o (State.ethCfgWritten s) := by
  delta State.ethCfgWritten
  repeat' first
    | with_reducible assumption
    | (fail_if_no_progress with_reducible refine State.Framed.mkOf ?_ rfl rfl rfl rfl rfl rfl rfl)

def State.ethCycle_writes : Nat := partMask [.com]
theorem State.ethCycle_framed {W : Nat} {o s : State} (p : Nat) (up : Bool) (hW : SubMask State.ethCycle_writes W)
    (hs : State.Framed W o s) :
    State.Framed W o (State.ethCycle s p up) := by
  delta State.ethCycle
  repeat' first
    | with_reducible assumption
    | (fail_if_no_progress with_reducible refine State.Framed.mkOf ?_ rfl rfl rfl rfl rfl rfl rfl)

def State.setPstate_writes : Nat := regMask [.COM_PORT_STATE] ||| State.judge_writes
theorem State.setPstate_framed {W : Nat} {o s : State} (west : Bool) (v : Nat) (hW : SubMask State.setPstate_writes W)
    (hs : State.Framed W o s) :
    State.Framed W o (State.setPstate s west v) := by
  delta State.setPstate
  repeat' first
    | with_reducible assumption
    | (with_reducible refine State.Framed.ite ?_ ?_)
    | (with_reducible refine State.judge_framed _ (hW.trans (by decide)) ?_)
    | (with_reducible refine State.setFld_framed _ _ _ _ (hW.trans (by decide)) ?_)

def State.nbrRecord_writes : Nat := State.ledger_writes
theorem State.nbrRecord_framed {W : Nat} {o s : State} (west : Bool) (id : Nat) (joined : Bool)
    (hW : SubMask State.nbrRecord_writes W) (hs : State.Framed W o s) :
    State.Framed W o (State.nbrRecord s west id joined) := by
  delta State.nbrRecord
  repeat' first
    | with_reducible assumption
    | (with_reducible refine State.ledger_framed _ _ (hW.trans (by decide)) ?_)

def State.nbrSeen_writes : Nat := partMask [.span]
theorem State.nbrSeen_framed {W : Nat} {o s : State} (west : Bool) (hW : SubMask State.nbrSeen_writes W)
    (hs : State.Framed W o s) :
    State.Framed W o (State.nbrSeen s west) := by
  delta State.nbrSeen
  repeat' first
    | with_reducible assumption
    | (fail_if_no_progress with_reducible refine State.Framed.mkOf ?_ rfl rfl rfl rfl rfl rfl rfl)

def State.lossCount_writes : Nat := regMask [.COM_PORT_STATE]
theorem State.lossCount_framed {W : Nat} {o s : State} (p : Nat) (hW : SubMask State.lossCount_writes W)
    (hs : State.Framed W o s) :
    State.Framed W o (State.lossCount s p) := by
  delta State.lossCount
  repeat' first
    | with_reducible assumption
    | (with_reducible refine State.setFld_framed _ _ _ _ (hW.trans (by decide)) ?_)

def State.spanRetrain_writes : Nat := regMask [.COM_PORT_STATE, .SPAN_FLAGS, .SPAN_STATE] |||
  State.lossCount_writes ||| State.nbrRecord_writes ||| State.setPstate_writes
theorem State.spanRetrain_framed {W : Nat} {o s : State} (west : Bool) (hW : SubMask State.spanRetrain_writes W)
    (hs : State.Framed W o s) :
    State.Framed W o (State.spanRetrain s west) := by
  delta State.spanRetrain
  repeat' first
    | with_reducible assumption
    | (with_reducible refine State.Framed.ite ?_ ?_)
    | (with_reducible refine State.lossCount_framed _ (hW.trans (by decide)) ?_)
    | (with_reducible refine State.setFld_framed _ _ _ _ (hW.trans (by decide)) ?_)
    | (with_reducible refine State.setBit_framed _ _ _ _ (hW.trans (by decide)) ?_)
    | (with_reducible refine State.flag_framed _ _ _ (hW.trans (by decide)) ?_)
    | (with_reducible refine State.nbrRecord_framed _ _ _ (hW.trans (by decide)) ?_)
    | (with_reducible refine State.setPstate_framed _ _ (hW.trans (by decide)) ?_)

def State.leaveUp_writes : Nat := State.spanRetrain_writes
theorem State.leaveUp_framed {W : Nat} {o s : State} (west : Bool) (hW : SubMask State.leaveUp_writes W)
    (hs : State.Framed W o s) :
    State.Framed W o (State.leaveUp s west) := by
  delta State.leaveUp
  repeat' first
    | with_reducible assumption
    | (with_reducible refine State.Framed.ite ?_ ?_)
    | (with_reducible refine State.spanRetrain_framed _ (hW.trans (by decide)) ?_)

def State.spanDown_writes : Nat := regMask [.COM_PORT_STATE, .SPAN_STATE] ||| partMask [.span] |||
  State.leaveUp_writes ||| State.setPstate_writes
theorem State.spanDown_framed {W : Nat} {o s : State}  (hW : SubMask State.spanDown_writes W)
    (hs : State.Framed W o s) :
    State.Framed W o (State.spanDown s) := by
  delta State.spanDown
  repeat' first
    | with_reducible assumption
    | (with_reducible refine State.leaveUp_framed _ (hW.trans (by decide)) ?_)
    | (with_reducible refine State.setBit_framed _ _ _ _ (hW.trans (by decide)) ?_)
    | (with_reducible refine State.setPstate_framed _ _ (hW.trans (by decide)) ?_)
    | (with_reducible refine State.Framed.foldl _ ?_ (fun t e h => ?_))
    | (intro x; refine State.Framed.cut (W := W) (o := o) (x := x) ?_ ?_; (on_goal 1 => unfold x); (on_goal 2 => (intro _; clear_value x)))
    | (fail_if_no_progress with_reducible refine State.Framed.mkOf ?_ rfl rfl rfl rfl rfl rfl rfl)

def State.spanEnWritten_writes : Nat := partMask [.span] ||| State.spanDown_writes ||| State.spanStart_writes
theorem State.spanEnWritten_framed {W : Nat} {o s : State}  (hW : SubMask State.spanEnWritten_writes W)
    (hs : State.Framed W o s) :
    State.Framed W o (State.spanEnWritten s) := by
  delta State.spanEnWritten
  repeat' first
    | with_reducible assumption
    | (with_reducible refine State.Framed.ite ?_ ?_)
    | (with_reducible refine State.spanDown_framed (hW.trans (by decide)) ?_)
    | (with_reducible refine State.spanStart_framed (hW.trans (by decide)) ?_)
    | (fail_if_no_progress with_reducible refine State.Framed.mkOf ?_ rfl rfl rfl rfl rfl rfl rfl)

def State.neighbourRx_writes : Nat := regMask [.SPAN_FLAGS] ||| partMask [.span] ||| State.nbrRecord_writes |||
  State.nbrSeen_writes ||| State.setPstate_writes
theorem State.neighbourRx_framed {W : Nat} {o s : State} (west : Bool) (f : SpanFrame)
    (hW : SubMask State.neighbourRx_writes W) (hs : State.Framed W o s) :
    State.Framed W o (State.neighbourRx s west f) := by
  delta State.neighbourRx
  repeat' first
    | with_reducible assumption
    | (with_reducible refine State.Framed.ite ?_ ?_)
    | (with_reducible refine State.flag_framed _ _ _ (hW.trans (by decide)) ?_)
    | (with_reducible refine State.nbrRecord_framed _ _ _ (hW.trans (by decide)) ?_)
    | (with_reducible refine State.nbrSeen_framed _ (hW.trans (by decide)) ?_)
    | (with_reducible refine State.setPstate_framed _ _ (hW.trans (by decide)) ?_)
    | (fail_if_no_progress with_reducible refine State.Framed.mkOf ?_ rfl rfl rfl rfl rfl rfl rfl)

def State.scanRx_writes : Nat := regMask [.SPAN_FLAGS, .SPAN_STATE] ||| partMask [.span]
theorem State.scanRx_framed {W : Nat} {o s : State} (west : Bool) (f : SpanFrame) (hW : SubMask State.scanRx_writes W)
    (hs : State.Framed W o s) :
    State.Framed W o (State.scanRx s west f) := by
  delta State.scanRx
  repeat' first
    | with_reducible assumption
    | (with_reducible refine State.Framed.ite ?_ ?_)
    | (with_reducible refine State.setFld_framed _ _ _ _ (hW.trans (by decide)) ?_)
    | (with_reducible refine State.setBit_framed _ _ _ _ (hW.trans (by decide)) ?_)
    | (with_reducible refine State.flag_framed _ _ _ (hW.trans (by decide)) ?_)
    | (fail_if_no_progress with_reducible refine State.Framed.mkOf ?_ rfl rfl rfl rfl rfl rfl rfl)

def State.fragRx_writes : Nat := partMask [.span]
theorem State.fragRx_framed {W : Nat} {o s : State} (f : SpanFrame) (hW : SubMask State.fragRx_writes W)
    (hs : State.Framed W o s) :
    State.Framed W o (State.fragRx s f).1 := by
  delta State.fragRx
  repeat' first
    | with_reducible assumption
    | (intro x; clear_value x)
    | lift_lets
    | split
    | (fail_if_no_progress with_reducible refine State.Framed.mkOf ?_ rfl rfl rfl rfl rfl rfl rfl)

def State.gatewayStatus_writes : Nat := State.send_writes
theorem State.gatewayStatus_framed {W : Nat} {o s : State} (f : SpanFrame) (hW : SubMask State.gatewayStatus_writes W)
    (hs : State.Framed W o s) :
    State.Framed W o (State.gatewayStatus s f) := by
  delta State.gatewayStatus
  repeat' first
    | with_reducible assumption
    | (with_reducible refine State.send_framed _ (hW.trans (by decide)) ?_)
    | split

def State.spanDeliver_writes : Nat := regMask [.SPAN_DUPCNT, .SPAN_FLAGS] ||| partMask [.span] |||
  State.deliver_writes ||| State.fragRx_writes ||| State.gatewayStatus_writes
theorem State.spanDeliver_framed {W : Nat} {o s : State} (q : Nat) (f : SpanFrame)
    (hW : SubMask State.spanDeliver_writes W) (hs : State.Framed W o s) :
    State.Framed W o (State.spanDeliver s q f) := by
  delta State.spanDeliver
  repeat' first
    | with_reducible assumption
    | (with_reducible refine State.Framed.ite ?_ ?_)
    | (with_reducible refine State.setReg_framed _ _ _ _ (hW.trans (by decide)) ?_)
    | (with_reducible refine State.flag_framed _ _ _ (hW.trans (by decide)) ?_)
    | (with_reducible refine State.deliver_framed _ (hW.trans (by decide)) ?_)
    | (with_reducible refine State.fragRx_framed _ (hW.trans (by decide)) ?_)
    | (with_reducible refine State.gatewayStatus_framed _ (hW.trans (by decide)) ?_)
    | (fail_if_no_progress with_reducible refine State.Framed.mkOf ?_ rfl rfl rfl rfl rfl rfl rfl)

def State.pdelayResp_writes : Nat := State.injSend_writes ||| State.nextSeq_writes
theorem State.pdelayResp_framed {W : Nat} {o s : State} (p : Nat) (t : Int) (hW : SubMask State.pdelayResp_writes W)
    (hs : State.Framed W o s) :
    State.Framed W o (State.pdelayResp s p t) := by
  delta State.pdelayResp
  repeat' first
    | with_reducible assumption
    | (with_reducible refine State.Framed.ite ?_ ?_)
    | (with_reducible refine State.nextSeq_framed _ (hW.trans (by decide)) ?_)
    | (with_reducible refine State.injSend_framed _ _ _ _ (hW.trans (by decide)) ?_)
    | (intro x; refine State.Framed.cut (W := W) (o := o) (x := x) ?_ ?_; (on_goal 1 => unfold x); (on_goal 2 => (intro _; clear_value x)))
    | intro x

def State.ptpRx_writes : Nat := partMask [.bel] ||| State.pdelayResp_writes
theorem State.ptpRx_framed {W : Nat} {o s : State} (p : Nat) (kind : PtpKind) (sub : Nat) (hW : SubMask State.ptpRx_writes W)
    (hs : State.Framed W o s) :
    State.Framed W o (State.ptpRx s p kind sub) := by
  delta State.ptpRx
  repeat' first
    | with_reducible assumption
    | (with_reducible refine State.Framed.ite ?_ ?_)
    | (with_reducible refine State.pdelayResp_framed _ _ (hW.trans (by decide)) ?_)
    | (fail_if_no_progress with_reducible refine State.Framed.mkOf ?_ rfl rfl rfl rfl rfl rfl rfl)
    | (intro x; refine State.Framed.cut (W := W) (o := o) (x := x) ?_ ?_; (on_goal 1 => unfold x); (on_goal 2 => (intro _; clear_value x)))
    | intro x

def State.releaseRx_writes : Nat := State.ethRx_writes ||| State.ptpRx_writes ||| State.spanDeliver_writes
theorem State.releaseRx_framed {W : Nat} {o s : State} (i : Option Instr) (hW : SubMask State.releaseRx_writes W)
    (hs : State.Framed W o s) :
    State.Framed W o (State.releaseRx s i) := by
  delta State.releaseRx
  repeat' first
    | with_reducible assumption
    | (with_reducible refine State.spanDeliver_framed _ _ (hW.trans (by decide)) ?_)
    | (with_reducible refine State.ptpRx_framed _ _ _ (hW.trans (by decide)) ?_)
    | (with_reducible refine State.ethRx_framed _ _ (hW.trans (by decide)) ?_)
    | split

def State.spanLocal_writes : Nat := State.injReceive_writes ||| State.releaseRx_writes |||
  State.spanDeliver_writes
theorem State.spanLocal_framed {W : Nat} {o s : State} (west : Bool) (q : Nat) (i : Instr) (f : SpanFrame)
    (hW : SubMask State.spanLocal_writes W) (hs : State.Framed W o s) :
    State.Framed W o (State.spanLocal s west q i f) := by
  delta State.spanLocal
  repeat' first
    | with_reducible assumption
    | (with_reducible refine State.releaseRx_framed _ (hW.trans (by decide)) ?_)
    | (with_reducible refine State.injReceive_framed _ _ _ _ (hW.trans (by decide)) ?_)
    | (with_reducible refine State.spanDeliver_framed _ _ (hW.trans (by decide)) ?_)
    | (intro x; refine State.Framed.cut (W := W) (o := o) (x := x) ?_ ?_; (on_goal 1 => unfold x); (on_goal 2 => (intro _; clear_value x)))
    | (intro x; refine State.Framed.cut (W := W) (o := o) (x := x.1) ?_ ?_; (on_goal 1 => unfold x); (on_goal 2 => (intro _; clear_value x)))
    | lift_lets
    | split

def State.spanForward_writes : Nat := State.send_writes
theorem State.spanForward_framed {W : Nat} {o s : State} (west : Bool) (residence : Nat) (f : SpanFrame)
    (hW : SubMask State.spanForward_writes W) (hs : State.Framed W o s) :
    State.Framed W o (State.spanForward s west residence f) := by
  delta State.spanForward
  repeat' first
    | with_reducible assumption
    | (with_reducible refine State.Framed.ite ?_ ?_)
    | (with_reducible refine State.send_framed _ (hW.trans (by decide)) ?_)

def State.follow_writes : Nat := State.openCommand_writes ||| State.zeroRequest_writes
theorem State.follow_framed {W : Nat} {o s : State}  (hW : SubMask State.follow_writes W) (hs : State.Framed W o s) :
    State.Framed W o (State.follow s) := by
  delta State.follow
  repeat' first
    | with_reducible assumption
    | (with_reducible refine State.openCommand_framed _ (hW.trans (by decide)) ?_)
    | (with_reducible refine State.zeroRequest_framed _ (hW.trans (by decide)) ?_)
    | (with_reducible refine State.Framed.foldl _ ?_ (fun t e h => ?_))
    | split

def State.coordRx_writes : Nat := regMask [.SPAN_FLAGS, .SPAN_TRIP_RX] ||| State.follow_writes |||
  State.recTrigger_writes
theorem State.coordRx_framed {W : Nat} {o s : State} (f : SpanFrame) (hW : SubMask State.coordRx_writes W)
    (hs : State.Framed W o s) :
    State.Framed W o (State.coordRx s f) := by
  delta State.coordRx
  repeat' first
    | with_reducible assumption
    | (with_reducible refine State.setReg_framed _ _ _ _ (hW.trans (by decide)) ?_)
    | (with_reducible refine State.flag_framed _ _ _ (hW.trans (by decide)) ?_)
    | (with_reducible refine State.follow_framed (hW.trans (by decide)) ?_)
    | (with_reducible refine State.recTrigger_framed _ _ (hW.trans (by decide)) ?_)

end Sys2Proof.Machine
end

