-- ==== Sys2Proof/Laws/FrameBelfry.lean ====
section
/-! SUPPORT. Frames of Machine/Belfry.lean: for each operation, all it can write. -/

namespace Sys2Proof.Machine

set_option Elab.async false
set_option linter.unusedTactic false
set_option linter.unreachableTactic false
set_option exponentiation.threshold 1200

def State.setTb_writes : Nat := partMask [.tbs]
theorem State.setTb_framed {W : Nat} {o s : State} (b : Nat) (x : TimeBase) (hW : SubMask State.setTb_writes W)
    (hs : State.Framed W o s) :
    State.Framed W o (State.setTb s b x) := by
  delta State.setTb
  repeat' first
    | with_reducible assumption
    | (fail_if_no_progress with_reducible refine State.Framed.mkOf ?_ rfl rfl rfl rfl rfl rfl rfl)

def State.showAdj_writes : Nat := regMask [.TB_ADJ]
theorem State.showAdj_framed {W : Nat} {o s : State} (b : Nat) (hW : SubMask State.showAdj_writes W)
    (hs : State.Framed W o s) :
    State.Framed W o (State.showAdj s b) := by
  delta State.showAdj
  repeat' first
    | with_reducible assumption
    | (with_reducible refine State.setReg_framed _ _ _ _ (hW.trans (by decide)) ?_)

def State.noteMark_writes : Nat := partMask [.bel]
theorem State.noteMark_framed {W : Nat} {o s : State} (b : Nat) (hW : SubMask State.noteMark_writes W)
    (hs : State.Framed W o s) :
    State.Framed W o (State.noteMark s b) := by
  delta State.noteMark
  repeat' first
    | with_reducible assumption
    | (with_reducible refine State.Framed.ite ?_ ?_)
    | (fail_if_no_progress with_reducible refine State.Framed.mkOf ?_ rfl rfl rfl rfl rfl rfl rfl)
    | (intro x; refine State.Framed.cut (W := W) (o := o) (x := x) ?_ ?_; (on_goal 1 => unfold x); (on_goal 2 => (intro _; clear_value x)))
    | intro x

def State.tbEdge_writes : Nat := State.noteMark_writes ||| State.setTb_writes ||| State.showAdj_writes
theorem State.tbEdge_framed {W : Nat} {o s : State} (b : Nat) (hW : SubMask State.tbEdge_writes W)
    (hs : State.Framed W o s) :
    State.Framed W o (State.tbEdge s b) := by
  delta State.tbEdge
  repeat' first
    | with_reducible assumption
    | (with_reducible refine State.noteMark_framed _ (hW.trans (by decide)) ?_)
    | (with_reducible refine State.Framed.ite ?_ ?_)
    | (with_reducible refine State.setTb_framed _ _ (hW.trans (by decide)) ?_)
    | (with_reducible refine State.showAdj_framed _ (hW.trans (by decide)) ?_)

def State.tbShadows_writes : Nat := 0
theorem State.tbShadows_framed {W : Nat} {o s : State} (who b : Nat) (hW : SubMask State.tbShadows_writes W)
    (hs : State.Framed W o s) :
    State.Framed W o (State.tbShadows s who b) := by
  delta State.tbShadows
  repeat' first
    | with_reducible assumption
    | (with_reducible refine State.setShadow_framed _ _ _ _ _ ?_)

def State.belWrite_writes : Nat := State.sessionWrite_writes
theorem State.belWrite_framed {W : Nat} {o s : State} (who : Nat) (r : RegName) (i value : Nat) (after : State → State)
    (hW : SubMask State.belWrite_writes W) (hr : SubMask (regMask [r]) W) (hs : State.Framed W o s)
    (ha : ∀ t, State.Framed W o t → State.Framed W o (after t)) : State.Framed W o (s.belWrite who r i value after) :=
  .ite (ha _ (State.setReg_framed _ _ _ _ hr hs))
    (.ite hs (State.sessionWrite_framed _ _ _ _ _ _ _ (hW.trans (by decide)) hr hs ha))

def State.belCommand_writes : Nat := State.sessionCommand_writes
theorem State.belCommand_framed {W : Nat} {o s : State} (who : Nat) (r : RegName) (i value : Nat) (ok : Bool) (act : State → State)
    (hW : SubMask State.belCommand_writes W) (hs : State.Framed W o s) (ha : ∀ t, State.Framed W o t → State.Framed W o (act t)) :
    State.Framed W o (s.belCommand who r i value ok act) :=
  .ite (.ite (ha _ hs) hs) (.ite hs (State.sessionCommand_framed _ _ _ _ _ _ _ (hW.trans (by decide)) hs ha))

def State.slewEnd_writes : Nat := regMask [.TB_FLAGS, .TB_STATE]
theorem State.slewEnd_framed {W : Nat} {o s : State} (b : Nat) (hW : SubMask State.slewEnd_writes W)
    (hs : State.Framed W o s) :
    State.Framed W o (State.slewEnd s b) := by
  delta State.slewEnd
  repeat' first
    | with_reducible assumption
    | (with_reducible refine State.Framed.ite ?_ ?_)
    | (with_reducible refine State.setBit_framed _ _ _ _ (hW.trans (by decide)) ?_)
    | (with_reducible refine State.flag_framed _ _ _ (hW.trans (by decide)) ?_)

def State.adjWritten_writes : Nat := regMask [.TB_FLAGS, .TB_STATE] ||| State.setTb_writes |||
  State.slewEnd_writes
theorem State.adjWritten_framed {W : Nat} {o s : State} (b : Nat) (hW : SubMask State.adjWritten_writes W)
    (hs : State.Framed W o s) :
    State.Framed W o (State.adjWritten s b) := by
  delta State.adjWritten
  repeat' first
    | with_reducible assumption
    | (with_reducible refine State.Framed.ite ?_ ?_)
    | (with_reducible refine State.setBit_framed _ _ _ _ (hW.trans (by decide)) ?_)
    | (with_reducible refine State.flag_framed _ _ _ (hW.trans (by decide)) ?_)
    | (with_reducible refine State.setTb_framed _ _ (hW.trans (by decide)) ?_)
    | (with_reducible refine State.slewEnd_framed _ (hW.trans (by decide)) ?_)

def State.setQual_writes : Nat := regMask [.TB_FLAGS, .TB_STATE] ||| State.tb2Qual_writes
theorem State.setQual_framed {W : Nat} {o s : State} (b : Nat) (q : Bool) (hW : SubMask State.setQual_writes W)
    (hs : State.Framed W o s) :
    State.Framed W o (State.setQual s b q) := by
  delta State.setQual
  repeat' first
    | with_reducible assumption
    | (with_reducible refine State.setBit_framed _ _ _ _ (hW.trans (by decide)) ?_)
    | (with_reducible refine State.flag_framed _ _ _ (hW.trans (by decide)) ?_)
    | (with_reducible refine State.tb2Qual_framed _ (hW.trans (by decide)) ?_)
    | split

def State.dropSlew_writes : Nat := regMask [.TB_ADJ, .TB_STATE] ||| State.setTb_writes ||| State.slewEnd_writes
theorem State.dropSlew_framed {W : Nat} {o s : State} (b : Nat) (hW : SubMask State.dropSlew_writes W)
    (hs : State.Framed W o s) :
    State.Framed W o (State.dropSlew s b) := by
  delta State.dropSlew
  repeat' first
    | with_reducible assumption
    | (with_reducible refine State.setReg_framed _ _ _ _ (hW.trans (by decide)) ?_)
    | (with_reducible refine State.setBit_framed _ _ _ _ (hW.trans (by decide)) ?_)
    | (with_reducible refine State.setTb_framed _ _ (hW.trans (by decide)) ?_)
    | (with_reducible refine State.slewEnd_framed _ (hW.trans (by decide)) ?_)

def State.tbStep_writes : Nat := regMask [.TB_FLAGS] ||| State.dropSlew_writes ||| State.ledger_writes |||
  State.setQual_writes ||| State.setTb_writes
theorem State.tbStep_framed {W : Nat} {o s : State} (b : Nat) (v : Nat × Nat × Nat) (who : Nat)
    (hW : SubMask State.tbStep_writes W) (hs : State.Framed W o s) :
    State.Framed W o (State.tbStep s b v who) := by
  delta State.tbStep
  repeat' first
    | with_reducible assumption
    | (with_reducible refine State.flag_framed _ _ _ (hW.trans (by decide)) ?_)
    | (with_reducible refine State.dropSlew_framed _ (hW.trans (by decide)) ?_)
    | (with_reducible refine State.ledger_framed _ _ (hW.trans (by decide)) ?_)
    | (with_reducible refine State.setQual_framed _ _ (hW.trans (by decide)) ?_)
    | (with_reducible refine State.setTb_framed _ _ (hW.trans (by decide)) ?_)

def State.switchDone_writes : Nat := regMask [.BF_REF_STATE] ||| partMask [.bel]
theorem State.switchDone_framed {W : Nat} {o s : State}  (hW : SubMask State.switchDone_writes W)
    (hs : State.Framed W o s) :
    State.Framed W o (State.switchDone s) := by
  delta State.switchDone
  repeat' first
    | with_reducible assumption
    | (with_reducible refine State.Framed.ite ?_ ?_)
    | (with_reducible refine State.setBit_framed _ _ _ _ (hW.trans (by decide)) ?_)
    | (intro x; refine State.Framed.cut (W := W) (o := o) (x := x) ?_ ?_; (on_goal 1 => unfold x); (on_goal 2 => (intro _; clear_value x)))
    | (fail_if_no_progress with_reducible refine State.Framed.mkOf ?_ rfl rfl rfl rfl rfl rfl rfl)

def State.unqualify_writes : Nat := State.setQual_writes
theorem State.unqualify_framed {W : Nat} {o s : State} (b : Nat) (hW : SubMask State.unqualify_writes W)
    (hs : State.Framed W o s) :
    State.Framed W o (State.unqualify s b) := by
  delta State.unqualify
  repeat' first
    | with_reducible assumption
    | (with_reducible refine State.Framed.ite ?_ ?_)
    | (with_reducible refine State.setQual_framed _ _ (hW.trans (by decide)) ?_)

def State.servoReport_writes : Nat := regMask [.TB_SERVO] ||| partMask [.bel] ||| State.setQual_writes |||
  State.setTb_writes ||| State.switchDone_writes ||| State.unqualify_writes
theorem State.servoReport_framed {W : Nat} {o s : State} (b : Nat) (hW : SubMask State.servoReport_writes W)
    (hs : State.Framed W o s) :
    State.Framed W o (State.servoReport s b) := by
  delta State.servoReport
  repeat' first
    | with_reducible assumption
    | (with_reducible refine State.unqualify_framed _ (hW.trans (by decide)) ?_)
    | (with_reducible refine State.Framed.ite ?_ ?_)
    | (with_reducible refine State.setBit_framed _ _ _ _ (hW.trans (by decide)) ?_)
    | (with_reducible refine State.setQual_framed _ _ (hW.trans (by decide)) ?_)
    | (with_reducible refine State.setTb_framed _ _ (hW.trans (by decide)) ?_)
    | (with_reducible refine State.switchDone_framed (hW.trans (by decide)) ?_)
    | (intro x; refine State.Framed.cut (W := W) (o := o) (x := x) ?_ ?_; (on_goal 1 => unfold x); (on_goal 2 => (intro _; clear_value x)))
    | (fail_if_no_progress with_reducible refine State.Framed.mkOf ?_ rfl rfl rfl rfl rfl rfl rfl)

def State.setRef_writes : Nat := partMask [.bel]
theorem State.setRef_framed {W : Nat} {o s : State} (r : Nat) (x : RefRec) (hW : SubMask State.setRef_writes W)
    (hs : State.Framed W o s) :
    State.Framed W o (State.setRef s r x) := by
  delta State.setRef
  repeat' first
    | with_reducible assumption
    | (fail_if_no_progress with_reducible refine State.Framed.mkOf ?_ rfl rfl rfl rfl rfl rfl rfl)

def State.selectRef_writes : Nat := regMask [.BF_REF_FLAGS, .BF_REF_STATE] ||| partMask [.bel] |||
  State.dropSlew_writes
theorem State.selectRef_framed {W : Nat} {o s : State} (r : Nat) (hW : SubMask State.selectRef_writes W)
    (hs : State.Framed W o s) :
    State.Framed W o (State.selectRef s r) := by
  delta State.selectRef
  repeat' first
    | with_reducible assumption
    | (with_reducible refine State.Framed.ite ?_ ?_)
    | (with_reducible refine State.setFld_framed _ _ _ _ (hW.trans (by decide)) ?_)
    | (with_reducible refine State.setBit_framed _ _ _ _ (hW.trans (by decide)) ?_)
    | (with_reducible refine State.flag_framed _ _ _ (hW.trans (by decide)) ?_)
    | (with_reducible refine State.dropSlew_framed _ (hW.trans (by decide)) ?_)
    | (fail_if_no_progress with_reducible refine State.Framed.mkOf ?_ rfl rfl rfl rfl rfl rfl rfl)

def State.refBad_writes : Nat := regMask [.BF_REF_STATE] ||| State.selectRef_writes ||| State.setRef_writes
theorem State.refBad_framed {W : Nat} {o s : State} (r : Nat) (hW : SubMask State.refBad_writes W)
    (hs : State.Framed W o s) :
    State.Framed W o (State.refBad s r) := by
  delta State.refBad
  repeat' first
    | with_reducible assumption
    | (with_reducible refine State.Framed.ite ?_ ?_)
    | (with_reducible refine State.setFld_framed _ _ _ _ (hW.trans (by decide)) ?_)
    | (with_reducible refine State.selectRef_framed _ (hW.trans (by decide)) ?_)
    | (with_reducible refine State.setRef_framed _ _ (hW.trans (by decide)) ?_)

def State.refGoodReport_writes : Nat := regMask [.BF_REF_FLAGS, .BF_REF_STATE] ||| State.selectRef_writes |||
  State.setRef_writes
theorem State.refGoodReport_framed {W : Nat} {o s : State} (r : Nat) (hW : SubMask State.refGoodReport_writes W)
    (hs : State.Framed W o s) :
    State.Framed W o (State.refGoodReport s r) := by
  delta State.refGoodReport
  repeat' first
    | with_reducible assumption
    | (with_reducible refine State.Framed.ite ?_ ?_)
    | (with_reducible refine State.setFld_framed _ _ _ _ (hW.trans (by decide)) ?_)
    | (with_reducible refine State.flag_framed _ _ _ (hW.trans (by decide)) ?_)
    | (with_reducible refine State.selectRef_framed _ (hW.trans (by decide)) ?_)
    | (with_reducible refine State.setRef_framed _ _ (hW.trans (by decide)) ?_)

def State.refReport_writes : Nat := State.refBad_writes ||| State.refGoodReport_writes ||| State.setRef_writes
theorem State.refReport_framed {W : Nat} {o s : State} (r : Nat) (hW : SubMask State.refReport_writes W)
    (hs : State.Framed W o s) :
    State.Framed W o (State.refReport s r) := by
  delta State.refReport
  repeat' first
    | with_reducible assumption
    | (with_reducible refine State.Framed.ite ?_ ?_)
    | (with_reducible refine State.refBad_framed _ (hW.trans (by decide)) ?_)
    | (with_reducible refine State.refGoodReport_framed _ (hW.trans (by decide)) ?_)
    | (with_reducible refine State.setRef_framed _ _ (hW.trans (by decide)) ?_)

end Sys2Proof.Machine
end

