-- ==== Sys2Proof/Laws/FrameParapet.lean ====
section
/-! SUPPORT. Frames of Machine/Parapet.lean: for each operation, all it can write. -/

namespace Sys2Proof.Machine

set_option Elab.async false
set_option linter.unusedTactic false
set_option linter.unreachableTactic false
set_option exponentiation.threshold 1200

def State.setPar_writes : Nat := partMask [.pars]
theorem State.setPar_framed {W : Nat} {o s : State} (i : Nat) (c : ParConn) (hW : SubMask State.setPar_writes W)
    (hs : State.Framed W o s) :
    State.Framed W o (State.setPar s i c) := by
  delta State.setPar
  repeat' first
    | with_reducible assumption
    | (fail_if_no_progress with_reducible refine State.Framed.mkOf ?_ rfl rfl rfl rfl rfl rfl rfl)

def State.showPermits_writes : Nat := regMask [.SSI_DEMAND, .SSI_LATCH, .SSI_PERMIT_B]
theorem State.showPermits_framed {W : Nat} {o s : State}  (hW : SubMask State.showPermits_writes W)
    (hs : State.Framed W o s) :
    State.Framed W o (State.showPermits s) := by
  delta State.showPermits
  repeat' first
    | with_reducible assumption
    | (with_reducible refine State.setReg_framed _ _ _ _ (hW.trans (by decide)) ?_)

def State.demandOn_writes : Nat := regMask [.SSI_PROOF_DUE] ||| partMask [.ldgState] ||| State.enterRest_writes |||
  State.ledgerState_writes ||| State.recTrigger_writes ||| State.safeRun_writes ||| State.setLk_writes |||
  State.urgentOpen_writes
theorem State.demandOn_framed {W : Nat} {o s : State} (n : Nat) (hW : SubMask State.demandOn_writes W)
    (hs : State.Framed W o s) :
    State.Framed W o (State.demandOn s n) := by
  delta State.demandOn
  repeat' first
    | with_reducible assumption
    | (with_reducible refine State.Framed.ite ?_ ?_)
    | (with_reducible refine State.setReg_framed _ _ _ _ (hW.trans (by decide)) ?_)
    | (with_reducible refine State.enterRest_framed _ _ _ _ (hW.trans (by decide)) ?_)
    | (with_reducible refine State.ledgerState_framed _ _ _ (hW.trans (by decide)) ?_)
    | (with_reducible refine State.recTrigger_framed _ _ (hW.trans (by decide)) ?_)
    | (with_reducible refine State.safeRun_framed _ (hW.trans (by decide)) ?_)
    | (with_reducible refine State.setLk_framed _ _ (hW.trans (by decide)) ?_)
    | (with_reducible refine State.urgentOpen_framed _ (hW.trans (by decide)) ?_)
    | (fail_if_no_progress with_reducible refine State.Framed.mkOf ?_ rfl rfl rfl rfl rfl rfl rfl)

def State.demandOff_writes : Nat := State.safeRun_writes ||| State.setLk_writes
theorem State.demandOff_framed {W : Nat} {o s : State} (n : Nat) (hW : SubMask State.demandOff_writes W)
    (hs : State.Framed W o s) :
    State.Framed W o (State.demandOff s n) := by
  delta State.demandOff
  repeat' first
    | with_reducible assumption
    | (with_reducible refine State.safeRun_framed _ (hW.trans (by decide)) ?_)
    | (with_reducible refine State.setLk_framed _ _ (hW.trans (by decide)) ?_)

def State.ssiLast_writes : Nat := regMask [.SSI_LAST]
theorem State.ssiLast_framed {W : Nat} {o s : State} (conn cause mask : Nat) (hW : SubMask State.ssiLast_writes W)
    (hs : State.Framed W o s) :
    State.Framed W o (State.ssiLast s conn cause mask) := by
  delta State.ssiLast
  repeat' first
    | with_reducible assumption
    | (with_reducible refine State.setReg_framed _ _ _ _ (hW.trans (by decide)) ?_)

def State.decide__writes : Nat := regMask [.SSI_FLAGS] ||| State.demandOff_writes ||| State.demandOn_writes |||
  State.showPermits_writes ||| State.ssiLast_writes
theorem State.decide__framed {W : Nat} {o s : State} (conn cause : Nat) (hW : SubMask State.decide__writes W)
    (hs : State.Framed W o s) :
    State.Framed W o (State.decide_ s conn cause) := by
  delta State.decide_
  repeat' first
    | with_reducible assumption
    | (with_reducible refine State.Framed.ite ?_ ?_)
    | (with_reducible refine State.flag_framed _ _ _ (hW.trans (by decide)) ?_)
    | (with_reducible refine State.demandOff_framed _ (hW.trans (by decide)) ?_)
    | (with_reducible refine State.demandOn_framed _ (hW.trans (by decide)) ?_)
    | (with_reducible refine State.showPermits_framed (hW.trans (by decide)) ?_)
    | (with_reducible refine State.ssiLast_framed _ _ _ (hW.trans (by decide)) ?_)
    | (with_reducible refine State.Framed.foldl _ ?_ (fun t e h => ?_))

def State.parStart_writes : Nat := regMask [.PAR_LATCH, .PAR_STATE] ||| State.setPar_writes |||
  State.showPermits_writes
theorem State.parStart_framed {W : Nat} {o s : State}  (hW : SubMask State.parStart_writes W)
    (hs : State.Framed W o s) :
    State.Framed W o (State.parStart s) := by
  delta State.parStart
  repeat' first
    | with_reducible assumption
    | (with_reducible refine State.setReg_framed _ _ _ _ (hW.trans (by decide)) ?_)
    | (with_reducible refine State.setPar_framed _ _ (hW.trans (by decide)) ?_)
    | (with_reducible refine State.showPermits_framed (hW.trans (by decide)) ?_)
    | (with_reducible refine State.Framed.foldl _ ?_ (fun t e h => ?_))

def State.failsafe_writes : Nat := regMask [.PAR_CNT, .PAR_LATCH, .PAR_STATE, .SSI_FLAGS] |||
  State.decide__writes
theorem State.failsafe_framed {W : Nat} {o s : State} (i cause : Nat) (hW : SubMask State.failsafe_writes W)
    (hs : State.Framed W o s) :
    State.Framed W o (State.failsafe s i cause) := by
  delta State.failsafe
  repeat' first
    | with_reducible assumption
    | (with_reducible refine State.setReg_framed _ _ _ _ (hW.trans (by decide)) ?_)
    | (with_reducible refine State.setFld_framed _ _ _ _ (hW.trans (by decide)) ?_)
    | (with_reducible refine State.flag_framed _ _ _ (hW.trans (by decide)) ?_)
    | (with_reducible refine State.decide__framed _ _ (hW.trans (by decide)) ?_)

def State.parDup_writes : Nat := regMask [.PAR_CNT]
theorem State.parDup_framed {W : Nat} {o s : State} (i : Nat) (hW : SubMask State.parDup_writes W)
    (hs : State.Framed W o s) :
    State.Framed W o (State.parDup s i) := by
  delta State.parDup
  repeat' first
    | with_reducible assumption
    | (with_reducible refine State.setFld_framed _ _ _ _ (hW.trans (by decide)) ?_)

def State.parSpan_writes : Nat := State.injSend_writes ||| State.nextSeq_writes
theorem State.parSpan_framed {W : Nat} {o s : State} (dst : Nat) (pdu : List Byte) (hW : SubMask State.parSpan_writes W)
    (hs : State.Framed W o s) :
    State.Framed W o (State.parSpan s dst pdu) := by
  delta State.parSpan
  repeat' first
    | with_reducible assumption
    | (with_reducible refine State.Framed.ite ?_ ?_)
    | (with_reducible refine State.Framed.foldl _ ?_ (fun t e h => ?_))
    | (with_reducible refine State.nextSeq_framed _ (hW.trans (by decide)) ?_)
    | (with_reducible refine State.injSend_framed _ _ _ _ (hW.trans (by decide)) ?_)
    | (intro x; refine State.Framed.cut (W := W) (o := o) (x := x) ?_ ?_; (on_goal 1 => unfold x); (on_goal 2 => (intro _; clear_value x)))
    | intro x

def State.sendStatus_writes : Nat := regMask [.PAR_TXSEQ] ||| State.parSpan_writes ||| State.send_writes |||
  State.setPar_writes
theorem State.sendStatus_framed {W : Nat} {o s : State} (i : Nat) (span : Bool) (echo : Nat)
    (hW : SubMask State.sendStatus_writes W) (hs : State.Framed W o s) :
    State.Framed W o (State.sendStatus s i span echo) := by
  delta State.sendStatus
  repeat' first
    | with_reducible assumption
    | (with_reducible refine State.Framed.ite ?_ ?_)
    | (with_reducible refine State.parSpan_framed _ _ (hW.trans (by decide)) ?_)
    | (with_reducible refine State.setReg_framed _ _ _ _ (hW.trans (by decide)) ?_)
    | (with_reducible refine State.send_framed _ (hW.trans (by decide)) ?_)
    | (with_reducible refine State.setPar_framed _ _ (hW.trans (by decide)) ?_)
    | (fail_if_no_progress with_reducible refine State.Framed.mkOf ?_ rfl rfl rfl rfl rfl rfl rfl)

def State.parAccept_writes : Nat := regMask [.PAR_LATCH, .PAR_RXSEQ, .PAR_STATE] ||| State.decide__writes |||
  State.sendStatus_writes ||| State.setPar_writes
theorem State.parAccept_framed {W : Nat} {o s : State} (i : Nat) (span start : Bool) (p : ParPdu)
    (hW : SubMask State.parAccept_writes W) (hs : State.Framed W o s) :
    State.Framed W o (State.parAccept s i span start p) := by
  delta State.parAccept
  repeat' first
    | with_reducible assumption
    | (with_reducible refine State.setReg_framed _ _ _ _ (hW.trans (by decide)) ?_)
    | (with_reducible refine State.setFld_framed _ _ _ _ (hW.trans (by decide)) ?_)
    | (with_reducible refine State.decide__framed _ _ (hW.trans (by decide)) ?_)
    | (with_reducible refine State.sendStatus_framed _ _ _ (hW.trans (by decide)) ?_)
    | (with_reducible refine State.setPar_framed _ _ (hW.trans (by decide)) ?_)

def State.parFail_writes : Nat := State.failsafe_writes
theorem State.parFail_framed {W : Nat} {o s : State} (i cause : Nat) (hW : SubMask State.parFail_writes W)
    (hs : State.Framed W o s) :
    State.Framed W o (State.parFail s i cause) := by
  delta State.parFail
  repeat' first
    | with_reducible assumption
    | (with_reducible refine State.Framed.ite ?_ ?_)
    | (with_reducible refine State.failsafe_framed _ _ (hW.trans (by decide)) ?_)

def State.parChecks_writes : Nat := State.parAccept_writes ||| State.parDup_writes ||| State.parFail_writes
theorem State.parChecks_framed {W : Nat} {o s : State} (i : Nat) (span : Bool) (src : Nat) (p : ParPdu)
    (hW : SubMask State.parChecks_writes W) (hs : State.Framed W o s) :
    State.Framed W o (State.parChecks s i span src p) := by
  delta State.parChecks
  repeat' first
    | with_reducible assumption
    | (with_reducible refine State.Framed.ite ?_ ?_)
    | (with_reducible refine State.parAccept_framed _ _ _ _ (hW.trans (by decide)) ?_)
    | (with_reducible refine State.parDup_framed _ (hW.trans (by decide)) ?_)
    | (with_reducible refine State.parFail_framed _ _ (hW.trans (by decide)) ?_)

def State.crcDiscard_writes : Nat := regMask [.SSI_DISCARD]
theorem State.crcDiscard_framed {W : Nat} {o s : State}  (hW : SubMask State.crcDiscard_writes W)
    (hs : State.Framed W o s) :
    State.Framed W o (State.crcDiscard s) := by
  delta State.crcDiscard
  repeat' first
    | with_reducible assumption
    | (with_reducible refine State.setFld_framed _ _ _ _ (hW.trans (by decide)) ?_)

end Sys2Proof.Machine
end

