-- ==== Sys2Proof/Laws/FrameTollgate.lean ====
section
/-! SUPPORT. Frames of Machine/Tollgate.lean: for each operation, all it can write. -/

namespace Sys2Proof.Machine

set_option Elab.async false
set_option linter.unusedTactic false
set_option linter.unreachableTactic false
set_option exponentiation.threshold 1200

def State.loadJtag_writes : Nat := partMask [.tg] ||| State.safeRun_writes
theorem State.loadJtag_framed {W : Nat} {o s : State} (i : JtagIns) (hW : SubMask State.loadJtag_writes W)
    (hs : State.Framed W o s) :
    State.Framed W o (State.loadJtag s i) := by
  delta State.loadJtag
  repeat' first
    | with_reducible assumption
    | (with_reducible refine State.safeRun_framed _ (hW.trans (by decide)) ?_)
    | (with_reducible refine State.Framed.foldl _ ?_ (fun t e h => ?_))
    | (fail_if_no_progress with_reducible refine State.Framed.mkOf ?_ rfl rfl rfl rfl rfl rfl rfl)

def State.unhalt_writes : Nat := partMask [.tg] ||| State.blockResume_writes
theorem State.unhalt_framed {W : Nat} {o s : State} (e : Nat) (hW : SubMask State.unhalt_writes W)
    (hs : State.Framed W o s) :
    State.Framed W o (State.unhalt s e) := by
  delta State.unhalt
  repeat' first
    | with_reducible assumption
    | (with_reducible refine State.Framed.ite ?_ ?_)
    | (with_reducible refine State.blockResume_framed _ (hW.trans (by decide)) ?_)
    | (with_reducible refine State.Framed.foldl _ ?_ (fun t e h => ?_))
    | (fail_if_no_progress with_reducible refine State.Framed.mkOf ?_ rfl rfl rfl rfl rfl rfl rfl)

def State.debugEn_writes : Nat := regMask [.TG_DEBUG, .TG_STATE] ||| State.auditSession_writes |||
  State.loadJtag_writes
theorem State.debugEn_framed {W : Nat} {o s : State} (k : Nat) (old v : Bool) (hW : SubMask State.debugEn_writes W)
    (hs : State.Framed W o s) :
    State.Framed W o (State.debugEn s k old v) := by
  delta State.debugEn
  repeat' first
    | with_reducible assumption
    | (with_reducible refine State.Framed.ite ?_ ?_)
    | (with_reducible refine State.setBit_framed _ _ _ _ (hW.trans (by decide)) ?_)
    | (with_reducible refine State.auditSession_framed _ _ _ _ (hW.trans (by decide)) ?_)
    | (with_reducible refine State.loadJtag_framed _ (hW.trans (by decide)) ?_)

def State.keyCmd_writes : Nat := State.sessionCommand_writes
theorem State.keyCmd_framed {W : Nat} {o s : State} (k action slot key : Nat) (ok : Bool) (act : State → State)
    (hW : SubMask State.keyCmd_writes W) (hs : State.Framed W o s) (ha : ∀ t, State.Framed W o t → State.Framed W o (act t)) :
    State.Framed W o (s.keyCmd k action slot key ok act) :=
  State.sessionCommand_framed _ _ _ _ _ _ _ (hW.trans (by decide)) hs ha

def State.setImage_writes : Nat := partMask [.imageA, .imageB]
theorem State.setImage_framed {W : Nat} {o s : State} (f : Nat) (x : Image) (hW : SubMask State.setImage_writes W)
    (hs : State.Framed W o s) :
    State.Framed W o (State.setImage s f x) := by
  delta State.setImage
  repeat' first
    | with_reducible assumption
    | (with_reducible refine State.Framed.ite ?_ ?_)
    | (fail_if_no_progress with_reducible refine State.Framed.mkOf ?_ rfl rfl rfl rfl rfl rfl rfl)

end Sys2Proof.Machine
end

