-- ==== Sys2Proof/Laws/FrameLedger.lean ====
section
/-! SUPPORT. Frames of Machine/Ledger.lean: for each operation, all it can write. -/

namespace Sys2Proof.Machine

set_option Elab.async false
set_option linter.unusedTactic false
set_option linter.unreachableTactic false
set_option exponentiation.threshold 1200

def State.setFlash_writes : Nat := partMask [.ldg]
theorem State.setFlash_framed {W : Nat} {o s : State} (f : Fin 2) (l : LogFlash)
    (hW : SubMask State.setFlash_writes W) (hs : State.Framed W o s) :
    State.Framed W o (State.setFlash s f l) := by
  delta State.setFlash
  repeat' first
    | with_reducible assumption
    | (fail_if_no_progress with_reducible refine State.Framed.mkOf ?_ rfl rfl rfl rfl rfl rfl rfl)

def State.showLedger_writes : Nat := regMask [.LDG_STATE] ||| State.showFill_writes
theorem State.showLedger_framed {W : Nat} {o s : State}  (hW : SubMask State.showLedger_writes W)
    (hs : State.Framed W o s) :
    State.Framed W o (State.showLedger s) := by
  delta State.showLedger
  repeat' first
    | with_reducible assumption
    | (with_reducible refine State.setFld_framed _ _ _ _ (hW.trans (by decide)) ?_)
    | (with_reducible refine State.showFill_framed (hW.trans (by decide)) ?_)

def State.showWear_writes : Nat := regMask [.LDG_WEAR]
theorem State.showWear_framed {W : Nat} {o s : State} (f : Fin 2) (hW : SubMask State.showWear_writes W)
    (hs : State.Framed W o s) :
    State.Framed W o (State.showWear s f) := by
  delta State.showWear
  repeat' first
    | with_reducible assumption
    | (with_reducible refine State.setFld_framed _ _ _ _ (hW.trans (by decide)) ?_)

def State.trimBuffer_writes : Nat := partMask [.ldg]
theorem State.trimBuffer_framed {W : Nat} {o s : State}  (hW : SubMask State.trimBuffer_writes W)
    (hs : State.Framed W o s) :
    State.Framed W o (State.trimBuffer s) := by
  delta State.trimBuffer
  repeat' first
    | with_reducible assumption
    | (fail_if_no_progress with_reducible refine State.Framed.mkOf ?_ rfl rfl rfl rfl rfl rfl rfl)

def State.retireSeg_writes : Nat := regMask [.LDG_FLAGS, .LDG_STATE] ||| State.setFlash_writes |||
  State.showWear_writes ||| State.trimBuffer_writes
theorem State.retireSeg_framed {W : Nat} {o s : State} (f : Fin 2) (i : Nat) (hW : SubMask State.retireSeg_writes W)
    (hs : State.Framed W o s) :
    State.Framed W o (State.retireSeg s f i) := by
  delta State.retireSeg
  repeat' first
    | with_reducible assumption
    | (with_reducible refine State.Framed.ite ?_ ?_)
    | (with_reducible refine State.setFld_framed _ _ _ _ (hW.trans (by decide)) ?_)
    | (with_reducible refine State.flag_framed _ _ _ (hW.trans (by decide)) ?_)
    | (with_reducible refine State.setFlash_framed _ _ (hW.trans (by decide)) ?_)
    | (with_reducible refine State.showWear_framed _ (hW.trans (by decide)) ?_)
    | (with_reducible refine State.trimBuffer_framed (hW.trans (by decide)) ?_)

def State.programRec_writes : Nat := partMask [.ldg] ||| State.retireSeg_writes ||| State.setFlash_writes |||
  State.showLedger_writes ||| State.trimBuffer_writes
theorem State.programRec_framed {W : Nat} {o s : State} (flash : Fin 2) (r : LedgerRec) (ok : Bool)
    (hW : SubMask State.programRec_writes W) (hs : State.Framed W o s) :
    State.Framed W o (State.programRec s flash r ok) := by
  delta State.programRec
  repeat' first
    | with_reducible assumption
    | (with_reducible refine State.retireSeg_framed _ _ (hW.trans (by decide)) ?_)
    | (with_reducible refine State.setFlash_framed _ _ (hW.trans (by decide)) ?_)
    | (with_reducible refine State.showLedger_framed (hW.trans (by decide)) ?_)
    | (with_reducible refine State.trimBuffer_framed (hW.trans (by decide)) ?_)
    | intro x
    | lift_lets
    | split
    | (fail_if_no_progress with_reducible refine State.Framed.mkOf ?_ rfl rfl rfl rfl rfl rfl rfl)

def State.flushUrgent_writes : Nat := State.programRec_writes
theorem State.flushUrgent_framed {W : Nat} {o s : State} (hW : SubMask State.flushUrgent_writes W)
    (hs : State.Framed W o s) :
    State.Framed W o s.flushUrgent := by
  have go (f : Fin 2) (t : State) (ht : State.Framed W o t) : State.Framed W o (if t.flashOk f then
      ((t.ldg.buffer.filter fun e => e.1.urgent && !bitOf e.2 f.val).map fun e => e.1).foldl
        (fun u r => u.programRec f r true) t else t) :=
    .ite (.foldl _ ht (fun u r hu => State.programRec_framed _ _ _ (hW.trans (by decide)) hu)) ht
  exact .ite (go 1 _ (go 0 _ hs)) hs

def State.copyForward_writes : Nat := State.ledgerAt_writes
theorem State.copyForward_framed {W : Nat} {o s : State} (r : LedgerRec) (hW : SubMask State.copyForward_writes W)
    (hs : State.Framed W o s) :
    State.Framed W o (State.copyForward s r) := by
  delta State.copyForward
  repeat' first
    | with_reducible assumption
    | (with_reducible refine State.ledgerAt_framed _ _ _ _ _ _ _ (hW.trans (by decide)) ?_)

def State.reclaim_writes : Nat := regMask [.LDG_FLAGS] ||| State.copyForward_writes ||| State.ledger_writes
theorem State.reclaim_framed {W : Nat} {o s : State} (f : Fin 2) (x : Seg) (hW : SubMask State.reclaim_writes W)
    (hs : State.Framed W o s) :
    State.Framed W o (State.reclaim s f x) := by
  delta State.reclaim
  repeat' first
    | with_reducible assumption
    | (with_reducible refine State.flag_framed _ _ _ (hW.trans (by decide)) ?_)
    | (with_reducible refine State.copyForward_framed _ (hW.trans (by decide)) ?_)
    | (with_reducible refine State.ledger_framed _ _ (hW.trans (by decide)) ?_)
    | (with_reducible refine State.Framed.foldl _ ?_ (fun t e h => ?_))
    | (intro x; refine State.Framed.cut (W := W) (o := o) (x := x) ?_ ?_; (on_goal 1 => unfold x); (on_goal 2 => (intro _; clear_value x)))
    | intro x
    | lift_lets
    | split

def State.openFlash_writes : Nat := regMask [.LDG_FLAGS, .LDG_STATE] ||| State.setFlash_writes |||
  State.showWear_writes
theorem State.openFlash_framed {W : Nat} {o s : State} (f : Fin 2) (x : FlashScan)
    (hW : SubMask State.openFlash_writes W) (hs : State.Framed W o s) :
    State.Framed W o (State.openFlash s f x) := by
  delta State.openFlash
  repeat' first
    | with_reducible assumption
    | (with_reducible refine State.setFld_framed _ _ _ _ (hW.trans (by decide)) ?_)
    | (with_reducible refine State.flagIf_framed _ _ _ _ (hW.trans (by decide)) ?_)
    | (with_reducible refine State.setFlash_framed _ _ (hW.trans (by decide)) ?_)
    | (with_reducible refine State.showWear_framed _ (hW.trans (by decide)) ?_)

def State.findHead_writes : Nat := regMask [.LDG_SEQ] ||| partMask [.ldg]
theorem State.findHead_framed {W : Nat} {o s : State}  (hW : SubMask State.findHead_writes W)
    (hs : State.Framed W o s) :
    State.Framed W o (State.findHead s) := by
  delta State.findHead
  repeat' first
    | with_reducible assumption
    | (with_reducible refine State.setReg_framed _ _ _ _ (hW.trans (by decide)) ?_)
    | (fail_if_no_progress with_reducible refine State.Framed.mkOf ?_ rfl rfl rfl rfl rfl rfl rfl)

def State.tellOpen_writes : Nat := regMask [.LDG_FLAGS] ||| partMask [.resetToLog] ||| State.ledger_writes
theorem State.tellOpen_framed {W : Nat} {o s : State} (tornA tornB : Nat) (broken : Bool)
    (hW : SubMask State.tellOpen_writes W) (hs : State.Framed W o s) :
    State.Framed W o (State.tellOpen s tornA tornB broken) := by
  delta State.tellOpen
  repeat' first
    | with_reducible assumption
    | (with_reducible refine State.Framed.ite ?_ ?_)
    | (with_reducible refine State.flagIf_framed _ _ _ _ (hW.trans (by decide)) ?_)
    | (with_reducible refine State.flag_framed _ _ _ (hW.trans (by decide)) ?_)
    | (with_reducible refine State.ledger_framed _ _ (hW.trans (by decide)) ?_)
    | (intro x; refine State.Framed.cut (W := W) (o := o) (x := x) ?_ ?_; (on_goal 1 => unfold x); (on_goal 2 => (intro _; clear_value x)))
    | (fail_if_no_progress with_reducible refine State.Framed.mkOf ?_ rfl rfl rfl rfl rfl rfl rfl)

end Sys2Proof.Machine
end

