-- ==== Sys2Proof/Laws/FrameAlmanac.lean ====
section
/-! SUPPORT. Frames of Machine/Almanac.lean: for each operation, all it can write. -/

namespace Sys2Proof.Machine

set_option Elab.async false
set_option linter.unusedTactic false
set_option linter.unreachableTactic false
set_option exponentiation.threshold 1200

def State.baseRecord_writes : Nat := State.ledgerAt_writes
theorem State.baseRecord_framed {W : Nat} {o s : State} (n : Nat) (serial : List Nat) (b : Rat × Option Rat)
    (hW : SubMask State.baseRecord_writes W) (hs : State.Framed W o s) :
    State.Framed W o (State.baseRecord s n serial b) := by
  delta State.baseRecord
  repeat' first
    | with_reducible assumption
    | (with_reducible refine State.ledgerAt_framed _ _ _ _ _ _ _ (hW.trans (by decide)) ?_)

def State.takeBase_writes : Nat := partMask [.baseLog] ||| State.baseRecord_writes ||| State.setAlmCh_writes
theorem State.takeBase_framed {W : Nat} {o s : State} (n : Nat) (v : Rat) (hW : SubMask State.takeBase_writes W)
    (hs : State.Framed W o s) :
    State.Framed W o (State.takeBase s n v) := by
  delta State.takeBase
  repeat' first
    | with_reducible assumption
    | (with_reducible refine State.Framed.ite ?_ ?_)
    | (with_reducible refine State.baseRecord_framed _ _ _ (hW.trans (by decide)) ?_)
    | (with_reducible refine State.setAlmCh_framed _ _ (hW.trans (by decide)) ?_)
    | (fail_if_no_progress with_reducible refine State.Framed.mkOf ?_ rfl rfl rfl rfl rfl rfl rfl)

def State.closeDay_writes : Nat := regMask [.ALM_CH_RON, .ALM_CH_SHUNT, .ALM_FLAGS] ||| State.setAlmCh_writes |||
  State.showBase_writes ||| State.takeBase_writes
theorem State.closeDay_framed {W : Nat} {o s : State} (n : Nat) (hW : SubMask State.closeDay_writes W)
    (hs : State.Framed W o s) :
    State.Framed W o (State.closeDay s n) := by
  delta State.closeDay
  repeat' first
    | with_reducible assumption
    | (with_reducible refine State.setFld_framed _ _ _ _ (hW.trans (by decide)) ?_)
    | (with_reducible refine State.setSatFld_framed _ _ _ _ (hW.trans (by decide)) ?_)
    | (with_reducible refine State.flagIf_framed _ _ _ _ (hW.trans (by decide)) ?_)
    | (with_reducible refine State.setAlmCh_framed _ _ (hW.trans (by decide)) ?_)
    | (with_reducible refine State.showBase_framed _ (hW.trans (by decide)) ?_)
    | (with_reducible refine State.takeBase_framed _ _ (hW.trans (by decide)) ?_)
    | split

def State.dayTurn_writes : Nat := partMask [.alm] ||| State.closeDay_writes
theorem State.dayTurn_framed {W : Nat} {o s : State}  (hW : SubMask State.dayTurn_writes W)
    (hs : State.Framed W o s) :
    State.Framed W o (State.dayTurn s) := by
  delta State.dayTurn
  repeat' first
    | with_reducible assumption
    | (with_reducible refine State.Framed.ite ?_ ?_)
    | (with_reducible refine State.closeDay_framed _ (hW.trans (by decide)) ?_)
    | (with_reducible refine State.Framed.foldl _ ?_ (fun t e h => ?_))
    | (fail_if_no_progress with_reducible refine State.Framed.mkOf ?_ rfl rfl rfl rfl rfl rfl rfl)

def State.slowGroups_writes : Nat := regMask [.ALM_CH_GATE, .ALM_FLAGS]
theorem State.slowGroups_framed {W : Nat} {o s : State} (n : Nat) (hW : SubMask State.slowGroups_writes W)
    (hs : State.Framed W o s) :
    State.Framed W o (State.slowGroups s n) := by
  delta State.slowGroups
  repeat' first
    | with_reducible assumption
    | (with_reducible refine State.setFld_framed _ _ _ _ (hW.trans (by decide)) ?_)
    | (with_reducible refine State.flag_framed _ _ _ (hW.trans (by decide)) ?_)
    | (with_reducible refine State.Framed.foldl _ ?_ (fun t e h => ?_))
    | split

def State.planFrom_writes : Nat := regMask [.ALM_CH_GATE, .ALM_CH_RON, .ALM_FLAGS] ||| State.planItem_writes |||
  State.setAlmCh_writes ||| State.zeroRequest_writes
theorem State.planFrom_framed {W : Nat} {o s : State} (n : Nat) (a : AlmCh) (bRon : Rat) (bVth : Option Rat) (ron : Rat)
    (hW : SubMask State.planFrom_writes W) (hs : State.Framed W o s) :
    State.Framed W o (State.planFrom s n a bRon bVth ron) := by
  delta State.planFrom
  repeat' first
    | with_reducible assumption
    | (with_reducible refine State.flagIf_framed _ _ _ _ (hW.trans (by decide)) ?_)
    | (with_reducible refine State.setAlmCh_framed _ _ (hW.trans (by decide)) ?_)
    | (with_reducible refine State.Framed.ite ?_ ?_)
    | (with_reducible refine State.setFld_framed _ _ _ _ (hW.trans (by decide)) ?_)
    | (with_reducible refine State.setSatFld_framed _ _ _ _ (hW.trans (by decide)) ?_)
    | (with_reducible refine State.flag_framed _ _ _ (hW.trans (by decide)) ?_)
    | (with_reducible refine State.planItem_framed _ _ _ _ _ (hW.trans (by decide)) ?_)
    | (with_reducible refine State.zeroRequest_framed _ (hW.trans (by decide)) ?_)
    | split

def State.planChannel_writes : Nat := State.planFrom_writes
theorem State.planChannel_framed {W : Nat} {o s : State} (n : Nat) (hW : SubMask State.planChannel_writes W)
    (hs : State.Framed W o s) :
    State.Framed W o (State.planChannel s n) := by
  delta State.planChannel
  repeat' first
    | with_reducible assumption
    | (with_reducible refine State.planFrom_framed _ _ _ _ _ (hW.trans (by decide)) ?_)
    | intro x
    | split
    | lift_lets

def State.planStretch_writes : Nat := regMask [.ALM_FLAGS] ||| partMask [.alm] ||| State.planItem_writes
theorem State.planStretch_framed {W : Nat} {o s : State}  (hW : SubMask State.planStretch_writes W)
    (hs : State.Framed W o s) :
    State.Framed W o (State.planStretch s) := by
  delta State.planStretch
  repeat' first
    | with_reducible assumption
    | (with_reducible refine State.Framed.ite ?_ ?_)
    | (with_reducible refine State.flagIf_framed _ _ _ _ (hW.trans (by decide)) ?_)
    | (with_reducible refine State.planItem_framed _ _ _ _ _ (hW.trans (by decide)) ?_)
    | (fail_if_no_progress with_reducible refine State.Framed.mkOf ?_ rfl rfl rfl rfl rfl rfl rfl)

def State.planHoldQual_writes : Nat := State.planItem_writes
theorem State.planHoldQual_framed {W : Nat} {o s : State}  (hW : SubMask State.planHoldQual_writes W)
    (hs : State.Framed W o s) :
    State.Framed W o (State.planHoldQual s) := by
  delta State.planHoldQual
  repeat' first
    | with_reducible assumption
    | (with_reducible refine State.planItem_framed _ _ _ _ _ (hW.trans (by decide)) ?_)

def State.replanAll_writes : Nat := regMask [.ALM_CMD, .ALM_FLAGS] ||| partMask [.alm] ||| State.dayTurn_writes |||
  State.planChannel_writes ||| State.planHoldQual_writes ||| State.planStretch_writes |||
  State.slowGroups_writes
theorem State.replanAll_framed {W : Nat} {o s : State}  (hW : SubMask State.replanAll_writes W)
    (hs : State.Framed W o s) :
    State.Framed W o (State.replanAll s) := by
  delta State.replanAll
  repeat' first
    | with_reducible assumption
    | (with_reducible refine State.setReg_framed _ _ _ _ (hW.trans (by decide)) ?_)
    | (with_reducible refine State.flag_framed _ _ _ (hW.trans (by decide)) ?_)
    | (with_reducible refine State.dayTurn_framed (hW.trans (by decide)) ?_)
    | (with_reducible refine State.planChannel_framed _ (hW.trans (by decide)) ?_)
    | (with_reducible refine State.planHoldQual_framed (hW.trans (by decide)) ?_)
    | (with_reducible refine State.planStretch_framed (hW.trans (by decide)) ?_)
    | (with_reducible refine State.slowGroups_framed _ (hW.trans (by decide)) ?_)
    | (with_reducible refine State.Framed.foldl _ ?_ (fun t e h => ?_))
    | (fail_if_no_progress with_reducible refine State.Framed.mkOf ?_ rfl rfl rfl rfl rfl rfl rfl)

def State.replanOrWait_writes : Nat := partMask [.alm] ||| State.replanAll_writes
theorem State.replanOrWait_framed {W : Nat} {o s : State}  (hW : SubMask State.replanOrWait_writes W)
    (hs : State.Framed W o s) :
    State.Framed W o (State.replanOrWait s) := by
  delta State.replanOrWait
  repeat' first
    | with_reducible assumption
    | (with_reducible refine State.Framed.ite ?_ ?_)
    | (with_reducible refine State.replanAll_framed (hW.trans (by decide)) ?_)
    | (fail_if_no_progress with_reducible refine State.Framed.mkOf ?_ rfl rfl rfl rfl rfl rfl rfl)

def State.levelStep_writes : Nat := partMask [.alm] ||| State.planItem_writes
theorem State.levelStep_framed {W : Nat} {o s : State} (v cause : Nat) (hW : SubMask State.levelStep_writes W)
    (hs : State.Framed W o s) :
    State.Framed W o (State.levelStep s v cause) := by
  delta State.levelStep
  repeat' first
    | with_reducible assumption
    | (with_reducible refine State.planItem_framed _ _ _ _ _ (hW.trans (by decide)) ?_)
    | (fail_if_no_progress with_reducible refine State.Framed.mkOf ?_ rfl rfl rfl rfl rfl rfl rfl)

def State.showOverrides_writes : Nat := regMask [.ALM_STATE]
theorem State.showOverrides_framed {W : Nat} {o s : State}  (hW : SubMask State.showOverrides_writes W)
    (hs : State.Framed W o s) :
    State.Framed W o (State.showOverrides s) := by
  delta State.showOverrides
  repeat' first
    | with_reducible assumption
    | (with_reducible refine State.setFld_framed _ _ _ _ (hW.trans (by decide)) ?_)

def State.endOverride_writes : Nat := partMask [.alm] ||| State.almRecord_writes ||| State.putItem_writes |||
  State.showOverrides_writes
theorem State.endOverride_framed {W : Nat} {o s : State} (i : AlmItem) (n : Nat)
    (hW : SubMask State.endOverride_writes W) (hs : State.Framed W o s) :
    State.Framed W o (State.endOverride s i n) := by
  delta State.endOverride
  repeat' first
    | with_reducible assumption
    | (with_reducible refine State.almRecord_framed _ _ _ _ _ _ _ (hW.trans (by decide)) ?_)
    | (with_reducible refine State.putItem_framed _ _ _ _ (hW.trans (by decide)) ?_)
    | (with_reducible refine State.showOverrides_framed (hW.trans (by decide)) ?_)
    | (fail_if_no_progress with_reducible refine State.Framed.mkOf ?_ rfl rfl rfl rfl rfl rfl rfl)

def State.startOverride_writes : Nat := regMask [.ALM_FLAGS] ||| partMask [.alm] ||| State.almRecord_writes |||
  State.putItem_writes ||| State.showOverrides_writes
theorem State.startOverride_framed {W : Nat} {o s : State} (i : AlmItem) (n v hours : Nat)
    (hW : SubMask State.startOverride_writes W) (hs : State.Framed W o s) :
    State.Framed W o (State.startOverride s i n v hours) := by
  delta State.startOverride
  repeat' first
    | with_reducible assumption
    | (with_reducible refine State.flag_framed _ _ _ (hW.trans (by decide)) ?_)
    | (with_reducible refine State.almRecord_framed _ _ _ _ _ _ _ (hW.trans (by decide)) ?_)
    | (with_reducible refine State.putItem_framed _ _ _ _ (hW.trans (by decide)) ?_)
    | (with_reducible refine State.showOverrides_framed (hW.trans (by decide)) ?_)
    | (fail_if_no_progress with_reducible refine State.Framed.mkOf ?_ rfl rfl rfl rfl rfl rfl rfl)

end Sys2Proof.Machine
end

