-- ==== Sys2Proof/Laws/FrameContain.lean ====
section
/-! SUPPORT. Frames of Machine/Contain.lean: for each operation, all it can write. -/

namespace Sys2Proof.Machine

set_option Elab.async false
set_option linter.unusedTactic false
set_option linter.unreachableTactic false
set_option exponentiation.threshold 1200

def State.reportPace_writes : Nat := regMask [.KEY_PACE, .KEY_PACE_FLAGS] ||| partMask [.alm, .lowPace] |||
  State.almWarn_writes
theorem State.reportPace_framed {W : Nat} {o s : State} (r : Nat) (hW : SubMask State.reportPace_writes W)
    (hs : State.Framed W o s) :
    State.Framed W o (State.reportPace s r) := by
  delta State.reportPace
  repeat' first
    | with_reducible assumption
    | (with_reducible refine State.Framed.ite ?_ ?_)
    | (with_reducible refine State.setFld_framed _ _ _ _ (hW.trans (by decide)) ?_)
    | (with_reducible refine State.flag_framed _ _ _ (hW.trans (by decide)) ?_)
    | (with_reducible refine State.almWarn_framed _ (hW.trans (by decide)) ?_)
    | split
    | (fail_if_no_progress with_reducible refine State.Framed.mkOf ?_ rfl rfl rfl rfl rfl rfl rfl)

def State.fenceChannel_writes : Nat := State.enterRest_writes ||| State.safeRun_writes ||| State.setLk_writes
theorem State.fenceChannel_framed {W : Nat} {o s : State} (n : Nat) (hW : SubMask State.fenceChannel_writes W)
    (hs : State.Framed W o s) :
    State.Framed W o (State.fenceChannel s n) := by
  delta State.fenceChannel
  repeat' first
    | with_reducible assumption
    | (with_reducible refine State.Framed.ite ?_ ?_)
    | (with_reducible refine State.enterRest_framed _ _ _ _ (hW.trans (by decide)) ?_)
    | (with_reducible refine State.safeRun_framed _ (hW.trans (by decide)) ?_)
    | (with_reducible refine State.setLk_framed _ _ (hW.trans (by decide)) ?_)

def State.retireChannel_writes : Nat := regMask [.PROT_STATE] ||| partMask [.lockLog] ||| State.lockout_writes |||
  State.safeRun_writes ||| State.setProt_writes
theorem State.retireChannel_framed {W : Nat} {o s : State} (n : Nat) (hW : SubMask State.retireChannel_writes W)
    (hs : State.Framed W o s) :
    State.Framed W o (State.retireChannel s n) := by
  delta State.retireChannel
  repeat' first
    | with_reducible assumption
    | (with_reducible refine State.setProt_framed _ _ (hW.trans (by decide)) ?_)
    | (with_reducible refine State.Framed.ite ?_ ?_)
    | (with_reducible refine State.setFld_framed _ _ _ _ (hW.trans (by decide)) ?_)
    | (with_reducible refine State.lockout_framed _ _ (hW.trans (by decide)) ?_)
    | (with_reducible refine State.safeRun_framed _ (hW.trans (by decide)) ?_)
    | (intro x; refine State.Framed.cut (W := W) (o := o) (x := x) ?_ ?_; (on_goal 1 => unfold x); (on_goal 2 => (intro _; clear_value x)))
    | (fail_if_no_progress with_reducible refine State.Framed.mkOf ?_ rfl rfl rfl rfl rfl rfl rfl)

def State.talBlockStart_writes : Nat := State.talStart_writes
theorem State.talBlockStart_framed {W : Nat} {o s : State} (b : Nat) (hW : SubMask State.talBlockStart_writes W)
    (hs : State.Framed W o s) :
    State.Framed W o (State.talBlockStart s b) := by
  delta State.talBlockStart
  repeat' first
    | with_reducible assumption
    | (with_reducible refine State.Framed.ite ?_ ?_)
    | (with_reducible refine State.Framed.foldl _ ?_ (fun t e h => ?_))
    | (with_reducible refine State.talStart_framed _ (hW.trans (by decide)) ?_)

def State.zeroFour_writes : Nat := State.zeroRequest_writes
theorem State.zeroFour_framed {W : Nat} {o s : State} (b : Nat) (hW : SubMask State.zeroFour_writes W)
    (hs : State.Framed W o s) :
    State.Framed W o (State.zeroFour s b) := by
  delta State.zeroFour
  repeat' first
    | with_reducible assumption
    | (with_reducible refine State.Framed.ite ?_ ?_)
    | (with_reducible refine State.zeroRequest_framed _ (hW.trans (by decide)) ?_)
    | (with_reducible refine State.Framed.foldl _ ?_ (fun t e h => ?_))

def State.portDown_writes : Nat := regMask [.COM_PORT_STATE] ||| State.ethCycle_writes |||
  State.spanRetrain_writes
theorem State.portDown_framed {W : Nat} {o s : State} (p : Nat) (hW : SubMask State.portDown_writes W)
    (hs : State.Framed W o s) :
    State.Framed W o (State.portDown s p) := by
  delta State.portDown
  repeat' first
    | with_reducible assumption
    | (with_reducible refine State.Framed.ite ?_ ?_)
    | (with_reducible refine State.setFld_framed _ _ _ _ (hW.trans (by decide)) ?_)
    | (with_reducible refine State.setBit_framed _ _ _ _ (hW.trans (by decide)) ?_)
    | (with_reducible refine State.ethCycle_framed _ _ (hW.trans (by decide)) ?_)
    | (with_reducible refine State.spanRetrain_framed _ (hW.trans (by decide)) ?_)

def State.portAgain_writes : Nat := regMask [.COM_PORT_STATE] ||| State.setPstate_writes
theorem State.portAgain_framed {W : Nat} {o s : State} (p : Nat) (hW : SubMask State.portAgain_writes W)
    (hs : State.Framed W o s) :
    State.Framed W o (State.portAgain s p) := by
  delta State.portAgain
  repeat' first
    | with_reducible assumption
    | (with_reducible refine State.Framed.ite ?_ ?_)
    | (with_reducible refine State.setFld_framed _ _ _ _ (hW.trans (by decide)) ?_)
    | (with_reducible refine State.setPstate_framed _ _ (hW.trans (by decide)) ?_)

def State.moveBlock_writes : Nat := regMask [.EST_BLKMAP] ||| State.blockResume_writes ||| State.ledger_writes
theorem State.moveBlock_framed {W : Nat} {o s : State} (b : Nat) (hW : SubMask State.moveBlock_writes W)
    (hs : State.Framed W o s) :
    State.Framed W o (State.moveBlock s b) := by
  delta State.moveBlock
  repeat' first
    | with_reducible assumption
    | (with_reducible refine State.setFld_framed _ _ _ _ (hW.trans (by decide)) ?_)
    | (with_reducible refine State.setBit_framed _ _ _ _ (hW.trans (by decide)) ?_)
    | (with_reducible refine State.blockResume_framed _ (hW.trans (by decide)) ?_)
    | (with_reducible refine State.ledger_framed _ _ (hW.trans (by decide)) ?_)
    | intro x
    | lift_lets
    | split

def State.retireMill_writes : Nat := partMask [.bel] ||| State.draw_writes ||| State.moveBlock_writes
theorem State.retireMill_framed {W : Nat} {o s : State} (m : Nat) (hW : SubMask State.retireMill_writes W)
    (hs : State.Framed W o s) :
    State.Framed W o (State.retireMill s m) := by
  delta State.retireMill
  repeat' first
    | with_reducible assumption
    | (with_reducible refine State.Framed.ite ?_ ?_)
    | (with_reducible refine State.draw_framed (hW.trans (by decide)) ?_)
    | (with_reducible refine State.moveBlock_framed _ (hW.trans (by decide)) ?_)
    | (with_reducible refine State.Framed.foldl _ ?_ (fun t e h => ?_))
    | (intro x; refine State.Framed.cut (W := W) (o := o) (x := x) ?_ ?_; (on_goal 1 => unfold x); (on_goal 2 => (intro _; clear_value x)))
    | (fail_if_no_progress with_reducible refine State.Framed.mkOf ?_ rfl rfl rfl rfl rfl rfl rfl)

def State.granPause_writes : Nat := State.setBlkE_writes
theorem State.granPause_framed {W : Nat} {o s : State} (b : Nat) (hW : SubMask State.granPause_writes W)
    (hs : State.Framed W o s) :
    State.Framed W o (State.granPause s b) := by
  delta State.granPause
  repeat' first
    | with_reducible assumption
    | (with_reducible refine State.setBlkE_framed _ _ (hW.trans (by decide)) ?_)
    | (with_reducible refine State.Framed.foldl _ ?_ (fun t e h => ?_))

def State.granRebuild_writes : Nat := State.setBlkE_writes ||| State.setCell_writes
theorem State.granRebuild_framed {W : Nat} {o s : State} (b : Nat) (hW : SubMask State.granRebuild_writes W)
    (hs : State.Framed W o s) :
    State.Framed W o (State.granRebuild s b) := by
  delta State.granRebuild
  repeat' first
    | with_reducible assumption
    | (with_reducible refine State.Framed.ite ?_ ?_)
    | (with_reducible refine State.setBlkE_framed _ _ (hW.trans (by decide)) ?_)
    | (with_reducible refine State.setCell_framed _ _ (hW.trans (by decide)) ?_)
    | (with_reducible refine State.Framed.foldl _ ?_ (fun t e h => ?_))

def State.granRetire_writes : Nat := regMask [.DSP_REC_STATE] ||| State.granRebuild_writes |||
  State.recFreeze_writes
theorem State.granRetire_framed {W : Nat} {o s : State} (b : Nat) (hW : SubMask State.granRetire_writes W)
    (hs : State.Framed W o s) :
    State.Framed W o (State.granRetire s b) := by
  delta State.granRetire
  repeat' first
    | with_reducible assumption
    | (with_reducible refine State.Framed.ite ?_ ?_)
    | (with_reducible refine State.setFld_framed _ _ _ _ (hW.trans (by decide)) ?_)
    | (with_reducible refine State.granRebuild_framed _ (hW.trans (by decide)) ?_)
    | (with_reducible refine State.recFreeze_framed (hW.trans (by decide)) ?_)

def State.millPause_writes : Nat := State.enginePause_writes
theorem State.millPause_framed {W : Nat} {o s : State} (m : Nat) (hW : SubMask State.millPause_writes W)
    (hs : State.Framed W o s) :
    State.Framed W o (State.millPause s m) := by
  delta State.millPause
  repeat' first
    | with_reducible assumption
    | (with_reducible refine State.enginePause_framed _ (hW.trans (by decide)) ?_)
    | (with_reducible refine State.Framed.foldl _ ?_ (fun t e h => ?_))

def State.applyVerdict_writes : Nat := regMask [.ALM_FLAGS, .ALM_STATE] ||| State.calMoved_writes |||
  State.chainDown_writes ||| State.convContained_writes ||| State.fenceChannel_writes ||| State.granPause_writes |||
  State.granRetire_writes ||| State.millPause_writes ||| State.portDown_writes ||| State.retireChannel_writes |||
  State.retireMill_writes ||| State.zeroFour_writes
theorem State.applyVerdict_framed {W : Nat} {o s : State} (x : Site) (v : Verdict)
    (hW : SubMask State.applyVerdict_writes W) (hs : State.Framed W o s) :
    State.Framed W o (State.applyVerdict s x v) := by
  delta State.applyVerdict
  repeat' first
    | with_reducible assumption
    | (with_reducible refine State.calMoved_framed (hW.trans (by decide)) ?_)
    | (with_reducible refine State.setBit_framed _ _ _ _ (hW.trans (by decide)) ?_)
    | (with_reducible refine State.flag_framed _ _ _ (hW.trans (by decide)) ?_)
    | (with_reducible refine State.chainDown_framed _ (hW.trans (by decide)) ?_)
    | (with_reducible refine State.convContained_framed _ _ (hW.trans (by decide)) ?_)
    | (with_reducible refine State.fenceChannel_framed _ (hW.trans (by decide)) ?_)
    | (with_reducible refine State.granPause_framed _ (hW.trans (by decide)) ?_)
    | (with_reducible refine State.granRetire_framed _ (hW.trans (by decide)) ?_)
    | (with_reducible refine State.millPause_framed _ (hW.trans (by decide)) ?_)
    | (with_reducible refine State.portDown_framed _ (hW.trans (by decide)) ?_)
    | (with_reducible refine State.retireChannel_framed _ (hW.trans (by decide)) ?_)
    | (with_reducible refine State.retireMill_framed _ (hW.trans (by decide)) ?_)
    | (with_reducible refine State.zeroFour_framed _ (hW.trans (by decide)) ?_)
    | (with_reducible refine State.Framed.foldl _ ?_ (fun t e h => ?_))
    | split

def State.contain_writes : Nat := State.applyVerdict_writes ||| State.containUnit_writes
theorem State.contain_framed {W : Nat} {o s : State} (x : Site) (cause detail : Nat)
    (hW : SubMask State.contain_writes W) (hs : State.Framed W o s) :
    State.Framed W o (State.contain s x cause detail) := by
  delta State.contain
  repeat' first
    | with_reducible assumption
    | (with_reducible refine State.applyVerdict_framed _ _ (hW.trans (by decide)) ?_)
    | (with_reducible refine State.containUnit_framed _ _ _ (hW.trans (by decide)) ?_)

def State.retire_writes : Nat := State.applyVerdict_writes ||| State.retireUnit_writes
theorem State.retire_framed {W : Nat} {o s : State} (x : Site) (cause detail attempt : Nat)
    (hW : SubMask State.retire_writes W) (hs : State.Framed W o s) :
    State.Framed W o (State.retire s x cause detail attempt) := by
  delta State.retire
  repeat' first
    | with_reducible assumption
    | (with_reducible refine State.applyVerdict_framed _ _ (hW.trans (by decide)) ?_)
    | (with_reducible refine State.retireUnit_framed _ _ _ _ (hW.trans (by decide)) ?_)

def State.corrected_writes : Nat := State.contain_writes ||| State.correctedError_writes
theorem State.corrected_framed {W : Nat} {o s : State} (x : Site) (cause detail : Nat)
    (hW : SubMask State.corrected_writes W) (hs : State.Framed W o s) :
    State.Framed W o (State.corrected s x cause detail) := by
  delta State.corrected
  repeat' first
    | with_reducible assumption
    | (with_reducible refine State.Framed.ite ?_ ?_)
    | (with_reducible refine State.contain_framed _ _ _ (hW.trans (by decide)) ?_)
    | (with_reducible refine State.correctedError_framed _ _ (hW.trans (by decide)) ?_)

def State.released_writes : Nat := State.chainUp_writes ||| State.convKick_writes ||| State.granRebuild_writes |||
  State.portAgain_writes ||| State.replanAll_writes ||| State.safeRun_writes ||| State.talBlockStart_writes
theorem State.released_framed {W : Nat} {o s : State} (x : Site) (hW : SubMask State.released_writes W)
    (hs : State.Framed W o s) :
    State.Framed W o (State.released s x) := by
  delta State.released
  repeat' first
    | with_reducible assumption
    | (with_reducible refine State.talBlockStart_framed _ (hW.trans (by decide)) ?_)
    | (with_reducible refine State.safeRun_framed _ (hW.trans (by decide)) ?_)
    | (with_reducible refine State.chainUp_framed _ (hW.trans (by decide)) ?_)
    | (with_reducible refine State.convKick_framed _ (hW.trans (by decide)) ?_)
    | (with_reducible refine State.granRebuild_framed _ (hW.trans (by decide)) ?_)
    | (with_reducible refine State.portAgain_framed _ (hW.trans (by decide)) ?_)
    | (with_reducible refine State.replanAll_framed (hW.trans (by decide)) ?_)
    | (with_reducible refine State.Framed.foldl _ ?_ (fun t e h => ?_))
    | split

end Sys2Proof.Machine
end

