-- ==== Sys2Proof/Laws/FrameSupply.lean ====
section
/-! SUPPORT. Frames of Machine/Supply.lean: for each operation, all it can write. -/

namespace Sys2Proof.Machine

set_option Elab.async false
set_option linter.unusedTactic false
set_option linter.unreachableTactic false
set_option exponentiation.threshold 1200

def State.cleared_writes : Nat := allMask
theorem State.cleared_framed {W : Nat} {o s : State} (hW : SubMask State.cleared_writes W)
    (hs : State.Framed W o s) : State.Framed W o s.cleared :=
  hs.trans (State.Framed.ofAll hW rfl rfl rfl (fun _ => ⟨rfl, rfl, rfl, rfl⟩))

def State.keepSupply_writes : Nat := regMask [.SUP_STATE, .SUP_FLAGS, .SUP_FEED_CFG, .SUP_FEED_MON, .SUP_RESET_CAUSE, .SUP_RAIL_MON]
theorem State.keepSupply_framed {W : Nat} {o s : State} (old : State) (hW : SubMask State.keepSupply_writes W)
    (hs : State.Framed W o s) : State.Framed W o (s.keepSupply old) := by
  have h1 : State.Framed W o ([RegName.SUP_STATE, .SUP_FLAGS, .SUP_FEED_CFG, .SUP_FEED_MON, .SUP_RESET_CAUSE].foldl
      (fun t r => t.setReg r 0 0 (old.reg r)) s) :=
    State.setReg_framed _ _ _ _ (hW.trans (by decide)) (State.setReg_framed _ _ _ _ (hW.trans (by decide))
      (State.setReg_framed _ _ _ _ (hW.trans (by decide)) (State.setReg_framed _ _ _ _ (hW.trans (by decide))
        (State.setReg_framed _ _ _ _ (hW.trans (by decide)) hs))))
  have h2 := State.Framed.foldl (f := fun t i => t.setReg .SUP_RAIL_MON i 0 (old.reg .SUP_RAIL_MON i)) (List.range 6) h1
    (fun t i ht => State.setReg_framed _ _ _ _ (hW.trans (by decide)) ht)
  refine State.Framed.putCnts h2 (c := _) (fun h => ?_)
  generalize bitList 32 (w1cBits .SUP_FLAGS) = l
  revert h
  generalize State.cnts _ = m
  intro h
  induction l generalizing m with
  | nil => exact h
  | cons b l ih => exact ih _ (sparseWf_set m (fun _ => 0) _ _ h)

def State.markSeen_writes : Nat := regMask [.SUP_RESET_CAUSE]
theorem State.markSeen_framed {W : Nat} {o s : State} (code : Nat) (hW : SubMask State.markSeen_writes W)
    (hs : State.Framed W o s) :
    State.Framed W o (State.markSeen s code) := by
  delta State.markSeen
  repeat' first
    | with_reducible assumption
    | (with_reducible refine State.setFld_framed _ _ _ _ (hW.trans (by decide)) ?_)
    | split

def State.doReset_writes : Nat := regMask [.SUP_RESET_CAUSE, .TG_KEYS] ||| partMask [.resetToLog, .sup] |||
  State.cleared_writes ||| State.keepSupply_writes ||| State.markSeen_writes ||| State.showFailwarn_writes
theorem State.doReset_framed {W : Nat} {o s : State} (code : Nat) (hW : SubMask State.doReset_writes W)
    (hs : State.Framed W o s) :
    State.Framed W o (State.doReset s code) := by
  delta State.doReset
  repeat' first
    | with_reducible assumption
    | (with_reducible refine State.Framed.ite ?_ ?_)
    | (with_reducible refine State.markSeen_framed _ (hW.trans (by decide)) ?_)
    | (with_reducible refine State.setReg_framed _ _ _ _ (hW.trans (by decide)) ?_)
    | (with_reducible refine State.setFld_framed _ _ _ _ (hW.trans (by decide)) ?_)
    | (with_reducible refine State.cleared_framed (hW.trans (by decide)) ?_)
    | (with_reducible refine State.keepSupply_framed _ (hW.trans (by decide)) ?_)
    | (with_reducible refine State.showFailwarn_framed (hW.trans (by decide)) ?_)
    | (fail_if_no_progress with_reducible refine State.Framed.mkOf ?_ rfl rfl rfl rfl rfl rfl rfl)

def State.leaveReset_writes : Nat := partMask [.load, .startAt, .sup] ||| State.draw_writes |||
  State.safeEnter_writes ||| State.showFailwarn_writes
theorem State.leaveReset_framed {W : Nat} {o s : State}  (hW : SubMask State.leaveReset_writes W)
    (hs : State.Framed W o s) :
    State.Framed W o (State.leaveReset s) := by
  delta State.leaveReset
  repeat' first
    | with_reducible assumption
    | (with_reducible refine State.Framed.ite ?_ ?_)
    | (with_reducible refine State.draw_framed (hW.trans (by decide)) ?_)
    | (with_reducible refine State.safeEnter_framed _ _ _ (hW.trans (by decide)) ?_)
    | (with_reducible refine State.showFailwarn_framed (hW.trans (by decide)) ?_)
    | (fail_if_no_progress with_reducible refine State.Framed.mkOf ?_ rfl rfl rfl rfl rfl rfl rfl)

def State.leaveUnheld_writes : Nat := State.leaveReset_writes
theorem State.leaveUnheld_framed {W : Nat} {o s : State}  (hW : SubMask State.leaveUnheld_writes W)
    (hs : State.Framed W o s) :
    State.Framed W o (State.leaveUnheld s ) := by
  delta State.leaveUnheld
  repeat' first
    | with_reducible assumption
    | (with_reducible refine State.Framed.ite ?_ ?_)
    | (with_reducible refine State.leaveReset_framed (hW.trans (by decide)) ?_)

def State.por_writes : Nat := regMask [.TG_KEYS] ||| partMask [.resetToLog, .sup] ||| State.cleared_writes |||
  State.send_writes
theorem State.por_framed {W : Nat} {o s : State}  (hW : SubMask State.por_writes W) (hs : State.Framed W o s) :
    State.Framed W o (State.por s) := by
  delta State.por
  repeat' first
    | with_reducible assumption
    | (with_reducible refine State.Framed.ite ?_ ?_)
    | (with_reducible refine State.setReg_framed _ _ _ _ (hW.trans (by decide)) ?_)
    | (with_reducible refine State.cleared_framed (hW.trans (by decide)) ?_)
    | (with_reducible refine State.send_framed _ (hW.trans (by decide)) ?_)
    | (fail_if_no_progress with_reducible refine State.Framed.mkOf ?_ rfl rfl rfl rfl rfl rfl rfl)

def State.setSeq_writes : Nat := regMask [.SUP_STATE]
theorem State.setSeq_framed {W : Nat} {o s : State} (v : Nat) (hW : SubMask State.setSeq_writes W)
    (hs : State.Framed W o s) :
    State.Framed W o (State.setSeq s v) := by
  delta State.setSeq
  repeat' first
    | with_reducible assumption
    | (with_reducible refine State.setFld_framed _ _ _ _ (hW.trans (by decide)) ?_)

def State.railEval_writes : Nat := regMask [.SUP_RAIL_MON, .SUP_STATE] ||| partMask [.sup]
theorem State.railEval_framed {W : Nat} {o s : State} (i : Fin 6) (dmv : Nat) (hW : SubMask State.railEval_writes W)
    (hs : State.Framed W o s) :
    State.Framed W o (State.railEval s i dmv) := by
  delta State.railEval
  repeat' first
    | with_reducible assumption
    | (with_reducible refine State.Framed.ite ?_ ?_)
    | (with_reducible refine State.setFld_framed _ _ _ _ (hW.trans (by decide)) ?_)
    | (fail_if_no_progress with_reducible refine State.Framed.mkOf ?_ rfl rfl rfl rfl rfl rfl rfl)

def State.showAllGood_writes : Nat := regMask [.SUP_STATE]
theorem State.showAllGood_framed {W : Nat} {o s : State}  (hW : SubMask State.showAllGood_writes W)
    (hs : State.Framed W o s) :
    State.Framed W o (State.showAllGood s) := by
  delta State.showAllGood
  repeat' first
    | with_reducible assumption
    | (with_reducible refine State.setBit_framed _ _ _ _ (hW.trans (by decide)) ?_)

def State.setVctl_writes : Nat := partMask [.sup]
theorem State.setVctl_framed {W : Nat} {o s : State} (mv : Nat) (hW : SubMask State.setVctl_writes W)
    (hs : State.Framed W o s) :
    State.Framed W o (State.setVctl s mv) := by
  delta State.setVctl
  repeat' first
    | with_reducible assumption
    | (fail_if_no_progress with_reducible refine State.Framed.mkOf ?_ rfl rfl rfl rfl rfl rfl rfl)

def State.enableRail_writes : Nat := partMask [.sup]
theorem State.enableRail_framed {W : Nat} {o s : State} (i : Fin 6) (hW : SubMask State.enableRail_writes W)
    (hs : State.Framed W o s) :
    State.Framed W o (State.enableRail s i) := by
  delta State.enableRail
  repeat' first
    | with_reducible assumption
    | (fail_if_no_progress with_reducible refine State.Framed.mkOf ?_ rfl rfl rfl rfl rfl rfl rfl)

def State.dropEnable_writes : Nat := partMask [.sup]
theorem State.dropEnable_framed {W : Nat} {o s : State}  (hW : SubMask State.dropEnable_writes W)
    (hs : State.Framed W o s) :
    State.Framed W o (State.dropEnable s) := by
  delta State.dropEnable
  repeat' first
    | with_reducible assumption
    | (fail_if_no_progress with_reducible refine State.Framed.mkOf ?_ rfl rfl rfl rfl rfl rfl rfl)

def State.supplyLoss_writes : Nat := partMask [.sup] ||| State.doReset_writes ||| State.setSeq_writes
theorem State.supplyLoss_framed {W : Nat} {o s : State}  (hW : SubMask State.supplyLoss_writes W)
    (hs : State.Framed W o s) :
    State.Framed W o (State.supplyLoss s) := by
  delta State.supplyLoss
  repeat' first
    | with_reducible assumption
    | (with_reducible refine State.doReset_framed _ (hW.trans (by decide)) ?_)
    | (with_reducible refine State.setSeq_framed _ (hW.trans (by decide)) ?_)
    | (intro x; refine State.Framed.cut (W := W) (o := o) (x := x) ?_ ?_; (on_goal 1 => unfold x); (on_goal 2 => (intro _; clear_value x)))
    | (fail_if_no_progress with_reducible refine State.Framed.mkOf ?_ rfl rfl rfl rfl rfl rfl rfl)

def State.endRelease_writes : Nat := partMask [.sup] ||| State.released_writes ||| State.setSeq_writes |||
  State.supplyLoss_writes
theorem State.endRelease_framed {W : Nat} {o s : State}  (hW : SubMask State.endRelease_writes W)
    (hs : State.Framed W o s) :
    State.Framed W o (State.endRelease s) := by
  delta State.endRelease
  repeat' first
    | with_reducible assumption
    | (with_reducible refine State.Framed.ite ?_ ?_)
    | (with_reducible refine State.released_framed _ (hW.trans (by decide)) ?_)
    | (with_reducible refine State.setSeq_framed _ (hW.trans (by decide)) ?_)
    | (with_reducible refine State.supplyLoss_framed (hW.trans (by decide)) ?_)
    | (intro x; refine State.Framed.cut (W := W) (o := o) (x := x) ?_ ?_; (on_goal 1 => unfold x); (on_goal 2 => (intro _; clear_value x)))
    | split
    | (fail_if_no_progress with_reducible refine State.Framed.mkOf ?_ rfl rfl rfl rfl rfl rfl rfl)

def State.beginRelease_writes : Nat := partMask [.sup] ||| State.dropEnable_writes ||| State.endRelease_writes
theorem State.beginRelease_framed {W : Nat} {o s : State} (cause : RelCause)
    (hW : SubMask State.beginRelease_writes W) (hs : State.Framed W o s) :
    State.Framed W o (State.beginRelease s cause) := by
  delta State.beginRelease
  repeat' first
    | with_reducible assumption
    | (with_reducible refine State.Framed.ite ?_ ?_)
    | (with_reducible refine State.dropEnable_framed (hW.trans (by decide)) ?_)
    | (with_reducible refine State.endRelease_framed (hW.trans (by decide)) ?_)
    | (fail_if_no_progress with_reducible refine State.Framed.mkOf ?_ rfl rfl rfl rfl rfl rfl rfl)

def State.pdOpen_writes : Nat := partMask [.sup] ||| State.enterRest_writes ||| State.safeRun_writes |||
  State.urgentOpen_writes
theorem State.pdOpen_framed {W : Nat} {o s : State}  (hW : SubMask State.pdOpen_writes W) (hs : State.Framed W o s) :
    State.Framed W o (State.pdOpen s) := by
  delta State.pdOpen
  repeat' first
    | with_reducible assumption
    | (with_reducible refine State.Framed.ite ?_ ?_)
    | (with_reducible refine State.enterRest_framed _ _ _ _ (hW.trans (by decide)) ?_)
    | (with_reducible refine State.safeRun_framed _ (hW.trans (by decide)) ?_)
    | (with_reducible refine State.urgentOpen_framed _ (hW.trans (by decide)) ?_)
    | (with_reducible refine State.Framed.foldl _ ?_ (fun t e h => ?_))
    | (fail_if_no_progress with_reducible refine State.Framed.mkOf ?_ rfl rfl rfl rfl rfl rfl rfl)

def State.pdRecord_writes : Nat := partMask [.ldgState, .sup] ||| State.flushUrgent_writes |||
  State.ledger_writes
theorem State.pdRecord_framed {W : Nat} {o s : State}  (hW : SubMask State.pdRecord_writes W)
    (hs : State.Framed W o s) :
    State.Framed W o (State.pdRecord s) := by
  delta State.pdRecord
  repeat' first
    | with_reducible assumption
    | (with_reducible refine State.flushUrgent_framed (hW.trans (by decide)) ?_)
    | (with_reducible refine State.ledger_framed _ _ (hW.trans (by decide)) ?_)
    | (intro x; refine State.Framed.cut (W := W) (o := o) (x := x) ?_ ?_; (on_goal 1 => unfold x); (on_goal 2 => (intro _; clear_value x)))
    | (fail_if_no_progress with_reducible refine State.Framed.mkOf ?_ rfl rfl rfl rfl rfl rfl rfl)

def State.imageResult_writes : Nat := regMask [.KEY_START_FLAGS, .KEY_START_STATE]
theorem State.imageResult_framed {W : Nat} {o s : State} (f code : Nat) (hW : SubMask State.imageResult_writes W)
    (hs : State.Framed W o s) :
    State.Framed W o (State.imageResult s f code) := by
  delta State.imageResult
  repeat' first
    | with_reducible assumption
    | (with_reducible refine State.Framed.ite ?_ ?_)
    | (with_reducible refine State.setFld_framed _ _ _ _ (hW.trans (by decide)) ?_)
    | (with_reducible refine State.flagIf_framed _ _ _ _ (hW.trans (by decide)) ?_)

def State.startMark_writes : Nat := regMask [.KEY_START_MARK]
theorem State.startMark_framed {W : Nat} {o s : State} (i : Nat) (hW : SubMask State.startMark_writes W)
    (hs : State.Framed W o s) :
    State.Framed W o (State.startMark s i) := by
  delta State.startMark
  repeat' first
    | with_reducible assumption
    | (with_reducible refine State.setReg_framed _ _ _ _ (hW.trans (by decide)) ?_)

def State.safeIdle_writes : Nat := regMask [.KEY_START_FLAGS, .KEY_START_STATE] ||| partMask [.load] |||
  State.ledger_writes ||| State.startMark_writes
theorem State.safeIdle_framed {W : Nat} {o s : State}  (hW : SubMask State.safeIdle_writes W)
    (hs : State.Framed W o s) :
    State.Framed W o (State.safeIdle s) := by
  delta State.safeIdle
  repeat' first
    | with_reducible assumption
    | (with_reducible refine State.Framed.ite ?_ ?_)
    | (with_reducible refine State.setFld_framed _ _ _ _ (hW.trans (by decide)) ?_)
    | (with_reducible refine State.flag_framed _ _ _ (hW.trans (by decide)) ?_)
    | (with_reducible refine State.ledger_framed _ _ (hW.trans (by decide)) ?_)
    | (with_reducible refine State.startMark_framed _ (hW.trans (by decide)) ?_)
    | (fail_if_no_progress with_reducible refine State.Framed.mkOf ?_ rfl rfl rfl rfl rfl rfl rfl)

def State.applyReg_writes : Nat := allMask
theorem State.applyReg_framed {W : Nat} {o s : State} (e : Nat × Word) (hW : SubMask State.applyReg_writes W)
    (hs : State.Framed W o s) : State.Framed W o (s.applyReg e) :=
  .ite hs (State.setReg_framed _ _ _ _ (hW.trans (mask_all _)) hs)

def State.talLoaded_writes : Nat := regMask [.TAL_STATUS] ||| State.talStart_writes
theorem State.talLoaded_framed {W : Nat} {o s : State} (t : Nat) (hW : SubMask State.talLoaded_writes W)
    (hs : State.Framed W o s) :
    State.Framed W o (State.talLoaded s t) := by
  delta State.talLoaded
  repeat' first
    | with_reducible assumption
    | (with_reducible refine State.Framed.ite ?_ ?_)
    | (with_reducible refine State.setBit_framed _ _ _ _ (hW.trans (by decide)) ?_)
    | (with_reducible refine State.talStart_framed _ (hW.trans (by decide)) ?_)
    | (intro x; refine State.Framed.cut (W := W) (o := o) (x := x) ?_ ?_; (on_goal 1 => unfold x); (on_goal 2 => (intro _; clear_value x)))
    | intro x

def State.applyHooks_writes : Nat := regMask [.EST_STATE, .HR_CFG, .MEAS_EPOCH] ||| partMask [.bel, .com] |||
  State.derate_writes ||| State.mapCells_writes ||| State.parStart_writes ||| State.setTb_writes |||
  State.setVctl_writes ||| State.showBus_writes ||| State.talLoaded_writes ||| State.talStart_writes |||
  State.tbStep_writes
theorem State.applyHooks_framed {W : Nat} {o s : State}  (hW : SubMask State.applyHooks_writes W)
    (hs : State.Framed W o s) :
    State.Framed W o (State.applyHooks s) := by
  delta State.applyHooks
  repeat' first
    | with_reducible assumption
    | (with_reducible refine State.talLoaded_framed _ (hW.trans (by decide)) ?_)
    | (with_reducible refine State.showBus_framed (hW.trans (by decide)) ?_)
    | (with_reducible refine State.Framed.ite ?_ ?_)
    | (with_reducible refine State.setFld_framed _ _ _ _ (hW.trans (by decide)) ?_)
    | (with_reducible refine State.derate_framed _ (hW.trans (by decide)) ?_)
    | (with_reducible refine State.mapCells_framed (hW.trans (by decide)) ?_)
    | (with_reducible refine State.parStart_framed (hW.trans (by decide)) ?_)
    | (with_reducible refine State.setTb_framed _ _ (hW.trans (by decide)) ?_)
    | (with_reducible refine State.setVctl_framed _ (hW.trans (by decide)) ?_)
    | (with_reducible refine State.talStart_framed _ (hW.trans (by decide)) ?_)
    | (with_reducible refine State.tbStep_framed _ _ _ (hW.trans (by decide)) ?_)
    | (with_reducible refine State.Framed.foldl _ ?_ (fun t e h => ?_))
    | (fail_if_no_progress with_reducible refine State.Framed.mkOf ?_ rfl rfl rfl rfl rfl rfl rfl)

def State.stage_writes : Nat := memMask
theorem State.stage_framed {W : Nat} {o s : State} (x : Image) (n : Nat) (hW : SubMask State.stage_writes W)
    (hs : State.Framed W o s) : State.Framed W o (State.stage s x n) :=
  State.putMem_framed hW hs rfl (fun h => memPutBytes_wf _ _ _ h)

def State.unstage_writes : Nat := memMask
theorem State.unstage_framed {W : Nat} {o s : State} (hW : SubMask State.unstage_writes W)
    (hs : State.Framed W o s) : State.Framed W o (State.unstage s) :=
  State.putMem_framed hW hs rfl (fun h => sparseWf_filter _ _ _ h)

def State.applyCharter_writes : Nat := regMask [.KEY_CHARTER_GEN, .KEY_CHARTER_ID, .KEY_START_STATE] |||
  partMask [.charter, .load] ||| State.applyHooks_writes ||| State.applyReg_writes ||| State.calAll_writes |||
  State.calEnter_writes ||| State.ledger_writes ||| State.startMark_writes ||| State.unstage_writes
theorem State.applyCharter_framed {W : Nat} {o s : State} (f : Nat) (hW : SubMask State.applyCharter_writes W)
    (hs : State.Framed W o s) :
    State.Framed W o (State.applyCharter s f) := by
  delta State.applyCharter
  repeat' first
    | with_reducible assumption
    | (with_reducible refine State.unstage_framed (hW.trans (by decide)) ?_)
    | (with_reducible refine State.calEnter_framed (hW.trans (by decide)) ?_)
    | (with_reducible refine State.setReg_framed _ _ _ _ (hW.trans (by decide)) ?_)
    | (with_reducible refine State.setFld_framed _ _ _ _ (hW.trans (by decide)) ?_)
    | (with_reducible refine State.applyHooks_framed (hW.trans (by decide)) ?_)
    | (with_reducible refine State.applyReg_framed _ (hW.trans (by decide)) ?_)
    | (with_reducible refine State.calAll_framed (hW.trans (by decide)) ?_)
    | (with_reducible refine State.ledger_framed _ _ (hW.trans (by decide)) ?_)
    | (with_reducible refine State.startMark_framed _ (hW.trans (by decide)) ?_)
    | (with_reducible refine State.Framed.foldl _ ?_ (fun t e h => ?_))
    | (fail_if_no_progress with_reducible refine State.Framed.mkOf ?_ rfl rfl rfl rfl rfl rfl rfl)

def State.startFlash_writes : Nat := partMask [.xspi] ||| State.send_writes
theorem State.startFlash_framed {W : Nat} {o s : State} (f : Fin 2) (hW : SubMask State.startFlash_writes W)
    (hs : State.Framed W o s) :
    State.Framed W o (State.startFlash s f) := by
  delta State.startFlash
  repeat' first
    | with_reducible assumption
    | (with_reducible refine State.Framed.ite ?_ ?_)
    | (with_reducible refine State.send_framed _ (hW.trans (by decide)) ?_)
    | (fail_if_no_progress with_reducible refine State.Framed.mkOf ?_ rfl rfl rfl rfl rfl rfl rfl)
    | (intro x; refine State.Framed.cut (W := W) (o := o) (x := x) ?_ ?_; (on_goal 1 => unfold x); (on_goal 2 => (intro _; clear_value x)))
    | intro x

def State.bodyDone_writes : Nat := partMask [.load] ||| State.applyCharter_writes ||| State.draw_writes |||
  State.imageResult_writes ||| State.safeIdle_writes ||| State.stage_writes
theorem State.bodyDone_framed {W : Nat} {o s : State} (f : Nat) (second readErr : Bool)
    (hW : SubMask State.bodyDone_writes W) (hs : State.Framed W o s) :
    State.Framed W o (State.bodyDone s f second readErr) := by
  delta State.bodyDone
  repeat' first
    | with_reducible assumption
    | (with_reducible refine State.stage_framed _ _ (hW.trans (by decide)) ?_)
    | (with_reducible refine State.draw_framed (hW.trans (by decide)) ?_)
    | (with_reducible refine State.Framed.ite ?_ ?_)
    | (with_reducible refine State.applyCharter_framed _ (hW.trans (by decide)) ?_)
    | (with_reducible refine State.imageResult_framed _ _ (hW.trans (by decide)) ?_)
    | (with_reducible refine State.safeIdle_framed (hW.trans (by decide)) ?_)
    | (fail_if_no_progress with_reducible refine State.Framed.mkOf ?_ rfl rfl rfl rfl rfl rfl rfl)

def State.lockAgain_writes : Nat := regMask [.PROT_STATE] ||| State.setCstate_writes ||| State.setProt_writes
theorem State.lockAgain_framed {W : Nat} {o s : State} (e : Nat × Nat) (hW : SubMask State.lockAgain_writes W)
    (hs : State.Framed W o s) :
    State.Framed W o (State.lockAgain s e) := by
  delta State.lockAgain
  repeat' first
    | with_reducible assumption
    | (with_reducible refine State.Framed.ite ?_ ?_)
    | (with_reducible refine State.setFld_framed _ _ _ _ (hW.trans (by decide)) ?_)
    | (with_reducible refine State.setBit_framed _ _ _ _ (hW.trans (by decide)) ?_)
    | (with_reducible refine State.setCstate_framed _ _ (hW.trans (by decide)) ?_)
    | (with_reducible refine State.setProt_framed _ _ (hW.trans (by decide)) ?_)

end Sys2Proof.Machine
end

