-- ==== Sys2Proof/Laws/FrameAccess.lean ====
section
/-! SUPPORT. Frames of Machine/Access.lean: for each operation, all it can write. -/

namespace Sys2Proof.Machine

set_option Elab.async false
set_option linter.unusedTactic false
set_option linter.unreachableTactic false
set_option exponentiation.threshold 1200

def State.w1cWrite_writes : Nat := State.answer_writes
theorem State.w1cWrite_framed {W : Nat} {o s : State} (k : Nat) (r : RegName) (i value arrivals : Nat)
    (hW : SubMask State.w1cWrite_writes W) (hr : SubMask (regMask [r]) W) (hs : State.Framed W o s) :
    State.Framed W o (s.w1cWrite k r i value arrivals) := by
  have arrive (t : State) (ht : State.Framed W o t) : State.Framed W o
      ((bitList 32 (arrivals &&& w1cBits r)).foldl (fun u b => u.flag ⟨r, 0, 32⟩ i b) t) :=
    .foldl _ ht (fun u b hu => State.flag_framed _ _ _ hr hu)
  exact .ite (State.answer_framed _ (hW.trans (by decide)) hs)
    (.ite (State.answer_framed _ (hW.trans (by decide)) (arrive _ hs))
      (.ite (State.answer_framed _ (hW.trans (by decide)) (arrive _ hs))
        (State.answer_framed _ (hW.trans (by decide)) (arrive _ (State.setReg_framed _ _ _ _ hr hs)))))

def State.plainWritten_writes : Nat := regMask [.COM_PORT_STATE, .TB_STATE] ||| partMask [.inst] |||
  State.ethCfgWritten_writes ||| State.spanEnWritten_writes ||| State.stageDiv_writes
theorem State.plainWritten_framed {W : Nat} {o s : State} (r : RegName) (i old : Nat)
    (hW : SubMask State.plainWritten_writes W) (hs : State.Framed W o s) :
    State.Framed W o (State.plainWritten s r i old) := by
  delta State.plainWritten
  repeat' first
    | with_reducible assumption
    | (with_reducible refine State.setBit_framed _ _ _ _ (hW.trans (by decide)) ?_)
    | (with_reducible refine State.ethCfgWritten_framed (hW.trans (by decide)) ?_)
    | (with_reducible refine State.spanEnWritten_framed (hW.trans (by decide)) ?_)
    | (with_reducible refine State.stageDiv_framed (hW.trans (by decide)) ?_)
    | split
    | (fail_if_no_progress with_reducible refine State.Framed.mkOf ?_ rfl rfl rfl rfl rfl rfl rfl)

def State.plainWrite_writes : Nat := State.w1cWrite_writes ||| State.answer_writes ||| State.sessionWrite_writes |||
  State.plainWritten_writes
theorem State.plainWrite_framed {W : Nat} {o s : State} (k : Nat) (r : RegName) (i j value : Nat)
    (hW : SubMask State.plainWrite_writes W) (hr : SubMask (regMask [r]) W) (hs : State.Framed W o s) :
    State.Framed W o (s.plainWrite k r i j value) :=
  .ite (State.w1cWrite_framed _ _ _ _ _ (hW.trans (by decide)) hr hs)
    (.ite (State.answer_framed _ (hW.trans (by decide)) hs)
      (State.sessionWrite_framed _ _ _ _ _ _ _ (hW.trans (by decide)) hr hs
        (fun t ht => State.plainWritten_framed _ _ _ (hW.trans (by decide)) ht)))

def State.noCommand_writes : Nat := State.sessionCommand_writes
theorem State.noCommand_framed {W : Nat} {o s : State} (k : Nat) (r : RegName) (i value : Nat) (ok : Bool)
    (hW : SubMask State.noCommand_writes W) (hs : State.Framed W o s) : State.Framed W o (s.noCommand k r i value ok) :=
  State.sessionCommand_framed _ _ _ _ _ _ _ (hW.trans (by decide)) hs (fun _ ht => ht)

def State.recWord_writes : Nat := State.armRec_writes ||| State.recAny_writes ||| State.recCmd_writes |||
  State.stopRec_writes
theorem State.recWord_framed {W : Nat} {o s : State} (k value : Nat) (hW : SubMask State.recWord_writes W)
    (hs : State.Framed W o s) :
    State.Framed W o (State.recWord s k value) := by
  delta State.recWord
  repeat' first
    | with_reducible assumption
    | (with_reducible refine State.Framed.ite ?_ ?_)
    | (with_reducible refine State.armRec_framed (hW.trans (by decide)) ?_)
    | (with_reducible refine State.recAny_framed _ _ (hW.trans (by decide)) ?_)
    | (with_reducible refine State.recCmd_framed _ _ _ (hW.trans (by decide)) ?_ (fun t h => ?_))
    | (with_reducible refine State.stopRec_framed (hW.trans (by decide)) ?_)

end Sys2Proof.Machine
end

