-- ==== Sys2Proof/Laws/FrameTick.lean ====
section
/-! SUPPORT. Frames of Machine/Tick.lean: for each operation, all it can write. -/

namespace Sys2Proof.Machine

set_option Elab.async false
set_option linter.unusedTactic false
set_option linter.unreachableTactic false
set_option exponentiation.threshold 1200

def State.edge_writes : Nat := State.bulkAge_writes ||| State.carriersDue_writes ||| State.cycleWatch_writes |||
  State.gridBoundary_writes ||| State.talEdgeAll_writes ||| State.tbEdge_writes
theorem State.edge_framed {W : Nat} {o s : State}  (hW : SubMask State.edge_writes W) (hs : State.Framed W o s) :
    State.Framed W o (State.edge s) := by
  delta State.edge
  repeat' first
    | with_reducible assumption
    | (with_reducible refine State.carriersDue_framed (hW.trans (by decide)) ?_)
    | (with_reducible refine State.Framed.ite ?_ ?_)
    | (with_reducible refine State.bulkAge_framed (hW.trans (by decide)) ?_)
    | (with_reducible refine State.cycleWatch_framed (hW.trans (by decide)) ?_)
    | (with_reducible refine State.gridBoundary_framed (hW.trans (by decide)) ?_)
    | (with_reducible refine State.talEdgeAll_framed _ (hW.trans (by decide)) ?_)
    | (with_reducible refine State.tbEdge_framed _ (hW.trans (by decide)) ?_)
    | (with_reducible refine State.Framed.foldl _ ?_ (fun t e h => ?_))

/-- An edge: every register but those of edge_writes stays. -/
theorem State.tick_framed {W : Nat} (s : State) (hW : SubMask State.edge_writes W) :
    State.Framed W ({ s with osc := s.osc + 1 }) s.tick :=
  .ite (State.edge_framed hW (.refl _)) (.refl _)

end Sys2Proof.Machine
end

