-- ==== Sys2Proof/WellFormed.lean ====
section
/-! DEFINITION. Which commands can reach the block at all: operands that its wires and formats can carry.  A
command that is not well formed still has a meaning; no statement needs this check. -/

namespace Sys2Proof

/-- Blocks of region r and tiles of its block b (R27). -/
def regionBlocks (r : Nat) : Nat := [8, 22, 8, 8, 64, 10, 4, 1].getD r 0
def blockTiles (r b : Nat) : Nat :=
  match r with
  | 0 => 8
  | 1 => if b < 20 then 4 else 32
  | 2 => 4
  | 3 => 16
  | 4 => 8
  | 5 => if b = 8 then 4 else 8
  | _ => 4

/-- The site lies in the device (R27, R28). -/
def Site.wellFormed (x : Site) : Bool := x.block.val < regionBlocks x.region && x.tile.val < blockTiles x.region x.block

/-- The results of the phases are as many as R327 gives; EXT_RATIO may be skipped. -/
def CalRun.wellFormed (x : CalRun) : Bool :=
  x.offset.length == 64 && x.gain.length == 64 && (x.ratio.length == 32 || x.ratio.isEmpty) && x.verify.length == 16

/-- The header is 128 bytes and the image fits its 16 MiB with the signature (R73, R75). -/
def Image.wellFormed (x : Image) : Bool := x.header.length == 128 && x.content.length ≤ 16776992

/-- A chain of one to four certificates (R640). -/
def Handshake.wellFormed (h : Handshake) : Bool := 1 ≤ h.chain.length && h.chain.length ≤ 4

/-- The operands are ones that the block's wires and formats can carry. -/
def Instr.wellFormed : Instr → Bool
  | .tileErrorDetected x _ _ _ | .hsTimeout x _ | .restartComplete x | .restartFail x | .contWindowEnd x => x.wellFormed
  | .calDone _ _ runs => runs.toList.all CalRun.wellFormed
  | .sweepFrameRx _ _ _ _ slots => slots.length ≤ 16
  | .adcGroupTrigger g | .grpStampRead _ g => 1 ≤ g.val
  | .sessionHandshake h => h.wellFormed
  | .imageWrite _ _ x => x.wellFormed
  | .frameEnqueue _ _ _ _ _ p => p.length ≤ 1536
  | .spanFrameRx _ _ _ _ f => f.payload.length ≤ 528
  | .shedLevelRise (.load busy) => busy ≤ 100
  | _ => true

end Sys2Proof
end

