-- ==== Sys2Proof/Tests/Slice0.lean ====
section
/-! SUPPORT. Tests: a well-formed and an ill-formed term for each check of WellFormed, and for every command a state
and operands that meet the hypotheses of its statement, run for one step. -/

namespace Sys2Proof.Tests

set_option Elab.async false

open Sys2Proof Sys2Proof.Machine

/-- The state a step answers. -/
def nextOf (o : Host.Outcome State Fault Refusal) : State :=
  match o with
  | .next t => t
  | _ => State.reset

/-- The state after command c. -/
def run (c : Instr) (s : State) : State := nextOf (exec c s)

/-- Running since 4 s: supplies good, out of reset, in RUN. -/
def s0 : State :=
  ({ State.reset with
    osc := 1000000000
    startAt := some 0
    sup := { started := true, good := true, inReset := false, enables := 0x3E }
    ldg := { opened := true } }.setFld F.KEY_START_STATE_PHASE 4).setFld F.SUP_STATE_SEQ_STATE seqOn

/-- Session 0 open with a role. -/
def ses (r : Role) (s : State) : State :=
  { s.setBit F.TG_STATE_MAKER_EN (r == .maker) with sess := [(0, { isOpen := true, role := r })] }

/-- Channel n in a channel state, and a link state. -/
def chn (n st : Nat) (s : State) : State := s.setFld F.INS_STATE_CSTATE st n
def lnk (n st : Nat) (s : State) : State := s.setFld F.PLK_STATE_LSTATE st n

/-! ### Chapters 00 to 02 -/

theorem test_paceMeasure : (run (.paceMeasure 7 3 0x400) s0).paces = [(899, 0x401)] ∧
    (run (.paceMeasure 7 4 0x400) s0).paces = [] := by decide +kernel

theorem test_paceReport : ({ s0 with paces := [(0, 701), (1, 641)] }.regionPaces 0).head? = some (1, 640) ∧
    (run .paceReport { s0 with paces := [(0, 701), (1, 641)] }).fld F.KEY_PACE_PACE_NOW 0 = 640 := by decide +kernel

/-- A tile of chain block 5. -/
def site5 : Site := ⟨2, 5, 1, false⟩
def rest5 : State := { s0 with units := [(siteUnit site5, { restarting := true })] }

theorem test_contWindowEnd :
    ({ s0 with units := [(siteUnit site5, { attempts := 2, windowAt := some 0 })], tbs := [(3, { sec := 3600 })] }.unit
      (siteUnit site5)).windowAt = some 0 ∧
    (run (.contWindowEnd site5) { s0 with
      units := [(siteUnit site5, { attempts := 2, windowAt := some 0 })]
      tbs := [(3, { sec := 3600 })] }).units = [] := by decide +kernel

theorem test_correctedSummary : (run .correctedSummary (run (.tileErrorDetected site5 .sramSbe 0 0) s0)).reg .KEY_ERR_SEQ = 1 := by
  decide +kernel

theorem test_tileErrorDetected : s0.detects site5 = true ∧ (s0.correctedError site5 1).2 = false ∧
    containIsSafe (siteKind site5) = false ∧ (s0.unit (siteUnit site5)).restarting = false ∧
    (s0.unit (siteUnit site5)).windowAt = none ∧ 1 < s0.fld F.KEY_ESC_CFG_CONT_LIMIT ∧
    ((run (.tileErrorDetected site5 .arbWatchdog 0 0) s0).unit (siteUnit site5)).restarting = true := by
  decide +kernel

theorem test_supervisorFault : s0.detects ⟨6, 1, 0, false⟩ = true ∧ siteKind ⟨6, 1, 0, false⟩ = .keystone ∧
    s0.safe = false ∧
    (run (.tileErrorDetected ⟨6, 1, 0, false⟩ .supervisorFault 0 0) s0).safe = true := by decide +kernel

theorem test_hsTimeout : ((run (.hsTimeout site5 0) s0).unit (siteUnit site5)).restarting = true := by decide +kernel

theorem test_restartComplete : (rest5.unit (siteUnit site5)).restarting = true ∧ siteKind site5 ≠ .conv ∧
    ((run (.restartComplete site5) rest5).unit (siteUnit site5)).restarting = false := by decide +kernel

theorem test_restartFail : (rest5.unit (siteUnit site5)).retired = false ∧
    rest5.elapsed (rest5.unit (siteUnit site5)).startedAt (restartBound (siteKind site5)) = true ∧
    rest5.retiredCount (siteKind site5) + 1 ≤ rest5.retireLimit (siteKind site5) ∧
    ((run (.restartFail site5) rest5).unit (siteUnit site5)).retired = true := by decide +kernel

def slow2 : State := { s0 with paces := [(256, 601)], lowPace := [(2, { islands := [0], since := some 0 })] }

theorem test_paceFloorExpiry : (sparseGet slow2.lowPace ({} : LowPace) 2).since = some 0 ∧
    slow2.elapsed 0 100000 = true ∧
    slow2.slowestSite 2 = some ⟨2, 0, 0, false⟩ ∧ (slow2.unit (siteUnit ⟨2, 0, 0, false⟩)).retired = false ∧
    slow2.retiredCount .chain + 1 ≤ slow2.retireLimit .chain ∧
    ((run (.paceFloorExpiry 2) slow2).unit (siteUnit ⟨2, 0, 0, false⟩)).retired = true := by decide +kernel

theorem test_heartbeat : s0.sup.inReset = false ∧ s0.safe = false ∧ (run (.heartbeat true) s0).safe = true := by
  decide +kernel

def safeOp : State := (ses .installer s0).setFld F.KEY_FAB_STATE_STATE 3

theorem test_keyRecover : safeOp.fromP2 = false ∧ (safeOp.session 0).isOpen = true ∧
    (safeOp.session 0).role ∈ regRoles .KEY_RECOVER 0 ∧ safeOp.sup.inReset = false ∧ safeOp.safe = true ∧
    safeOp.sup.refLost = false ∧ (run (.keyRecover 0 0x5AFE) safeOp).fld F.SUP_RESET_CAUSE_LAST = 5 ∧
    (run (.keyRecover 0 0x5AFF) safeOp).resp = .refused := by decide +kernel

theorem test_supResetCmd : (ses .maker s0).MayWrite 0 .SUP_RESET_CMD 0 ∧ (ses .maker s0).fromP2 = false ∧
    s0.sup.pd = .none ∧ (run (.supResetCmd 0 0x5E7A) (ses .maker s0)).sup.pd = .opened := by
  unfold State.MayWrite; decide +kernel

/-- After SUP_RESET_CMD: every channel opened, the record to come. -/
def soft0 : State := run (.supResetCmd 0 0x5E7A) (ses .maker s0)

theorem test_softReset : soft0.sup.pd = .opened ∧ soft0.sup.softCmd = true ∧ soft0.sup.refLost = false ∧
    (run .powerdownRecordDone soft0).fld F.SUP_RESET_CAUSE_LAST = 6 ∧
    (run (.supResetCmd 0 0x5E7B) (ses .maker s0)).resp = .refused := by decide +kernel

theorem test_resetNLow : s0.fromP2 = false ∧ s0.sup.good = true ∧ s0.seq = seqOn ∧ s0.sup.releasing = .none ∧
    (run (.resetNLow 1000) s0).fld F.SUP_RESET_CAUSE_LAST = 2 ∧ (run (.resetNLow 999) s0).sup.inReset = false := by
  decide +kernel

def fault0 : State := { s0.setFld F.SUP_STATE_SEQ_STATE seqFault with sup := { started := true, attempts := 3, enables := 0x3E, releasing := .seqTimeout, railSeen := 0x3F } }

theorem test_resetNLow_fault : fault0.seq = seqFault ∧ fault0.sup.resetNLow = false ∧
    (run (.resetNLow 0) fault0).seq = seqOff ∧ (run (.resetNLow 0) fault0).sup.attempts = 0 := by decide +kernel

def held0 : State := { s0 with sup := { s0.sup with inReset := true } }

theorem test_resetNRise : held0.fromP2 = false ∧ held0.seq = seqOn ∧ held0.sup.refLost = false ∧
    (run .resetNRise held0).sup.inReset = false := by decide +kernel

theorem test_porReset : s0.fromP2 = false ∧ (run (.porReset 29999) s0).fld F.SUP_RESET_CAUSE_LAST = 1 := by
  decide +kernel

def sampleOk : SupplySample := { feedA := 24000, feedB := 0, vctl := 23000, rails := #v[33000, 18000, 7500, 7500, 8500, 11000] }
def feedOn : State := s0.setBit F.SUP_STATE_FEEDB_ON true

theorem test_feedEnhance : (run (.feedEnhance 1 21) s0).bit F.SUP_STATE_FEEDB_ON = true ∧
    (run (.feedEnhance 1 20) s0).bit F.SUP_STATE_FEEDB_ON = false := by decide +kernel

theorem test_feedReverseOff : feedOn.bit F.SUP_STATE_FEEDB_ON = true ∧
    (-1000 : Int) < -5 * (feedOn.fld F.SUP_FEED_CFG_REV_THR : Int) ∧
    (run (.feedReverseOff 1 (-1000) 1000) feedOn).bit F.SUP_FLAGS_FEEDB_REV = true ∧
    (run (.feedReverseOff 1 (-1000) 999) feedOn).bit F.SUP_STATE_FEEDB_ON = true := by decide +kernel

theorem test_feedGoodEval : (run (.feedGoodEval sampleOk) s0).bit F.SUP_STATE_FEEDA_GOOD = true ∧
    (run (.feedGoodEval sampleOk) s0).bit F.SUP_STATE_FEEDB_GOOD = false := by decide +kernel

theorem test_supFeedCfgWrite : (ses .installer s0).MayStore 0 .SUP_FEED_CFG 0 0 0xFFFFFFFF ∧
    (run (.supFeedCfgWrite 0 0xFFFFFFFF) (ses .installer s0)).fld F.SUP_FEED_CFG_VCTL_WARN + 10 ≤
      (run (.supFeedCfgWrite 0 0xFFFFFFFF) (ses .installer s0)).fld F.SUP_FEED_CFG_FEED_GOOD := by
  unfold State.MayStore State.MayWrite; decide +kernel
theorem test_porRelease : ({ s0 with sup := {} } : State).sup.started = false ∧ railIn 0 33000 = true ∧
    (run (.porRelease 33000 1000) { s0 with sup := {} }).sup.started = true ∧
    (run (.porRelease 33000 999) { s0 with sup := {} }).sup.started = false := by decide +kernel

def off0 : State := { s0.setFld F.SUP_STATE_SEQ_STATE seqOff with sup := { started := true, vctlGoodAt := some 0, warnHeld := true } }

theorem test_enVioAssert : off0.seq = seqOff ∧ off0.sup.releasing = .none ∧ off0.sup.pd = .none ∧
    off0.sup.vctlGoodAt = some 0 ∧ 0 + 10000000 ≤ off0.now ∧ (run .enVioAssert off0).seq = seqRamp := by
  decide +kernel

def ramp0 : State := { s0.setFld F.SUP_STATE_SEQ_STATE seqRamp with
  sup := { started := true, enables := 6, railInAt := #v[some 0, some 0, some 0, none, none, none] } }

theorem test_railEnableNext : ramp0.seq = seqRamp ∧ ramp0.sup.releasing = .none ∧ 1 ≤ ramp0.sup.lastRail ∧
    ramp0.sup.lastRail < 5 ∧ ramp0.lastIn 200000 = true ∧ (run .railEnableNext ramp0).sup.enables = 0xE := by
  decide +kernel

def last0 : State := { ramp0 with sup := { started := true, enables := 0x3E } }

theorem test_suppliesGood : last0.seq = seqRamp ∧ last0.sup.releasing = .none ∧ last0.sup.enables = 0x3E ∧
    railIn 5 12000 = true ∧ last0.sup.resetNLow = false ∧ last0.sup.refLost = false ∧
    (run (.suppliesGood 12000) last0).seq = seqOn := by decide +kernel

theorem test_seqTimeout : last0.lastIn 0 = false ∧ last0.elapsed last0.sup.enabledAt 10000000 = true ∧
    (run .seqTimeout last0).seq = seqRetryWait ∧
    (run .seqTimeout { last0 with sup := { last0.sup with attempts := 2 } }).seq = seqFault := by decide +kernel

def wait0 : State := { last0.setFld F.SUP_STATE_SEQ_STATE seqRetryWait with sup := { started := true } }

theorem test_seqRetryEnd : wait0.seq = seqRetryWait ∧ wait0.sup.releasing = .none ∧
    wait0.elapsed wait0.sup.retryAt 1000000000 = true ∧ (run .seqRetryEnd wait0).seq = seqOff := by decide +kernel

def rel0 : State := { wait0 with sup := { started := true, releasing := .rail, enables := 6 } }

theorem test_enableReleaseStep : rel0.sup.releasing ≠ .none ∧ rel0.sup.enables ≠ 0 ∧
    rel0.elapsed rel0.sup.releasedAt 100000 = true ∧ (run .enableReleaseStep rel0).sup.enables = 2 := by
  decide +kernel

def live0 : State := { s0 with sup := { s0.sup with railSeen := 0x3F } }

theorem test_railTrip : 7190 < (railTripLimits 2).1 ∧ live0.sup.railLive 2 = true ∧ live0.fromP2 = false ∧
    live0.sup.releasing = .none ∧ live0.seq ≠ seqFault ∧ fault0.sup.railLive 2 = true ∧
    (run (.railTrip 2 7190 2000) fault0).seq = seqFault ∧ (run (.railTrip 2 7190 2000) live0).fld F.SUP_RESET_CAUSE_LAST = 3 ∧
    (run (.railTrip 2 7200 2000) live0).sup.inReset = false := by decide +kernel

def relDone : State := { wait0 with sup := { started := true, releasing := .rail } }

theorem test_railRestart : relDone.sup.releasing = .rail ∧ relDone.sup.enables = 0 ∧
    relDone.elapsed relDone.sup.restartAt 100000000 = true ∧ relDone.sup.thermalSeen = false ∧
    (run .railRestart relDone).sup.releasing = .none := by decide +kernel

theorem test_thermalTrip : s0.sup.releasing = .none ∧ s0.seq ≠ seqFault ∧ s0.fromP2 = false ∧
    fault0.sup.releasing ≠ .thermal ∧ (run (.thermalTrip 1200 1000) fault0).seq = seqFault ∧
    (run (.thermalTrip 1200 1000) s0).fld F.SUP_RESET_CAUSE_LAST = 4 ∧
    (run (.thermalTrip 1199 1000) s0).sup.inReset = false := by
  decide +kernel

def hot0 : State := { s0.setFld F.SUP_STATE_SEQ_STATE seqThermalHold with sup := { started := true, releasing := .thermal } }

theorem test_thermalRelease : hot0.seq = seqThermalHold ∧ hot0.sup.releasing = .thermal ∧
    (run (.thermalRelease 1000) hot0).seq = seqOff ∧ (run (.thermalRelease 1001) hot0).seq = seqThermalHold := by
  decide +kernel

theorem test_vctlLow : s0.bit F.SUP_STATE_VCTL_LOW = false ∧ 0 < 100 * s0.fld F.SUP_FEED_CFG_VCTL_WARN ∧
    s0.bit F.SUP_STATE_FEEDA_GOOD = false ∧ s0.bit F.SUP_STATE_FEEDB_GOOD = false ∧ s0.sup.softCmd = false ∧
    s0.sup.pd = .none ∧ 0 < s0.lead ∧ (run (.vctlLow 0) s0).sup.pd = .warned := by decide +kernel

def warned0 : State := { s0.setBit F.SUP_STATE_VCTL_LOW true with sup := { s0.sup with pd := .warned, warned := true } }

theorem test_vctlRecovered : warned0.bit F.SUP_STATE_VCTL_LOW = true ∧
    100 * warned0.fld F.SUP_FEED_CFG_VCTL_WARN + 1000 ≤ 24000 ∧
    warned0.sup.pd = .warned ∧ (run (.vctlRecovered 24000 100) warned0).bit F.SUP_FLAGS_WARN_RECOVERED = true ∧
    (run (.vctlRecovered 24000 99) warned0).sup.pd = .warned := by decide +kernel

theorem test_failwarnLeadEnd : warned0.elapsed warned0.sup.pdAt (1000 * warned0.lead) = true ∧
    (run .failwarnLeadEnd warned0).sup.pd = .opened := by decide +kernel

def opened0 : State := { s0.setFld F.LDG_STATE_FLASH_OK 1 with sup := { s0.sup with pd := .opened } }

theorem test_powerdownRecordDone : opened0.sup.enables = 0x3E ∧ opened0.sup.softCmd = false ∧ opened0.sup.releasing = .none ∧
    opened0.sup.railLost = 0 ∧
    opened0.sup.inReset = false ∧ opened0.ldg.opened = true ∧ opened0.fld F.LDG_STATE_FLASH_OK ≠ 0 ∧
    opened0.pdRecord.sup.recordMade = true ∧
    (run .powerdownRecordDone { opened0 with ldg := {} }).sup.enables = 0x1E := by decide +kernel

theorem test_refclkLost : s0.sup.refLost = false ∧ s0.sup.inReset = false ∧ s0.sup.pd = .none ∧ s0.safe = false ∧
    (run (.refclkLost 2000) s0).safe = true ∧ (run (.refclkLost 1999) s0).safe = false := by decide +kernel

theorem test_pllLock : (run .pllLock s0).sup.pllLocked = true := by decide +kernel

/-- The 128 header bytes of an image for slot 1 without a body: MAGIC, FORMAT, KEY_SLOT, GENERATION and HDR_CRC (R75). -/
def header (gen : Byte) (crc : List Byte) : List Byte :=
  [0x47, 0x4B, 0x43, 0x48, 1, 0, 1, 0, gen, 0, 0, 0] ++ List.replicate 112 0 ++ crc
/-- An image for slot 1 of GENERATION 5 signed by identity 7. -/
def image7 : Image := { header := header 5 [0xF5, 0xEF, 0xFD, 0xC8], signer := some 7 }
def load0 : State := { (s0.setFld F.KEY_START_STATE_PHASE 0).setFld F.TG_KEYS_PROGRAMMED 2 with
  imageA := image7, imageB := image7, tg := { fuseKeys := [(1, 7)] } }

theorem test_charterHeadersRead : load0.phase = 0 ∧ load0.load = .idle ∧ load0.headerResult load0.imageA false = 0 ∧
    load0.headerResult load0.imageB false = 0 ∧ load0.headerResult load0.imageA true = 7 ∧
    (run (.charterHeadersRead false false) load0).load = .bodyA false ∧
    (run (.charterHeadersRead true true) load0).phase = 5 := by decide +kernel

def body0 : State := { load0 with load := .bodyA false }

theorem test_imageBodyReadDone : body0.imageA.signer = some 7 ∧ (body0.imageA.keySlot, 7) ∈ body0.tg.fuseKeys ∧
    (run (.imageBodyReadDone false) body0).phase = 1 ∧ (run (.imageBodyReadDone true) body0).load = .bodyB true := by
  decide +kernel

def oneBad : State := { load0 with imageB := {} }

theorem test_charterHeaders_one : oneBad.headerResult oneBad.imageB false = 2 ∧
    (run (.charterHeadersRead false false) oneBad).load = .bodyA true ∧
    (run (.charterHeadersRead false false) load0).outbox ≠ [] := by decide +kernel

def roll0 : State := { s0.setFld F.KEY_START_STATE_PHASE 3 with charter := { expectCh := 0 } }
def short0 : State := { roll0 with charter := { expectCh := 1 } }

theorem test_rollCallPassEnd : roll0.phase = 3 ∧ roll0.allJudged = true ∧ (run .rollCallPassEnd roll0).phase = 4 ∧
    short0.allJudged = false ∧ short0.elapsed (short0.startAt.getD short0.now) 4000000000 = true ∧
    (run .rollCallPassEnd short0).bit F.KEY_START_FLAGS_ROLL_CALL_SHORT = true := by decide +kernel
/-! ### Chapters 03 and 04 -/

theorem test_blockLockGained : s0.present 31 = true ∧ (lnk 31 lsBlock s0).lstate 31 = lsBlock ∧
    (run (.blockLockGained 31) (lnk 31 lsBlock s0)).lstate 31 = lsFrame ∧
    (run (.blockLockGained 31) (lnk 31 lsLost s0)).lstate 31 = lsFrame := by decide +kernel

def adm0 : State := chn 3 csReady (lnk 3 lsAdmitted s0)

theorem test_blockLockLost : adm0.lstate 3 = lsAdmitted ∧ (run (.blockLockLost 3) adm0).lstate 3 = lsLost ∧
    (run (.blockLockLost 3) adm0).cstate 3 = csOpen ∧
    (run (.blockLockLost 3) (lnk 3 lsRefused s0)).lstate 3 = lsBlock := by decide +kernel

theorem test_frameSyncTimeout : (lnk 3 lsFrame s0).lstate 3 = lsFrame ∧
    (lnk 3 lsFrame s0).elapsed ((lnk 3 lsFrame s0).lk 3).stateAt 100000000 = true ∧
    (run (.frameSyncTimeout 3) (lnk 3 lsFrame s0)).lstate 3 = lsBlock := by decide +kernel

def lock0 (st : Nat) : State := (lnk 3 st s0).setLk 3 { blockLock := true }

theorem test_frameSyncTimeout_lock : (lock0 lsFrame).elapsed ((lock0 lsFrame).lk 3).stateAt 100000000 = true ∧
    (run (.frameSyncTimeout 3) (lock0 lsFrame)).lstate 3 = lsFrame := by decide +kernel

def lost0 : State := (lnk 3 lsLost s0).setLk 3 { blockLock := true }

theorem test_lostResync : lost0.lstate 3 = lsLost ∧ (lost0.lk 3).blockLock = true ∧
    lost0.elapsed (lost0.lk 3).stateAt 100000 = true ∧ (run (.lostResync 3) lost0).lstate 3 = lsFrame := by
  decide +kernel

theorem test_linkLost : adm0.lstate 3 = lsAdmitted ∧ (adm0.lk 3).blockLock = false ∧
    (run (.linkLost 3) adm0).bit F.PLK_FLAGS_LINK_LOST 3 = true ∧
    (run (.linkLost 3) ((lnk 3 lsConfigure s0).setLk 3 { reconf := true })).lstate 3 = lsLost := by decide +kernel

theorem test_frameTick : ((run .frameTick (lnk 3 lsBlock s0)).lk 3).seqDown = 0 ∧
    ((run .frameTick s0).lk 3).seqDown = (s0.lk 3).seqDown := by decide +kernel

/-- A good uplink frame with sequence number 9. -/
def frame9 : UplinkFrame :=
  { good := true, blockErr := false, seq := 9, tickOfs := 0, ack := 0, streams := Vector.replicate 6 0, status := 4, desat := 0
    gtel := Vector.replicate 16 0, ntc := Vector.replicate 4 0, chan := 0, applied := 0, dnBad := 0
    mbx := Vector.replicate 16 0, lag := 0 }

theorem test_uplinkFrame : (lnk 3 lsFrame s0).lstate 3 ≠ lsDown ∧ (lnk 3 lsFrame s0).lstate 3 ≠ lsBlock ∧
    frameGood frame9 = true ∧ (lnk 3 lsFrame s0).bit F.INJ_STATE_ACTIVE = false ∧
    (lnk 3 lsFrame s0).inj.heldRx = none ∧
    ((run (.uplinkFrame 3 none) (lnk 3 lsFrame s0)).lk 3).badRun = 1 := by decide +kernel

theorem test_urgentEventRx : adm0.lstate 3 = lsAdmitted ∧ adm0.gated 3 = true ∧
    (run (.urgentEventRx 3 false) (lnk 3 lsAdmitted s0)).bit F.PLK_FLAGS_URGENT_RCVD 3 = true := by decide +kernel

def ident0 : State := (lnk 3 lsIdentify s0).setLk 3 { rxDone := true, rxOp := 3, rxObj := 1, rx := List.replicate 64 7 }
def conf0 (b : Nat) : State :=
  (lnk 3 lsConfigure s0).setLk 3 { rxDone := true, rxOp := 3, rx := List.replicate 32 b, paramSent := List.replicate 32 7 }

theorem test_mbxReply : ident0.lstate 3 = lsIdentify ∧ (ident0.lk 3).rxDone = true ∧ (ident0.lk 3).rxOp = 3 ∧
    (ident0.lk 3).rxObj = 1 ∧ ((run (.mbxReply 3) ident0).lk 3).mbxObj = 2 ∧ (conf0 7).lstate 3 = lsConfigure ∧
    ((conf0 7).lk 3).rxOp = 3 ∧ ((conf0 7).lk 3).rx.take 32 = ((conf0 7).lk 3).paramSent ∧
    ((conf0 8).lk 3).rx.take 32 ≠ ((conf0 8).lk 3).paramSent ∧
    (run (.mbxReply 3) (conf0 8)).fld F.PLK_STATE_REFUSE 3 = 5 ∧
    (run (.mbxReply 3) (conf0 8)).lstate 3 = lsBlock := by decide +kernel

def quiet0 (k : Nat) : State := (lnk 3 lsIdentify s0).setLk 3 { mbxOp := 1, mbxFrag := 1, mbxTries := k, blockLock := true }

theorem test_mbxReplyTimeout : ((quiet0 2).lk 3).mbxOp ≠ 0 ∧ ((quiet0 2).lk 3).rxDone = false ∧ ((quiet0 2).lk 3).mbxFrags ≤ ((quiet0 2).lk 3).mbxFrag ∧
    (quiet0 2).elapsed ((quiet0 2).lk 3).mbxAt 1000000 = true ∧ ((quiet0 2).lk 3).mbxTries < 3 ∧
    3 ≤ ((quiet0 3).lk 3).mbxTries ∧ ((run (.mbxReplyTimeout 3) (quiet0 2)).lk 3).mbxTries = 3 ∧
    (run (.mbxReplyTimeout 3) (quiet0 3)).lstate 3 = lsRefused := by decide +kernel

def ins3 (cs : Nat) : State := chn 3 cs (ses .installer s0)
def mak3 (cs : Nat) : State := chn 3 cs (ses .maker s0)

theorem test_plkCfgWrite : (ins3 csOpen).MayStore 0 .PLK_CFG 3 0 0 ∧ (ins3 csOpen).resting 3 = true ∧
    (ins3 csReady).resting 3 = false ∧
    ((ins3 csReady).setBit F.PLK_CFG_LINK_EN true 3).bit F.PLK_CFG_LINK_EN 3 = true ∧
    (run (.plkCfgWrite 0 3 0) (ins3 csOpen)).lstate 3 = lsDown ∧ s0.phase = 4 ∧ (lock0 lsRefused).lstate 3 = lsRefused ∧
    (run (.plkCfgWrite 0 3 1) (ses .installer (lock0 lsRefused))).lstate 3 = lsFrame ∧
    (run (.plkCfgWrite 0 3 1) (lnk 3 lsDown (ins3 csOpen))).lstate 3 = lsBlock ∧
    (run (.plkCfgWrite 0 3 0) ((ins3 csReady).setBit F.PLK_CFG_LINK_EN true 3)).resp = .refused := by
  unfold State.MayStore State.MayWrite; decide +kernel

theorem test_plkParamWrite : (ins3 csOpen).MayStore 0 .PLK_PARAM 3 0 0x000006A4 ∧ (ins3 csOpen).cstate 3 = csOpen ∧
    bitsGet ((ins3 csOpen).newWord .PLK_PARAM 3 0 0x000006A4) 16 16 + 100 ≤
      bitsGet ((ins3 csOpen).newWord .PLK_PARAM 3 0 0x000006A4) 0 16 ∧
    (run (.plkParamWrite 0 3 0x000006A4) (lnk 3 lsAdmitted (ins3 csOpen))).lstate 3 = lsConfigure ∧
    bitsGet ((ins3 csOpen).newWord .PLK_PARAM 3 0 0x06A406A4) 0 16 <
      bitsGet ((ins3 csOpen).newWord .PLK_PARAM 3 0 0x06A406A4) 16 16 + 100 ∧
    (run (.plkParamWrite 0 3 0x06A406A4) (ins3 csOpen)).resp = .refused ∧
    (run (.plkParamWrite 0 3 0x000006A4) (ins3 csReady)).resp = .refused := by
  unfold State.MayStore State.MayWrite; decide +kernel

theorem test_plkParam2Write : (mak3 csOpen).MayStore 0 .PLK_PARAM2 3 0 0x00C80064 ∧ (mak3 csReady).MayWrite 0 .PLK_PARAM2 3 ∧
    (mak3 csReady).cstate 3 ≠ csOpen ∧
    (run (.plkParam2Write 0 3 0x00C80064) (lnk 3 lsAdmitted (mak3 csOpen))).lstate 3 = lsConfigure ∧
    (run (.plkParam2Write 0 3 0x00C80064) (mak3 csReady)).resp = .refused := by
  unfold State.MayStore State.MayWrite; decide +kernel

def op3 (cs : Nat) : State := chn 3 cs (ses .operator s0)

theorem test_insert : (op3 csOpen).MayWrite 0 .INS_CMD 3 ∧ (op3 csOpen).cstate 3 = csOpen ∧
    (run (.insert 0 3 0x00070001 false) (op3 csOpen)).waitQ = [3] ∧
    (run (.insert 0 3 0x00070001 true) (op3 csOpen)).resp = .refused ∧
    (run (.insert 0 3 0x00070001 false) (op3 csReady)).resp = .refused := by unfold State.MayWrite; decide +kernel

theorem test_openCmd : (op3 csReady).MayWrite 0 .INS_CMD 3 ∧ csCheck ≤ (op3 csReady).cstate 3 ∧
    (op3 csReady).cstate 3 ≤ csReady ∧ (run (.openCmd 0 3 2) (op3 csReady)).cstate 3 = csOpen ∧
    ((op3 csTripped).ins 3).stateAt ≠ (op3 csTripped).now ∧ (run (.openCmd 0 3 2) (op3 csTripped)).cstate 3 = csOpen ∧
    (run (.openCmd 0 3 2) (op3 csLocked)).cstate 3 = csLocked ∧ (run (.openCmd 0 3 2) (op3 csWait)).cstate 3 = csOpen ∧
    (run (.openCmd 0 3 2) (((op3 csRamp).setFld F.PLK_STATE_GROUPS_FITTED 1 3).setReg .PLK_GTEL 3 0 0x1000)).cstate 3 = csOpening := by unfold State.MayWrite; decide +kernel

def queue0 : State := { chn 3 csWait s0 with waitQ := [3, 5] }

theorem test_tokenGrant : queue0.token = none ∧ queue0.waitQ = [3, 5] ∧ queue0.bus.cause = none ∧
    (run .tokenGrant queue0).token = some 3 ∧ (run .tokenGrant queue0).cstate 3 = csCheck := by decide +kernel

theorem test_queueTimeout : queue0.cstate 3 = csWait ∧ ({ queue0 with token := some 5 } : State).grantDue = none ∧
    (queue0.setFld F.INS_QCFG_QUEUE_MAX 1).elapsed (queue0.ins 3).waitAt (100000000 * 1) = true ∧
    (run (.queueTimeout 3) { queue0.setFld F.INS_QCFG_QUEUE_MAX 1 with token := some 5 }).fld F.INS_STATE_CAUSE 3 = 0x09 := by decide +kernel

theorem test_insBusWrite : (op3 csOpen).MayStore 0 .INS_BUS 0 0 1 ∧
    (run (.insBusWrite 0 1) (op3 csOpen)).bit F.INS_BUS_PCS_HOLD = true := by unfold State.MayStore State.MayWrite; decide +kernel

/-- Channel 3 in CHECK with one healthy group and every check passed. -/
def check0 : State :=
  ((((((chn 3 csCheck (lnk 3 lsAdmitted s0)).setBit F.PLK_STATE_MOD_ARMED true 3).setBit F.PLK_STATE_SAFE_RUN_ON true 3).setBit
    F.HR_STATE_COMPLETE true 3).setFld F.HR_CHAIN_CFG_EXPECT 0 3).setFld F.PLK_STATE_GROUPS_FITTED 1 3).setFld
    F.PROT_CFG_MIN_GROUPS 1 3

theorem test_checkEval : check0.cstate 3 = csCheck ∧ check0.inrushExpired 3 = false ∧ (chn 3 csCheck s0).inrushExpired 3 = false ∧ check0.checkVerdict 3 = 0 ∧
    check0.bit F.PLK_STATE_TRIM_PRESENT 3 = false ∧
    (chn 3 csCheck s0).checkVerdict 3 = 2 ∧ (run (.checkEval 3) check0).cstate 3 = csSense ∧
    (run (.checkEval 3) (chn 3 csCheck s0)).fld F.INS_STATE_CAUSE 3 = 2 := by decide +kernel

/-- Channel 3 at the end of SENSE with a mean difference of v. -/
def sense0 (v : Rat) (hold : Bool) : State :=
  ((chn 3 csSense check0).setIns 3 { senseV3 := v, senseN := 1, tBase := some 25 }).setBit F.INS_BUS_PCS_HOLD hold

theorem test_senseEnd : (sense0 0 false).cstate 3 = csSense ∧ (sense0 0 false).inrushExpired 3 = false ∧
    (sense0 200 true).inrushExpired 3 = false ∧
    (sense0 0 false).elapsed ((sense0 0 false).ins 3).stateAt (100000 * (sense0 0 false).fld F.INS_CFG_TSENSE 3) = true ∧
    ((sense0 0 false).ins 3).senseN ≠ 0 ∧ absQ 0 ≤ amps ((sense0 0 false).fld F.INS_CFG_VMATCH 3) ∧
    (sense0 0 false).coolGroups 3 ((sense0 0 false).tjRot 3) ≠ [] ∧
    amps ((sense0 200 true).fld F.INS_CFG_VMATCH 3) < absQ 200 ∧ (sense0 200 true).busHeld 3 = true ∧
    (sense0 200 true).vtrimLim 3 < absQ 200 := by decide +kernel

theorem test_senseEnd_runs : (run (.senseEnd 3) (sense0 0 false)).cstate 3 = csRamp ∧
    (run (.senseEnd 3) (sense0 200 true)).fld F.INS_STATE_CAUSE 3 = 0x0A := by decide +kernel

theorem test_inrushTimeout : ((chn 3 csRamp s0).setFld F.INS_TIMING_TINRUSH 1 3).inrushExpired 3 = true ∧
    (run (.inrushTimeout 3) ((chn 3 csRamp s0).setFld F.INS_TIMING_TINRUSH 1 3)).cstate 3 = csOpen := by
  decide +kernel

theorem test_alignTimeout : (chn 3 csAlign s0).cstate 3 = csAlign ∧
    ((chn 3 csAlign s0).setIns 3 { checkAt := 4000000000 }).inrushExpired 3 = false ∧
    (chn 3 csAlign s0).elapsed ((chn 3 csAlign s0).ins 3).stateAt 100000000 = true ∧
    (run (.alignTimeout 3) ((chn 3 csAlign s0).setIns 3 { checkAt := 4000000000 })).bit F.INS_FLAGS_ALIGN_TIMEOUT 3 = true := by decide +kernel

theorem test_gateRiseTimeout : (chn 3 csEnhance s0).cstate 3 = csEnhance ∧
    ((chn 3 csEnhance s0).setIns 3 { checkAt := 4000000000 }).inrushExpired 3 = false ∧
    (chn 3 csEnhance s0).elapsed ((chn 3 csEnhance s0).ins 3).stateAt 100000 = true ∧
    (run (.gateRiseTimeout 3) ((chn 3 csEnhance s0).setIns 3 { checkAt := 4000000000 })).cstate 3 = csOpen := by decide +kernel

def align0 : State := (chn 3 csAlign s0).setIns 3 { n1ms := 2, sum1ms := 1, n10 := 2, sum10 := 0, alignCnt := 99, checkAt := 4000000000 }

theorem test_trimTargetUpdate : (align0.ins 3).n1ms ≠ 0 ∧ align0.cstate 3 = csAlign ∧
    ((run (.trimTargetUpdate 3) align0).ins 3).n1ms = 0 := by decide +kernel

theorem test_vsw10Update : (align0.ins 3).n10 ≠ 0 ∧ (align0.ins 3).sum10 / ((align0.ins 3).n10 : Rat) = 0 ∧
    absQ 0 ≤ amps (align0.fld F.INS_TRIM_VALIGN 3) ∧ 99 ≤ (align0.ins 3).alignCnt ∧ align0.inrushExpired 3 = false ∧
    align0.busHeld 3 = (align0.ins 3).heldAtSense ∧ ((run (.vsw10Update 3) align0).ins 3).n10 = 0 ∧
    (run (.vsw10Update 3) align0).cstate 3 = csRamp := by decide +kernel

def confirm0 : State := (chn 3 csConfirm s0).setIns 3 { confirmAt := some 0, checkAt := 4000000000 }

theorem test_confirmDone : confirm0.cstate 3 = csConfirm ∧ confirm0.inrushExpired 3 = false ∧
    confirm0.bit F.PROT_STATE_IN_LIMIT 3 = false ∧
    (confirm0.ins 3).confirmAt = some 0 ∧ confirm0.elapsed 0 (100000 * confirm0.fld F.INS_CFG_TCONFIRM 3) = true ∧
    (run (.confirmDone 3) confirm0).cstate 3 = csReady := by decide +kernel

theorem test_thermalModelUpdate : ((s0.setLk 3 { admittedOnce := true }).lk 3).admittedOnce = true ∧
    ((run (.thermalModelUpdate 3) (s0.setLk 3 { admittedOnce := true })).ins 3).tBase =
      (s0.setLk 3 { admittedOnce := true }).baseTemp 3 := by decide +kernel

def limit0 (g : Nat) : State :=
  (((chn 3 csLimit s0).setFld F.PLK_STATE_GROUPS_FITTED g 3).setFld F.INS_ROT_ROT_WIDTH 1 3).setIns 3
    { tBase := some 25, outgoing := 2, rotSet := 4, linMask := 6 }

theorem test_rotationSlot : (limit0 0).cstate 3 = csLimit ∧ ((limit0 0).ins 3).paused = false ∧ (limit0 0).busHeld 3 = ((limit0 0).ins 3).heldAtSense ∧
    (limit0 0).elapsed ((limit0 0).ins 3).slotAt (100000 * (limit0 0).fld F.INS_TIMING_TSLOT 3) = true ∧
    ((limit0 0).coolGroups 3 ((limit0 0).tjRot 3)).take ((limit0 0).fld F.INS_ROT_ROT_WIDTH 3) = [] ∧
    (run (.rotationSlot 3) (limit0 0)).bit F.INS_FLAGS_THERMAL_PAUSE 3 = true ∧
    ((run (.rotationSlot 3) (limit0 2)).ins 3).rotSet = 1 := by decide +kernel

theorem test_rotationOutgoingOff : ((limit0 2).ins 3).outgoing ≠ 0 ∧
    (limit0 2).elapsed ((limit0 2).ins 3).slotAt 10000 = true ∧
    ((run (.rotationOutgoingOff 3) (limit0 2)).ins 3).linMask = 4 := by decide +kernel

theorem test_insCfgWrite : (ins3 csOpen).MayStore 0 .INS_CFG 3 0 30 ∧
    ((ins3 csOpen).setFld F.PROT_REV_VFWD 30 3).fld F.PROT_REV_VFWD 3 ≤ bitsGet ((ins3 csOpen).newWord .INS_CFG 3 0 30) 0 8 ∧
    bitsGet ((ins3 csOpen).newWord .INS_CFG 3 0 29) 0 8 < ((ins3 csOpen).setFld F.PROT_REV_VFWD 30 3).fld F.PROT_REV_VFWD 3 ∧
    (run (.insCfgWrite 0 3 29) ((ins3 csOpen).setFld F.PROT_REV_VFWD 30 3)).resp = .refused := by
  unfold State.MayStore State.MayWrite; decide +kernel

theorem test_insThermWrite : (mak3 csOpen).MayStore 0 .INS_THERM 3 0 0x506E7891 ∧
    (∀ w, w = (mak3 csOpen).newWord .INS_THERM 3 0 0x506E7891 → bitsGet w 24 8 ≤ bitsGet w 16 8 ∧
      bitsGet w 16 8 ≤ bitsGet w 8 8 ∧ bitsGet w 8 8 + 5 ≤ bitsGet w 0 8) := by
  refine ⟨?_, ?_⟩
  · unfold State.MayStore State.MayWrite; decide +kernel
  · rintro _ rfl; decide +kernel

theorem test_insGrampWrite : (ins3 csOpen).MayStore 0 .INS_GRAMP 3 0 0x07D001F4 ∧
    (∀ w, w = (ins3 csOpen).newWord .INS_GRAMP 3 0 0x07D001F4 → bitsGet w 0 12 < bitsGet w 16 12) ∧
    (∀ w, w = (ins3 csOpen).newWord .INS_GRAMP 3 0 0x01F407D0 → bitsGet w 16 12 ≤ bitsGet w 0 12) := by
  refine ⟨?_, ?_, ?_⟩
  · unfold State.MayStore State.MayWrite; decide +kernel
  · rintro _ rfl; decide +kernel
  · rintro _ rfl; decide +kernel
/-! ### Chapters 05 to 07 -/

theorem test_fastPathUpdate : adm0.present 3 = true ∧ adm0.counting 3 = true ∧
    20 ≤ ((adm0.setStrm 3 { newPk := 20 }).strm 3).newPk := by decide +kernel

def inLimit : State := (adm0.setBit F.PROT_STATE_IN_LIMIT true 3).setProt 3 { exitAt := some 0, fltNs := 10000000 }

theorem test_ilimExit : inLimit.bit F.PROT_STATE_IN_LIMIT 3 = true ∧ (inLimit.prot 3).exiting = false ∧
    (inLimit.prot 3).exitAt = some 0 ∧ inLimit.elapsed 0 20000 = true ∧
    ((run (.ilimExit 3) inLimit).prot 3).exiting = true := by decide +kernel

theorem test_ilimTimeout : 1000 * inLimit.fld F.PROT_TFLT_T_FLT 3 ≤ inLimit.faultTimer 3 ∧
    inLimit.resting 3 = false := by
  decide +kernel

def outLimit : State := s0.setProt 3 { outAt := some 0, fltNs := 5000 }

theorem test_fltTimerReset : outLimit.bit F.PROT_STATE_IN_LIMIT 3 = false ∧ (outLimit.prot 3).outAt = some 0 ∧
    outLimit.elapsed 0 10000000 = true ∧ ((run (.fltTimerReset 3) outLimit).prot 3).fltNs = 0 := by decide +kernel

/-- Channel 3 admitted once, with slow and shunt sums. -/
def sums0 : State :=
  (adm0.setLk 3 { admittedOnce := true, ident := List.replicate 64 255 }).setProt 3
    { slowSum := 10, slowN := 1, sum0 := 100, sum1 := 0, sumN := 1, disagree := 9 }

theorem test_slowAccUpdate : (sums0.lk 3).admittedOnce = true ∧ sums0.counting 3 = true ∧ (sums0.prot 3).slowN ≠ 0 ∧
    (sums0.prot 3).slowSum / ((sums0.prot 3).slowN : Rat) = 10 ∧ sums0.gated 3 = true ∧ sums0.kEff 3 ≤ 0 := by
  decide +kernel

theorem test_shuntCompare : sums0.hasCheck 3 = true ∧ (sums0.prot 3).sumN ≠ 0 ∧ maxQ (100 / 10) 20 < absQ (100 - 0) ∧
    9 ≤ (sums0.prot 3).disagree ∧ sums0.gated 3 = true := by decide +kernel

theorem test_vbusMedUpdate : ((adm0.chans.filter fun n => adm0.lstate n == lsAdmitted).map fun n => (adm0.strm n).fast[3]) = [0] ∧
    adm0.bus.cause = none ∧ (run .vbusMedUpdate (adm0.setBit F.PROT_BUS_CFG_BUS_EN true)).bus.uvCnt = 1 := by
  decide +kernel

def uvBus : State := { s0 with bus := { uvCnt := 65535 } }

theorem test_busFailureQualified : uvBus.bus.cause = none ∧ uvBus.fld F.PROT_BUS_CFG_BUS_T ≤ uvBus.bus.uvCnt ∧
    uvBus.bit F.PROT_BUS_STATE_UV_ACTIVE = false ∧
    0 < uvBus.lead ∧
    (run .busFailureQualified uvBus).bit F.SUP_STATE_FAILWARN = true := by decide +kernel

def leadBus : State := { s0 with bus := { cause := some 0x0A } }

theorem test_busLeadEnd : leadBus.bus.cause = some 0x0A ∧ leadBus.bus.ended = false ∧
    leadBus.elapsed leadBus.bus.leadAt (1000 * leadBus.lead) = true ∧ (run .busLeadEnd leadBus).bus.ended = true := by
  decide +kernel

def endBus : State := { s0 with bus := { cause := some 0x0A, ended := true, allOffAt := some 0 } }

theorem test_busFailwarnRelease : endBus.bus.ended = true ∧ endBus.bus.allOffAt = some 0 ∧
    endBus.elapsed 0 1000000 = true ∧
    (run .busFailwarnRelease endBus).bus = {} := by decide +kernel

/-- Channel 3 in OPENING with group 0 still ON. -/
def stuck0 (stage : Nat) : State :=
  (((chn 3 csOpening s0).setFld F.PLK_STATE_GROUPS_FITTED 1 3).setReg .PLK_GTEL 3 0 0x1000).setProt 3
    { openAt := some 0, openStage := stage }

theorem test_openFailTimeout : ((stuck0 0).prot 3).openAt = some 0 ∧ (stuck0 0).elapsed 0 100000 = true ∧
    ((stuck0 0).prot 3).openStage = 0 ∧ (stuck0 0).allOff 3 = false ∧ ((stuck0 1).prot 3).openStage ≠ 0 ∧
    (stuck0 1).cstate 3 ≠ csLocked ∧ ((run (.openFailTimeout 3) (stuck0 0)).lk 3).srStop = true := by decide +kernel

theorem test_openFailTimeout_locks : (run (.openFailTimeout 3) (stuck0 1)).cstate 3 = csLocked := by decide +kernel

def conduct0 : State := s0.setProt 3 { conductAt := some 0 }

theorem test_switchConduct : conduct0.resting 3 = true ∧ (conduct0.prot 3).conducted = false ∧
    (conduct0.prot 3).conductAt = some 0 ∧ conduct0.elapsed 0 100000 = true ∧
    (run (.switchConduct 3) conduct0).bit F.PROT_STATE_SR_HELD 3 = true := by decide +kernel

def cooled0 (auto : Bool) : State :=
  ((((chn 3 csTripped s0).setReg .PLK_NTC 3 0 0).setBit F.PROT_STATE_RETRY_PENDING true 3).setBit
    F.PROT_CFG_RETRY_AUTO auto 3).setProt 3
    { counted := true, retryAt := some 0 }

theorem test_retryReady : (cooled0 true).bit F.PROT_STATE_RETRY_PENDING 3 = true ∧
    (cooled0 true).retryPending 3 = false ∧
    (cooled0 true).cstate 3 = csTripped ∧ ((cooled0 true).prot 3).counted = true ∧
    (run (.retryReady 3) (cooled0 true)).waitQ = [3] ∧ (run (.retryReady 3) (cooled0 false)).cstate 3 = csOpen := by
  decide +kernel

def heal0 : State := ((chn 3 csReady s0).setFld F.PROT_RETRY_RETRY_HEAL 0 3).setProt 3 { retryUsed := 2 }

theorem test_retryHeal : heal0.cstate 3 = csReady ∧ (heal0.prot 3).retryUsed ≠ 0 ∧
    heal0.elapsed (heal0.prot 3).readyAt (60000000000 * heal0.fld F.PROT_RETRY_RETRY_HEAL 3) = true ∧
    ((run (.retryHeal 3) heal0).prot 3).retryUsed = 0 := by decide +kernel

theorem test_protClear : (ins3 csLocked).MayWrite 0 .PROT_CLEAR 3 ∧ bitsGet 0x7E11 4 12 = 0x7E1 ∧
    (ins3 csLocked).lockClearOk 3 = true ∧ bitsGet 0x7E01 4 12 ≠ 0x7E1 ∧
    (run (.protClearLockout 0 3 0x7E11) (ins3 csLocked)).cstate 3 = csOpen ∧
    (run (.protClearSrRelease 0 3 0x7E03) (ins3 csLocked)).resp = .refused := by unfold State.MayWrite; decide +kernel

theorem test_protClear_others :
    (run (.protClearDamaged 0 3 0x00017E12) ((ins3 csLocked).setFld F.PROT_DAMAGED_DAMAGED 3 3)).fld F.PROT_DAMAGED_DAMAGED 3 = 2 ∧
    absQ ((ins3 csOpen).ins 3).iprot ≤ 20 ∧ (ins3 csOpen).allOff 3 = true ∧
    (run (.protClearSrRelease 0 3 0x7E13) ((ins3 csOpen).setBit F.PROT_STATE_SR_HELD true 3)).bit F.PROT_STATE_SR_HELD 3 = false ∧
    (ins3 csReady).lockClearOk 3 = false ∧ (run (.protClearLockout 0 3 0x7E11) (ins3 csReady)).resp = .refused ∧
    (run (.protClearDamaged 0 3 0x00017E12) (ins3 csReady)).resp = .refused ∧
    20 < absQ (((ins3 csOpen).setIns 3 { iprot := 21 }).ins 3).iprot ∧
    (run (.protClearSrRelease 0 3 0x7E13) ((ins3 csOpen).setIns 3 { iprot := 21 })).resp = .refused := by
  decide +kernel

theorem test_protIlimWrite : (ins3 csOpen).MayStore 0 .PROT_ILIM 3 0 0x3A982710 ∧
    (∀ w, w = (ins3 csOpen).newWord .PROT_ILIM 3 0 0x3A982710 →
    bitsGet w 0 16 + 100 ≤ bitsGet w 16 16 ∧
    ((ins3 csOpen).setFld F.PROT_SLOW_ITRIP_SLOW 1000 3).fld F.PROT_SLOW_ITRIP_SLOW 3 + 100 ≤ bitsGet w 0 16) := by
  refine ⟨?_, ?_⟩
  · unfold State.MayStore State.MayWrite; decide +kernel
  · rintro _ rfl; decide +kernel

theorem test_protSlowWrite : (ins3 csOpen).MayStore 0 .PROT_SLOW 3 0 0x000003E8 ∧
    (∀ w, w = (ins3 csOpen).newWord .PROT_SLOW 3 0 0x000003E8 →
    bitsGet w 0 16 + 100 ≤ ((ins3 csOpen).setFld F.PROT_ILIM_ILIM 10000 3).fld F.PROT_ILIM_ILIM 3) := by
  refine ⟨?_, ?_⟩
  · unfold State.MayStore State.MayWrite; decide +kernel
  · rintro _ rfl; decide +kernel

theorem test_protRevWrite : (ins3 csOpen).MayStore 0 .PROT_REV 3 0 0 ∧ (∀ w, w = (ins3 csOpen).newWord .PROT_REV 3 0 0 →
    bitsGet w 16 8 ≤ ((ins3 csOpen).setFld F.INS_CFG_VMATCH 255 3).fld F.INS_CFG_VMATCH 3) := by
  refine ⟨?_, ?_⟩
  · unfold State.MayStore State.MayWrite; decide +kernel
  · rintro _ rfl; decide +kernel

theorem test_protModWrite : (mak3 csOpen).MayStore 0 .PROT_DIDT 3 0 0x5DC ∧ (mak3 csOpen).MayStore 0 .PROT_MOD 3 0 0 ∧
    (mak3 csOpen).cstate 3 = csOpen ∧
    (run (.protModWrite 0 3 0x5DC true) (lnk 3 lsAdmitted (mak3 csOpen))).lstate 3 = lsConfigure := by
  unfold State.MayStore State.MayWrite; decide +kernel

theorem test_protBusCfgWrite : (ins3 csOpen).MayStore 0 .PROT_BUS_CFG 0 0 0x41720384 ∧
    (∀ w, w = (ins3 csOpen).newWord .PROT_BUS_CFG 0 0 0x41720384 → bitsGet w 0 11 + 100 ≤ bitsGet w 11 11) ∧
    (∀ w, w = (ins3 csOpen).newWord .PROT_BUS_CFG 0 0 0x40000384 → bitsGet w 11 11 < bitsGet w 0 11 + 100) := by
  refine ⟨?_, ?_, ?_⟩
  · unfold State.MayStore State.MayWrite; decide +kernel
  · rintro _ rfl; decide +kernel
  · rintro _ rfl; decide +kernel

/-- Values outside the margins, each at its first refused value. -/
theorem test_protRefusals :
    (run (.protIlimWrite 0 3 0x27732710) ((ins3 csOpen).setFld F.PROT_SLOW_ITRIP_SLOW 1000 3)).resp = .refused ∧
    (run (.protSlowWrite 0 3 0x000026AD) ((ins3 csOpen).setFld F.PROT_ILIM_ILIM 10000 3)).resp = .refused ∧
    (run (.protRevWrite 0 3 0x00640000) ((ins3 csOpen).setFld F.INS_CFG_VMATCH 99 3)).resp = .refused ∧
    (run (.protModWrite 0 3 0 false) (mak3 csReady)).resp = .refused ∧
    (run (.protBusCfgWrite 0 0x40000384) (ins3 csOpen)).resp = .refused ∧
    (run (.insThermWrite 0 3 0x506E7578) (mak3 csOpen)).resp = .refused ∧
    (run (.insGrampWrite 0 3 0x01F407D0) (ins3 csOpen)).resp = .refused := by decide +kernel

theorem test_protLastRead : ((ins3 csOpen).session 0).isOpen = true ∧
    (run (.protLastRead 0 3) ((ins3 csOpen).setReg .PROT_LAST 3 4 77)).shadow 0 .PROT_LAST 3 4 = 77 := by
  decide +kernel

def trip0 : TripEntry := { ch := 3, cause := 2, sec := 0, ns := 0, at_ := 0, iTrip := 0, layer := 0, lock := false }

theorem test_coordTripSend : firstStamp [trip0] = some 0 ∧
    (run .coordTripSend { s0 with tripQ := [trip0], tbs := [(0, { ns := 2500 })] }).tripQ = [] ∧
    ({ s0 with tbs := [(0, { ns := 2500 })] } : State).tbNs 0 = 2500 := by decide +kernel

def per0 : State := (lnk 3 lsAdmitted s0).setTrim 3 { perQ := 10, perN := 2, nextQ := 7, nextN := 1 }

theorem test_sharePeriod : per0.lstate 3 = lsAdmitted ∧ (per0.trim 3).gapNow = false ∧ (per0.trim 3).perN ≠ 0 ∧
    ((run .sharePeriod per0).trim 3).iMeas = 5 ∧ ((run .sharePeriod per0).trim 3).perQ = 7 := by decide +kernel

theorem test_handoverWindowEnd : (s0.setBit F.TRM_STATE_HO_ACTIVE true 3).bit F.TRM_STATE_HO_ACTIVE 3 = true ∧
    (s0.setBit F.TRM_STATE_HO_ACTIVE true 3).elapsed (s0.trim 3).hoAt 20000000 = true ∧
    (run (.handoverWindowEnd 3) (s0.setBit F.TRM_STATE_HO_ACTIVE true 3)).bit F.TRM_STATE_HO_ACTIVE 3 = false := by
  decide +kernel

def trm3 (ts : Nat) : State := (ins3 csReady).setFld F.TRM_STATE_TSTATE ts 3

theorem test_trmCfgWrite : (trm3 tsShare).MayStore 0 .TRM_CFG 3 0 0 ∧ (trm3 tsShare).tstate 3 = tsShare ∧
    (run (.trmCfgWrite 0 3 0) (trm3 tsShare)).tstate 3 = tsVolt ∧
    ((run (.trmCfgWrite 0 3 0x03201401) (trm3 tsVolt)).trim 3).hoPending = true := by
  unfold State.MayStore State.MayWrite; decide +kernel

theorem test_trmVsetWrite : (trm3 tsVolt).MayStore 0 .TRM_VSET 3 0 200 ∧
    (trm3 tsVolt).tstate 3 = tsVolt ∧ (run (.trmVsetWrite 0 3 200) (trm3 tsVolt)).sfld F.TRM_VSET_VSET 3 = 200 := by
  unfold State.MayStore State.MayWrite; decide +kernel

def imis0 : State := ((adm0.setBit F.PLK_STATE_TRIM_PRESENT true 3).setFld F.TRM_STATE_TSTATE tsShare 3).setTrim 3
  { cmpN := 1, cmpI := 100, cmpT := 0, imis := 9 }

theorem test_trimCurrentCompare : imis0.counting 3 = true ∧ imis0.bit F.PLK_STATE_TRIM_PRESENT 3 = true ∧
    (imis0.trim 3).cmpN ≠ 0 ∧
    maxQ (maxQ (absQ 100) (absQ 0) / 20) 10 < absQ (100 - 0) ∧ imis0.tstate 3 = tsShare ∧ (imis0.trim 3).imis = 9 ∧
    (run (.trimCurrentCompare 3) imis0).bit F.TRM_FLAGS_TRIM_IMISMATCH 3 = true := by decide +kernel

def zero0 : State := (((lnk 3 lsAdmitted s0).setBit F.MEAS_ZERO_CFG_ZERO_EN true 3).setFld F.MEAS_ZERO_CFG_ZERO_MAX 20 3).setStrm 3
  { tSum := 50, tNum := 2, zSum := #v[8, 0], zNum := 8 }

theorem test_weffUpdate : zero0.counting 3 = true ∧ zero0.streamFenced 3 = false ∧ (zero0.strm 3).tNum ≠ 0 ∧
    ((run .weffUpdate zero0).strm 3).tLast = some 25 := by decide +kernel

theorem test_zeroLearn : zero0.bit F.MEAS_ZERO_CFG_ZERO_EN 3 = true ∧ zero0.resting 3 = true ∧
    zero0.lstate 3 = lsAdmitted ∧ zero0.streamFenced 3 = false ∧
    (zero0.strm 3).zNum ≠ 0 ∧
    (zero0.strm 3).zSkip = false ∧ (zero0.strm 3).zRng[0] < 2 ∧
    absQ 1 ≤ (zero0.fld F.MEAS_ZERO_CFG_ZERO_MAX 3 : Rat) / 10 ∧
    ((run .zeroLearn zero0).strm 3).zero.toList.getD 0 0 = 1 / 8 := by decide +kernel

theorem test_gridCycleBoundary : (run .gridCycleBoundary { s0 with win := { cycAt := some 3980000000 } }).fld F.MEAS_WIN_STATE_PERIOD = 20000 ∧
    (run .gridCycleBoundary s0).tbSec 2 = 1 := by decide +kernel

theorem test_windowEnd : ({ s0 with tbs := [(0, { ns := 200000000 })] } : State).win.endNs = some 200000000 ∧
    ({ s0 with tbs := [(0, { ns := 200000000 })] } : State).windowReady 200000000 = true ∧
    ({ lnk 3 lsAdmitted s0 with tbs := [(0, { ns := 200000000 })] } : State).windowReady 200000000 = false ∧
    ({ lnk 3 lsAdmitted s0 with tbs := [(0, { ns := 200020000 })] } : State).windowReady 200000000 = true ∧
    (run .windowEnd { s0 with tbs := [(0, { ns := 200000000 })] }).win.startNs = 200000000 := by decide +kernel

def requal0 : State := { ((s0.setBit F.MEAS_WIN_STATE_WIN_SRC true).setBit F.MEAS_WIN_STATE_TB2_QUAL true).setFld
  F.MEAS_WIN_CFG_REQUAL 1 with win := { requalAt := some 0 } }

theorem test_winRequal : requal0.win.requalAt = some 0 ∧ requal0.winFree = true ∧
    requal0.bit F.MEAS_WIN_STATE_TB2_QUAL = true ∧
    requal0.elapsed 0 (requal0.fld F.MEAS_WIN_CFG_REQUAL * 1000000000) = true ∧
    (run .winRequal requal0).winFree = false := by
  decide +kernel

theorem test_measTallyRead : (ses .operator s0).reader 0 = true ∧ s0.regHeld .MEAS_QCOUNT 3 = false ∧ s0.regHeld .MEAS_WIN 3 = false ∧
    (run (.measTallyRead 0 3 true) ((ses .operator s0).setReg .MEAS_QCOUNT 3 1 9)).shadow 0 .MEAS_QCOUNT 3 1 = 9 := by
  decide +kernel

theorem test_measWinRead : (run (.measWinRead 0 3) ((ses .operator s0).setReg .MEAS_WIN 3 7 9)).shadow 0 .MEAS_WIN 3 7 = 9 := by
  decide +kernel

theorem test_grpStampRead :
    (run (.grpStampRead 0 15) ((ses .operator s0).setReg .MEAS_GRP_STAMP 15 1 9)).shadow 0 .MEAS_GRP_STAMP 15 1 = 9 ∧
    (run (.grpStampRead 0 0) (ses .operator s0)).resp = .error := by
  decide +kernel

/-! ### Chapters 08 and 09 -/

/-- Converter 0 enabled on a passed block, its list two entries of input 0. -/
def conv0 (x : Conv) : State :=
  ((((s0.setBit F.MEAS_ADC_CFG_EN true 0).setFld F.MEAS_SEQ_CFG_RLEN 1 0).setFld F.MEAS_INJ_CFG_ILEN 1 0).setFld
    F.MEAS_IN_CFG_MODE 1 0 |>.setFld F.MEAS_SEQ_CFG_RMODE 2 0 |>.setBit F.MEAS_INJ_CFG_IEN true 0
    |>.setFld F.MEAS_OW_CFG_OW_EN 1 0 |>.setBit F.MEAS_CAL_CAL_OK true 0 3 |>.setConv 0 x).setConvBlock 0 { passed := true }

theorem test_adcEntryDone : (conv0 { act := .regular 0 }).convReady 0 = true ∧
    (conv0 { act := .regular 0 }).elapsed 0 ((conv0 { act := .regular 0 }).entryTime 0) = true ∧
    (conv0 { act := .regular 0 }).regFrom 0 1 = some 1 ∧
    bitOf ((conv0 { act := .regular 0 }).reg .MEAS_OW_STATE 0) 0 = false ∧
    (conv0 { act := .injected 0 }).convReady 0 = true ∧
    (conv0 { act := .injected 0 }).elapsed 0 ((conv0 { act := .injected 0 }).entryTime 0) = true ∧
    (conv0 { act := .injected 0 }).injFrom 0 1 = some 1 ∧
    (((run (.adcEntryDone 0 0x100) (conv0 { act := .regular 0 })).conv 0).act = .regular 1) ∧
    (run (.adcEntryDone 0 0x100) (conv0 { act := .regular 0 })).reg .MEAS_RVALID 0 = 1 := by decide +kernel

theorem test_adcTriggers : (conv0 {}).rmode 0 ≠ 0 ∧ (conv0 {}).convReady 0 = true ∧ (conv0 {}).regFrom 0 0 = some 0 ∧
    (conv0 {}).bit F.MEAS_INJ_CFG_IEN 0 = true ∧ (conv0 {}).injFrom 0 0 = some 0 ∧
    ((run (.adcRegTrigger 0) { conv0 {} with trigs := [(0, 5)] }).conv 0).act = .regular 0 ∧
    ((run (.adcInjTrigger 0) { conv0 { act := .regular 1 } with trigs := [(64, 5)] }).conv 0).resume = some 1 := by
  decide +kernel

theorem test_adcGroupTrigger :
    (run (.adcGroupTrigger 3) { conv0 {} with trigs := [(131, 5)], tbs := [(0, { ns := 700 })] }).reg .MEAS_GRP_STAMP 3 1 = 700 := by
  decide +kernel

theorem test_owDue : ((conv0 {}).conv 0).inputs[0].dueAt < (conv0 {}).owBoundary 0 ∧ bitOf ((conv0 {}).fld F.MEAS_OW_CFG_OW_EN 0) 0 = true ∧ (conv0 {}).rmode 0 ≠ 0 ∧
    (run (.owDue 0 0) ({ (conv0 {}) with osc := 1000 })).convs = (conv0 {}).convs ∧
    (((run (.owDue 0 0) (conv0 {})).conv 0).inputs.toList.map AdcIn.due) = [true, false, false, false] := by
  decide +kernel

def dly0 : State := (((ses .installer s0).setFld F.MEAS_RTRIG_DLY 7 5).setFld F.MEAS_ITRIG_DLY 7 5).setFld F.MEAS_GRP_DLY 7 5

theorem test_swtrig : dly0.MayWrite 0 .MEAS_SWTRIG 0 ∧ dly0.fld F.MEAS_RTRIG_DLY 5 ≠ 0 ∧
    dly0.fld F.MEAS_ITRIG_DLY 5 ≠ 0 ∧
    dly0.fld F.MEAS_GRP_DLY 5 ≠ 0 ∧ dly0.trigs = [] ∧
    (run (.swtrigRegular 0 5) dly0).trigs = [(5, 4000000070)] ∧
    (run (.swtrigInjected 0 5) dly0).trigs = [(69, 4000000070)] ∧
    (run (.swtrigGroup 0 5) dly0).trigs = [(133, 4000000070)] ∧ (run (.swtrigGroup 0 16) dly0).resp = .refused ∧
    (run (.swtrigGroup 0 0) dly0).resp = .refused ∧ (run (.swtrigRegular 0 48) dly0).resp = .refused ∧
    (run (.swtrigInjected 0 48) dly0).resp = .refused := by
  unfold State.MayWrite; decide +kernel

def cfg0 (x : Conv) : State := ses .installer (conv0 x)

theorem test_adcCfgWrite : (cfg0 {}).MayStore 0 .MEAS_SEQ_CFG 0 0 0x105 ∧ adcConvOf .seqCfg 0 = 0 ∧
    ((cfg0 {}).conv 0).act = .idle ∧ ((cfg0 { act := .regular 0 }).conv 0).act ≠ .idle ∧
    (run (.adcCfgWrite 0 .seqCfg 0 0x105) (cfg0 {})).resp ≠ .refused ∧
    ((run (.adcCfgWrite 0 .seqCfg 0 0x105) (cfg0 { act := .regular 0 })).conv 0).staged ≠ [] := by
  unfold State.MayStore State.MayWrite; decide +kernel

theorem test_calStartCmd : (cfg0 {}).MayWrite 0 .MEAS_CAL_CMD 0 ∧ ((cfg0 {}).unit (convUnit 3)).retired = false ∧
    ((cfg0 {}).convBlock 3).cal = .none ∧ (run (.calStartCmd 0 8) (cfg0 {})).reg .MEAS_CAL_CMD = 8 ∧
    ((run (.calStartCmd 0 8) (cfg0 {})).convBlock 3).cal = .waiting := by unfold State.MayWrite; decide +kernel

def auto0 : State := (conv0 {}).setFld F.MEAS_REF_CFG_CAL_DT 10

theorem test_calAuto : (100 : Int) = 10 * (auto0.fld F.MEAS_REF_CFG_CAL_DT : Int) ∧ 2 ∈ blockConvs 0 ∧
    (100 : Int) ≤ 250 - auto0.sfld F.MEAS_CAL_TJ_CAL 2 3 ∧ (∀ x, x < 12 → (auto0.convBlock x).auto = false) ∧
    (auto0.convBlock 0).cal = .none ∧ (auto0.convBlock 0).passed = true ∧ 3 ≤ auto0.phase ∧ (auto0.unit (convUnit 0)).retired = false ∧
    ((run (.calAuto 0 250) auto0).convBlock 0).auto = true := by decide +kernel

def calRun0 : CalRun := ⟨List.replicate 64 0, List.replicate 64 12582912, [], List.replicate 16 12582912⟩
def caling0 : State := [1, 2, 3].foldl (fun t a => t.setBit F.MEAS_ADC_CFG_EN false a) (s0.setConvBlock 0 { cal := .running, startup := true })

theorem test_calDone : (caling0.convBlock 0).cal = .running ∧ caling0.elapsed 0 (caling0.calTime 0) = true ∧
    caling0.settle.recal = [] ∧ caling0.phase = 4 ∧ (caling0.convBlock 0).startup = true ∧ caling0.convEn 0 = true ∧ caling0.convEn 1 = false ∧ caling0.convEn 2 = false ∧
    caling0.convEn 3 = false ∧ (caling0.calConv 0 250 calRun0).2 = true ∧
    ((run (.calDone 0 250 (Vector.replicate 4 calRun0)) caling0).convBlock 0).passed = true ∧
    (run (.calDone 0 250 (Vector.replicate 4 calRun0)) caling0).bit F.MEAS_SRC_FLAGS_CAL_DONE = true := by
  decide +kernel

theorem test_refCheck : s0.sup.inReset = false ∧ (s0.unit (convUnit 2)).retired = false ∧
    ((run (.refCheck 2 10000 0) s0).convBlock 2).refs[0].passAt = some 4000000000 ∧
    ((run (.refCheck 2 10001 0) s0).convBlock 2).refs[0].passAt = none := by decide +kernel

def sw0 : State := ((conv0 { target := 0 }).setBit F.MEAS_CONV_REF_SWITCHING true 0).setConvBlock 0
  { passed := true, refs := #v[{ good := true }, {}, {}] }

theorem test_refSwitchDone : sw0.switching 0 = true ∧ (sw0.conv 0).target = 0 ∧ sw0.refChoice 0 = 0 ∧
    (run (.refSwitchDone 0) sw0).switching 0 = false := by decide +kernel

theorem test_convRefWrite : (cfg0 {}).MayStore 0 .MEAS_CONV_REF 0 0 2 ∧
    bitsGet ((cfg0 {}).newWord .MEAS_CONV_REF 0 0 2) 0 2 = 2 ∧
    bitsGet ((cfg0 {}).newWord .MEAS_CONV_REF 0 0 3) 0 2 = 3 ∧
    bitsGet ((cfg0 {}).newWord .MEAS_CONV_REF 0 0 1) 0 2 = 1 ∧ (cfg0 {}).bit F.MEAS_REF_CFG_EXT_FITTED = false ∧
    (run (.convRefWrite 0 0 3) (cfg0 {})).resp = .refused ∧
    (run (.convRefWrite 0 0 2) (cfg0 {})).fld F.MEAS_CONV_REF_REF_PREF 0 = 2 := by
  unfold State.MayStore State.MayWrite; decide +kernel

def late0 : State := { s0.setFld F.KEY_START_STATE_PHASE 2 with settle := { late := true } }

theorem test_refLateTimeout : late0.phase = 2 ∧ late0.settle.late = true ∧
    late0.elapsed late0.settle.at_ 100000000 = true ∧
    (run .refLateTimeout late0).settle.intFail = true := by decide +kernel

def tal0 (x : Tally) : State := (((ses .installer s0).setBit F.TAL_CFG_EN true 5).setTal 5 x)

theorem test_tallyConfiguration : (tal0 {}).MayStore 0 .TAL_CFG 5 0 1 ∧
    (tal0 {}).talCfgOk 5 ((tal0 {}).newWord .TAL_CFG 5 0 1) = true ∧
    (tal0 {}).talCfgOk 5 ((tal0 {}).newWord .TAL_CFG 5 0 0) = true ∧
    ((run (.talEnable 0 5 0) (tal0 { p := 9 })).tal 5).p = 0 ∧
    (run (.talEnable 0 5 0) (tal0 {})).bit F.TAL_CFG_EN 5 = true ∧
    (run (.talDisable 0 5 1) (tal0 {})).bit F.TAL_CFG_EN 5 = false ∧ (tal0 {}).talFenced 5 = false ∧
    (tal0 {}).MayStore 0 .TAL_CFG 5 0 0 := by unfold State.MayStore State.MayWrite; decide +kernel

theorem test_tallyWrites : (tal0 {}).MayStore 0 .TAL_RELOAD 5 0 99 ∧ (tal0 {}).MayStore 0 .TAL_CMP 5 3 7 ∧
    (tal0 {}).MayStore 0 .TAL_ACT 5 0 0 ∧
    (run (.talReloadWrite 0 5 99) (tal0 {})).reg .TAL_RELOAD 5 = 99 ∧
    ((run (.talReloadWrite 0 5 99) (tal0 {})).tal 5).r = 0xFFFFFFFF ∧
    (s0.talRuns 6 = false) ∧ ((run (.talCmpWrite 0 6 3 7) (tal0 {})).tal 6).armed = 0xC0 ∧
    ((run (.talActWrite 0 6 0) (tal0 {})).tal 6).armed = 0xFF := by unfold State.MayStore State.MayWrite; decide +kernel

theorem test_talSyncWrite : (tal0 {}).MayStore 0 .TAL_SYNC 5 0 0x61 ∧
    bitsGet ((tal0 {}).newWord .TAL_SYNC 5 0 0x61) 0 8 = 0x61 ∧
    bitsGet ((tal0 {}).newWord .TAL_SYNC 5 0 0x62) 0 8 = 0x62 ∧ bitsGet ((tal0 {}).newWord .TAL_SYNC 5 0 6) 0 8 = 6 ∧
    (run (.talSyncWrite 0 5 6) (tal0 {})).resp = .refused ∧
    (run (.talSyncWrite 0 5 0x61) (tal0 {})).fld F.TAL_SYNC_SYNC_SRC 5 = 0x61 := by
  unfold State.MayStore State.MayWrite; decide +kernel

/-- Timer 5 runs with R = 9; compare 2 at 4 on the up edge sets OUT. -/
def fire0 (x : Tally) : State :=
  (((tal0 { x with r := 9 }).setReg .TAL_CMP 5 2 4).setFld F.TAL_ACT_EDGE 0x10 5).setFld F.TAL_ACT_ACT 0x10 5

theorem test_tallyEvents : (fire0 { p := 9 }).talRuns 5 = true ∧ (fire0 { p := 9 }).talPeriod 5 ≤ 9 + 1 ∧
    (fire0 { p := 4 }).talPoints 5 2 = [(4, 4)] ∧ (fire0 { p := 4 }).talDist 5 4 < (fire0 { p := 4 }).talWindow 5 ∧
    ((run (.tallyZeroEvent 5) (fire0 { p := 9 })).tal 5).p = 0 ∧
    (run (.tallyCompareFire 5 2) (fire0 { p := 4, armed := 16 })).bit F.TAL_STATUS_OUT 5 = true ∧
    (fire0 {}).fld F.TAL_CFG_TICK_SRC 5 ≠ 2 ∧
    (run (.tallySyncRestart 5) (fire0 { p := 4, syncDue := true })).reg .TAL_SLIP 0 = 32 := by decide +kernel

/-! ### Chapters 10 and 11 -/

/-- Chain 3 in a state, and its record keeping. -/
def hrx (st : Nat) (c : Chain) : State :=
  (((ses .installer s0).setFld F.HR_STATE_CSTATE st 3).setFld F.HR_CHAIN_CFG_EXPECT 4 3).setChain 3 c

theorem test_hrLock : (hrx hrLinkUp {}).present 3 = true ∧ s0.sup.inReset = false ∧ (hrx hrLinkUp {}).hstate 3 = hrLinkUp ∧
    (run (.hrLockGained 3 ⟨true, 64⟩) (hrx hrLinkUp {})).hstate 3 = hrEnum ∧ (hrx hrRun {}).split 3 = false ∧
    (∀ q, q < 16 → (hrx hrRun {}).nstate 3 q = ndIdent → ((hrx hrRun {}).node 3 q).ident.length ≠ 48) ∧
    (run (.hrLockGained 3 ⟨true, 63⟩) (hrx hrLinkUp {})).hstate 3 = hrLinkUp ∧
    (run (.hrLockLost 3 ⟨false, 4, 0⟩) (hrx hrRun {})).split 3 = true ∧
    (run (.hrLockLost 3 ⟨false, 0, 2000⟩) (hrx hrRun {})).split 3 = true ∧
    (run (.hrLockLost 3 ⟨false, 3, 1999⟩) (hrx hrRun {})).split 3 = false ∧
    (run (.hrLoopRx 3 false ⟨5, 0xEB⟩ true) (hrx hrRun {})).split 3 = false ∧
    (run (.hrLoopRx 3 false ⟨5, 0xEA⟩ true) (hrx hrRun {})).fld F.HR_STATE_A_LAST 3 = 5 := by decide +kernel

theorem test_enumRx : (hrx hrEnum {}).hstate 3 = hrEnum ∧ (hrx hrEnum {}).hrFenced 3 = false ∧
    (hrx hrEnum {}).bit F.INJ_STATE_ACTIVE = false ∧ (hrx hrEnum {}).inj.heldRx = none ∧
    (run (.enumRx 3 false true 16 true) (hrx hrEnum {})).nstate 3 15 = ndIdent ∧
    (run (.enumRx 3 false true 1 true) (hrx hrEnum {})).nstate 3 1 = ndAbsent := by decide +kernel

theorem test_hrTimeouts : ((hrx hrLinkUp {}).chain 3).lock = #v[false, false] ∧ 0 < (hrx hrLinkUp {}).expect 3 ∧
    (hrx hrLinkUp {}).elapsed 0 100000000 = true ∧ (run (.hrLinkTimeout 3) (hrx hrLinkUp {})).hstate 3 = hrFault ∧
    (run (.hrNoNodeTimeout 3) (hrx hrRun {})).hstate 3 = hrLinkUp := by decide +kernel

theorem test_hrChainCfgWrite : (hrx hrRun {}).MayStore 0 .HR_CHAIN_CFG 3 0 0xA0300 ∧ (hrx hrRun {}).cstate 3 = csOpen ∧
    bitsGet ((hrx hrRun {}).newWord .HR_CHAIN_CFG 3 0 0xA0300) 8 5 ≠ (hrx hrRun {}).expect 3 ∧
    (run (.hrChainCfgWrite 0 3 0xA0300) (chn 3 csReady (hrx hrRun {}))).resp = .refused ∧
    bitOf ((hrx hrRun {}).newWord .HR_CHAIN_CFG 3 0 0xA0300) 0 = false ∧
    (run (.hrChainCfgWrite 0 3 0xA0300) (hrx hrRun {})).hstate 3 = hrDown := by unfold State.MayStore State.MayWrite; decide +kernel

def cmdOut (rep : Nat) : NodeOut := { cmd := { pos := 2, op := 1, word := 0, data := [] }, tag := 1, frames := 4, repeats := rep, resend := false }

theorem test_nodeCmdRetry : (((hrx hrIdent { out := #v[some (cmdOut 0), none] }).chain 3).out[0]) = some (cmdOut 0) ∧
    ((run (.nodeCmdRetry 3 false) (hrx hrIdent { out := #v[some (cmdOut 0), none] })).chain 3).out[0] =
      some { cmdOut 1 with frames := 0, resend := true } ∧
    (hrx hrIdent {}).nstate 3 2 ≠ ndAdmitted ∧
    (∀ q, q < 16 → (hrx hrIdent {}).nstate 3 q = ndIdent → ((hrx hrIdent {}).node 3 q).ident.length ≠ 48) ∧
    (run (.nodeCmdRetry 3 false) (hrx hrIdent { out := #v[some (cmdOut 3), none] })).fld F.HR_NODE_REFUSE 3 2 = 6 := by
  decide +kernel

def outNode : State := (chn 3 csReady (hrx hrRun {})).setNode 3 2 { outAt := some 0 }

theorem test_nodeLossTimeout : (outNode.node 3 2).outAt = some 0 ∧ 2 < outNode.expect 3 ∧
    outNode.nstate 3 2 ≠ ndAdmitted ∧
    outNode.cstate 3 = csReady ∧ outNode.elapsed 0 (100000000 * outNode.fld F.HR_CHAIN_CFG_NODE_LOSS_T 3) = true ∧
    (run (.nodeLossTimeout 3 2) outNode).bit F.HR_FLAGS_ZERO_REQ 3 = true := by decide +kernel

/-- 20 µs before the instant at 0.5 ms. -/
def trig0 : State := { s0 with tbs := [(0, { ns := 480000 })] }

theorem test_triggerSend : (500000 : Int) = trig0.nextInstant (trig0.tb0 + 19998) ∧ (500000 : Int) ≤ trig0.tb0 + 20047 ∧
    trig0.inst.trigK = none ∧ (hrx hrRun {}).hrFenced 3 = false ∧ trig0.instantNo 500000 = 1 ∧
    (run .triggerSend trig0).inst.trigK = some 1 := by decide +kernel

theorem test_sampleInstant : s0.instantNo (s0.tb0 / (ratePeriod (s0.rateCode s0.tb0) : Nat) * (ratePeriod (s0.rateCode s0.tb0) : Nat)) = 0 ∧
    s0.inst.lastK = none ∧ s0.inst.skipK = none ∧ (run .sampleInstant s0).inst.lastK = some 0 := by decide +kernel

theorem test_rateApply :
    (run .rateApply { s0.setFld F.HR_CFG_RATE 4 with inst := { rateDue := some 0 } }).fld F.HR_CFG_RATE_NOW = 4 := by
  decide +kernel

def rec0 (k : Nat) (fin : Bool) : Rec :=
  { k := k, tns := 0, at_ := 0, notPlant := false, skipped := false, taken := [], q := 0, lost := 0, lostTu := 0, len := 0, final := fin }

def swp0 : State := { hrx hrRun { aLast := some 4 } with inst := { lastK := some 9 } }
def rcv0 : State := (hrx hrRun { aLast := some 4, recs := [rec0 9 false] }).setFld F.HR_NODE_NSTATE ndAdmitted 3 2

theorem test_sweepSend : swp0.hstate 3 = hrRun ∧ swp0.split 3 = false ∧ (swp0.chain 3).aLast = some 4 ∧
    (run (.sweepSend 3) swp0).outbox = [hrMsg 3 false 0x51 9 5 0 0 (List.replicate 16 0)] := by decide +kernel

theorem test_recoverSend : (rcv0.chain 3).recs = [rec0 9 false] ∧ rcv0.nodesIn 3 ndAdmitted = [2] ∧
    rcv0.reaches 3 2 false = true ∧
    (run (.recoverSend 3) rcv0).outbox = [hrMsg 3 false 0x52 9 1 2 0 (List.replicate 16 0)] := by decide +kernel

def slot0 (g : Bool) : Slot :=
  { good := g, pos := 2, filled := true, flags := 0, inst16 := 9, cells := Vector.replicate 32 3300000, temp := 0, tempIdx := 0
    rspResult := 0, rspTag := 0, balOn := 5, rspData := 0 }

theorem test_sweepFrameRx : rcv0.hrFenced 3 = false ∧ rcv0.bit F.INJ_STATE_ACTIVE = false ∧ rcv0.inj.heldRx = none ∧
    rcv0.nstate 3 2 = ndAdmitted ∧ (rcv0.chain 3).out = #v[none, none] ∧
    (run (.sweepFrameRx 3 true 9 true [slot0 false]) rcv0).bit F.HR_FLAGS_SLOT_CRC 3 = true ∧
    (run (.sweepFrameRx 3 true 9 true [slot0 true]) rcv0).reg .HR_BAL 3 2 = 5 ∧
    ((run (.sweepFrameRx 3 true 9 true [slot0 true]) rcv0).chain 3).recs.map (fun r => r.taken.map Taken.pos) = [[2]] := by
  decide +kernel

theorem test_sweepFinal : ((hrx hrRun { recs := [rec0 9 false] }).chain 3).recs = [rec0 9 false] ∧
    (hrx hrRun {}).nodesIn 3 ndAdmitted = [] ∧ ((hrx hrRun {}).nodeMapOf 3 0).cells = 0 ∧
    (run (.sweepFinal 3) (hrx hrRun { recs := [rec0 9 false] })).reg .HR_SWEEP 3 = 9 := by decide +kernel

theorem test_probe : rcv0.hstate 3 = hrRun ∧ (run (.probeCycle 3) rcv0).hstate 3 = hrRun ∧
    ((run (.probeRx 3 false ⟨2, 7, 0xFA⟩ 500) rcv0).node 3 2).dSum[0] = 300 ∧
    ((rcv0.setNode 3 2 { dSum := #v[4500, 0], dNum := #v[15, 0] }).node 3 2).dSum[0] + (500 - 200) = 32 * 150 ∧
    (run (.probeRx 3 false ⟨2, 7, 0xFA⟩ 500) (rcv0.setNode 3 2 { dSum := #v[4500, 0], dNum := #v[15, 0] })).fld F.HR_DELAY_D_A 3 2 = 150 := by
  decide +kernel

theorem test_estStep : (rec0 0 true).final = true ∧ (rec0 0 true).skipped = false ∧
    (rec0 0 true).tns % s0.stepLen 0 = 0 ∧
    (run (.estStep 3) (hrx hrRun { recs := [rec0 0 true] })).chain 3 = {} := by decide +kernel

/-- One cell of node 2 of chain 3 (k = 1540), which the Charter maps. -/
def map0 : State := { rcv0 with charter := { rcv0.charter with nodeMap := [(50, { base := 4, cells := 1 })] } }
def cel0 (c : Cell) : State := map0.setCell 1540 c

theorem test_seedWaitTimeout : 1540 ∈ (cel0 { estate := 3 }).stringCells 3 ∧
    (cel0 { estate := 3 }).blockCells 12 = [1540] ∧
    { cel0 { estate := 3 } with osc := 10 ^ 15 }.elapsed 0 (1000000000 * s0.fld F.EST_CFG2_SEED_WAIT) = true := by
  decide +kernel

theorem test_lateStep : ((hrx hrRun { recs := [rec0 0 true] }).strE 3).lateT ≠ some (rec0 0 true).tns ∧
    { hrx hrRun { recs := [rec0 0 true] } with osc := 10 ^ 12 }.elapsed (rec0 0 true).at_
      (s0.fld F.HR_CFG_FINAL_WIN * s0.samplePeriod + 5000000) = true ∧
    (run (.lateStep 3) { hrx hrRun { recs := [rec0 0 true] } with osc := 10 ^ 12 }).bit F.EST_GFLAGS_LATE_STEP = true := by
  decide +kernel

theorem test_engineResumePredict : s0.tg.halted.contains 12 = false ∧ s0.fld F.EST_BLKMAP_ENGINE 12 = 12 ∧
    ((s0.setBlkE 12 { paused := true }).blkE 12).paused = true ∧
    s0.fenced (unitKey 3 0 0 false) = false ∧ s0.tg.halted = [] ∧ s0.ldgState.tables = [] ∧
    ((run (.engineResumePredict 12) (s0.setBlkE 12 { paused := true })).blkE 12).paused = false := by decide +kernel

theorem test_aggregate : s0.present 3 = true ∧ s0.strValid 3 = false := by decide +kernel

def ctx0 (ser : List Nat) : CtxRec := { cell := { estate := 4 }, stamp := 0, qDis := 0, qChg := 0, serial := ser, input := 0 }

theorem test_contextRestore : (cel0 { estate := 1 }).cellPlace 1540 = some (2, 0) ∧
    (cel0 { estate := 1 }).nstate 3 2 = ndAdmitted ∧
    (cel0 { estate := 1 }).ldgState.tables = [] ∧ sparseGet (cel0 {}).est.reconKind 0 3 ≠ 1 ∧
    ((cel0 {}).node 3 2).serial = [] := by decide +kernel

/-- A buffer whose bulk share is full. -/
def fullBuf : Ldg := { opened := true, buffer := List.replicate 300 ({ kind := 0x43, urgent := false, state := true, seq := 0, sec := 0, ns := 0, keyv := 0, body := List.replicate 128 0, chain := 0 }, 3) }

theorem test_contextPersist : s0.bulkFull = false ∧ (cel0 { estate := 4 }).blockCells 12 = [1540] ∧
    ({ s0 with ldg := fullBuf }).bulkFull = true := by decide +kernel

def kept0 : KeptNode := { at_ := 0, cells := [(1540, { estate := 4 })], tables := [], counts := (0, 0) }
def swap0 : State := { map0 with keptNodes := [(50, kept0)], osc := 10 ^ 12 }

theorem test_swap_done : ((run (.swapKeep 0 3 2 0x5C0A) swap0).cell 1540).estate = 6 ∧
    (run (.swapKeep 0 3 2 0x5C0A) swap0).keptAt 3 2 = none ∧
    ((run (.swapFresh 0 3 2 0x5C0A) (swap0.setCell 1540 { estate := 4, soc := 1 / 2 })).cell 1540).estate = 4 ∧
    ((run (.swapFresh 0 3 2 0x5C0A) (swap0.setCell 1540 { estate := 4, soc := 1 / 2 })).cell 1540).soc = 1 / 2 := by
  decide +kernel

theorem test_swap : swap0.MayWrite 0 .EST_SWAP_CMD 0 ∧ swap0.keptAt 3 2 = some kept0 ∧ swap0.keptAt 3 3 = none ∧
    swap0.elapsed 0 600000000000 = true ∧ (run (.swapKeepExpiry 3 2) swap0).keptAt 3 2 = none ∧
    (run (.swapKeep 0 3 2 0x5C0B) swap0).resp = .refused ∧ (run (.swapFresh 0 3 3 0x5C0A) swap0).resp = .refused := by
  unfold State.MayWrite; decide +kernel

theorem test_estSoclimWrite : swap0.MayStore 0 .EST_SOCLIM 0 0 0x03200032 ∧ swap0.MayStore 0 .EST_VLIM 0 0 0x03200032 ∧
    bitsGet (swap0.newWord .EST_SOCLIM 0 0 0x03200032) 0 10 + 50 ≤ bitsGet (swap0.newWord .EST_SOCLIM 0 0 0x03200032) 16 10 ∧
    ¬ bitsGet (swap0.newWord .EST_SOCLIM 0 0 0x01F401F4) 0 10 + 50 ≤ bitsGet (swap0.newWord .EST_SOCLIM 0 0 0x01F401F4) 16 10 ∧
    (run (.estSoclimWrite 0 false 0x01F401F4) swap0).resp = .refused ∧
    (run (.estSoclimWrite 0 false 0x03200032) swap0).reg .EST_SOCLIM = 0x03200032 := by
  unfold State.MayStore State.MayWrite; decide +kernel

theorem test_estSocReads : swap0.reader 0 = true ∧
    (run (.estStrSocRead 0 3) (swap0.setReg .EST_STR_SOC 3 0 7)).resp = .ok 7 ∧
    (run (.estCtrSocRead 0) (swap0.setReg .EST_CTR_STAMP 0 0 7)).shadow 0 .EST_CTR_STAMP 0 0 = 7 := by decide +kernel

/-! ### Chapters 12 and 13 -/

/-- The first and the last instant of an identification window that lasts 0.1 s, and the first of the next. -/
def idw0 : State := ((chn 3 csTripped s0).setFld F.LRN_ID_T_ID 1).setStrE 3
  { win := [rec0 0 true, { rec0 0 true with tns := 99500000 }, { rec0 0 true with tns := 100000000 }] }

theorem test_rippleIdWindow : idw0.idEnd 0 = 100000000 ∧ (idw0.strE 3).win.head?.map (fun r => r.tns) = some 0 ∧
    idw0.idEnd 0 ≤ 99500000 + idw0.samplePeriod ∧ idw0.cstate 3 ≠ csReady ∧
    ((run (.rippleIdWindow 3) idw0).strE 3).win.map (fun r => r.tns) = [100000000] := by
  decide +kernel

def rlx0 (sum : List (Rat × Nat)) : State :=
  (s0.setCell 1540 { estate := 4, rlxActive := true, rlxSum := sum }).setStrE 3 { stepT := some (10 ^ 12) }

theorem test_relaxFit : ((rlx0 [(1, 0)]).cell 1540).rlxActive = true ∧
    ((rlx0 [(1, 0)]).cell 1540).rlxStart + 1000000000 * ((rlx0 [(1, 0)]).fld F.LRN_ID_T_RLX : Int) ≤
      ((rlx0 [(1, 0)]).strE 3).stepT.getD 0 ∧
    (run (.relaxFit 1540) (rlx0 [(1, 0)])).bit F.LRN_FLAGS_ID_REJECT 3 = true ∧
    ((rlx0 (List.replicate 12 (1, 2))).cell 1540).rlxSum.length = 12 := by decide +kernel

def old0 : State := { s0.setCell 1540 { estate := 4, tCap := 0 } with tbs := [(0, { sec := 4000000000 })] }

theorem test_sohStaleTimeout : 2 ≤ (old0.cell 1540).estate ∧ (old0.cell 1540).sohStale = false ∧
    86400 * old0.fld F.LRN_CFG2_SOH_STALE_T ≤ (old0.tbSec 0 + 2 ^ 32 - 0) % 2 ^ 32 ∧
    ((run (.sohStaleTimeout 1540) old0).cell 1540).sohStale = true := by decide +kernel

theorem test_chargeCheckpoint : s0.bulkFull = false ∧
    (s0.setFld F.MEAS_EPOCH_EPOCH 1 3).fld F.MEAS_EPOCH_EPOCH 3 ≠ 0 := by
  decide +kernel

theorem test_journalWrite : (run .journalWrite { s0 with est := { changed := [(1540, 3)] } }).est.changed = [] := by
  decide +kernel

theorem test_snapshotWrite : s0.bulkFull = false ∧ 2 ≤ ((s0.setCell 1540 { estate := 4 }).cell 1540).estate := by decide +kernel

def cnt0 : Counts := { stamp := 0, qDis := 70, qChg := 9, iMean := 0, ilimEff := 0, cstate := 0 }

theorem test_reconcile : sparseGet s0.est.reconKind 0 3 = 0 ∧ s0.fld F.MEAS_EPOCH_EPOCH 3 = 0 ∧
    (run (.reconcile 3) { s0 with ldgState := { final := [(3, cnt0)] } }).fld F.LRN_STR_RECON_KIND 3 = 1 ∧
    (run (.reconcile 3) { s0 with ldgState := { final := [(3, cnt0)] } }).qDis 3 = 70 ∧
    (run (.reconcile 3) s0).fld F.LRN_STR_RECON_KIND 3 = 0 ∧
    (run (.reconcile 3) { s0 with ldgState := { ckpt := [(3, cnt0)] } }).fld F.LRN_STR_RECON_KIND 3 = 2 ∧
    (run (.reconcile 3) { s0 with ldgState := { final := [(3, cnt0)], ckpt := [(3, { cnt0 with stamp := 1000000000 })] } }).fld
      F.LRN_STR_RECON_KIND 3 = 2 ∧
    (run (.reconcile 3) { s0 with ldgState := { final := [(3, cnt0)], ckpt := [(3, { cnt0 with stamp := 999999999 })] } }).fld
      F.LRN_STR_RECON_KIND 3 = 1 := by decide +kernel

def safeIdle0 : State := (ses .operator s0).setFld F.KEY_START_STATE_PHASE 5

theorem test_dspReqWrite : (ses .operator s0).MayStore 0 .DSP_REQ 0 0 5 ∧ (ses .operator s0).reqClosed = false ∧
    (run (.dspReqWrite 0 77) (ses .operator s0)).reg .DSP_REQ = 77 ∧ safeIdle0.reqClosed = true ∧ safeIdle0.sup.inReset = false ∧
    (run (.dspReqWrite 0 77) safeIdle0).bit F.DSP_FLAGS_REQ_REFUSED = true := by unfold State.MayStore State.MayWrite; decide +kernel

theorem test_dispatchPass : (s0.setBit F.DSP_CFG_DSP_EN true).bit F.DSP_CFG_DSP_EN = true ∧ s0.cstate 3 ≠ csReady ∧
    s0.readyChans = [] := by decide +kernel

theorem test_limitRepublish : bitOf ({ s0 with dsp := { due := 8 } } : State).dsp.due 3 = true ∧
    (run (.limitRepublish 3) { s0 with dsp := { due := 8 } }).bit F.DSP_FLAGS_LIMIT_EVENT = true := by decide +kernel

theorem test_zeroReqOpen : ((adm0.setTrim 3 { zeroAt := some 0 }).trim 3).zeroAt = some 0 ∧ adm0.cstate 3 = csReady ∧
    adm0.elapsed 0 1000000000 = true ∧
    (run (.zeroReqOpen 3) (adm0.setTrim 3 { zeroAt := some 0 })).cstate 3 ≠ csReady := by
  decide +kernel

theorem test_dspEvtRead : (ses .operator s0).reader 0 = true ∧ s0.reader 300 = true ∧
    (run (.dspEvtRead 0) { ses .operator s0 with evtFifo := [5, 6] }).evtFifo = [6] ∧
    (run (.dspEvtRead 0) { ses .operator s0 with evtFifo := [5, 6] }).resp = .ok 5 := by decide +kernel

theorem test_dspAckWrite : (ses .operator s0).MayWrite 0 .DSP_ACK 0 ∧
    (run (.dspAckWrite 0 0x305) { ses .operator s0 with evtPending := [(5, 3), (5, 4)] }).evtPending = [(5, 4)] := by
  unfold State.MayWrite; decide +kernel

theorem test_balPass : (s0.setFld F.DSP_BAL_CFG_BAL_MODE 1).fld F.DSP_BAL_CFG_BAL_MODE = 1 ∧
    (s0.setFld F.DSP_BAL_CFG_BAL_MODE 0).fld F.DSP_BAL_CFG_BAL_MODE ≠ 1 ∧ (hrx hrRun {}).hstate 3 = hrRun ∧
    (hrx hrRun {}).hrFenced 3 = false := by decide +kernel

def bal0 : State := (ses .installer s0).setFld F.DSP_BAL_CFG2_BAL_PERIOD 15

theorem test_dspBalCfgWrite : bal0.MayStore 0 .DSP_BAL_CFG 0 0 0x1E000000 ∧ bal0.MayStore 0 .DSP_BAL_CFG2 0 0 0x000F0000 ∧
    2 * bal0.fld F.DSP_BAL_CFG2_BAL_PERIOD ≤ bitsGet (bal0.newWord .DSP_BAL_CFG 0 0 0x1E000000) 24 8 ∧
    ¬ 2 * bal0.fld F.DSP_BAL_CFG2_BAL_PERIOD ≤ bitsGet (bal0.newWord .DSP_BAL_CFG 0 0 0x1D000000) 24 8 ∧
    2 * bitsGet (bal0.newWord .DSP_BAL_CFG2 0 0 0x000F0000) 16 8 ≤ bal0.fld F.DSP_BAL_CFG_BAL_ON_T ∧
    (run (.dspBalCfgWrite 0 false 0x1D000000) bal0).resp = .refused ∧
    (run (.dspBalCfgWrite 0 true 0x00100000) bal0).resp = .refused := by
  unfold State.MayStore State.MayWrite; decide +kernel

def hot1 (t : Rat) (stale : Bool) : State := cel0 { estate := 4, tCell := t, tempStale := stale }

theorem test_hvacEval : (hot1 45 true).mappedCells = [1540] ∧ 0 < s0.fld F.DSP_HVAC_CFG2_HV_MINVALID ∧
    s0.fld F.DSP_HVAC_CFG2_HV_MINVALID ≤ 100 ∧ s0.fld F.DSP_HVAC_MODE = 0 ∧
    (s0.sfld F.DSP_HVAC_CFG_T_COOL_ON : Rat) ≤ 60 ∧ (20 : Rat) < s0.sfld F.DSP_HVAC_CFG_T_COOL_ON ∧
    (s0.sfld F.DSP_HVAC_CFG_T_HEAT_ON : Rat) < 20 := by decide +kernel

def rst (n : Nat) : State := (ses .installer s0).setFld F.DSP_REC_STATE_RSTATE n

theorem test_recorder : (rst 0).MayWrite 0 .DSP_REC_CMD 0 ∧ (run (.recArm 0) (rst 3)).fld F.DSP_REC_STATE_RSTATE = 1 ∧
    (run (.recTrigger 0) (rst 0)).bit F.DSP_FLAGS_REC_MISSED = true ∧
    (run (.recTrigger 0) (rst 1)).fld F.DSP_REC_STATE_RSTATE = 2 ∧
    (run (.recTrigger 0) (rst 2)).bit F.DSP_REC_TRIG_MORE = true ∧
    (run (.recArm 0) (rst 2)).fld F.DSP_REC_STATE_RSTATE = 2 ∧ (run (.recArm 0) (rst 1)).fld F.DSP_REC_STATE_RSTATE = 1 ∧
    (run (.recStop 0) (rst 2)).fld F.DSP_REC_STATE_RSTATE = 0 := by unfold State.MayWrite; decide +kernel

theorem test_recFrameWrite : ({ rst 1 with recorder := { insts := [⟨9, 0, false, false, []⟩] } } : State).instFinal 9 = true ∧
    ((rst 1).setFld F.DSP_REC_STATE_CAP 4).fld F.DSP_REC_STATE_CAP ≠ 0 ∧
    (run .recFrameWrite { rst 0 with recorder := { insts := [⟨9, 0, false, false, []⟩] } }).recorder.insts = [] := by
  decide +kernel

/-- POST with room for 4 frames, the trigger's frame still to come or not. -/
def post0 (p : Bool) (l : Nat) : State :=
  { (rst 2).setFld F.DSP_REC_STATE_CAP 4 with recorder := { insts := [⟨9, 100, false, false, []⟩], next := 5, trigPending := p, trigAt := 50, left := l } }

theorem test_recFrameWrite_post : (post0 true 8).instFinal 9 = true ∧ (post0 true 8).recorder.trigAt < 100 ∧
    (run .recFrameWrite (post0 true 8)).fld F.DSP_REC_TRIG_TRIG_IDX = 1 ∧
    (run .recFrameWrite (post0 false 1)).fld F.DSP_REC_STATE_RSTATE = 3 := by decide +kernel

theorem test_recStampRead : (run (.recStampRead 0) ((rst 0).setReg .DSP_REC_STAMP 1 0 9)).shadow 0 .DSP_REC_STAMP 1 0 = 9 := by
  decide +kernel

/-! ### Chapter 14 -/

def hs0 (cookie sigs : Bool) : Handshake :=
  { cookie := cookie, sigsOk := sigs, chain := [⟨0, 100, 5⟩], anchor := 77, roleExt := 1, certId := 9 }
def anch0 : State := { s0 with charter := { s0.charter with anchorsOp := [77] } }

theorem test_sessionHandshake : (hs0 false true).cookie = false ∧ anch0.com.hsTimes = [] ∧
    0 < anch0.fld F.COM_SESS_CFG_HS_RATE ∧
    (anch0.session 0).isOpen = false ∧ anch0.proved (hs0 true true) = some .operator ∧
    anch0.phaseTakes .operator = true ∧
    anch0.proved (hs0 true false) = none ∧ (anch0.setFld F.COM_SESS_CFG_HS_RATE 0).fld F.COM_SESS_CFG_HS_RATE ≤ 0 ∧
    ((run (.sessionHandshake (hs0 true true)) anch0).session 0).isOpen = true ∧
    (run (.sessionHandshake (hs0 true false)) anch0).bit F.TG_FLAGS_AUTH_FAIL = true := by decide +kernel

/-- All 256 sessions open, and Safe Idle: the two refusals of a proved handshake. -/
def crowd0 : State := { anch0 with sess := (List.range 256).map fun k => (k, { isOpen := true, role := .operator }) }

theorem test_sessionHandshake_refused : (run (.sessionHandshake (hs0 true true)) crowd0).bit F.COM_FLAGS_SESS_REFUSED = true ∧
    (run (.sessionHandshake (hs0 true true)) crowd0).sess = crowd0.sess ∧
    (anch0.setFld F.KEY_START_STATE_PHASE 5).phaseTakes .operator = false ∧
    (run (.sessionHandshake (hs0 true true)) (anch0.setFld F.KEY_START_STATE_PHASE 5)).resp = .refused := by decide +kernel

def ins9 : State := ses .installer s0

theorem test_sessionClose : (ins9.session 0).isOpen = true ∧ ((run (.sessionClose 0) ins9).session 0).isOpen = false ∧
    { ins9 with osc := 10 ^ 13 }.elapsed (ins9.session 0).lastAt (1000000000 * ins9.fld F.COM_SESS_CFG_SESS_IDLE) = true ∧
    ((run (.sessionIdleTimeout 0) { ins9 with osc := 10 ^ 13 }).session 0).isOpen = false := by decide +kernel

theorem test_serviceOpen : serviceRole .events (ins9.session 0).role = true ∧ (ins9.session 0).queues + 2 ≤ 240 ∧
    2 ≤ (ins9.setFld F.COM_STATE_QUEUES_FREE 4096).fld F.COM_STATE_QUEUES_FREE ∧
    (run (.serviceOpen 0 .events 2 0) (ins9.setFld F.COM_STATE_QUEUES_FREE 4096)).resp = .ok 2 ∧
    (run (.serviceOpen 0 .events 241 0) ins9).bit F.COM_FLAGS_CAPACITY = true ∧
    (run (.serviceOpen 0 .events 2 0) (ins9.setFld F.COM_STATE_QUEUES_FREE 1)).bit F.COM_FLAGS_CAPACITY = true ∧
    serviceRole .maker (ins9.session 0).role = false ∧ (run (.serviceOpen 0 .maker 2 0) ins9).resp = .refused := by decide +kernel

def injOn : State := { (ins9.setBit F.INJ_STATE_ACTIVE true) with osc := 10 ^ 13 }

theorem test_inj : ins9.MayWrite 0 .INJ_CMD 0 ∧ ins9.bit F.INJ_STATE_ACTIVE = false ∧ ins9.fld F.INJ_CFG_ACTION ≠ 3 ∧
    ins9.injLock = true ∧ (chn 0 csReady ins9).injLock = false ∧ injOn.MayWrite 0 .INJ_CMD 0 ∧
    injOn.elapsed injOn.inj.startAt (1000000000 * injOn.fld F.INJ_CFG2_INJ_T) = true ∧
    (run (.injStart 0 5) ins9).bit F.INJ_STATE_ACTIVE = true ∧
    (run (.injStart 0 5) (chn 0 csReady ins9)).fld F.INJ_STATE_END_CAUSE = 7 ∧
    (run (.injStop 0) injOn).fld F.INJ_STATE_END_CAUSE = 1 ∧
    (run (.injStart 0 5) injOn).resp = .refused ∧
    (run (.injStart 0 5) (ins9.setFld F.INJ_CFG_ACTION 3)).resp = .refused ∧
    (run .injTimeout injOn).fld F.INJ_STATE_END_CAUSE = 3 := by
  unfold State.MayWrite; decide +kernel

/-- Queue 4100, class 3, on Ethernet, one frame deep. -/
def q0 : State := s0.qBind 4100 3 1 0 1
def qf0 : QFrame := { cls := 3, kind := 0, dst := 0, payload := [1, 2], seq := 0, prp := 0, todo := [(0, 0)] }

theorem test_frameEnqueue : q0.qValid 4100 = true ∧ q0.qCls 4100 = 3 ∧ q0.qFill 4100 < q0.qDepth 4100 ∧
    q0.portsOf (q0.qPort 4100) = [0] ∧ (q0.setQFill 4100 1).qDepth 4100 ≤ (q0.setQFill 4100 1).qFill 4100 ∧
    (run (.frameEnqueue 4100 3 1 0 0 [1, 2]) q0).qFill 4100 = 1 ∧
    (run (.frameEnqueue 4100 3 1 0 0 [1, 2]) (q0.setQFill 4100 1)).bit F.COM_FLAGS_QUEUE_DROP = true := by
  decide +kernel

theorem test_frameEnqueue_bind : s0.qValid 575 = false ∧ deviceClass 600 3 = some 3 ∧ deviceClass 575 3 = some 1 ∧
    (run (.frameEnqueue 575 3 1 0 0 [1, 2]) s0).qCls 575 = 1 ∧ (run (.frameEnqueue 575 3 1 0 0 [1, 2]) s0).qPort 575 = 1 ∧
    (s0.qBind 4100 3 77 0 1).portsOf ((s0.qBind 4100 3 77 0 1).qPort 4100) = [] ∧
    (run (.frameEnqueue 4100 3 77 0 0 [1, 2]) (s0.qBind 4100 3 77 0 1)).qFill 4100 = 0 := by decide +kernel

def up0 (p : Nat) : State := q0.setFld F.COM_PORT_STATE_PSTATE 4 p

theorem test_frameSend : s0.portUp 0 = false ∧ (up0 0).portUp 0 = true ∧
    (((up0 0).setFrames 4100 [qf0]).com.queues = [(4100, [qf0])]) ∧
    ((up0 0).unitRec (unitKey 5 0 0 false)).restarting = false ∧ (up0 0).bit F.INJ_STATE_ACTIVE = false ∧
    (run (.frameSend 0) ((up0 0).setFrames 4100 [qf0])).frames_ 4100 = [] := by decide +kernel

def eth0 (g : Bool) : EthFrame := { good := g, src := 5, cls := 3, prp := some (true, 9), queue := 4100 }
def seen0 : State := { up0 1 with com := { (up0 1).com with prpSeen := [(5, 9, 4000000000)] } }

theorem test_ethFrameRx : (up0 1).portUp 1 = true ∧ (up0 1).inj.heldRx = none ∧ bitOf (up0 1).com.ethNow 0 = true ∧
    (up0 1).prpKnown 5 9 = false ∧ seen0.prpKnown 5 9 = true ∧
    (run (.ethFrameRx 1 (eth0 true)) seen0).fld F.ETH_PRP_CNT_DUP_DISC 1 = 1 ∧
    (run (.ethFrameRx 1 (eth0 true)) (up0 1)).prpKnown 5 9 = true := by decide +kernel

theorem test_ethFrameRx_plain :
    (run (.ethFrameRx 1 { eth0 true with prp := none }) (up0 1)).prpKnown 5 9 = false ∧
    (run (.ethFrameRx 1 { eth0 true with prp := none }) (up0 1)).com = (up0 1).com ∧
    (run (.ethFrameRx 1 (eth0 false)) (up0 1)).com = (up0 1).com := by decide +kernel

theorem test_ethPorts : (run .prpSupervision (up0 1)).outbox = [.prpSupervision 1] ∧ (up0 1).portFenced 1 = false ∧ (up0 1).ethAllowed 1 = true ∧
    safeIdle0.ethAllowed 1 = false ∧ safeIdle0.ethAllowed 0 = true ∧ (run (.ethLinkChange 1 2) safeIdle0).fld F.COM_PORT_STATE_PSTATE 1 = 0 ∧
    (run (.ethLinkChange 1 0) (up0 1)).fld F.COM_PORT_STATE_LOSS_CNT 1 = 1 ∧
    (run (.preemptVerifyDone 1) ((up0 1).setBit F.COM_PORT_CFG_PREEMPT_EN true 1)).bit F.COM_PORT_STATE_PREEMPT_ACTIVE 1 = true := by
  decide +kernel

/-- Both Span ports in one state. -/
def sp (st : Nat) (x : Span) : State :=
  { ((ses .operator s0).setFld F.COM_PORT_STATE_PSTATE st 2).setFld F.COM_PORT_STATE_PSTATE st 3 with span := x }

theorem test_spanTest : (sp 1 {}).portFenced 2 = false ∧ (sp 1 {}).portFenced 3 = false ∧ (sp 1 {}).pstate false = 1 ∧
    (sp 1 {}).pstate true = 1 ∧ (sp 1 {}).elapsed 0 100000000 = true ∧
    (run .spanSelfTestPass (sp 1 {})).pstate true = 2 ∧
    (run .spanSelfTestTimeout (sp 1 { fails := 2 })).pstate true = 0 ∧
    (run .spanSelfTestTimeout (sp 1 {})).pstate true = 1 := by
  decide +kernel

theorem test_spanJoin : { sp 0 { failAt := some 0 } with osc := 10 ^ 10 }.elapsed 0 10000000000 = true ∧
    (run .joinRetry { sp 0 { failAt := some 0 } with osc := 10 ^ 10 }).pstate false = 1 ∧
    (run (.spanTrainDone true) (sp 2 {})).pstate true = 3 ∧
    (run (.spanLockLost true) (sp 4 {})).fld F.SPAN_STATE_RETRAINS = 1 ∧
    (run (.spanLockLost true) (sp 5 {})).pstate true = 2 ∧
    (sp 4 {}).elapsed 0 30000 = true ∧ (run (.neighbourMiss false) (sp 4 {})).pstate false = 2 ∧
    (sp 3 { joinAt := some 0 }).elapsed 0 1000000000 = true ∧
    (run .joinTimeout (sp 3 { joinAt := some 0 })).bit F.SPAN_FLAGS_JOIN_FAIL = true ∧
    (run .neighbourSend (sp 3 {})).outbox.length = 2 := by decide +kernel

def spf (kind : Byte) (src : BitVec 6) (pay : List Byte) : SpanFrame :=
  { version := 1, cls := 0, frag := false, kind := kind, src := src, west := true, dual := false, dst := 9, hops := 5, fragIdx := 0
    last := false, seq := 3, corr := 0, payload := pay }

def ring0 (st : Nat) : State := (sp st {}).setBit F.SPAN_CFG_SPAN_EN true

theorem test_ringScan : (ring0 4).spanUp false = true ∧ (ring0 4).bit F.INJ_STATE_ACTIVE = false ∧
    (ring0 3).spanUp false = false ∧ (run .ringScanSend (ring0 3)).span.scans.length = 1 ∧
    (run .ringScanSend (ring0 3)).outbox = [] ∧ (run .ringScanSend (ring0 4)).outbox.length = 1 ∧
    (run .ringScanSend (ring0 4)).span.scans.length = 1 ∧ (sp 4 {}).elapsed 0 20000000 = true ∧
    (run .ringScanTimeout (sp 4 { scans := [(3, 0)] })).bit F.SPAN_FLAGS_RING_OPEN = true := by decide +kernel

theorem test_spanFrameRx : (sp 3 {}).pstate true = 3 ∧ (sp 3 {}).portFenced 3 = false ∧
    (sp 3 {}).fld F.SPAN_CFG_SPAN_ID = 0 ∧
    (run (.spanFrameRx true true 0 0 (spf 4 7 (sp 3 {}).ringBytes)) (sp 3 {})).pstate true = 4 ∧
    (run (.spanFrameRx true true 0 0 (spf 4 7 [9, 9])) (sp 3 {})).pstate true = 5 ∧
    (run (.spanFrameRx true true 0 0 (spf 5 0 [6])) (sp 4 { scans := [(3, 0)] })).fld F.SPAN_STATE_RING_N = 7 ∧
    (run (.spanFrameRx true true 0 0 (spf 1 7 [6])) (sp 4 {})).outbox = [spanMsg false { spf 1 7 [6] with hops := 4 }] ∧
    (run (.spanFrameRx true true 0 0 (spf 1 0 [6])) (sp 4 {})).outbox = [] ∧
    (run (.spanFrameRx true false 0 0 (spf 1 7 [6])) (sp 4 {})).outbox = [] ∧ kindKnown 9 = false ∧
    (run (.spanFrameRx true true 0 0 (spf 9 7 [6])) (sp 4 {})).outbox = [] ∧
    (run (.spanFrameRx true true 0 0 (spf 4 0 (sp 3 {}).ringBytes)) (sp 3 {})).pstate true = 5 ∧
    (run (.spanFrameRx true true 0 0 (spf 5 0 [6])) (sp 4 { scans := [(4, 0)] })).bit F.SPAN_FLAGS_DUP_ID = true ∧
    (run (.spanFrameRx true true 0 0 { spf 1 7 [6] with dst := 0 }) (sp 4 {})).span.tripRx =
      [{ spf 1 7 [6] with dst := 0 }] := by decide +kernel

def follow0 (f : Nat) : State := { adm0.setFld F.SPAN_CFG_FOLLOW f with span := { tripRx := [spf 1 7 []] } }

theorem test_coordTripRx : (follow0 2).cstate 3 = csReady ∧ (run .coordTripRx (follow0 2)).cstate 3 ≠ csReady ∧
    ((run .coordTripRx (follow0 1)).trim 3).zeroAt = some 4000000000 ∧
    (run .coordTripRx (follow0 0)).cstate 3 = csReady ∧
    (run .coordTripRx (follow0 0)).fld F.SPAN_TRIP_RX_ORIGIN = 7 := by decide +kernel

theorem test_spanTripRxRead : (sp 4 {}).reader 0 = true ∧
    (run (.spanTripRxRead 0) ((sp 4 {}).setReg .SPAN_TRIP_RX 3 0 8)).shadow 0 .SPAN_TRIP_RX 3 0 = 8 := by
  decide +kernel

/-! ### Chapters 15 and 16 -/

def tb5 (x : TimeBase) : State := (ses .installer s0).setTb 5 x

theorem test_tbReads : (tb5 {}).reader 0 = true ∧
    (run (.tbNsRead 0 5) (tb5 { ns := 77, sec := 2 ^ 33 + 9 })).resp = .ok 77 ∧
    (run (.tbNsRead 0 5) (tb5 { ns := 77, sec := 2 ^ 33 + 9 })).shadow 0 .TB_SEC_HI 5 0 = 2 ∧
    (run (.bfSnap 0) (tb5 { ns := 77, sec := 2 ^ 33 + 9 })).shadow 0 .TB_SNAP_SEC_LO 5 0 = 9 := by decide +kernel

def slew5 : State := (tb5 { left := 5 }).setBit F.TB_STATE_ADJ_ACTIVE true 5

theorem test_tbWrites : (tb5 {}).MayStore 0 .TB_INC_NS 5 0 0x04000004 ∧ (tb5 {}).MayStore 0 .TB_ADJ 5 0 5 ∧
    (tb5 {}).MayWrite 0 .TB_CMD 5 ∧
    ((run (.tbIncWrite 0 5 5) ((tb5 {}).setReg .TB_INC_FRAC 5 0 88)).tb 5).incFrac = 88 ∧
    toSigned 32 ((tb5 {}).newWord .TB_ADJ 5 0 0xFFFFFFFF) = -1 ∧
    ((run (.tbAdjWrite 0 5 0xFFFFFFFF) (tb5 {})).tb 5).left = -(2 ^ 32) ∧
    toSigned 32 (slew5.newWord .TB_ADJ 5 0 0) = 0 ∧
    (run (.tbAdjWrite 0 5 0) slew5).bit F.TB_FLAGS_ADJ_CANCEL 5 = true ∧
    (run (.slewDone 5) ((tb5 {}).setBit F.TB_STATE_ADJ_ACTIVE true 5)).bit F.TB_FLAGS_ADJ_DONE 5 = true := by
  unfold State.MayStore State.MayWrite; decide +kernel

theorem test_tbApply : (tb5 {}).reg .TB_SET_NS 5 < 1000000000 ∧
    ((run (.tbApply 0 5) ((tb5 {}).setReg .TB_SET_NS 5 0 999999999)).tb 5).apply = some (0, 999999999, 0) ∧
    (run (.tbApply 0 5) ((tb5 {}).setReg .TB_SET_NS 5 0 1000000000)).resp = .refused := by decide +kernel

theorem test_servoWrites : s0.isServo 383 = true ∧ s0.isServo 382 = false ∧
    (run (.tbIncWrite 383 5 0x05000004) (s0.setReg .TB_INC_FRAC 5 0 88)).reg .TB_INC_NS 5 =
      s0.newWord .TB_INC_NS 5 0 0x05000004 ∧
    ((run (.tbAdjWrite 383 5 0xFFFFFFFF) s0).tb 5).left = -(2 ^ 32) ∧
    ((run (.tbApply 383 5) (s0.setReg .TB_SET_NS 5 0 999999999)).tb 5).apply = some (0, 999999999, 0) ∧
    ((run (.tbApply 383 5) (s0.setReg .TB_SET_NS 5 0 1000000000)).tb 5).apply = none := by decide +kernel

theorem test_tbServoReport : s0.isServo 383 = true ∧
    ((run (.tbServoReport 383 5 0) s0).goodReport 5 = false) ∧
    ((run (.tbServoReport 383 5 0x1000000) s0).goodReport 5 = true) ∧
    ((run (.tbServoReport 383 5 0x1000000) s0).tb 5).runAt = some 4000000000 ∧
    (run (.tbServoReport 383 5 0x1000000) ({ tb5 { runAt := some 0 } with osc := 10 ^ 14 })).bit F.TB_STATE_QUAL 5 = true := by
  decide +kernel

def useA : State := (s0.setFld F.BF_REF_STATE_REF_NOW 0).setRef 0 { rptAt := some 0 }
def hold0 : State := s0.setFld F.BF_REF_STATE_REF_NOW 3

theorem test_refReport : bitOf (useA.newWord .BF_REF_RPT 0 0 0) 0 = false ∧ useA.refNo = 0 ∧
    useA.refValid 1 = false ∧ useA.refValid 2 = false ∧
    (run (.refReport 383 0 0) useA).refNo = 3 ∧ bitOf (hold0.newWord .BF_REF_RPT 1 0 1) 0 = true ∧
    hold0.refNo = 3 ∧ (run (.refReport 383 1 1) hold0).refNo = 1 := by decide +kernel

/-- Reference 1 in use while reference 0, switched away from, has been valid long enough to return. -/
def back0 : State :=
  { ((s0.setFld F.BF_REF_STATE_REF_NOW 1).setRef 1 { rptAt := some 0 }).setRef 0 { rptAt := some 0, validAt := some 0 } with osc := 10 ^ 15 }

theorem test_refReport_return : back0.refNo = 1 ∧ back0.bit F.BF_REF_STATE_SWITCHING = false ∧ (back0.ref 0).waits = false ∧
    back0.elapsed 0 (1000000000 * back0.fld F.BF_REF_CFG_REQUAL_T) = true ∧ bitOf (back0.newWord .BF_REF_RPT 0 0 1) 0 = true ∧
    (run (.refReport 383 0 1) back0).bit F.BF_REF_FLAGS_REF_RETURN = true := by decide +kernel

theorem test_reportTimeouts : (tb5 { rptAt := some 0 }).elapsed 0 3000000000 = true ∧
    (run (.servoReportTimeout 5) (tb5 { rptAt := some 0 })).bit F.TB_FLAGS_SERVO_LATE 5 = true ∧
    (hold0.setFld F.ALM_STATE_HOLD_QUAL_EFF 5).holdKept 0 = true ∧ hold0.holdKept 5 = false ∧
    (useA.ref 0).rptAt = some 0 ∧ (run (.refReportTimeout 0) useA).refNo = 3 ∧
    { hold0 with osc := 10 ^ 15 }.elapsed hold0.bel.holdAt (1000000000 * hold0.fld F.ALM_STATE_HOLD_QUAL_EFF) = true ∧
    (run .holdoverQualEnd { (hold0.setBit F.TB_STATE_QUAL true 0) with osc := 10 ^ 15 }).bit F.TB_STATE_QUAL 0 = false := by
  decide +kernel

theorem test_ptp : (sp 4 {}).portUp 2 = true ∧ (up0 0).portUp 0 = true ∧ s0.inj.heldRx = none ∧ s0.inj.heldTx = none ∧
    (run (.ptpMessageRx 2 .sync 0) ((sp 4 {}).setTb 0 { ns := 5 })).bel.rxStamp[2] = 5 * 65536 ∧
    (run (.ptpMessageRx 2 .pdelayReq 0) (sp 4 {})).outbox.length = 1 ∧
    (run (.ptpMessageRx 0 .pdelayReq 0) (up0 0)).outbox.length = 1 := by decide +kernel

theorem test_spanSync : (useA.refNo ≤ 1) ∧ 1 < hold0.refNo ∧ (run .spanSyncSend hold0).outbox = [] ∧
    (sp 4 {}).spanUp true = true ∧
    (run .spanSyncSend ((sp 4 {}).setFld F.BF_REF_STATE_REF_NOW 0)).outbox.length = 2 ∧
    (run (.spanPdelay true 55) (sp 4 {})).reg .BF_SPAN_PDLY 1 = 55 := by decide +kernel

theorem test_gridEdges : (run (.gridSyncEdge 0) s0).bel.edges = [4000000000] ∧
    { s0 with bel := { edges := [3000000000, 2980000000] } }.elapsed 3000000000 ((3000000000 - 2980000000) * 3 / 2) = true ∧
    (run .gridEdgeMissing { s0 with bel := { edges := [3000000000, 2980000000] } }).bel.gridMiss = true := by
  decide +kernel

/-- One safety connection over Span, ACTIVE, for channels 0 and 3, last SEQ 9. -/
def par0 : State :=
  (((((adm0.setFld F.SSI_CFG_CONNS 1).setFld F.PAR_STATE_STATE 2 0).setReg .PAR_ID 0 0 5).setReg .PAR_CHMASK 0 0 9).setFld
    F.PAR_CFG_TRANSPORT 1 0 |>.setFld F.PAR_CFG_T_EXP_MAX 200 0 |>.setReg .PAR_RXSEQ 0 0 9).setPar 0 { run := 9, startedAt := adm0.now }
def pdu0 (seq run : Word) : ParPdu :=
  { lenOk := true, scrcOk := true, version := 1, type := 1, connId := 5, seq := seq, tExp := 100, run := run, rst := 0, echo := 0 }

theorem test_parapetPduRx : (par0.conns.find? fun j => par0.reg .PAR_ID j == 5) = some 0 ∧ par0.parState 0 = 2 ∧
    (par0.setFld F.PAR_STATE_T_EXP_NOW 100 0).parLate 0 = false ∧ par0.fld F.PAR_CFG_TRANSPORT 0 = 1 ∧
    100 ≤ par0.fld F.PAR_CFG_T_EXP_MAX 0 := by decide +kernel

def par1 : State := par0.setFld F.PAR_STATE_T_EXP_NOW 100 0

theorem test_parapetPduRx_results : (run (.parapetPduRx true 0 (pdu0 10 1)) par1).reg .PAR_LATCH 0 = 8 ∧
    (run (.parapetPduRx true 0 (pdu0 10 1)) par1).resting 3 = true ∧
    (run (.parapetPduRx true 0 (pdu0 9 9)) par1).fld F.PAR_CNT_DUP 0 = 1 ∧
    (run (.parapetPduRx true 0 (pdu0 11 9)) par1).parState 0 = 3 ∧
    (run (.parapetPduRx true 0 { pdu0 10 9 with scrcOk := false }) par1).fld F.SSI_DISCARD_CRC_CNT = 1 := by
  decide +kernel

theorem test_parapetWatchdog : { par1 with osc := 2 * 10 ^ 9 }.parLate 0 = true ∧
    (run (.parapetWatchdog 0) { par1 with osc := 2 * 10 ^ 9 }).fld F.PAR_STATE_CAUSE 0 = 1 := by decide +kernel

def relay0 : State := (sp 4 {}).setBit F.SSI_CFG_RELAY_EN true

theorem test_parapetRelay : (9 : Nat) ≠ relay0.fld F.SPAN_CFG_SPAN_ID ∧ relay0.bit F.INJ_STATE_ACTIVE = false ∧
    (run (.parapetRelay 9 5 0 []) relay0).outbox.length = 2 ∧ (run (.parapetRelay 0 5 0 []) relay0).outbox = [] := by
  decide +kernel

theorem test_ssiFaults : adm0.safe = false ∧ (run (.ssiLaneMismatch 8) adm0).fld F.KEY_SAFE_CAUSE_CAUSE = 0x0900 ∧
    (run (.ssiLaneMismatch 8) adm0).cstate 3 ≠ csReady ∧
    (run (.ssiReadbackFault 3) adm0).fld F.KEY_SAFE_CAUSE_CAUSE = 0x0902 ∧
    (adm0.setFld F.KEY_START_STATE_PHASE 1).phase = 1 ∧
    (run (.ssiGateTest 3 1 false) (adm0.setFld F.KEY_START_STATE_PHASE 1)).fld F.KEY_SAFE_CAUSE_CAUSE = 0x0901 ∧
    (run (.ssiGateTest 3 1 true) adm0).safe = false := by decide +kernel

def proof0 : State := { s0 with ldgState := { ssi := [(3, 0)] }, tbs := [(0, { sec := 2 ^ 32 })] }

theorem test_proofDue : 0 + 86400 * proof0.fld F.SSI_PROOF_CFG_PROOF_T < proof0.tbSec 0 ∧
    (run (.proofDue 3) proof0).reg .SSI_PROOF_DUE = 8 := by decide +kernel

theorem test_ssiLastRead : (run (.ssiLastRead 0) ((ses .operator s0).setReg .SSI_LAST 1 0 8)).shadow 0 .SSI_LAST 1 0 = 8 := by
  decide +kernel

/-! ### Chapters 17 and 18 -/

def mk0 : State := ses .maker s0

theorem test_makerEn : s0.bit F.TG_STATE_MAKER_EN = false ∧
    (run (.makerEnAssert 10000) s0).bit F.TG_STATE_MAKER_EN = true ∧
    (run (.makerEnAssert 9999) s0).bit F.TG_STATE_MAKER_EN = false ∧ mk0.bit F.TG_STATE_MAKER_EN = true ∧
    mk0.tg.halted = [] ∧
    (run (.makerEnDeassert 1000) mk0).bit F.TG_FLAGS_MAKER_DROP = true := by decide +kernel

theorem test_debug : mk0.MayWrite 0 .TG_DEBUG 0 ∧ (run (.debugEnWrite 0 1) mk0).bit F.TG_STATE_DEBUG_ON = true ∧
    (run (.jtagInstruction .idcode) s0).tg.jtag = .idcode ∧
    (mk0.setBit F.TG_DEBUG_DEBUG_EN true).extestAllowed = true ∧
    adm0.extestAllowed = false ∧ s0.bit F.TG_DEBUG_DEBUG_EN = false ∧
    (run (.jtagInstruction .extest) (mk0.setBit F.TG_DEBUG_DEBUG_EN true)).tg.jtag = .extest ∧
    (run (.jtagInstruction .extest) mk0).tg.jtag = .bypass := by unfold State.MayWrite; decide +kernel

/-- Debug on, one estimation engine halted. -/
def dbg0 : State := { mk0.setBit F.TG_DEBUG_DEBUG_EN true with tg := { mk0.tg with halted := [3] } }

theorem test_jtag : dbg0.bit F.TG_DEBUG_DEBUG_EN = true ∧ dbg0.tg.halted.contains 4 = false ∧
    (run (.jtagInstruction (.halt 4)) dbg0).tg.halted = [3, 4] ∧
    (run (.jtagInstruction (.run 3)) dbg0).tg.halted = [] ∧
    (run (.jtagInstruction .samplePreload) dbg0).tg.jtag = .samplePreload ∧
    (run (.jtagInstruction .bypass) dbg0).tg.jtag = .bypass ∧
    (run (.jtagInstruction .samplePreload) s0).tg = s0.tg ∧ (run (.jtagInstruction (.halt 4)) s0).tg = s0.tg ∧
    (run (.makerEnDeassert 1000) dbg0).tg.halted = [] := by decide +kernel

def slots (p r : Nat) : State := (mk0.setFld F.TG_KEYS_PROGRAMMED p).setFld F.TG_KEYS_REVOKED r

theorem test_keyProgram : (slots 1 0).MayWrite 0 .TG_KEY_CMD 0 ∧
    bitOf ((slots 1 0).fld F.TG_KEYS_PROGRAMMED) 2 = false ∧
    (run (.keyProgram 0 2 0xF05E 7) (slots 1 0)).fld F.TG_KEYS_PROGRAMMED = 5 ∧
    (run (.keyProgram 0 0 0xF05E 7) (slots 1 0)).resp = .refused ∧
    (run (.keyProgram 0 2 0xF05F 7) (slots 1 0)).resp = .refused := by
  unfold State.MayWrite; decide +kernel

theorem test_keyRevoke : bitOf ((slots 3 0).fld F.TG_KEYS_PROGRAMMED) 1 = true ∧
    bitOf ((slots 3 0).fld F.TG_KEYS_REVOKED) 1 = false ∧
    (run (.keyRevoke 0 0 0xF05E) (slots 3 0)).fld F.TG_KEYS_REVOKED = 1 ∧
    (run (.keyRevoke 0 0 0xF05E) (slots 3 2)).resp = .refused ∧
    (run (.keyRevoke 0 0 0xF05F) (slots 3 0)).resp = .refused := by decide +kernel

def img0 : Image := { header := header 4 [0x43, 0x9D, 0x69, 0xDE], signer := some 7 }
def wr0 : State := { mk0 with tg := { mk0.tg with writing := #v[none, some img0] } }

theorem test_imageWrite : (mk0.setFld F.KEY_START_STATE_LOADED 1).imageAllowed 0 1 = true ∧
    (mk0.setFld F.KEY_START_STATE_LOADED 1).imageAllowed 0 0 = false ∧
    (run (.imageWrite 0 1 img0) (mk0.setFld F.KEY_START_STATE_LOADED 1)).tg.writing[1] = some img0 ∧
    (run (.imageWriteDone 1 true) wr0).imageB.generation = 4 ∧
    (run (.imageWriteDone 1 false) wr0).imageB.signer = none := by
  decide +kernel

def busy0 : State := s0.setSession 3 { isOpen := true, dspWrites := 5, refused := 20 }

theorem test_auditSummaries : keysRise busy0.sess = true ∧ ((run .auditSummaryMinute busy0).session 3).dspWrites = 0 ∧
    (∃ e ∈ busy0.sess, 16 < e.2.refused) ∧ (run .auditSummarySecond busy0).bit F.TG_FLAGS_AUDIT_SUMMARY = true := by
  decide +kernel

def closed0 : State := { s0 with ldg := {}, startAt := some 0 }

theorem test_ledgerOpen : closed0.ldg.opened = false ∧ closed0.startAt ≠ none ∧
    (run (.ledgerOpen (Vector.replicate 2 ⟨true, 1792, 0, false⟩) true) closed0).ldg.opened = true := by
  decide +kernel

def lrec : LedgerRec := { kind := 0x21, urgent := true, state := false, seq := 0, sec := 0, ns := 0, keyv := 0, body := [1], chain := 0 }
def log0 : State := { s0.setFld F.LDG_STATE_FLASH_OK 3 with ldg := { s0.ldg with buffer := [(lrec, 0)] } }

theorem test_ledgerProgramDone : log0.ldg.opened = true ∧ log0.flashOk 0 = true ∧ log0.nextRecord 0 = some lrec ∧
    ((log0.ldg.flashes[0]).place lrec 0).map (fun e => e.2) = some 0 := by decide +kernel

def old2 : LogFlash := { total := 64, head := some 1, segs := [(0, { segSeq := 1, erased := false }), (1, { segSeq := 2, erased := false })] }
def full2 : State := { log0 with ldg := { log0.ldg with flashes := #v[{ old2 with total := 3 }, {}] } }

theorem test_ledgerEraseDone : full2.flashOk 0 = true ∧ (full2.ldg.flashes[0]).ahead ≤ 2 ∧
    (full2.ldg.flashes[0]).oldest = some 0 := by
  decide +kernel

theorem test_ledgerSeal : 4096 ≤ ({ s0 with ldg := { s0.ldg with sinceSeal := 4096 } } : State).ldg.sinceSeal ∧
    (run .ledgerSeal { s0 with ldg := { s0.ldg with sinceSeal := 4096 } }).ldg.sinceSeal = 0 := by decide +kernel

theorem test_ldgSeqRead : mk0.reader 0 = true ∧
    (run (.ldgSeqRead 0) (mk0.setReg .LDG_SEQ 1 0 8)).shadow 0 .LDG_SEQ 1 0 = 8 := by
  decide +kernel

theorem test_replan : s0.almWorks = true ∧ (ses .installer s0).MayWrite 0 .ALM_CMD 0 ∧ bitOf 1 0 = true ∧
    { s0 with units := [(unitKey 6 3 0 false, { restarting := true })] }.almWorks = false ∧
    (run .almanacReplan { s0 with units := [(unitKey 6 3 0 false, { restarting := true })] }).alm.replanWaits = true ∧
    (run (.replan 0 1) { ses .installer s0 with units := [(unitKey 6 3 0 false, { retired := true })] }).alm.replanWaits = true ∧
    (run (.replan 0 2) (ses .installer s0)).alm = s0.alm := by
  unfold State.MayWrite; decide +kernel

theorem test_oscMeasure : (s0.setBit F.TB_STATE_QUAL true 0).bit F.TB_STATE_QUAL 0 = true ∧
    s0.fld F.TB_INC_NS_NS 0 = 4 ∧
    (s0.tb 0).incFrac = 0 := by decide +kernel

theorem test_baselineRefresh : s0.sup.inReset = false ∧ s0.almWorks = true ∧
    (run .baselineRefresh s0).ldg.buffer = [] := by decide +kernel

theorem test_almCfgWrite : mk0.MayStore 0 .ALM_CFG 0 0 0x19323C55 ∧ mk0.MayStore 0 .ALM_CFG2 0 0 0x0A20 ∧
    bitsGet (mk0.newWord .ALM_CFG 0 0 0x19323C55) 8 8 < bitsGet (mk0.newWord .ALM_CFG 0 0 0x19323C55) 0 8 ∧
    bitsGet (mk0.newWord .ALM_CFG 0 0 0x19325050) 0 8 ≤ bitsGet (mk0.newWord .ALM_CFG 0 0 0x19325050) 8 8 ∧
    (run (.almCfgWrite 0 false 0x19325050) mk0).resp = .refused ∧
    (run (.almCfgWrite 0 true 0x0A20) mk0).reg .ALM_CFG2 = 0x0A20 := by
  unfold State.MayStore State.MayWrite; decide +kernel

theorem test_shedLevelRise : s0.fld F.ALM_CFG_LOAD_HI ≤ 85 ∧ s0.alm.riseAt = none ∧ s0.overridden .level 0 = false ∧
    s0.fld F.ALM_STATE_LEVEL = s0.alm.planLevel ∧ (run (.shedLevelRise (.load 85)) s0).alm.planLevel = 1 ∧
    (run (.shedLevelRise (.load 84)) s0).alm.planLevel = 0 := by decide +kernel

def lateAlm : State := { s0 with alm := { s0.alm with lateStep := true, warns := 4, riseAt := some 3999999999 } }

theorem test_shedLevelRise_causes : (run (.shedLevelRise .lateStep) { lateAlm with alm := { lateAlm.alm with riseAt := none } }).alm.lateStep = false ∧
    bitOf lateAlm.alm.warns 2 = true ∧ (run (.shedLevelRise (.warn 2)) lateAlm).alm.warns = 0 ∧
    (run (.shedLevelRise (.warn 2)) lateAlm).alm.planLevel = 1 ∧
    (run (.shedLevelRise .lateStep) lateAlm).alm.planLevel = 0 := by decide +kernel

def shed0 : State := { s0 with alm := { s0.alm with planLevel := 2, bulkAt := some 0 }, osc := 10 ^ 12 }

theorem test_shedEnds : shed0.alm.planLevel ≠ 0 ∧ shed0.alm.lateStep = false ∧ shed0.alm.warns = 0 ∧
    shed0.elapsed shed0.alm.lowAt 600000000000 = true ∧ (run .shedLevelFall shed0).alm.planLevel = 1 ∧
    (run .bulkShedEnd shed0).bit F.ALM_FLAGS_RESTORE = true := by decide +kernel

def ovr0 : State := (mk0.setFld F.ALM_OVR_VAL_VALUE 3).setFld F.ALM_OVR_VAL_HOURS 720

theorem test_almOverride : ovr0.MayWrite 0 .ALM_OVR 0 ∧ almItemOf 0x10 = some .level ∧
    ovr0.fld F.ALM_OVR_VAL_VALUE = 3 ∧
    ovr0.overrideFits .level 0 3 = true ∧ ovr0.fld F.ALM_OVR_VAL_HOURS = 720 ∧ ovr0.alm.overrides.length < 16 ∧
    (run (.almOverride 0 0x10 0 0xA1C7) ovr0).overridden .level 0 = true ∧
    (run (.almOverride 0 0x10 0 0xA1C6) ovr0).resp = .refused ∧
    ovr0.overrideFits .level 0 6 = false := by unfold State.MayWrite; decide +kernel

def end0 : State := { ovr0.setFld F.ALM_OVR_VAL_VALUE 0xFFFF with alm := { ovr0.alm with overrides := [⟨0x10, 0, 3, 5⟩] } }

theorem test_almOverride_end : end0.fld F.ALM_OVR_VAL_VALUE = 0xFFFF ∧ end0.overridden .level 0 = true ∧
    (run (.almOverride 0 0x10 0 0xA1C7) end0).overridden .level 0 = false ∧ end0.present 1 = true ∧
    (run (.almOverride 0 0x10 0 0xA1C7) (ovr0.setFld F.ALM_OVR_VAL_VALUE 0xFFFF)).resp = .refused := by decide +kernel

def exp0 : State := { s0 with alm := { s0.alm with overrides := [⟨0x10, 0, 3, 5⟩] } }

theorem test_overrideExpiry : (⟨0x10, 0, 3, 5⟩ : Override) ∈ exp0.alm.overrides ∧ 5 ≤ exp0.now ∧
    almItemOf 0x10 = some .level ∧
    (run .overrideExpiry exp0).alm.overrides = [] := by decide +kernel

/-! ### Registers by address, steps, and well-formed commands -/

theorem test_regWrite : regAt (regAddr .COM_SESS_CFG 0 0) = some (.COM_SESS_CFG, 0, 0) ∧
    (ses .installer s0).MayStore 0 .COM_SESS_CFG 0 0 0 ∧
    regAt (regAddr .COM_STATE 0 0) = some (.COM_STATE, 0, 0) ∧
    (run (.regWrite 0 (BitVec.ofNat _ (regAddr .COM_STATE 0 0)) 5) (ses .installer s0)).resp = .ok 5 ∧
    ({ s0 with tg := { s0.tg with halted := [3] } } : State).reader 259 = false := by
  unfold State.MayStore State.MayWrite; decide +kernel

theorem test_w1cClear : regAt (regAddr .COM_FLAGS 0 0) = some (.COM_FLAGS, 0, 0) ∧ w1cBits .COM_FLAGS ≠ 0 ∧
    (ses .operator s0).MayWrite 0 .COM_FLAGS 0 ∧
    (run (.w1cClear 0 (BitVec.ofNat _ (regAddr .COM_FLAGS 0 0)) 3 2) ((ses .operator s0).setReg .COM_FLAGS 0 0 7)).reg .COM_FLAGS = 6 := by
  unfold State.MayWrite; decide +kernel

theorem test_unlisted : (ses .operator s0).unlisted 0x1003F00001 = true ∧ (ses .operator s0).unlisted 0 = false ∧
    (ses .operator s0).unlisted 0x1FFFFFFFFC = true ∧ s0.reader 383 = true ∧
    (run (.regWrite 0 0x1FFFFFFFFC 5) (ses .operator s0)).resp = .error := by decide +kernel

theorem test_refusedWrite : ((ses .operator s0).session 0).isOpen = true ∧
    ((ses .operator s0).session 0).role ∉ regRoles .LDG_CFG 0 ∧ (regInfo .LDG_CFG).chan = false ∧
    ((ses .operator s0).session 0).refused < 16 := by decide +kernel

theorem test_reportRegisters : regRoles .EST_CTR_SOC 0 = [] ∧ writeFields .SSI_LAST = [] := by decide +kernel

/-- Spec chapter 15, Registers: the maker writes time bases 0 to 3, the installer 4 to 7. -/
theorem test_timeBaseRoles : regRoles .TB_CMD 3 = [.maker] ∧ regRoles .TB_CMD 4 = [.installer] := by decide

theorem test_storedField : (0x79 : Nat) < 2 ^ 32 ∧ ⟨16, 8, .rw, false, 1, 100⟩ ∈ writeFields .HR_CHAIN_CFG ∧
    writeWord (writeFields .HR_CHAIN_CFG) 0xA0000 0x00FF0002 = 0x640000 := by decide +kernel

/-- A handshake with the maker's anchor while a maker session is open. -/
def hsMaker : Handshake := { cookie := true, sigsOk := true, chain := [⟨0, 100, 5⟩], anchor := Config.makerAnchor, roleExt := 3, certId := 9 }
def mkSess : State := mk0.setBit F.TG_STATE_MAKER_SESS true

theorem test_secondMaker : mkSess.bit F.TG_STATE_MAKER_SESS = true ∧ mkSess.com.hsTimes = [] ∧
    0 < mkSess.fld F.COM_SESS_CFG_HS_RATE ∧
    (mkSess.session 1).isOpen = false ∧ mkSess.phaseTakes .maker = true := by decide +kernel

theorem test_secondMaker_proved : mkSess.proved hsMaker = some .maker := by
  have h : ∀ s : State, s.tbSec 0 = 0 → s.charter.revoked = [] → s.proved hsMaker = some .maker := by
    intro s h0 h1
    simp [State.proved, roleOf, State.anchored, hsMaker, h0, h1]
  exact h _ (by decide +kernel) (by decide +kernel)

theorem test_stepIdle : s0.pending = [] ∧ s0.startAt ≠ none ∧ (s0.tb 0).apply = none ∧ (s0.tb 0).left = 0 ∧
    (s0.tb 0).incFrac < 2 ^ 32 ∧
    0 * 2 ^ 32 + 0 + s0.fld F.TB_INC_NS_NS 0 * 2 ^ 32 + 0 = 4 * 2 ^ 32 := by decide +kernel

theorem test_stepIdle_next : (nextOf (step State.reset)).osc = 1 ∧ (nextOf (step State.reset)).tbs = [] := by
  decide +kernel

theorem test_wrap : 1000000000 * 2 ^ 32 ≤ 999999999 * 2 ^ 32 + 0 + 4 * 2 ^ 32 + 0 := by decide

/-- Every check of WellFormed takes one command and refuses its neighbour. -/
theorem test_wellFormed_site : (Instr.hsTimeout ⟨2, 7, 3, false⟩ 0).wellFormed = true ∧
    (Instr.hsTimeout ⟨2, 8, 0, false⟩ 0).wellFormed = false ∧
    (Instr.restartFail ⟨2, 7, 4, false⟩).wellFormed = false ∧
    (Instr.restartComplete ⟨2, 8, 0, false⟩).wellFormed = false ∧
    (Instr.contWindowEnd ⟨2, 8, 0, false⟩).wellFormed = false ∧
    (Instr.tileErrorDetected ⟨2, 8, 0, false⟩ .sramSbe 0 0).wellFormed = false := by
  decide +kernel

def shortRun : CalRun := { calRun0 with offset := [] }
def badImage : Image := { header := List.replicate 127 0 }

theorem test_wellFormed_formats : (Instr.calDone 0 0 (Vector.replicate 4 calRun0)).wellFormed = true ∧
    (Instr.calDone 0 0 (Vector.replicate 4 shortRun)).wellFormed = false ∧
    (Instr.sweepFrameRx 0 false 0 true (List.replicate 16 (slot0 true))).wellFormed = true ∧
    (Instr.sweepFrameRx 0 false 0 true (List.replicate 17 (slot0 true))).wellFormed = false ∧
    (Instr.adcGroupTrigger 1).wellFormed = true ∧ (Instr.adcGroupTrigger 0).wellFormed = false ∧
    (Instr.grpStampRead 0 1).wellFormed = true ∧ (Instr.grpStampRead 0 0).wellFormed = false ∧
    (Instr.sessionHandshake hsMaker).wellFormed = true ∧
    (Instr.sessionHandshake { hsMaker with chain := [] }).wellFormed = false ∧
    (Instr.imageWrite 0 0 img0).wellFormed = true ∧ (Instr.imageWrite 0 0 badImage).wellFormed = false ∧
    (Instr.shedLevelRise (.load 100)).wellFormed = true ∧ (Instr.shedLevelRise (.load 101)).wellFormed = false := by
  decide +kernel

theorem test_wellFormed_payload : (Instr.frameEnqueue 0 0 0 0 0 (List.replicate 1536 0)).wellFormed = true ∧
    (Instr.frameEnqueue 0 0 0 0 0 (List.replicate 1537 0)).wellFormed = false ∧
    (Instr.spanFrameRx true true 0 0 (spf 1 0 (List.replicate 528 0))).wellFormed = true ∧
    (Instr.spanFrameRx true true 0 0 (spf 1 0 (List.replicate 529 0))).wellFormed = false := by decide +kernel

/-- No row of the table has bits: no word spells a command. -/
theorem test_noWords (nbits w : Nat) : decodeTableWord nbits w = none := rfl

end Sys2Proof.Tests
end

/-! Lemmas and proofs of the statements about whole accesses (spec chapter 00): the address map, refusals and frames. -/

namespace Sys2Proof.Machine

set_option exponentiation.threshold 1200

/-! ### Frames as statements say them -/

/-- A mask built by setting one bit for each member of a list. -/
theorem testBit_foldl_or_two_pow {α : Type} (f : α → Nat) (l : List α) (m n : Nat) :
    (l.foldl (fun m x => m ||| 2 ^ f x) m).testBit n = (m.testBit n || l.any fun x => f x == n) := by
  induction l generalizing m with
  | nil => simp
  | cons x l ih => rw [List.foldl_cons, ih, Nat.testBit_or, Nat.testBit_two_pow, List.any_cons, Bool.or_assoc]; rfl

theorem testBit_regMask (rs : List RegName) (n : Nat) :
    (regMask rs).testBit n = rs.any fun r => r.ctorIdx == n := by
  rw [regMask, testBit_foldl_or_two_pow, Nat.zero_testBit, Bool.false_or]

theorem testBit_partMask (ps : List Part) (n : Nat) :
    (partMask ps).testBit n = ps.any fun p => 1001 + p.ctorIdx == n := by
  rw [partMask, testBit_foldl_or_two_pow (fun p : Part => 1001 + p.ctorIdx), Nat.zero_testBit, Bool.false_or]

theorem testBit_regMask_of_notMem {rs : List RegName} {r : RegName} (h : r ∉ rs) :
    (regMask rs).testBit r.ctorIdx = false := by
  rw [testBit_regMask, List.any_eq_false]
  exact fun r' hr' e => h (regName_ctorIdx_inj (beq_iff_eq.mp e) ▸ hr')

/-- The bit of the Granary lies above those of the registers. -/
theorem testBit_regMask_granary (rs : List RegName) : (regMask rs).testBit 1000 = false := by
  rw [testBit_regMask, List.any_eq_false]
  exact fun r _ e => (ctorIdx_lt r).ne (beq_iff_eq.mp e)

/-- The bits of the parts lie above those of the registers and the Granary. -/
theorem testBit_partMask_of_le (ps : List Part) {n : Nat} (hn : n ≤ 1000) : (partMask ps).testBit n = false := by
  rw [testBit_partMask, List.any_eq_false]
  intro p _ e
  have := beq_iff_eq.mp e
  omega

/-- A frame of registers and parts leaves every other register and the Granary. -/
theorem State.Framed.onlyRegs {rs : List RegName} {ps : List Part} {s t : State}
    (h : State.Framed (regMask rs ||| partMask ps) s t) : s.OnlyRegs rs t := by
  refine ⟨fun r i j hr => h.reg r i j ?_, fun a => ?_⟩
  · rw [Nat.testBit_or, testBit_regMask_of_notMem hr, testBit_partMask_of_le ps (ctorIdx_lt r).le, Bool.or_false]
  · rw [h.mem (by rw [Nat.testBit_or, testBit_regMask_granary, testBit_partMask_of_le ps le_rfl, Bool.or_false])]

/-! ### Sessions, refusals and their records (R21, R647) -/

@[simp] theorem State.session_setSession_same (s : State) (k : Nat) (x : Sess) : (s.setSession k x).session k = x :=
  sparseGet_set_same s.sess {} k x

/-- The record of an open session notes when it was last heard. -/
theorem State.touch_of_open {s : State} {k : Nat} (h : (s.session k).isOpen = true) :
    s.touch k = s.setSession k { s.session k with lastAt := s.now } := if_pos h

/-- A session without the role that LK names is refused with result 1, before any other ground is looked at. -/
theorem State.writeResult_of_otherRole {s : State} {k : Nat} {r : RegName} {i : Nat} (j new : Nat) (ok : Bool)
    (h : (s.session k).role ∉ regRoles r i) : s.writeResult k r i j new ok = 1 := if_pos (.inr h)

/-- The record that an event appends to the Ledger's buffer. -/
theorem State.ledger_appends (s : State) (kind : Nat) (body : List Nat) :
    ∃ e, (s.ledger kind body).ldg.buffer = s.ldg.buffer ++ [e] ∧ e.1.kind = kind ∧ e.1.body = body :=
  ⟨_, rfl, rfl, rfl⟩

/-- Up to 16 refusals of a session in a second are recorded (R647). -/
theorem State.auditRefused_appends {s : State} {k : Nat} (result addr old new : Nat) (h : (s.session k).refused < 16) :
    ∃ e, (s.auditRefused k result addr old new).ldg.buffer = s.ldg.buffer ++ [e] ∧ e.1.kind = 0x10 ∧
      e.1.body = s.auditBody k result addr old new := by
  unfold State.auditRefused
  rw [if_pos h]
  exact State.ledger_appends ..

theorem State.auditWrite_of_refused {s : State} {k : Nat} {r : RegName} {result : Nat} (i j new : Nat)
    (hr : r ≠ .DSP_REQ) (h : result ≠ 0) :
    s.auditWrite k r i j result new = s.auditRefused k result (regAddr r i j) (s.reg r i j) new := by
  unfold State.auditWrite
  rw [if_neg hr, if_neg h]

/-- A one-bit field depends on its own register alone. -/
theorem State.bit_of_reg_eq {s t : State} (f : Fld) {i j : Nat} (h : t.reg f.reg i j = s.reg f.reg i j) :
    t.bit f i j = s.bit f i j := by
  unfold State.bit State.fld
  rw [h]

/-- A refusal leaves WRITE_REFUSED set: its record writes the Ledger's registers only. -/
theorem State.refuse_flags (s : State) (k : Nat) (r : RegName) (i j result new : Nat) :
    (s.refuse k r i j result new).bit F.TG_FLAGS_WRITE_REFUSED = true := by
  have hflag := s.bit_flag F.TG_FLAGS_WRITE_REFUSED 0 (by unfold Fld.Fits; decide) rfl
  have haudit := (State.auditWrite_framed k r i j result new (W := State.auditWrite_writes) (Nat.and_self _)
    (.refl (s.flag F.TG_FLAGS_WRITE_REFUSED))).reg .TG_FLAGS 0 0 (by decide)
  exact (State.bit_of_reg_eq F.TG_FLAGS_WRITE_REFUSED haudit).trans hflag

/-- A refused write of a register other than TG_FLAGS is recorded with the word that stands and the word that was
written. -/
theorem State.refuse_appends {s : State} {k : Nat} {r : RegName} {result : Nat} (i j new : Nat) (hr : r ≠ .DSP_REQ)
    (hf : r ≠ .TG_FLAGS) (h : result ≠ 0) (hk : (s.session k).refused < 16) :
    ∃ e, (s.refuse k r i j result new).ldg.buffer = s.ldg.buffer ++ [e] ∧ e.1.kind = 0x10 ∧
      e.1.body = s.auditBody k result (regAddr r i j) (s.reg r i j) new := by
  have hreg : (s.flag F.TG_FLAGS_WRITE_REFUSED).reg r i j = s.reg r i j := s.reg_setReg_ne _ (.inl hf)
  unfold State.refuse
  rw [State.auditWrite_of_refused i j new hr h, hreg]
  exact State.auditRefused_appends (s := s.flag F.TG_FLAGS_WRITE_REFUSED) result _ _ new hk

/-- A refused write writes WRITE_REFUSED and the Ledger's own registers only. -/
theorem State.refuse_onlyRegs {s o : State} (k : Nat) (r : RegName) (i j result new : Nat)
    (h : State.Framed (regMask [.TG_FLAGS, .LDG_SEQ, .LDG_STATE] ||| partMask [.resp, .sess, .ldg]) o s) :
    o.OnlyRegs [.TG_FLAGS, .LDG_SEQ, .LDG_STATE] (s.refuse k r i j result new) :=
  (State.refuse_framed k r i j result new (by decide) h).onlyRegs

@[simp] theorem State.reg_setSession (s : State) (k : Nat) (x : Sess) (r : RegName) (i j : Nat) :
    (s.setSession k x).reg r i j = s.reg r i j := rfl

/-- What a write by a session without the named role comes to: its refusal. -/
theorem State.sessionWrite_of_otherRole {s : State} {k : Nat} {r : RegName} {i : Nat} (j value : Nat) (ok : Nat → Bool)
    (after : State → State) (ho : (s.session k).isOpen = true) (hr : (s.session k).role ∉ regRoles r i)
    (hh : s.regHeld r i = false) (hs : s.sup.inReset = false) (hp : (regInfo r).chan = true → s.present i = true) :
    s.sessionWrite k r i j value ok after = (s.touch k).refuse k r i j 1 (s.newWord r i j value) := by
  have hrole : ((s.touch k).session k).role ∉ regRoles r i := by
    rwa [State.touch_of_open ho, State.session_setSession_same]
  have hreset : ¬ (s.touch k).sup.inReset = true := by
    rw [State.touch_of_open ho, State.setSession_sup, hs]
    exact Bool.false_ne_true
  have hpres : ¬ ((regInfo r).chan = true ∧ ¬ (s.touch k).present i = true) := by
    rw [State.touch_of_open ho]
    exact fun h => h.2 (hp h.1)
  have hheld : ¬ (s.touch k).regHeld r i = true := by
    rw [State.touch_of_open ho]
    exact ne_true_of_eq_false hh
  have hnew : (s.touch k).newWord r i j value = s.newWord r i j value := by rw [State.touch_of_open ho]; rfl
  unfold State.sessionWrite
  simp only [if_neg hreset, if_neg hpres, if_neg hheld, State.writeResult_of_otherRole j _ _ hrole, hnew]
  exact if_pos Nat.one_ne_zero

/-- Settles O55: the write comes to a refusal, whose flag, record and frame are the lemmas above. -/
theorem aWriteByAnotherRoleIsRefused : Obligations.AWriteByAnotherRoleIsRefused := by
  intro s k r i j value ok after ho hrole hflags hseq hstate hheld hreset hpres
  rw [State.sessionWrite_of_otherRole j value ok after ho hrole hheld hreset hpres]
  have honly := State.refuse_onlyRegs k r i j 1 (s.newWord r i j value) (State.touch_framed k (by decide) (.refl s))
  refine ⟨honly.1 r i j (by simp [hflags, hseq, hstate]), rfl, State.refuse_flags .., fun hreq hcount => ?_, honly⟩
  have hrec := State.refuse_appends (s := s.touch k) i j (s.newWord r i j value) hreq hflags Nat.one_ne_zero
    (by rwa [State.touch_of_open ho, State.session_setSession_same])
  rw [State.touch_of_open ho] at hrec ⊢
  simpa [State.auditBody] using hrec

/-! ### Addresses that the map does not list (R17) -/

/-- Every register's place and strides are whole words (R16, R689). -/
theorem regInfo_aligned (r : RegName) :
    4 ∣ (regInfo r).region.base + (regInfo r).off ∧ 4 ∣ (regInfo r).si ∧ 4 ∣ (regInfo r).sj := by
  cases r <;> decide

/-- A register of indices i and j lies i and j of its strides after its place (R689). -/
theorem RegInfo.address_of_indexAt {f : RegInfo} {a i j : Nat} (h : f.indexAt a = some (i, j)) :
    a = f.region.base + f.off + (f.si * i + f.sj * j) := by
  unfold RegInfo.indexAt at h
  obtain ⟨⟨hle, hsum, -⟩, hij⟩ := Option.ite_none_right_eq_some.mp h
  obtain ⟨hi, hj⟩ := Prod.mk.inj (Option.some.inj hij)
  rw [hi, hj] at hsum
  rw [hsum, Nat.add_sub_cancel' hle]

/-- No register lies at a misaligned address. -/
theorem regAt_of_misaligned {a : Nat} (h : ¬ 4 ∣ a) : regAt a = none := by
  refine List.findSome?_eq_none_iff.mpr fun r _ => ?_
  cases e : (regInfo r).indexAt a with
  | none => rfl
  | some ij =>
    obtain ⟨hbase, hsi, hsj⟩ := regInfo_aligned r
    have hij : 4 ∣ (regInfo r).si * ij.1 + (regInfo r).sj * ij.2 := (hsi.mul_right _).add (hsj.mul_right _)
    exact absurd (RegInfo.address_of_indexAt e ▸ hbase.add hij) h

/-- No register lies at an unlisted address. -/
theorem State.regAt_of_unlisted {s : State} {a : Nat} (h : s.unlisted a = true) : regAt a = none := by
  unfold State.unlisted at h
  rcases Bool.or_eq_true_iff.mp h with hmis | hfree
  · exact regAt_of_misaligned fun hd => (bne_iff_ne.mp hmis) (Nat.mod_eq_zero_of_dvd hd)
  · simp only [Bool.and_eq_true, Option.isNone_iff_eq_none] at hfree
    exact hfree.1.1

@[simp] theorem State.unlisted_setSession (s : State) (k : Nat) (x : Sess) (a : Nat) :
    (s.setSession k x).unlisted a = s.unlisted a := rfl

/-- An engine's write at an unlisted address. -/
theorem execRegWrite_engine_unlisted {s : State} {a : Addr} {who : Fin 384} (v : Word) (h : s.unlisted a.toNat = true)
    (hw : 256 ≤ who.val) (hr : s.reader who = true) :
    execRegWrite who a v s = .next (s.answer .error) := by
  unfold execRegWrite
  simp [hw, hr, State.regAt_of_unlisted h, h]

/-- An open session's write at an unlisted address. -/
theorem execRegWrite_session_unlisted {s : State} {a : Addr} {who : Fin 384} {k : Fin 256} (v : Word)
    (h : s.unlisted a.toNat = true) (hk : who.val = k.val) (ho : (s.session k).isOpen = true) :
    execRegWrite who a v s = .next ((s.touch k).answer .error) := by
  have hwho : Fin.ofNat 256 who.val = k := Fin.ext (by rw [Fin.val_ofNat, hk, Nat.mod_eq_of_lt k.isLt])
  have hlow : ¬ 256 ≤ who.val := by omega
  unfold execRegWrite
  simp only [hwho, State.touch_of_open ho]
  simp [hlow, ho, State.regAt_of_unlisted h, h]

/-- A session's W1C clear at an unlisted address. -/
theorem execW1cClear_unlisted {s : State} {a : Addr} (k : Fin 256) (v arr : Word) (h : s.unlisted a.toNat = true) :
    execW1cClear k a v arr s = .next ((s.touch k).answer .error) := by
  unfold execW1cClear
  simp [State.regAt_of_unlisted h]

/-- Noting the time of a session's access and answering it changes nothing else. -/
theorem State.touch_answer_keeps {s : State} {k : Nat} (x : Resp) (ho : (s.session k).isOpen = true) :
    ((s.touch k).answer x).resp = x ∧ ((s.touch k).answer x).regs = s.regs ∧ ((s.touch k).answer x).mem = s.mem ∧
      ((s.touch k).answer x).ldg = s.ldg ∧ ((s.touch k).answer x).outbox = s.outbox := by
  rw [State.touch_of_open ho]
  exact ⟨rfl, rfl, rfl, rfl, rfl⟩

/-- Settles O56: no register lies at an unlisted address, so each access is answered with an error alone. -/
theorem unlistedAddressesAnswerAnError : Obligations.UnlistedAddressesAnswerAnError := by
  intro s a v arr h
  refine ⟨fun who hw hr => ⟨_, execRegWrite_engine_unlisted v h hw hr, rfl⟩, fun who k hk ho => ⟨?_, ?_⟩⟩
  · exact ⟨_, execRegWrite_session_unlisted v h hk ho, State.touch_answer_keeps .error ho⟩
  · exact ⟨_, execW1cClear_unlisted k v arr h, State.touch_answer_keeps .error ho⟩

end Sys2Proof.Machine

/-! Lemmas and proofs of the statement about register writes by address (spec chapter 01): storing, read-only registers
and W1C bits. -/

namespace Sys2Proof.Machine

set_option exponentiation.threshold 1200

/-! ### Bits and masks -/

theorem bitOf_eq_testBit (w b : Nat) : bitOf w b = w.testBit b := by
  rw [Nat.testBit_eq_decide_div_mod_eq]
  rfl

theorem bitOf_mod_two_pow (w : Nat) {n b : Nat} (hb : b < n) : bitOf (w % 2 ^ n) b = bitOf w b := by
  simp [bitOf_eq_testBit, Nat.testBit_mod_two_pow, hb]

theorem bitOf_and (v w b : Nat) : bitOf (v &&& w) b = (bitOf v b && bitOf w b) := by
  simp only [bitOf_eq_testBit, Nat.testBit_and]

/-- Setting bit x sets it and leaves every other bit. -/
theorem bitOf_bitPut_true (w x b : Nat) : bitOf (bitPut w x true) b = (b == x || bitOf w b) := by
  have hget (u : Nat) : bitOf u b = (bitsGet u b 1 == 1) := rfl
  rw [hget, hget]
  by_cases hbx : b = x
  · subst hbx
    rw [bitPut, bitsGet_bitsSet_same, beq_self_eq_true, Bool.true_or]
    rfl
  · rw [bitPut, bitsGet_bitsSet_ne _ _ _ _ _ _ (by omega), beq_false_of_ne hbx, Bool.false_or]

theorem mem_bitList {n m b : Nat} : b ∈ bitList n m ↔ b < n ∧ bitOf m b = true := by
  rw [bitList, List.mem_filter, List.mem_range]

theorem bitOf_maskOf (l : List Nat) (b : Nat) : bitOf (maskOf l) b = decide (b ∈ l) := by
  rw [bitOf_eq_testBit, maskOf, testBit_foldl_or_two_pow (fun x : Nat => x), Nat.zero_testBit, Bool.false_or,
    List.any_beq', List.contains_eq_mem]

/-- The difference of two masks, bit by bit. -/
theorem bitOf_maskDiff {n b : Nat} (m c : Nat) (hb : b < n) :
    bitOf (maskDiff n m c) b = (bitOf m b && !bitOf c b) := by
  rw [maskDiff, bitOf_maskOf, Bool.eq_iff_iff]
  simp [mem_bitList, hb]

/-! ### Words that a write leaves (R18, R34) -/

theorem writeFields_fit (r : RegName) : ∀ f ∈ writeFields r, f.lo + f.width ≤ 32 := by
  cases r <;> decide

theorem writeWord_lt {n : Nat} {fs : List WField} (h : ∀ f ∈ fs, f.lo + f.width ≤ n) {old : Nat} (value : Nat)
    (hold : old < 2 ^ n) : writeWord fs old value < 2 ^ n := by
  induction fs generalizing old with
  | nil => exact hold
  | cons f fs ih =>
    exact ih (fun g hg => h g (List.mem_cons_of_mem f hg)) (bitsSet_lt _ _ _ _ n hold (h f List.mem_cons_self))

theorem fixWord_lt (v : Variant) (r : RegName) (old : Nat) {w : Nat} (hw : w < 2 ^ 32) :
    fixWord v r old w < 2 ^ 32 := by
  unfold fixWord
  split
  · dsimp only
    split
    · exact bitsSet_lt _ _ _ _ 32 hw (by decide)
    · exact hw
  · have hgood : (if bitsGet w 8 8 < bitsGet w 0 8 + 10 then bitsSet w 8 8 (bitsGet w 0 8 + 10) else w) < 2 ^ 32 := by
      split
      · exact bitsSet_lt _ _ _ _ 32 hw (by decide)
      · exact hw
    dsimp only
    split
    · exact hgood
    · exact bitsSet_lt _ _ _ _ 32 hgood (by decide)
  · exact hw

/-- The word that a session's write leaves fits its register. -/
theorem State.newWord_lt (s : State) (r : RegName) (i j value : Nat) : s.newWord r i j value < 2 ^ 32 :=
  fixWord_lt _ r _ (writeWord_lt (writeFields_fit r) value (s.reg_lt r i j))

/-! ### Frames of a list of registers -/

theorem subMask_or_left (a b : Nat) : SubMask a (a ||| b) := by
  refine Nat.eq_of_testBit_eq fun n => ?_
  rw [Nat.testBit_and, Nat.testBit_or]
  cases a.testBit n <;> rfl

theorem subMask_or_right (a b : Nat) : SubMask b (a ||| b) := Nat.or_comm a b ▸ subMask_or_left b a

/-- A frame of more registers includes one of fewer. -/
theorem subMask_of_regs_subset {rs rs' : List RegName} (ps : List Part) (h : rs ⊆ rs') :
    SubMask (regMask rs ||| partMask ps) (regMask rs' ||| partMask ps) := by
  refine Nat.eq_of_testBit_eq fun n => ?_
  have hregs : (regMask rs).testBit n = true → (regMask rs').testBit n = true := by
    rw [testBit_regMask, testBit_regMask, List.any_eq_true, List.any_eq_true]
    exact fun ⟨r, hr, e⟩ => ⟨r, h hr, e⟩
  rw [Nat.testBit_and, Nat.testBit_or, Nat.testBit_or, Bool.and_eq_left_iff_imp, Bool.or_eq_true, Bool.or_eq_true]
  exact Or.imp_left hregs

/-! ### Sessions that may write -/

/-- Noting the time of a session's access leaves what it may write. -/
theorem State.MayWrite.touch {s : State} {k : Nat} {r : RegName} {i : Nat} (h : s.MayWrite k r i) :
    (s.touch k).MayWrite k r i := by
  obtain ⟨hopen, hrole, hrest⟩ := h
  rw [State.touch_of_open hopen]
  refine ⟨?_, ?_, ?_⟩
  · rwa [State.session_setSession_same]
  · rwa [State.session_setSession_same]
  · rw [State.session_setSession_same]
    exact hrest

theorem State.MayStore.touch {s : State} {k : Nat} {r : RegName} {i j value : Nat} (h : s.MayStore k r i j value) :
    (s.touch k).MayStore k r i j value := by
  obtain ⟨hmay, hadj⟩ := h
  refine ⟨hmay.touch, ?_⟩
  rw [State.touch_of_open hmay.1, State.session_setSession_same]
  exact hadj

/-- A write that a session may store has result 0 when the register's own constraint holds. -/
theorem State.MayStore.writeResult {s : State} {k : Nat} {r : RegName} {i j value : Nat}
    (h : s.MayStore k r i j value) : s.writeResult k r i j (s.newWord r i j value) true = 0 := by
  obtain ⟨⟨hopen, hrole, hsafe, hmaker, -⟩, hadj⟩ := h
  unfold State.writeResult
  rw [if_neg (by simp [hopen, hrole]), if_neg (by simp [hsafe]), if_neg (by simpa using hmaker)]
  by_cases hinst : (s.session k).role = .installer
  · simp [hinst, hadj hinst]
  · simp [hinst]

/-- A write that a session may store is accepted, stored and followed by what its register asks. -/
theorem State.sessionWrite_of_mayStore {s : State} {k : Nat} {r : RegName} {i j value w : Nat} {ok : Nat → Bool}
    (after : State → State) (h : s.MayStore k r i j value) (hw : w = s.newWord r i j value) (hok : ok w = true) :
    s.sessionWrite k r i j value ok after = after (((s.touch k).accept k r i j w).setReg r i j w) := by
  have hres := h.touch.writeResult
  obtain ⟨-, -, -, -, hpres, hheld, hreset⟩ := h.touch.1
  have hnew : (s.touch k).newWord r i j value = w := by rw [State.touch_of_open h.1.1, hw]; rfl
  unfold State.sessionWrite
  simp only [hreset, hheld, hnew, hok] at hres ⊢
  rw [if_neg Bool.false_ne_true, if_neg fun hp => hp.2 (hpres hp.1), if_neg Bool.false_ne_true, hres]
  exact if_neg fun h0 => h0 rfl

/-- A record makes the Ledger's buffer one longer. -/
theorem State.ledger_length (s : State) (kind : Nat) (body : List Nat) :
    (s.ledger kind body).ldg.buffer.length = s.ldg.buffer.length + 1 := by
  obtain ⟨e, he, -⟩ := s.ledger_appends kind body
  rw [he, List.length_append, List.length_singleton]

/-- An accepted write of a register other than DSP_REQ is acknowledged, and recorded once. -/
theorem State.accept_keeps (s : State) (k : Nat) {r : RegName} (i j w : Nat) (hr : r ≠ .DSP_REQ) :
    (s.accept k r i j w).resp = .ok w ∧ (s.accept k r i j w).ldg.buffer.length = s.ldg.buffer.length + 1 := by
  unfold State.accept State.auditWrite
  rw [if_neg hr, if_pos rfl]
  exact ⟨rfl, State.ledger_length ..⟩

/-- An accepted and stored write changes its own register and the Ledger's. -/
theorem State.acceptStored_onlyRegs (s : State) (k : Nat) (r : RegName) (i j w : Nat) :
    s.OnlyRegs [r, .LDG_SEQ, .LDG_STATE] (((s.touch k).accept k r i j w).setReg r i j w) := by
  have hledger := subMask_of_regs_subset (rs := [.LDG_SEQ, .LDG_STATE]) (rs' := [r, .LDG_SEQ, .LDG_STATE])
    [.resp, .sess, .ldg] (List.subset_cons_self ..)
  have hown := subMask_of_regs_subset (rs := [r]) (rs' := [r, .LDG_SEQ, .LDG_STATE]) [.resp, .sess, .ldg] (by simp)
  exact (State.setReg_framed r i j w (hown.trans (subMask_or_left ..))
    (State.accept_framed k r i j w (hledger.trans (by decide))
      (State.touch_framed k (hledger.trans (by decide)) (.refl s)))).onlyRegs

/-- A write that a session may store, in a register that nothing follows, is stored as the statements say it. -/
theorem State.sessionWrite_stores {s : State} {k : Nat} {r : RegName} {i j value : Nat} {ok : Nat → Bool}
    (h : s.MayStore k r i j value) (hok : ok (s.newWord r i j value) = true) (hr : r ≠ .DSP_REQ) :
    s.Stored r i j value [] (s.sessionWrite k r i j value ok id) := by
  rw [State.sessionWrite_of_mayStore id h rfl hok]
  obtain ⟨hresp, hbuf⟩ := State.accept_keeps (s.touch k) k i j (s.newWord r i j value) hr
  refine ⟨?_, hresp, ?_, s.acceptStored_onlyRegs k r i j _⟩
  · rw [id, State.reg_setReg_same, Nat.mod_eq_of_lt (s.newWord_lt r i j value)]
  · rw [State.touch_of_open h.1.1] at hbuf ⊢
    exact hbuf

/-- Noting the time of a session's access before its write stores the same. -/
theorem State.Stored.of_touch {s t : State} {k : Nat} {r : RegName} {i j value : Nat} {rs : List RegName}
    (hopen : (s.session k).isOpen = true) (h : (s.touch k).Stored r i j value rs t) : s.Stored r i j value rs t := by
  rwa [State.touch_of_open hopen] at h

/-! ### Writes by address -/

/-- The device-wide registers whose writes have rows of their own. -/
def deviceRowRegs : List RegName :=
  [.KEY_RECOVER, .SUP_RESET_CMD, .SUP_FEED_CFG, .INS_BUS, .PROT_BUS_CFG, .EST_SOCLIM, .EST_VLIM, .EST_SWAP_CMD,
    .DSP_REQ, .DSP_ACK, .DSP_BAL_CFG, .DSP_BAL_CFG2, .DSP_REC_CMD, .INJ_CMD, .BF_SNAP_CMD, .TG_DEBUG, .TG_KEY_CMD,
    .ALM_CFG, .ALM_CFG2, .ALM_OVR, .ALM_CMD]

/-- The registers without a row of their own whose write has a condition or an effect beside the store. -/
def plainRuleRegs : List RegName :=
  [.HR_CFG, .EST_CFG, .COM_PORT_CFG, .ETH_CFG, .SPAN_CFG, .TB_SET_NS, .TB_SET_SEC_LO, .TB_SET_SEC_HI, .TB_SET_FRAC,
    .INJ_CFG, .INJ_CFG2, .MEAS_RTRIG, .MEAS_ITRIG, .MEAS_GRP]

theorem writeDevice_of_noRow {r : RegName} (k : Fin 256) (i j : Nat) (v : Word) (s : State) (h : r ∉ deviceRowRegs) :
    writeDevice k r i j v s = .next (s.plainWrite k r i j v.toNat) := by
  unfold writeDevice
  dsimp only
  split
  case h_22 => rfl
  all_goals exact (h (by decide)).elim

theorem State.plainWritten_of_noRule {r : RegName} (s : State) (i old : Nat) (h : r ∉ plainRuleRegs) :
    s.plainWritten r i old = s := by
  unfold State.plainWritten
  split
  case h_10 => rfl
  all_goals exact (h (by decide)).elim

theorem State.plainOk_of_noRule {r : RegName} (s : State) (new : Nat) (h : r ∉ plainRuleRegs) :
    s.plainOk r new = true := by
  unfold State.plainOk
  split
  case h_6 => rfl
  all_goals exact (h (by decide)).elim

/-- A read-only register ignores the write and answers it. -/
theorem State.plainWrite_readOnly {r : RegName} (s : State) (k i j value : Nat) (hw : w1cBits r = 0)
    (hf : writeFields r = []) : s.plainWrite k r i j value = s.answer (.ok value) := by
  unfold State.plainWrite
  rw [if_neg (not_not.mpr hw), if_pos hf]

/-- A register with writable fields, and no rule of its own, is stored. -/
theorem State.plainWrite_writable {r : RegName} (s : State) (k i j value : Nat) (hw : w1cBits r = 0)
    (hf : writeFields r ≠ []) (hr : r ∉ plainRuleRegs) :
    s.plainWrite k r i j value = s.sessionWrite k r i j value (s.plainOk r) id := by
  have hafter : (fun t : State => t.plainWritten r i (s.reg r i j)) = id :=
    funext fun t => t.plainWritten_of_noRule i _ hr
  unfold State.plainWrite
  simp only [hw, hf, hafter]
  rfl

/-- A session's write of a device-wide register without a row of its own. -/
theorem execRegWrite_device {s : State} {who : Fin 384} {k : Fin 256} {a : Addr} (v : Word) {r : RegName} {i j : Nat}
    (hk : who.val = k.val) (hopen : (s.session k).isOpen = true) (hat : regAt a.toNat = some (r, i, j))
    (hregion : (regInfo r).region ∈ [Region.keystone, .mill, .commons]) (hrow : r ∉ deviceRowRegs) :
    execRegWrite who a v s = .next ((s.touch k).plainWrite k r i j v.toNat) := by
  have hwho : Fin.ofNat 256 who.val = k := Fin.ext (by rw [Fin.val_ofNat, hk, Nat.mod_eq_of_lt k.isLt])
  have hlow : ¬ 256 ≤ who.val := by omega
  rw [← writeDevice_of_noRow k i j v _ hrow]
  unfold execRegWrite
  simp only [hwho, if_neg hlow, hopen, not_true_eq_false, if_false, hat]
  generalize (regInfo r).region = g at hregion
  simp only [List.mem_cons, List.not_mem_nil, or_false] at hregion
  rcases hregion with rfl | rfl | rfl <;> rfl

/-- An engine that is stopped writes nothing. -/
theorem execRegWrite_stopped {s : State} {who : Fin 384} (a : Addr) (v : Word) (hwho : 256 ≤ who.val)
    (hstop : s.reader who = false) : execRegWrite who a v s = .next s := by
  unfold execRegWrite
  rw [if_pos hwho, if_pos (by simp [hstop])]

/-! ### W1C bits (R36) -/

@[simp] theorem State.reg_answer (s : State) (x : Resp) (r : RegName) (i j : Nat) :
    (s.answer x).reg r i j = s.reg r i j := rfl

/-- Events of the bits bs of register r. -/
def State.arrive (s : State) (r : RegName) (i : Nat) (bs : List Nat) : State :=
  bs.foldl (fun u b => u.flag ⟨r, 0, 32⟩ i b) s

/-- An event sets its own bit and leaves the others. -/
theorem State.bitOf_reg_flag (s : State) (r : RegName) (i : Nat) {x b : Nat} (hb : b < 32) :
    bitOf ((s.flag ⟨r, 0, 32⟩ i x).reg r i) b = (b == x || bitOf (s.reg r i) b) := by
  unfold State.flag
  rw [State.reg_count, State.reg_setReg_same, bitOf_mod_two_pow _ hb, bitOf_bitPut_true, Nat.zero_add]

/-- Events set their bits and leave the others. -/
theorem State.bitOf_reg_arrive (s : State) (r : RegName) (i : Nat) (bs : List Nat) {b : Nat} (hb : b < 32) :
    bitOf ((s.arrive r i bs).reg r i) b = (decide (b ∈ bs) || bitOf (s.reg r i) b) := by
  induction bs generalizing s with
  | nil => rfl
  | cons x bs ih =>
    have hx : decide (b ∈ x :: bs) = (b == x || decide (b ∈ bs)) := List.decide_mem_cons
    calc bitOf ((s.arrive r i (x :: bs)).reg r i) b
        = (decide (b ∈ bs) || bitOf ((s.flag ⟨r, 0, 32⟩ i x).reg r i) b) := ih _
      _ = (decide (b ∈ x :: bs) || bitOf (s.reg r i) b) := by
        rw [s.bitOf_reg_flag r i hb, hx, Bool.or_left_comm, Bool.or_assoc]

/-- A W1C write that a session may do: its ones clear their bits, then the events set theirs. -/
theorem State.w1cWrite_of_mayWrite {s : State} {k : Nat} {r : RegName} {i : Nat} (value arrivals : Nat)
    (h : s.MayWrite k r i) :
    s.w1cWrite k r i value arrivals =
      ((s.setReg r i 0 (maskDiff 32 (s.reg r i) (value &&& w1cBits r))).arrive r i
        (bitList 32 (arrivals &&& w1cBits r))).answer (.ok value) := by
  obtain ⟨hopen, hrole, hsafe, hmaker, hpres, hheld, -⟩ := h
  unfold State.w1cWrite
  dsimp only
  rw [if_neg fun hp => hp.2 (hpres hp.1), if_neg (by simp [hheld])]
  rw [if_neg (by simpa [hopen, hrole, hsafe] using hmaker)]
  rfl

/-- The bits that a W1C write leaves: an event's set wins over a clear at the same handshake (R36). -/
theorem State.bitOf_reg_w1cWrite {s : State} {k : Nat} {r : RegName} {i : Nat} (value arrivals : Nat)
    (h : s.MayWrite k r i) {b : Nat} (hb : b < 32) :
    bitOf ((s.w1cWrite k r i value arrivals).reg r i) b =
      ((bitOf arrivals b && bitOf (w1cBits r) b) ||
        (bitOf (s.reg r i) b && !(bitOf value b && bitOf (w1cBits r) b))) := by
  have harr : decide (b ∈ bitList 32 (arrivals &&& w1cBits r)) = (bitOf arrivals b && bitOf (w1cBits r) b) := by
    rw [Bool.eq_iff_iff, decide_eq_true_iff, mem_bitList, bitOf_and, and_iff_right hb]
  rw [State.w1cWrite_of_mayWrite value arrivals h, State.reg_answer, State.bitOf_reg_arrive _ r i _ hb, harr,
    State.reg_setReg_same, bitOf_mod_two_pow _ hb, bitOf_maskDiff _ _ hb, bitOf_and]

/-- A W1C write that a session may do changes its own register alone. -/
theorem State.w1cWrite_onlyRegs {o s : State} (k : Nat) (r : RegName) (i value arrivals : Nat)
    (h : State.Framed (regMask [r] ||| partMask [.resp, .sess]) o s) :
    o.OnlyRegs [r] (s.w1cWrite k r i value arrivals) :=
  (State.w1cWrite_framed k r i value arrivals ((subMask_or_right ..).trans (by decide)) (subMask_or_left ..) h).onlyRegs

/-- A session's W1C clear of a register that has W1C bits. -/
theorem execW1cClear_listed {a : Addr} {r : RegName} {i j : Nat} (k : Fin 256) (v arr : Word) (s : State)
    (hat : regAt a.toNat = some (r, i, j)) (hw : w1cBits r ≠ 0) :
    execW1cClear k a v arr s = .next ((s.touch k).w1cWrite k r i v.toNat arr.toNat) := by
  unfold execW1cClear
  simp only [hat, if_neg hw]

/-! ### Registers that the statement names -/

/-- A device-wide register without a row or a rule of its own is stored and recorded. -/
theorem execRegWrite_stores {s : State} {who : Fin 384} {k : Fin 256} {a : Addr} {v : Word} {r : RegName} {i j : Nat}
    (hk : who.val = k.val) (hat : regAt a.toNat = some (r, i, j))
    (hregion : (regInfo r).region ∈ [Region.keystone, .mill, .commons]) (hrow : r ∉ deviceRowRegs)
    (hrule : r ∉ plainRuleRegs) (hw : w1cBits r = 0) (hf : writeFields r ≠ []) (h : s.MayStore k r i j v.toNat) :
    ∃ t, execRegWrite who a v s = .next t ∧ s.Stored r i j v.toNat [] t := by
  have hreq : r ≠ .DSP_REQ := fun e => hrow (e ▸ by decide)
  refine ⟨_, execRegWrite_device v hk h.1.1 hat hregion hrow, .of_touch h.1.1 ?_⟩
  rw [State.plainWrite_writable _ k i j v.toNat hw hf hrule]
  exact State.sessionWrite_stores h.touch (State.plainOk_of_noRule _ _ hrule) hreq

/-- A device-wide read-only register ignores a session's write. -/
theorem execRegWrite_ignores {s : State} {who : Fin 384} {k : Fin 256} {a : Addr} (v : Word) {r : RegName} {i j : Nat}
    (hk : who.val = k.val) (hat : regAt a.toNat = some (r, i, j))
    (hregion : (regInfo r).region ∈ [Region.keystone, .mill, .commons]) (hrow : r ∉ deviceRowRegs)
    (hw : w1cBits r = 0) (hf : writeFields r = []) (hopen : (s.session k).isOpen = true) :
    ∃ t, execRegWrite who a v s = .next t ∧ t.resp = .ok v.toNat ∧ s.OnlyRegs [] t := by
  refine ⟨_, execRegWrite_device v hk hopen hat hregion hrow, ?_⟩
  rw [State.plainWrite_readOnly _ k i j v.toNat hw hf, State.touch_of_open hopen]
  exact ⟨rfl, fun _ _ _ _ => rfl, fun _ => rfl⟩

/-- The stored registers that the statement names have writable fields and neither a row nor a rule of their own. -/
theorem namedStoredRegs_plain : ∀ r ∈ [RegName.COM_SESS_CFG, .EST_CFG2, .EST_REST, .LRN_CFG, .LRN_CFG2, .LDG_CFG,
      .ALM_OVR_VAL, .KEY_ESC_CFG],
    (regInfo r).region ∈ [Region.keystone, .mill, .commons] ∧ r ∉ deviceRowRegs ∧ r ∉ plainRuleRegs ∧
      w1cBits r = 0 ∧ writeFields r ≠ [] := by decide

/-- The read-only registers that the statement names have no writable field and no row of their own. -/
theorem namedReadOnlyRegs_plain : ∀ r ∈ [RegName.EST_CTR_SOC, .DSP_LIM_STAMP, .COM_STATE, .KEY_SAFE_CAUSE, .LDG_SEQ],
    (regInfo r).region ∈ [Region.keystone, .mill, .commons] ∧ r ∉ deviceRowRegs ∧ w1cBits r = 0 ∧
      writeFields r = [] := by decide

/-- Settles O51: each access comes to the store, the ignored write, the unchanged state or the W1C write of the lemmas
above. -/
theorem registerWritesFollowTheirAccess : Obligations.RegisterWritesFollowTheirAccess := by
  intro s
  refine ⟨fun who k a v r i j hk hat => ⟨fun hr hmay => ?_, fun hr hopen => ?_⟩, fun who a v hwho hstop => ?_,
    fun k a v arr r i hat hw hmay => ?_⟩
  · obtain ⟨hregion, hrow, hrule, hw, hf⟩ := namedStoredRegs_plain r hr
    exact execRegWrite_stores hk hat hregion hrow hrule hw hf hmay
  · obtain ⟨hregion, hrow, hw, hf⟩ := namedReadOnlyRegs_plain r hr
    exact execRegWrite_ignores v hk hat hregion hrow hw hf hopen
  · exact ⟨s, execRegWrite_stopped a v hwho hstop, rfl, fun _ _ _ _ => rfl, fun _ => rfl⟩
  · have htouch : State.Framed (regMask [r] ||| partMask [.resp, .sess]) s (s.touch k) :=
      State.touch_framed k ((subMask_or_right ..).trans (by decide)) (.refl s)
    refine ⟨_, execW1cClear_listed k v arr s hat hw, State.w1cWrite_onlyRegs k r i _ _ htouch, fun b hb => ?_⟩
    rw [State.bitOf_reg_w1cWrite _ _ hmay.touch hb, State.touch_of_open hmay.1, State.reg_setSession]

end Sys2Proof.Machine

/-! Lemmas and proof of the statement about maker sessions (spec chapter 17, R639): the table of sessions, what each
operation keeps of it, and the meaning of every command. -/

namespace Sys2Proof.Machine

set_option exponentiation.threshold 1200

/-! ### The table of sessions -/

theorem keysRise_iff_pairwise {α : Type} (m : List (Nat × α)) :
    keysRise m = true ↔ m.Pairwise fun e f => e.1 < f.1 := by
  induction m with
  | nil => simp [keysRise]
  | cons e m ih => rw [keysRise_cons, List.pairwise_cons, ih]

/-- An entry of a table whose keys rise is what its key reads. -/
theorem sparseGet_of_mem {α : Type} {m : List (Nat × α)} (d : α) {e : Nat × α} (h : keysRise m = true)
    (he : e ∈ m) : sparseGet m d e.1 = e.2 := by
  induction m with
  | nil => cases he
  | cons f m ih =>
    obtain ⟨hlt, hm⟩ := (keysRise_cons f m).mp h
    rcases List.mem_cons.mp he with rfl | he
    · simp [sparseGet]
    · rw [sparseGet, if_neg (hlt e he).ne, ih hm he]

/-- A key that does not read the default has an entry. -/
theorem mem_of_sparseGet_ne {α : Type} {m : List (Nat × α)} {d : α} {k : Nat} (h : sparseGet m d k ≠ d) :
    (k, sparseGet m d k) ∈ m := by
  induction m with
  | nil => exact absurd rfl h
  | cons e m ih =>
    rw [sparseGet] at h ⊢
    split
    case isTrue hk => exact hk ▸ List.mem_cons_self
    case isFalse hk =>
      rw [if_neg hk] at h
      exact List.mem_cons_of_mem e (ih h)

theorem State.session_setSession_ne {s : State} {j k : Nat} {x : Sess} (h : j ≠ k) :
    (s.setSession k x).session j = s.session j := sparseGet_set_ne s.sess {} {} x h

/-- The table of sessions rises by number, and holds at most 256 of them (R543). -/
def State.SessTable (s : State) : Prop := keysRise s.sess = true ∧ ∀ e ∈ s.sess, e.1 < 256

/-- An open session has an entry. -/
theorem State.mem_sess_of_isOpen {s : State} {k : Nat} (h : (s.session k).isOpen = true) :
    (k, s.session k) ∈ s.sess :=
  mem_of_sparseGet_ne fun e => by
    rw [State.session, e] at h
    cases h

theorem State.SessTable.lt_of_isOpen {s : State} (h : s.SessTable) {k : Nat} (ho : (s.session k).isOpen = true) :
    k < 256 := h.2 _ (State.mem_sess_of_isOpen ho)

/-- Only a session that is being closed may have a number of 256 or more. -/
theorem State.SessTable.setSession {s : State} (h : s.SessTable) {k : Nat} {x : Sess} (hk : k < 256 ∨ x = {}) :
    (s.setSession k x).SessTable := by
  refine ⟨keysRise_set s.sess {} k x h.1, fun e he => ?_⟩
  change e ∈ sparseSet s.sess {} k x at he
  unfold sparseSet at he
  split at he
  case isTrue => exact h.2 e (mem_sparseErase he)
  case isFalse hx =>
    rcases mem_sparsePut he with rfl | he
    · exact hk.resolve_right hx
    · exact h.2 e he

theorem State.mem_openWith {s : State} (h : keysRise s.sess = true) (f : Sess → Bool) (k : Nat) :
    k ∈ s.openWith f ↔ (s.session k).isOpen = true ∧ f (s.session k) = true := by
  simp only [State.openWith, List.mem_map, List.mem_filter, Bool.and_eq_true]
  constructor
  · rintro ⟨e, ⟨he, hp⟩, rfl⟩
    rwa [State.session, sparseGet_of_mem {} h he]
  · exact fun hp => ⟨_, ⟨State.mem_sess_of_isOpen hp.1, hp⟩, rfl⟩

theorem State.nodup_openWith {s : State} (h : keysRise s.sess = true) (f : Sess → Bool) : (s.openWith f).Nodup :=
  List.pairwise_map.mpr ((((keysRise_iff_pairwise _).mp h).filter _).imp fun hlt => hlt.ne)

/-- A list without repetition has at most one member when any two are equal. -/
theorem length_le_one_iff_of_nodup {α : Type} {l : List α} (h : l.Nodup) :
    l.length ≤ 1 ↔ ∀ a ∈ l, ∀ b ∈ l, a = b := by
  match l, h with
  | [], _ => simp
  | [a], _ => simp
  | a :: b :: l, h =>
    refine ⟨fun hl => absurd hl (by simp), fun he => absurd (he a (by simp) b (by simp)) fun hab => ?_⟩
    simp [hab] at h

/-! ### The one maker session -/

/-- Session k is open, and a maker's. -/
def State.MakerAt (s : State) (k : Nat) : Prop := (s.session k).isOpen = true ∧ (s.session k).role = .maker

/-- No two maker sessions are open. -/
def State.MakerUnique (s : State) : Prop := ∀ j k, s.MakerAt j → s.MakerAt k → j = k

theorem State.mem_openWith_maker {s : State} (h : keysRise s.sess = true) (k : Nat) :
    (k ∈ s.openWith fun x => x.role == .maker) ↔ s.MakerAt k := by
  rw [State.mem_openWith h, beq_iff_eq, State.MakerAt]

/-- The invariant, session by session. -/
theorem State.oneMaker_iff {s : State} :
    s.OneMaker ↔ s.SessTable ∧ s.MakerUnique ∧ (s.bit F.TG_STATE_MAKER_SESS = true ↔ ∃ k, s.MakerAt k) := by
  unfold State.OneMaker
  rw [← and_assoc]
  refine and_congr_right fun ⟨hrise, _⟩ => and_congr ?_ ?_
  · rw [length_le_one_iff_of_nodup (State.nodup_openWith hrise _)]
    simp only [State.mem_openWith_maker hrise, State.MakerUnique]
    exact ⟨fun h j k hj hk => h j hj k hk, fun h j hj k hk => h j k hj hk⟩
  · rw [Bool.eq_iff_iff, Bool.not_eq_true', List.isEmpty_eq_false_iff_exists_mem]
    simp only [State.mem_openWith_maker hrise]

/-- A field beside MAKER_SESS, in TG_STATE or elsewhere, leaves it. -/
theorem State.bit_makerSess_setFld (s : State) {f : Fld} {v : Nat} (hf : f.Fits)
    (hne : f.lo + f.width ≤ 1 ∨ 2 ≤ f.lo) :
    (s.setFld f v).bit F.TG_STATE_MAKER_SESS = s.bit F.TG_STATE_MAKER_SESS := by
  unfold State.bit
  rw [State.fld_setFld_ne s f F.TG_STATE_MAKER_SESS _ 0 0 0 0 (.inr (.inr (.inr ⟨hf, hne⟩)))]

/-- The numbers of sessions that TG_STATE shows beside MAKER_SESS leave it. -/
theorem State.bit_showSessions (s : State) :
    s.showSessions.bit F.TG_STATE_MAKER_SESS = !(s.openWith fun x => x.role == .maker).isEmpty := by
  unfold State.showSessions
  extract_lets _ shown counted
  rw [State.bit_makerSess_setFld counted (by unfold Fld.Fits; decide) (by decide),
    State.bit_makerSess_setFld shown (by unfold Fld.Fits; decide) (by decide)]
  exact State.bit_setBit_same _ F.TG_STATE_MAKER_SESS (by unfold Fld.Fits; decide) rfl _ _ _

theorem State.makerAt_setSession_of_ne {s : State} {j k : Nat} {x : Sess} (h : j ≠ k) :
    (s.setSession k x).MakerAt j ↔ s.MakerAt j := by
  unfold State.MakerAt
  rw [State.session_setSession_ne h]

theorem State.makerAt_setSession_same {s : State} {k : Nat} {x : Sess} :
    (s.setSession k x).MakerAt k ↔ x.isOpen = true ∧ x.role = .maker := by
  unfold State.MakerAt
  rw [State.session_setSession_same]

/-- Once TG_STATE shows the sessions of t, their table alone decides. -/
theorem State.oneMaker_showSessions {s t : State} (hs : t.sess = s.sess) (htable : s.SessTable)
    (hunique : s.MakerUnique) : t.showSessions.OneMaker := by
  have hlen := (length_le_one_iff_of_nodup (State.nodup_openWith htable.1 _)).mpr fun j hj k hk =>
    hunique j k ((State.mem_openWith_maker htable.1 j).mp hj) ((State.mem_openWith_maker htable.1 k).mp hk)
  have hsess : t.showSessions.sess = s.sess :=
    ((State.showSessions_framed (W := State.showSessions_writes) (Nat.and_self _) (.refl t)).sess (by decide)).trans hs
  have hbit := t.bit_showSessions
  unfold State.openWith at hlen hbit
  unfold State.OneMaker State.openWith
  rw [hsess]
  rw [hs] at hbit
  exact ⟨htable.1, htable.2, hlen, hbit⟩

/-- After reset no session is open, and MAKER_SESS reads 0. -/
theorem State.oneMaker_of_noSessions {s : State} (hs : s.sess = []) (hb : s.bit F.TG_STATE_MAKER_SESS = false) :
    s.OneMaker := by
  have hempty : (s.openWith fun x => x.role == .maker) = [] := by rw [State.openWith, hs]; rfl
  refine ⟨by rw [hs]; rfl, by simp [hs], by simp [hempty], by rw [hb, hempty]; rfl⟩

/-! ### Updates that keep it -/

/-- The invariant carries over from s to t. -/
def State.KeepsMaker (s t : State) : Prop := s.OneMaker → t.OneMaker

/-- Everything but the table of sessions and TG_STATE. -/
def quietMask : Nat := allMask ^^^ (regMask [.TG_STATE] ||| partMask [.sess])

theorem quiet_regMask {r : RegName} (h : r ≠ .TG_STATE) : SubMask (regMask [r]) quietMask := by
  refine Nat.eq_of_testBit_eq fun n => ?_
  rw [Nat.testBit_and, Bool.and_eq_left_iff_imp]
  intro hn
  rw [testBit_regMask, List.any_cons, List.any_nil, Bool.or_false, beq_iff_eq] at hn
  subst hn
  have hr := ctorIdx_lt r
  rw [quietMask, Nat.testBit_xor, Nat.testBit_or, testBit_regMask_of_notMem (by simpa using h),
    testBit_partMask_of_le _ hr.le, allMask, Nat.testBit_two_pow_sub_one, decide_eq_true (by omega)]
  rfl

/-- An update of any parts beside the queue, the clock, the sessions and the register tables. -/
theorem State.Framed.put {o s : State}
    {fresh} {resp} {outbox} {tiles} {units} {paces} {lowPace} {sup} {charter} {imageA} {imageB} {xspi} {load}
    {startAt} {judged} {resetToLog} {links} {frames} {inss} {waitQ} {token} {tripSeq} {prots} {bus} {tripQ}
    {damageLog} {lockLog} {trims} {share} {strms} {win} {convs} {convBlocks} {settle} {tals} {trigs} {carriers}
    {chains} {nodes} {inst} {cells} {strEst} {blkEst} {keptNodes} {est} {ldgState} {recorder} {dsp} {evtFifo}
    {evtSeq} {evtPending} {com} {span} {tbs} {bel} {pars} {ldg} {tg} {almChs} {alm} {baseLog} {inj}
    (h : State.Framed quietMask o s) : State.Framed quietMask o
     ⟨s.variant, s.osc, fresh, s.regs, s.cnts, s.shadows, s.mem, s.pending, resp, outbox, s.sess, tiles, units,
      paces, lowPace, sup, charter, imageA, imageB, xspi, load, startAt, judged, resetToLog, links, frames, inss,
      waitQ, token, tripSeq, prots, bus, tripQ, damageLog, lockLog, trims, share, strms, win, convs, convBlocks,
      settle, tals, trigs, carriers, chains, nodes, inst, cells, strEst, blkEst, keptNodes, est, ldgState, recorder,
      dsp, evtFifo, evtSeq, evtPending, com, span, tbs, bel, pars, ldg, tg, almChs, alm, baseLog, inj⟩ := by
  have hq : SubMask quietMask quietMask := Nat.and_self _
  exact .mkOf h rfl rfl rfl rfl rfl rfl rfl

namespace State.KeepsMaker
variable {o s t : State}

theorem refl (s : State) : s.KeepsMaker s := id

theorem ite {c : Prop} {d : Decidable c} {a b : State} (h : o.KeepsMaker a) (g : o.KeepsMaker b) :
    o.KeepsMaker (if c then a else b) := by
  split <;> assumption

/-- An update that leaves the sessions and MAKER_SESS. -/
theorem of_sess_bit (hsess : t.sess = s.sess)
    (hbit : t.bit F.TG_STATE_MAKER_SESS = s.bit F.TG_STATE_MAKER_SESS) (h : o.KeepsMaker s) : o.KeepsMaker t := by
  intro ho
  have hs := h ho
  unfold State.OneMaker State.openWith at hs ⊢
  rwa [hsess, hbit]

/-- An update that leaves the sessions and TG_STATE alone. -/
theorem quiet (f : State.Framed quietMask s t) (h : o.KeepsMaker s) : o.KeepsMaker t :=
  .of_sess_bit (f.sess (by decide)) (State.bit_of_reg_eq F.TG_STATE_MAKER_SESS (f.reg .TG_STATE 0 0 (by decide))) h

theorem framed (f : State.Framed quietMask s t) : s.KeepsMaker t := .quiet f (.refl s)

/-- A bit of a register beside MAKER_SESS. -/
theorem setBit {f : Fld} {v : Bool} (hf : f.Fits) (hne : f.lo + f.width ≤ 1 ∨ 2 ≤ f.lo) (h : o.KeepsMaker s) :
    o.KeepsMaker (s.setBit f v) := .of_sess_bit (s := s) rfl (s.bit_makerSess_setFld hf hne) h

theorem foldl {α : Type} {f : State → α → State} (l : List α) (h : o.KeepsMaker s)
    (g : ∀ t e, o.KeepsMaker t → o.KeepsMaker (f t e)) : o.KeepsMaker (l.foldl f s) := by
  induction l generalizing s with
  | nil => exact h
  | cons e l ih => exact ih (g s e h)

theorem foldlMem {α : Type} {f : State → α → State} (l : List α) (h : o.KeepsMaker s)
    (g : ∀ t, ∀ e ∈ l, o.KeepsMaker t → o.KeepsMaker (f t e)) : o.KeepsMaker (l.foldl f s) := by
  induction l generalizing s with
  | nil => exact h
  | cons e l ih => exact ih (g s e List.mem_cons_self h) fun t e' he => g t e' (List.mem_cons_of_mem _ he)

end State.KeepsMaker

/-! ### Sessions' records, writes and commands -/

section
variable {o s : State} {k : Nat} {r : RegName} {i j value : Nat}

/-- A change of a session's record that leaves whether it is open, and its role. -/
theorem State.setSession_keepsMaker {x : Sess} (hk : o.OneMaker → k < 256)
    (hopen : x.isOpen = (s.session k).isOpen) (hrole : x.role = (s.session k).role) (h : o.KeepsMaker s) :
    o.KeepsMaker (s.setSession k x) := by
  intro ho
  obtain ⟨htable, hunique, hbit⟩ := State.oneMaker_iff.mp (h ho)
  have hmaker (j : Nat) : (s.setSession k x).MakerAt j ↔ s.MakerAt j := by
    by_cases hj : j = k
    · rw [hj, State.makerAt_setSession_same, hopen, hrole, State.MakerAt]
    · exact State.makerAt_setSession_of_ne hj
  refine State.oneMaker_iff.mpr ⟨htable.setSession (.inl (hk ho)), fun i j hi hj => ?_, ?_⟩
  · exact hunique i j ((hmaker i).mp hi) ((hmaker j).mp hj)
  · simp only [hmaker]
    exact hbit

theorem State.touch_keepsMaker (h : o.KeepsMaker s) : o.KeepsMaker (s.touch k) := by
  unfold State.touch
  split
  case isTrue hopen =>
    exact State.setSession_keepsMaker (fun ho => (State.oneMaker_iff.mp (h ho)).1.lt_of_isOpen hopen) rfl rfl h
  case isFalse => exact h

theorem State.auditRefused_keepsMaker {result addr old new : Nat} (hk : k < 256) (h : o.KeepsMaker s) :
    o.KeepsMaker (s.auditRefused k result addr old new) := by
  have hset : o.KeepsMaker (s.setSession k { s.session k with refused := (s.session k).refused + 1 }) :=
    State.setSession_keepsMaker (fun _ => hk) rfl rfl h
  exact .ite (.quiet (State.ledger_framed _ _ (by decide) (.refl _)) hset) hset

theorem State.auditWrite_keepsMaker {result new : Nat} (hk : k < 256) (h : o.KeepsMaker s) :
    o.KeepsMaker (s.auditWrite k r i j result new) :=
  .ite (State.setSession_keepsMaker (fun _ => hk) rfl rfl h)
    (.ite (.quiet (State.ledger_framed _ _ (by decide) (.refl _)) h) (State.auditRefused_keepsMaker hk h))

theorem State.answer_keepsMaker {x : Resp} (h : o.KeepsMaker s) : o.KeepsMaker (s.answer x) :=
  .quiet (State.answer_framed _ (by decide) (.refl _)) h

theorem State.refuse_keepsMaker {result new : Nat} (hk : k < 256) (h : o.KeepsMaker s) :
    o.KeepsMaker (s.refuse k r i j result new) :=
  State.answer_keepsMaker <| State.auditWrite_keepsMaker hk <|
    .quiet (State.flag_framed _ _ _ (by decide) (.refl s)) h

theorem State.accept_keepsMaker {new : Nat} (hk : k < 256) (h : o.KeepsMaker s) :
    o.KeepsMaker (s.accept k r i j new) :=
  State.auditWrite_keepsMaker hk <| State.answer_keepsMaker (x := .ok new) h

/-- A session's write of a register other than TG_STATE keeps the invariant when its effect does. -/
theorem State.sessionWrite_keepsMaker {ok : Nat → Bool} {after : State → State} (hk : k < 256)
    (hr : r ≠ .TG_STATE) (h : o.KeepsMaker s) (ha : ∀ t, o.KeepsMaker t → o.KeepsMaker (after t)) :
    o.KeepsMaker (s.sessionWrite k r i j value ok after) := by
  have ht : o.KeepsMaker (s.touch k) := State.touch_keepsMaker h
  have hstored {t : State} {v : Nat} (hs : o.KeepsMaker t) : o.KeepsMaker (t.setReg r i j v) :=
    .quiet (State.setReg_framed _ _ _ _ (quiet_regMask hr) (.refl _)) hs
  exact .ite ht (.ite (State.answer_keepsMaker ht) (.ite (State.answer_keepsMaker ht)
    (.ite (State.refuse_keepsMaker hk ht) (ha _ (hstored (State.accept_keepsMaker hk ht))))))

/-- Such a write whose effect leaves the sessions and TG_STATE alone. -/
theorem State.sessionWrite_keepsMaker_of_quiet {ok : Nat → Bool} {after : State → State} (hk : k < 256)
    (hr : r ≠ .TG_STATE) (h : o.KeepsMaker s) (ha : ∀ t, State.Framed quietMask t (after t)) :
    o.KeepsMaker (s.sessionWrite k r i j value ok after) :=
  State.sessionWrite_keepsMaker hk hr h fun t ht => .quiet (ha t) ht

/-- A session's command keeps the invariant when its action does. -/
theorem State.sessionCommand_keepsMaker {ok : Bool} {act : State → State} (hk : k < 256) (h : o.KeepsMaker s)
    (ha : ∀ t, o.KeepsMaker t → o.KeepsMaker (act t)) :
    o.KeepsMaker (s.sessionCommand k r i j value ok act) := by
  have ht : o.KeepsMaker (s.touch k) := State.touch_keepsMaker h
  exact .ite ht (.ite (State.answer_keepsMaker ht) (.ite (State.answer_keepsMaker ht)
    (.ite (State.refuse_keepsMaker hk ht) (ha _ (State.accept_keepsMaker hk ht)))))

/-- Such a command whose action leaves the sessions and TG_STATE alone. -/
theorem State.sessionCommand_keepsMaker_of_quiet {ok : Bool} {act : State → State} (hk : k < 256)
    (h : o.KeepsMaker s) (ha : ∀ t, State.Framed quietMask t (act t)) :
    o.KeepsMaker (s.sessionCommand k r i j value ok act) :=
  State.sessionCommand_keepsMaker hk h fun t ht => .quiet (ha t) ht

theorem State.loadingRead_keepsMaker {who : Nat} {loads : List (RegName × Nat × Nat)} (h : o.KeepsMaker s) :
    o.KeepsMaker (s.loadingRead who r i j loads) := by
  have ht : o.KeepsMaker (if who < 256 then s.touch who else s) := .ite (State.touch_keepsMaker h) h
  exact .ite (State.answer_keepsMaker ht) (.ite (State.answer_keepsMaker ht) (.ite (State.answer_keepsMaker ht)
    (State.answer_keepsMaker (.foldl _ ht fun _ _ h' => .quiet (State.setShadow_framed _ _ _ _ _ (.refl _)) h'))))

theorem State.keyCmd_keepsMaker_of_quiet {action slot key : Nat} {ok : Bool} {act : State → State} (hk : k < 256)
    (h : o.KeepsMaker s) (ha : ∀ t, State.Framed quietMask t (act t)) :
    o.KeepsMaker (s.keyCmd k action slot key ok act) := State.sessionCommand_keepsMaker_of_quiet hk h ha

theorem State.recCmd_keepsMaker_of_quiet {bits : Nat} {act : State → State} (hk : k < 256) (h : o.KeepsMaker s)
    (ha : ∀ t, State.Framed quietMask t (act t)) : o.KeepsMaker (s.recCmd k bits act) :=
  State.sessionCommand_keepsMaker_of_quiet hk h ha

theorem State.swapCmd_keepsMaker_of_quiet {n p action key : Nat} {act : State → State} (hk : k < 256)
    (h : o.KeepsMaker s) (ha : ∀ t, State.Framed quietMask t (act t)) :
    o.KeepsMaker (s.swapCmd k n p action key act) := State.sessionCommand_keepsMaker_of_quiet hk h ha

theorem State.noCommand_keepsMaker {ok : Bool} (hk : k < 256) (h : o.KeepsMaker s) :
    o.KeepsMaker (s.noCommand k r i value ok) := State.sessionCommand_keepsMaker hk h fun _ ht => ht

theorem State.swTrig_keepsMaker_of_quiet {target dly : Nat} {ok : Bool} {fire : State → State} (hk : k < 256)
    (h : o.KeepsMaker s) (hf : ∀ t, State.Framed quietMask t (fire t)) :
    o.KeepsMaker (s.swTrig k value target dly ok fire) :=
  State.sessionCommand_keepsMaker_of_quiet hk h fun t =>
    .ite (hf t) (State.queueTrig_framed _ _ _ (by decide) (.refl t))

/-- A Belfry write, by a session or the servo. -/
theorem State.belWrite_keepsMaker_of_quiet {who : Nat} {after : State → State} (hr : r ≠ .TG_STATE)
    (h : o.KeepsMaker s) (ha : ∀ t, State.Framed quietMask t (after t)) :
    o.KeepsMaker (s.belWrite who r i value after) := by
  unfold State.belWrite
  split
  · exact .quiet (ha _) <| .quiet (State.setReg_framed _ _ _ _ (quiet_regMask hr) (.refl _)) h
  · split
    · exact h
    · exact State.sessionWrite_keepsMaker_of_quiet (by omega) hr h ha

/-- A Belfry command, by a session or the servo. -/
theorem State.belCommand_keepsMaker_of_quiet {who : Nat} {ok : Bool} {act : State → State} (h : o.KeepsMaker s)
    (ha : ∀ t, State.Framed quietMask t (act t)) : o.KeepsMaker (s.belCommand who r i value ok act) := by
  unfold State.belCommand
  split
  · exact .ite (.quiet (ha s) h) h
  · split
    · exact h
    · exact State.sessionCommand_keepsMaker_of_quiet (by omega) h ha

theorem State.talCfgWrite_keepsMaker {t : Nat} (hk : k < 256) (h : o.KeepsMaker s) :
    o.KeepsMaker (s.talCfgWrite k t value) :=
  State.sessionWrite_keepsMaker_of_quiet hk (by decide) h fun u =>
    .ite (.ite (.refl u) <| State.talStart_framed _ (by decide) <| .refl u) <|
      State.setTal_framed _ _ (by decide) <| .refl u

/-- TG_STATE has no W1C bit. -/
theorem ne_tgState_of_w1cBits {r : RegName} (h : w1cBits r ≠ 0) : r ≠ .TG_STATE := fun e => h (e ▸ rfl)

/-- TG_STATE has no field that a session writes. -/
theorem ne_tgState_of_writeFields {r : RegName} (h : writeFields r ≠ []) : r ≠ .TG_STATE := fun e => h (e ▸ rfl)

theorem State.w1cWrite_keepsMaker {arrivals : Nat} (hw : w1cBits r ≠ 0) (h : o.KeepsMaker s) :
    o.KeepsMaker (s.w1cWrite k r i value arrivals) :=
  .quiet (State.w1cWrite_framed _ _ _ _ _ (by decide) (quiet_regMask (ne_tgState_of_w1cBits hw)) (.refl s)) h

/-- A write of a register without a row of its own: TG_STATE has neither a W1C bit nor a writable field. -/
theorem State.plainWrite_keepsMaker (hk : k < 256) (h : o.KeepsMaker s) :
    o.KeepsMaker (s.plainWrite k r i j value) := by
  unfold State.plainWrite
  split
  case isTrue hw => exact State.w1cWrite_keepsMaker hw h
  case isFalse =>
    split
    case isTrue => exact State.answer_keepsMaker h
    case isFalse hf =>
      exact State.sessionWrite_keepsMaker_of_quiet hk (ne_tgState_of_writeFields hf) h fun _ =>
        State.plainWritten_framed _ _ _ (by decide) (.refl _)

theorem State.recWord_keepsMaker (hk : k < 256) (h : o.KeepsMaker s) : o.KeepsMaker (s.recWord k value) :=
  State.recCmd_keepsMaker_of_quiet hk h fun t => by
    have harm : State.Framed quietMask t (if bitOf value 0 then t.armRec else t) :=
      .ite (State.armRec_framed (by decide) (.refl t)) (.refl t)
    have hany := State.Framed.ite (c := bitOf value 1 = true) (d := inferInstance)
      (State.recAny_framed 0xFF 0 (by decide) harm) harm
    exact .ite (State.stopRec_framed (by decide) hany) hany

/-- A pending trigger that is taken leaves the rest. -/
theorem State.takeTrig_quiet {t : State} {target : Nat} (h : s.takeTrig target = some t) :
    State.Framed quietMask s t := by
  unfold State.takeTrig at h
  split at h
  case isTrue =>
    cases h
    exact .put (.refl s)
  case isFalse => cases h

/-- A cell that starts to learn afresh leaves the sessions and TG_STATE alone. -/
theorem State.freshLearn_quiet {k : Nat} {c : Cell} (h : State.Framed quietMask o s) :
    State.Framed quietMask o (s.freshLearn k c).1 := by
  unfold State.freshLearn
  dsimp only
  exact State.freshCell_framed k c (by decide) h

end

/-! ### Frames received -/

section
variable {o s : State}

theorem State.deliver_keepsMaker {q : Nat} (h : o.KeepsMaker s) : o.KeepsMaker (s.deliver q) := by
  have hq : o.KeepsMaker ((s.qIn q).qOut q) :=
    .quiet (State.qOut_framed _ (by decide) <| State.qIn_framed _ (by decide) <| .refl s) h
  exact .ite (.ite (State.touch_keepsMaker hq) hq) h

theorem State.ethRx_keepsMaker {p : Nat} {f : EthFrame} (h : o.KeepsMaker s) : o.KeepsMaker (s.ethRx p f) := by
  have hcount (g : Fld) (hg : g.reg ≠ .TG_STATE) {t : State} (ht : o.KeepsMaker t) : o.KeepsMaker (t.prpCount g p) :=
    .quiet (State.prpCount_framed g p (quiet_regMask hg) (.refl t)) ht
  refine .ite h (.ite (State.deliver_keepsMaker h) ?_)
  split
  case h_1 => exact State.deliver_keepsMaker h
  case h_2 lanB seq _ =>
    have hlan : o.KeepsMaker (if lanB ≠ (p == 1) then s.prpCount F.ETH_PRP_CNT_WRONG_LAN p else s) :=
      .ite (hcount _ (by decide) h) h
    exact .ite (hcount _ (by decide) hlan) (State.deliver_keepsMaker (.quiet (.put (.refl _)) hlan))

theorem State.spanDeliver_keepsMaker {q : Nat} {f : SpanFrame} (h : o.KeepsMaker s) :
    o.KeepsMaker (s.spanDeliver q f) := by
  have hr {x : Span} : o.KeepsMaker (State.fragRx { s with span := x } f).1 :=
    .quiet (State.fragRx_framed _ (by decide) (.put (.refl s))) h
  exact .ite (.quiet (State.setReg_framed _ _ _ _ (by decide) (.put (.refl s))) h) <|
    .ite (.quiet (State.flag_framed _ _ _ (by decide) (.put (.refl s))) h) <| .ite hr <|
    .ite (.quiet (State.gatewayStatus_framed _ (by decide) (.refl _)) hr) <| .ite (.quiet (.put (.refl _)) hr) <|
    State.deliver_keepsMaker hr

theorem State.releaseRx_keepsMaker {i : Option Instr} (h : o.KeepsMaker s) : o.KeepsMaker (s.releaseRx i) := by
  unfold State.releaseRx
  split
  · exact State.ethRx_keepsMaker h
  · exact State.spanDeliver_keepsMaker h
  · exact .quiet (State.ptpRx_framed _ _ _ (by decide) (.refl s)) h
  · exact h

theorem State.spanLocal_keepsMaker {west : Bool} {q : Nat} {i : Instr} {f : SpanFrame} (h : o.KeepsMaker s) :
    o.KeepsMaker (s.spanLocal west q i f) := by
  have hr : o.KeepsMaker (s.injReceive 3 (if west then 1 else 0) f.cls.toNat i).1 :=
    .quiet (State.injReceive_framed _ _ _ _ (by decide) (.refl s)) h
  exact State.releaseRx_keepsMaker (.ite (State.spanDeliver_keepsMaker hr) hr)

end

/-! ### Sessions that open and close (R543, R639, R641) -/

section
variable {o s : State} {k : Nat}

/-- A session that has closed leaves the others as they are. -/
theorem State.closed_keepsMaker (h : o.KeepsMaker s) : o.KeepsMaker (s.setSession k {}).showSessions := by
  intro ho
  obtain ⟨htable, hunique, -⟩ := State.oneMaker_iff.mp (h ho)
  have hleft {j : Nat} (hj : (s.setSession k {}).MakerAt j) : s.MakerAt j := by
    by_cases hjk : j = k
    · cases (State.makerAt_setSession_same.mp (hjk ▸ hj)).1
    · exact (State.makerAt_setSession_of_ne hjk).mp hj
  exact State.oneMaker_showSessions rfl (htable.setSession (.inr rfl)) fun i j hi hj =>
    hunique i j (hleft hi) (hleft hj)

theorem State.closeSession_keepsMaker (h : o.KeepsMaker s) : o.KeepsMaker (s.closeSession k) := by
  unfold State.closeSession
  lift_lets
  intro x summed counted released ended recorded com unpublished
  have hsum : State.Framed quietMask s summed := .ite (State.auditSummary_framed _ _ _ (by decide) (.refl s)) (.refl s)
  have hcount : State.Framed quietMask s counted :=
    .ite (State.flag_framed _ _ _ (by decide) <| State.auditSummary_framed _ _ _ (by decide) hsum) hsum
  have hrel : State.Framed quietMask s released := .foldl _ hcount fun _ _ ht => State.qRelease_framed _ (by decide) ht
  have hend : State.Framed quietMask s ended := .ite (State.injEnd_framed _ (by decide) hrel) hrel
  have hunpub : State.Framed quietMask s unpublished := .put (State.auditSession_framed _ _ _ _ (by decide) hend)
  exact .ite h (.quiet (State.showQueues_framed (by decide) (.refl _)) (State.closed_keepsMaker (.quiet hunpub h)))

/-- A session that opens as a maker's while none is open, or as another role's, is at most the one maker session. -/
theorem State.makerUnique_setSession {x : Sess} (hs : s.OneMaker)
    (hx : x.role = .maker → s.bit F.TG_STATE_MAKER_SESS = false) : (s.setSession k x).MakerUnique := by
  obtain ⟨-, hunique, hbit⟩ := State.oneMaker_iff.mp hs
  have hnone {j : Nat} (hk : (s.setSession k x).MakerAt k) (hj : s.MakerAt j) : False := by
    have hfalse := hx (State.makerAt_setSession_same.mp hk).2
    rw [hbit.mpr ⟨j, hj⟩] at hfalse
    cases hfalse
  intro i j hi hj
  by_cases hik : i = k <;> by_cases hjk : j = k
  · rw [hik, hjk]
  · exact (hnone (hik ▸ hi) ((State.makerAt_setSession_of_ne hjk).mp hj)).elim
  · exact (hnone (hjk ▸ hj) ((State.makerAt_setSession_of_ne hik).mp hi)).elim
  · exact hunique i j ((State.makerAt_setSession_of_ne hik).mp hi) ((State.makerAt_setSession_of_ne hjk).mp hj)

theorem State.openSession_keepsMaker {r : Role} {h : Handshake} (hk : k < 256)
    (hr : r = .maker → s.bit F.TG_STATE_MAKER_SESS = false) (hs : o.KeepsMaker s) :
    o.KeepsMaker (s.openSession k r h) := by
  refine State.answer_keepsMaker fun ho => ?_
  have htable := (State.oneMaker_iff.mp (hs ho)).1.setSession
    (x := { isOpen := true, role := r, certId := h.certId.toNat, lastAt := s.now }) (.inl hk)
  refine State.oneMaker_showSessions ?_ htable (State.makerUnique_setSession (hs ho) hr)
  exact (State.auditSession_framed (W := State.auditSession_writes) _ _ _ _ (Nat.and_self _) (.refl _)).sess (by decide)

end

/-! ### Resets -/

section
variable {o s : State}

theorem State.oneMaker_cleared (s : State) : s.cleared.OneMaker := by
  have hreg : s.cleared.reg .TG_STATE 0 0 = 0 := by
    cases hv : s.variant <;> simp only [State.reg, State.cleared, hv] <;> rfl
  refine State.oneMaker_of_noSessions rfl ?_
  rw [State.bit, State.fld, show F.TG_STATE_MAKER_SESS.reg = .TG_STATE from rfl, hreg]
  rfl

theorem State.cleared_keepsMaker : o.KeepsMaker s.cleared := fun _ => s.oneMaker_cleared

theorem State.doReset_keepsMaker {code : Nat} : o.KeepsMaker (s.doReset code) := by
  have hcleared : o.KeepsMaker ((s.cleared.keepSupply s).setReg .TG_KEYS 0 0 (s.reg .TG_KEYS)) :=
    .quiet (State.setReg_framed _ _ _ _ (by decide) <| State.keepSupply_framed _ (by decide) <| .refl _)
      State.cleared_keepsMaker
  exact .quiet (State.showFailwarn_framed (by decide) <| .put <| State.setFld_framed _ _ _ _ (by decide) <|
    State.markSeen_framed _ (by decide) <| State.setFld_framed _ _ _ _ (by decide) <| .refl _) hcleared

theorem State.por_keepsMaker : o.KeepsMaker s.por := by
  have hcleared : o.KeepsMaker { s.cleared.setReg .TG_KEYS 0 0 (s.reg .TG_KEYS) with
      sup := { resetNLow := s.sup.resetNLow }, resetToLog := 1 } :=
    .quiet (.put <| State.setReg_framed _ _ _ _ (by decide) <| .refl _) State.cleared_keepsMaker
  exact .ite (.quiet (State.send_framed _ (by decide) (.refl _)) hcleared) hcleared

theorem State.supplyLoss_keepsMaker : o.KeepsMaker s.supplyLoss :=
  .quiet (.put <| State.setSeq_framed _ (by decide) <| .refl _) State.doReset_keepsMaker

theorem State.endRelease_keepsMaker (h : o.KeepsMaker s) : o.KeepsMaker s.endRelease := by
  unfold State.endRelease
  split
  · exact .quiet (.put (.refl s)) h
  · exact .quiet (State.setSeq_framed _ (by decide) (.put (.refl s))) h
  · exact .quiet (State.setSeq_framed _ (by decide) (.refl s)) h
  · exact .ite (.quiet (.put (.refl s)) h) State.supplyLoss_keepsMaker
  · exact h

theorem State.beginRelease_keepsMaker {cause : RelCause} (h : o.KeepsMaker s) :
    o.KeepsMaker (s.beginRelease cause) := by
  unfold State.beginRelease
  lift_lets
  intro runs sup begun dropped
  have hbegun : State.Framed quietMask s begun := .put (.refl s)
  have hdropped : o.KeepsMaker dropped :=
    .quiet (.ite hbegun (State.dropEnable_framed (by decide) hbegun)) h
  exact .ite (State.endRelease_keepsMaker hdropped) hdropped

end

/-! ### The Charter -/

section
variable {o s : State}

/-- No value of a Charter changes TG_STATE: it has neither a writable field nor one of the Charter's own. -/
theorem State.charterWord_tgState (s : State) (i j value : Nat) :
    s.charterWord .TG_STATE i j value = s.reg .TG_STATE i j := rfl

/-- Writing a register's own word changes nothing that is read. -/
theorem State.reg_setReg_self (s : State) (r : RegName) (i j : Nat) (r' : RegName) (i' j' : Nat) :
    (s.setReg r i j (s.reg r i j)).reg r' i' j' = s.reg r' i' j' := by
  by_cases h : r' = r ∧ i' = i ∧ j' = j
  · obtain ⟨rfl, rfl, rfl⟩ := h
    rw [State.reg_setReg_same, Nat.mod_eq_of_lt (s.reg_lt ..)]
  · exact State.reg_setReg_ne s _ (by tauto)

theorem State.setReg_charterWord_keepsMaker {r : RegName} {i j value : Nat} (h : o.KeepsMaker s) :
    o.KeepsMaker (s.setReg r i j (s.charterWord r i j value)) := by
  by_cases hr : r = .TG_STATE
  · subst hr
    rw [State.charterWord_tgState]
    exact .of_sess_bit (s := s) rfl (State.bit_of_reg_eq _ (State.reg_setReg_self ..)) h
  · exact .quiet (State.setReg_framed _ _ _ _ (quiet_regMask hr) (.refl s)) h

theorem State.applyReg_keepsMaker {e : Nat × Word} (h : o.KeepsMaker s) : o.KeepsMaker (s.applyReg e) :=
  .ite h (State.setReg_charterWord_keepsMaker h)

theorem State.applyCharter_keepsMaker {f : Nat} (h : o.KeepsMaker s) : o.KeepsMaker (s.applyCharter f) := by
  have hregs : o.KeepsMaker ((s.image f).body.regs.foldl State.applyReg
      { s.unstage with charter := (s.image f).body, load := .loaded }) :=
    .foldl _ (.quiet (.put <| State.unstage_framed (by decide) <| .refl s) h) fun _ _ => State.applyReg_keepsMaker
  exact .quiet (State.calEnter_framed (by decide) <| State.startMark_framed _ (by decide) <|
    State.setFld_framed _ _ _ _ (by decide) <| State.ledger_framed _ _ (by decide) <|
    State.applyHooks_framed (by decide) <| State.setFld_framed _ _ _ _ (by decide) <|
    State.setFld_framed _ _ _ _ (by decide) <| State.setReg_framed _ _ _ _ (by decide) <|
    State.setReg_framed _ _ _ _ (by decide) <| .refl _) hregs

theorem State.bodyDone_keepsMaker {f : Nat} {second readErr : Bool} (h : o.KeepsMaker s) :
    o.KeepsMaker (s.bodyDone f second readErr) := by
  unfold State.bodyDone
  lift_lets
  intro x all staged signed code judged
  have hstaged : State.Framed quietMask s staged :=
    .ite (State.stage_framed _ _ (by decide) <| State.draw_framed (by decide) <| .refl s) <|
      State.stage_framed _ _ (by decide) <| .refl s
  have hjudged : State.Framed quietMask s judged := State.imageResult_framed _ _ (by decide) hstaged
  exact .ite
    (State.applyCharter_keepsMaker <| .quiet (.ite hjudged (State.imageResult_framed _ _ (by decide) hjudged)) h) <|
    .quiet (.ite (State.safeIdle_framed (by decide) hjudged) (.put hjudged)) h

end

/-! ### Debug (R644) -/

section
variable {o s : State}

theorem State.debugEn_keepsMaker {k : Nat} {old v : Bool} (h : o.KeepsMaker s) : o.KeepsMaker (s.debugEn k old v) := by
  have hbits : o.KeepsMaker ((s.setBit F.TG_DEBUG_DEBUG_EN v).setBit F.TG_STATE_DEBUG_ON v) :=
    .setBit (by unfold Fld.Fits; decide) (by decide) <| .quiet (State.setBit_framed _ _ _ _ (by decide) (.refl s)) h
  unfold State.debugEn
  lift_lets
  intro bits audited
  have haudited : State.Framed quietMask bits audited :=
    .ite (.refl bits) (State.auditSession_framed _ _ _ _ (by decide) (.refl bits))
  exact .quiet (.ite haudited (State.loadJtag_framed _ (by decide) haudited)) hbits

end

/-! ### Outcomes -/

/-- A command goes on to a state to which the invariant carries over. -/
def OutKeepsMaker (s : State) (x : Host.Outcome State Fault Refusal) : Prop := ∃ t, x = .next t ∧ s.KeepsMaker t

namespace OutKeepsMaker
variable {s t : State}

theorem next (h : s.KeepsMaker t) : OutKeepsMaker s (.next t) := ⟨t, rfl, h⟩

/-- A command that goes on from t, to which the invariant carries over. -/
theorem after {x : Host.Outcome State Fault Refusal} (h : s.KeepsMaker t) (hx : OutKeepsMaker t x) :
    OutKeepsMaker s x :=
  hx.imp fun _ ⟨he, hu⟩ => ⟨he, fun hs => hu (h hs)⟩

/-- A command that leaves the sessions and TG_STATE alone. -/
theorem framed (h : State.Framed quietMask s t) : OutKeepsMaker s (.next t) := .next (.framed h)

/-- A command that may have moved a channel: the watches of the bus leave the sessions alone. -/
theorem finish (h : s.KeepsMaker t) : OutKeepsMaker s (finish t) :=
  .next (.quiet (State.busWatch_framed (by decide) <| State.busOffWatch_framed (by decide) <| .refl t) h)

theorem finishFramed (h : State.Framed quietMask s t) : OutKeepsMaker s (Machine.finish t) := .finish (.framed h)

/-- A session's write of a register other than TG_STATE, whose effect leaves the sessions and TG_STATE alone. -/
theorem sessionWrite {k i j value : Nat} {r : RegName} {ok : Nat → Bool} {after : State → State} (hk : k < 256)
    (hr : r ≠ .TG_STATE) (ha : ∀ t, State.Framed quietMask t (after t)) :
    OutKeepsMaker s (.next (s.sessionWrite k r i j value ok after)) :=
  .next (State.sessionWrite_keepsMaker_of_quiet hk hr (.refl s) ha)

/-- A session's command whose action leaves the sessions and TG_STATE alone. -/
theorem sessionCommand {k i j value : Nat} {r : RegName} {ok : Bool} {act : State → State} (hk : k < 256)
    (ha : ∀ t, State.Framed quietMask t (act t)) : OutKeepsMaker s (.next (s.sessionCommand k r i j value ok act)) :=
  .next (State.sessionCommand_keepsMaker_of_quiet hk (.refl s) ha)

theorem loadingRead {who i j : Nat} {r : RegName} {loads : List (RegName × Nat × Nat)} :
    OutKeepsMaker s (.next (s.loadingRead who r i j loads)) := .next (State.loadingRead_keepsMaker (.refl s))

theorem ite {c : Prop} {d : Decidable c} {x y : Host.Outcome State Fault Refusal} (h : OutKeepsMaker s x)
    (g : OutKeepsMaker s y) : OutKeepsMaker s (if c then x else y) := by
  split <;> assumption

end OutKeepsMaker

/-! ### Commands

One lemma for each command. Most commands write neither the sessions nor TG_STATE, as the frames of their operations
say; a session's write or command, a received frame and a reset go through the lemmas above. -/

/-! ### Commands of Machine/Tally.lean -/

section
variable {s : State} {sess : Fin 256} {t : Fin 64} {value : Word} {k : Fin 4}

theorem execTalEnable_keepsMaker : OutKeepsMaker s (execTalEnable sess t value s) :=
  .next <| State.talCfgWrite_keepsMaker sess.isLt <| .refl _

theorem execTalDisable_keepsMaker : OutKeepsMaker s (execTalDisable sess t value s) :=
  .next <| State.talCfgWrite_keepsMaker sess.isLt <| .refl _

theorem execTalReloadWrite_keepsMaker : OutKeepsMaker s (execTalReloadWrite sess t value s) :=
  .sessionWrite sess.isLt (by decide) fun _ => State.setBit_framed _ _ _ _ (by decide) <| .refl _

theorem execTalCmpWrite_keepsMaker : OutKeepsMaker s (execTalCmpWrite sess t k value s) :=
  .sessionWrite sess.isLt (by decide) fun _ =>
    State.talArmWrite_framed _ _ (by decide) <| State.afterSync_framed _ _ _ _ (by decide) (by decide) <| .refl _

theorem execTalActWrite_keepsMaker : OutKeepsMaker s (execTalActWrite sess t value s) :=
  .sessionWrite sess.isLt (by decide) fun _ =>
    State.talArmWrite_framed _ _ (by decide) <| State.afterSync_framed _ _ _ _ (by decide) (by decide) <| .refl _

theorem execTalSyncWrite_keepsMaker : OutKeepsMaker s (execTalSyncWrite sess t value s) :=
  .sessionWrite sess.isLt (by decide) fun _ =>
    State.setBit_framed _ _ _ _ (by decide) <| State.setTal_framed _ _ (by decide) <| .refl _

theorem execTallyZeroEvent_keepsMaker : OutKeepsMaker s (execTallyZeroEvent t s) :=
  .framed <| .ite (State.talRun_framed _ _ (by decide) <| State.setTal_framed _ _ (by decide) <| .refl _) <| .refl _

theorem execTallyCompareFire_keepsMaker : OutKeepsMaker s (execTallyCompareFire t k s) :=
  .framed <| .ite
      (.ite
          (State.talAct_framed _ _ (by decide) <| State.talTrig_framed _ _ (by decide) <|
            State.talScan_framed _ _ (by decide) <| .refl _) <|
        State.talScan_framed _ _ (by decide) <| .refl _)
      (.refl _)

theorem execTallySyncRestart_keepsMaker : OutKeepsMaker s (execTallySyncRestart t s) :=
  .framed <| State.syncFirst_framed _ (by decide) <| .refl _

end

/-! ### Commands of Machine/Measure.lean -/

section
variable {s : State} {who : Fin 384} {ch : Fin 32} {charge : Bool}

theorem execWeffUpdate_keepsMaker : OutKeepsMaker s (execWeffUpdate s) :=
  .framed <| .foldl _ (.refl _) fun _ _ h => State.weffStep_framed _ (by decide) h

theorem execZeroLearn_keepsMaker : OutKeepsMaker s (execZeroLearn s) :=
  .framed <| .foldl _ (.refl _) fun _ _ h => State.zeroStep_framed _ (by decide) h

theorem execGridCycleBoundary_keepsMaker : OutKeepsMaker s (execGridCycleBoundary s) :=
  .framed <| .ite (.refl _) <| State.talRun_framed _ _ (by decide) <| State.gridBoundary_framed (by decide) <|
    .put <| .refl _

theorem execWindowEnd_keepsMaker : OutKeepsMaker s (execWindowEnd s) :=
  .framed <| by
    split
    · exact .refl _
    · exact .ite (.refl _) <| .put <| .foldl _ (State.flagIf_framed _ _ _ _ (by decide) (.refl _)) fun _ _ h =>
        State.closeWindow_framed _ _ _ _ _ (by decide) h

theorem execWinRequal_keepsMaker : OutKeepsMaker s (execWinRequal s) :=
  .framed <| by
    split
    · exact .refl _
    · exact .ite
          (State.setFld_framed _ _ _ _ (by decide) <| .put <| State.flag_framed _ _ _ (by decide) <|
            State.setBit_framed _ _ _ _ (by decide) <| .refl _)
          (.refl _)

theorem execMeasTallyRead_keepsMaker : OutKeepsMaker s (execMeasTallyRead who ch charge s) :=
  .loadingRead

theorem execMeasWinRead_keepsMaker : OutKeepsMaker s (execMeasWinRead who ch s) :=
  .loadingRead

end

/-! ### Commands of Machine/Hedgerow.lean -/

section
variable {s : State} {ch : Fin 32} {loss : LockLoss} {endB deadB fromB atB good recover hdrGood : Bool}
  {set : LoopSet} {run : LockRun} {sess count : Fin 256} {value instant : Word} {node : Fin 16} {slots : List Slot}
  {roundTripNs : Nat}

theorem execHrLockLost_keepsMaker : OutKeepsMaker s (execHrLockLost ch loss s) :=
  .framed <| .ite (.refl _) <|
    .ite (State.breakChain_framed _ _ _ (by decide) <| State.setChain_framed _ _ (by decide) <| .refl _) <|
    State.breakChain_framed _ _ _ (by decide) <| State.setChain_framed _ _ (by decide) <| .refl _

theorem execHrLoopRx_keepsMaker : OutKeepsMaker s (execHrLoopRx ch endB set deadB s) :=
  .framed <| .ite (.refl _) <| .ite (State.breakChain_framed _ _ _ (by decide) (.refl _)) <|
    State.breakChain_framed _ _ _ (by decide) <| .refl _

theorem execHrLockGained_keepsMaker : OutKeepsMaker s (execHrLockGained ch run s) :=
  .framed <| .ite (.refl _) <|
    .ite (State.enterEnum_framed _ (by decide) <| State.setChain_framed _ _ (by decide) <| .refl _) <|
    .ite (State.enterLinkUp_framed _ (by decide) <| State.setChain_framed _ _ (by decide) <| .refl _) <|
    .ite (State.sendEnum_framed _ _ (by decide) <| State.setChain_framed _ _ (by decide) <| .refl _) <|
    State.setChain_framed _ _ (by decide) <| .refl _

theorem execHrLinkTimeout_keepsMaker : OutKeepsMaker s (execHrLinkTimeout ch s) :=
  .framed <| .ite (State.setHstate_framed _ _ (by decide) (.refl _)) <| .refl _

theorem execHrNoNodeTimeout_keepsMaker : OutKeepsMaker s (execHrNoNodeTimeout ch s) :=
  .framed <| .ite (State.enterLinkUp_framed _ (by decide) (.refl _)) <| .refl _

theorem execHrChainCfgWrite_keepsMaker : OutKeepsMaker s (execHrChainCfgWrite sess ch value s) :=
  .sessionWrite sess.isLt (by decide) fun _ =>
    .ite (State.chainUp_framed _ (by decide) (.refl _)) <| .ite (.refl _) <|
    State.chainDown_framed _ (by decide) <| .refl _

theorem execTriggerSend_keepsMaker : OutKeepsMaker s (execTriggerSend s) :=
  .framed <| .ite (.refl _) <| .ite (State.flag_framed _ _ _ (by decide) <| .put <| .refl _) <|
    .foldl _ (.put (.refl _)) fun _ _ h => .ite h <| State.send_framed _ (by decide) h

theorem execSampleInstant_keepsMaker : OutKeepsMaker s (execSampleInstant s) :=
  .framed <| .ite (.refl _) <|
    .ite
      (.put <| .foldl _ (State.recInstant_framed _ _ _ (by decide) (.refl _)) fun _ _ h =>
        State.skipInstant_framed _ _ _ (by decide) h) <|
    .put <| .foldl _ (State.recInstant_framed _ _ _ (by decide) (.refl _)) fun _ _ h =>
    State.closeSlice_framed _ _ _ (by decide) h

theorem execRateApply_keepsMaker : OutKeepsMaker s (execRateApply s) :=
  .framed <| by
    split
    · exact .ite (.refl _) <| State.flag_framed _ _ _ (by decide) <| .put <|
        State.setFld_framed _ _ _ _ (by decide) <| .refl _
    · exact .refl _

theorem execSweepSend_keepsMaker : OutKeepsMaker s (execSweepSend ch s) :=
  .framed <| .ite (.refl _) <|
    .ite
      (State.sendEnum_framed _ _ (by decide) <| State.sweepEnd_framed _ _ _ (by decide) <|
        State.sweepEnd_framed _ _ _ (by decide) <| .refl _) <|
    State.sweepEnd_framed _ _ _ (by decide) <| State.sweepEnd_framed _ _ _ (by decide) <| .refl _

theorem execRecoverSend_keepsMaker : OutKeepsMaker s (execRecoverSend ch s) := by
  unfold execRecoverSend
  extract_lets n one rs
  have hone (endB : Bool) (t : State) (r : Rec) (h : State.Framed quietMask s t) :
      State.Framed quietMask s (one endB t r) := by
    dsimp only [one]
    split
    · exact h
    · exact State.sendFrame_framed _ _ _ _ _ _ _ (by decide) h
  exact .framed <| .ite (.refl s) <| .foldl _ (.foldl _ (.refl s) (hone false)) (hone true)

theorem execNodeCmdRetry_keepsMaker : OutKeepsMaker s (execNodeCmdRetry ch endB s) :=
  .framed <| by
    split
    · exact .refl _
    · exact .ite (.refl _) <| .ite (State.setChain_framed _ _ (by decide) (.refl _)) <|
        State.admitReady_framed _ (by decide) <| State.healCheck_framed _ (by decide) <|
        State.timingDone_framed _ (by decide) <| State.identDone_framed _ (by decide) <|
        State.refuseNode_framed _ _ _ (by decide) <| State.setChain_framed _ _ (by decide) <| .refl _

theorem execSweepFinal_keepsMaker : OutKeepsMaker s (execSweepFinal ch s) :=
  .framed <| .ite (.refl _) <| by
    split
    · exact .refl _
    · exact State.finalise_framed _ _ (by decide) <| .refl _

theorem execNodeLossTimeout_keepsMaker : OutKeepsMaker s (execNodeLossTimeout ch node s) :=
  .framed <| by
    split
    · exact .ite (State.hrZeroReq_framed _ (by decide) (.refl _)) <| .refl _
    · exact .refl _

theorem execProbeCycle_keepsMaker : OutKeepsMaker s (execProbeCycle ch s) :=
  .framed <| .ite (.refl _) <| State.timingDone_framed _ (by decide) <| .foldl _ (.refl _) fun _ _ h =>
    .foldl _ (State.setNode_framed _ _ _ (by decide) h) fun _ _ h1 =>
    .ite (.foldl _ h1 fun _ _ h2 => State.injSend_framed _ _ _ _ (by decide) h2) h1

theorem execEnumRx_keepsMaker : OutKeepsMaker s (execEnumRx ch fromB atB count good s) :=
  .framed <| State.hrRx_framed _ _ (by decide) <| .refl _

theorem execSweepFrameRx_keepsMaker : OutKeepsMaker s (execSweepFrameRx ch recover instant hdrGood slots s) :=
  .framed <| State.hrRx_framed _ _ (by decide) <| .refl _

theorem execProbeRx_keepsMaker {set : ProbeSet} : OutKeepsMaker s (execProbeRx ch endB set roundTripNs s) :=
  .framed <| State.hrRx_framed _ _ (by decide) <| .refl _

end

/-! ### Commands of Machine/Learn.lean -/

section
variable {s : State} {cell : Fin 16384} {ch : Fin 32}

theorem execRelaxFit_keepsMaker : OutKeepsMaker s (execRelaxFit cell s) :=
  .framed <| State.relaxFit_framed _ (by decide) <| .refl _

theorem execRippleIdWindow_keepsMaker : OutKeepsMaker s (execRippleIdWindow ch s) :=
  .framed <| .ite (.refl _) <| State.setStrE_framed _ _ (by decide) <|
    .foldl _
      (.ite (.refl _) <| .foldl _ (.refl _) fun _ _ h =>
        State.rippleCell_framed _ _ _ _ _ (by decide) <| State.relaxFit_framed _ (by decide) h) fun _ _ h =>
      State.setCell_framed _ _ (by decide) h

theorem execSohStaleTimeout_keepsMaker : OutKeepsMaker s (execSohStaleTimeout cell s) :=
  .framed <| .ite (State.flag_framed _ _ _ (by decide) <| State.putCell_framed _ _ (by decide) <| .refl _) <| .refl _

theorem execChargeCheckpoint_keepsMaker : OutKeepsMaker s (execChargeCheckpoint s) :=
  .framed <| .ite (.refl _) <| .foldl _ (.refl _) fun _ _ h =>
    .ite h <| State.flagIf_framed _ _ _ _ (by decide) <| .put <| State.ledgerBulk_framed _ _ _ (by decide) h

theorem execJournalWrite_keepsMaker : OutKeepsMaker s (execJournalWrite s) :=
  .framed <| .put <|
    .foldl _ (.foldl _ (.refl _) fun _ _ h => State.ledgerBulk_framed _ _ _ (by decide) h) fun _ _ h =>
    State.keepEntry_framed _ _ (by decide) h

theorem execSnapshotWrite_keepsMaker : OutKeepsMaker s (execSnapshotWrite cell s) :=
  .framed <| .ite (.refl _) <| State.learnRecord_framed _ (by decide) <| .put <|
    State.ledgerBulk_framed _ _ _ (by decide) <| .refl _

theorem execReconcile_keepsMaker : OutKeepsMaker s (execReconcile ch s) := by
  unfold execReconcile
  extract_lets n find set exact
  have hshow {t : State} {kind k tu : Nat} {dq sg dq' sg' : Rat} {e : Option Int} (ht : State.Framed quietMask s t) :
      State.Framed quietMask s ((set t kind dq sg e).showRecon n k tu dq' sg') :=
    State.showRecon_framed _ _ _ _ _ (by decide) (.put ht)
  clear_value exact set
  have hcount {dis chg : Nat} : State.Framed quietMask s
      ((s.setReg64 .MEAS_QCOUNT n 0 dis).setReg64 .MEAS_QCOUNT n 2 chg) :=
    State.setReg64_framed _ _ _ _ (by decide) <| State.setReg64_framed _ _ _ _ (by decide) <| .refl s
  refine .framed <| .ite (.refl s) ?_
  cases exact with
  | some f => exact hshow hcount
  | none =>
    dsimp only
    split
    case h_1 => exact hshow <| State.flag_framed _ _ _ (by decide) <| State.flag_framed _ _ _ (by decide) hcount
    case h_2 => exact hshow hcount

end

/-! ### Commands of Machine/Estimate.lean -/

section
variable {s : State} {ch : Fin 32} {engine block : Fin 128} {cell : Fin 16384} {sess : Fin 256} {pos : Fin 16}
  {key : BitVec 16} {vlim : Bool} {value : Word} {who : Fin 384}

theorem execSeedWaitTimeout_keepsMaker : OutKeepsMaker s (execSeedWaitTimeout ch s) :=
  .framed <| .foldl _ (.refl _) fun _ _ h =>
    State.flag_framed _ _ _ (by decide) <| State.flag_framed _ _ _ (by decide) <|
    State.putCell_framed _ _ (by decide) h

theorem execEstStep_keepsMaker : OutKeepsMaker s (execEstStep ch s) := by
  unfold execEstStep
  refine .framed <| .ite (.refl s) ?_
  split
  case h_1 => exact .refl s
  case h_2 =>
    extract_lets e used x chain taken y old past q latched stepped i powered shared lag lagged marked
    have hlatched : State.Framed quietMask s latched :=
      State.setStrE_framed _ _ (by decide) <| State.setChain_framed _ _ (by decide) <| .refl s
    have hstepped : State.Framed quietMask s stepped :=
      .foldl _ hlatched fun _ _ h => State.cellStep_framed _ _ _ (by decide) h
    have hpowered : State.Framed quietMask s powered :=
      .ite (.foldl _ hstepped fun _ _ h => State.powerCell_framed _ _ (by decide) h) hstepped
    have hshared : State.Framed quietMask s shared :=
      .foldl _ hpowered fun _ _ h => .ite h <| State.setBlkE_framed _ _ (by decide) h
    have hlagged : State.Framed quietMask s lagged := State.setFld_framed _ _ _ _ (by decide) hshared
    exact State.takeDiv_framed _ (by decide) <| .ite (State.markLate_framed _ _ (by decide) hlagged) hlagged

theorem execLateStep_keepsMaker : OutKeepsMaker s (execLateStep ch s) :=
  .framed <| by
    split
    · exact .refl _
    · exact .ite (State.markLate_framed _ _ (by decide) (.refl _)) <| .refl _

theorem execEngineResumePredict_keepsMaker : OutKeepsMaker s (execEngineResumePredict engine s) :=
  .framed <| .ite (.refl _) <| .foldl _ (.refl _) fun _ _ h => State.blockResume_framed _ (by decide) h

theorem execContextRestore_keepsMaker : OutKeepsMaker s (execContextRestore cell s) :=
  .framed <| by
    split
    · exact .ite (State.restoreCell_framed _ (by decide) (.refl _)) <| .refl _
    · exact .refl _

theorem execContextPersist_keepsMaker : OutKeepsMaker s (execContextPersist block s) :=
  .framed <| .ite (.foldl _ (.refl _) fun _ _ h => State.flagIf_framed _ _ _ _ (by decide) h) <|
    .foldl _ (.refl _) fun _ _ h =>
    .put <| State.setCell_framed _ _ (by decide) <| State.ledgerBulk_framed _ _ _ (by decide) <|
    State.flagIf_framed _ _ _ _ (by decide) h

theorem execSwapKeep_keepsMaker : OutKeepsMaker s (execSwapKeep sess ch pos key s) :=
  .next <| State.swapCmd_keepsMaker_of_quiet sess.isLt (.refl _) fun _ => by
    split
    · exact .refl _
    · exact State.dropKept_framed _ _ (by decide) <|
        .foldl _ (.foldl _ (.refl _) fun _ _ h1 => State.setWords_framed _ _ (by decide) h1) fun _ _ h1 =>
        State.flag_framed _ _ _ (by decide) <| State.putCell_framed _ _ (by decide) h1

theorem execSwapFresh_keepsMaker {key : BitVec 16} : OutKeepsMaker s (execSwapFresh sess ch pos key s) :=
  .next <| State.swapCmd_keepsMaker_of_quiet sess.isLt (.refl s) fun t =>
    State.dropKept_framed _ _ (by decide) <| .foldl _ (.refl t) fun _ k hu =>
    State.putCell_framed k _ (by decide) <| State.freshLearn_quiet <| State.dropAnchor_framed k _ (by decide) hu

theorem execSwapKeepExpiry_keepsMaker : OutKeepsMaker s (execSwapKeepExpiry ch pos s) :=
  .framed <| by
    split
    · exact .ite (State.dropKept_framed _ _ (by decide) (.refl _)) <| .refl _
    · exact .refl _

theorem execEstSoclimWrite_keepsMaker : OutKeepsMaker s (execEstSoclimWrite sess vlim value s) :=
  .next <| .ite (State.sessionWrite_keepsMaker_of_quiet sess.isLt (by decide) (.refl _) fun _ => .refl _) <|
    State.sessionWrite_keepsMaker_of_quiet sess.isLt (by decide) (.refl _) fun _ => .refl _

theorem execAggregate_keepsMaker : OutKeepsMaker s (execAggregate s) :=
  .framed <| .ite (.refl _) <| State.aggContainer_framed _ (by decide) <| .foldl _ (.refl _) fun _ _ h =>
    State.aggString_framed _ _ (by decide) h

theorem execEstStrSocRead_keepsMaker : OutKeepsMaker s (execEstStrSocRead who ch s) :=
  .loadingRead

theorem execEstCtrSocRead_keepsMaker : OutKeepsMaker s (execEstCtrSocRead who s) :=
  .loadingRead

end

/-! ### Commands of Machine/Insertion.lean -/

section
variable {s : State} {sess : Fin 256} {ch : Fin 32} {value : Word} {withOpen : Bool}

theorem execInsert_keepsMaker : OutKeepsMaker s (execInsert sess ch value withOpen s) :=
  .ite
      (.finish <| .quiet (State.setFld_framed _ _ _ _ (by decide) (.refl _)) <|
        State.refuse_keepsMaker sess.isLt <| .refl _) <|
    .finish <| State.sessionCommand_keepsMaker_of_quiet sess.isLt (.refl _) fun _ =>
    State.acceptInsert_framed _ _ (by decide) <| .refl _

theorem execOpenCmd_keepsMaker : OutKeepsMaker s (execOpenCmd sess ch value s) :=
  .finish <| State.sessionCommand_keepsMaker_of_quiet sess.isLt (.refl _) fun _ =>
    State.openCommand_framed _ (by decide) <| .refl _

theorem execTokenGrant_keepsMaker : OutKeepsMaker s (execTokenGrant s) := by
  unfold execTokenGrant
  split
  · exact .finishFramed <| State.enterCheck_framed _ (by decide) <| .refl _
  · exact .framed <| .refl _

theorem execCheckEval_keepsMaker : OutKeepsMaker s (execCheckEval ch s) :=
  .ite (.framed (.refl _)) <| .ite (.finishFramed <| State.inrushFirst_framed _ (by decide) <| .refl _) <|
    .ite (.finishFramed <| State.enterRest_framed _ _ _ _ (by decide) <| .refl _) <| .ite (.framed (.refl _)) <|
    .finishFramed <| State.enterSense_framed _ (by decide) <| .refl _

theorem execQueueTimeout_keepsMaker : OutKeepsMaker s (execQueueTimeout ch s) :=
  .ite
      (.ite (.finishFramed <| State.enterCheck_framed _ (by decide) <| .refl _) <| .finishFramed <|
        State.enterRest_framed _ _ _ _ (by decide) <| State.flag_framed _ _ _ (by decide) <| .refl _) <|
    .framed <| .refl _

theorem execSenseEnd_keepsMaker : OutKeepsMaker s (execSenseEnd ch s) :=
  .ite
      (.finishFramed <| .ite (State.inrushFirst_framed _ (by decide) (.refl _)) <|
        State.senseDone_framed _ (by decide) <| .refl _) <|
    .framed <| .refl _

theorem execInrushTimeout_keepsMaker : OutKeepsMaker s (execInrushTimeout ch s) :=
  .ite
      (.finishFramed <| State.beginOpening_framed _ _ (by decide) <| State.flag_framed _ _ _ (by decide) <| .refl _) <|
    .framed <| .refl _

theorem execTrimTargetUpdate_keepsMaker : OutKeepsMaker s (execTrimTargetUpdate ch s) :=
  .ite (.framed <| State.setIns_framed _ _ (by decide) <| State.alignTarget_framed _ _ (by decide) <| .refl _) <|
    .framed <| .refl _

theorem execAlignTimeout_keepsMaker : OutKeepsMaker s (execAlignTimeout ch s) :=
  .ite
      (.finishFramed <| .ite (State.inrushFirst_framed _ (by decide) (.refl _)) <|
        State.beginOpening_framed _ _ (by decide) <| State.flag_framed _ _ _ (by decide) <| .refl _) <|
    .framed <| .refl _

theorem execVsw10Update_keepsMaker : OutKeepsMaker s (execVsw10Update ch s) :=
  .ite
      (.finishFramed <| State.vsw10Step_framed _ _ (by decide) <| State.setSatFld_framed _ _ _ _ (by decide) <|
        State.setIns_framed _ _ (by decide) <| .refl _) <|
    .framed <| .refl _

theorem execInsBusWrite_keepsMaker : OutKeepsMaker s (execInsBusWrite sess value s) :=
  .finish <| State.sessionWrite_keepsMaker_of_quiet sess.isLt (by decide) (.refl _) fun _ =>
    State.showBus_framed (by decide) <| .refl _

theorem execGateRiseTimeout_keepsMaker : OutKeepsMaker s (execGateRiseTimeout ch s) :=
  .ite
      (.finishFramed <| .ite (State.inrushFirst_framed _ (by decide) (.refl _)) <|
        State.beginOpening_framed _ _ (by decide) <| .refl _) <|
    .framed <| .refl _

theorem execConfirmDone_keepsMaker : OutKeepsMaker s (execConfirmDone ch s) :=
  .ite (.finishFramed <| State.enterReady_framed _ (by decide) <| .refl _) <| .framed <| .refl _

theorem execThermalModelUpdate_keepsMaker : OutKeepsMaker s (execThermalModelUpdate ch s) :=
  .ite
      (.finishFramed <| State.thermalActs_framed _ (by decide) <| State.setBit_framed _ _ _ _ (by decide) <|
        State.showTj_framed _ (by decide) <| State.setIns_framed _ _ (by decide) <| .refl _) <|
    .framed <| .refl _

theorem execRotationSlot_keepsMaker : OutKeepsMaker s (execRotationSlot ch s) :=
  .ite (.finishFramed <| State.newRotation_framed _ (by decide) <| .refl _) <| .framed <| .refl _

theorem execRotationOutgoingOff_keepsMaker : OutKeepsMaker s (execRotationOutgoingOff ch s) :=
  .ite (.framed <| State.gates_framed _ _ _ _ _ _ (by decide) <| State.setIns_framed _ _ (by decide) <| .refl _) <|
    .framed <| .refl _

theorem execInsCfgWrite_keepsMaker : OutKeepsMaker s (execInsCfgWrite sess ch value s) :=
  .sessionWrite sess.isLt (by decide) fun _ => .refl _

theorem execInsThermWrite_keepsMaker : OutKeepsMaker s (execInsThermWrite sess ch value s) :=
  .sessionWrite sess.isLt (by decide) fun _ => .refl _

theorem execInsGrampWrite_keepsMaker : OutKeepsMaker s (execInsGrampWrite sess ch value s) :=
  .sessionWrite sess.isLt (by decide) fun _ => .refl _

end

/-! ### Commands of Machine/PierLink.lean -/

section
variable {s : State} {ch : Fin 32} {frame : Option UplinkFrame} {didt : Bool} {sess : Fin 256} {value : Word}

theorem execBlockLockGained_keepsMaker : OutKeepsMaker s (execBlockLockGained ch s) :=
  .framed <| .ite (State.blockGained_framed _ (by decide) (.refl _)) <| .refl _

theorem execBlockLockLost_keepsMaker : OutKeepsMaker s (execBlockLockLost ch s) :=
  .finishFramed <| .ite (State.blockLost_framed _ (by decide) (.refl _)) <| .refl _

theorem execFrameTick_keepsMaker : OutKeepsMaker s (execFrameTick s) :=
  .finishFramed <| .ite (.refl _) <| .put <|
    .foldl _ (.foldl _ (.refl _) fun _ _ h => .ite h <| State.linkTick_framed _ (by decide) h) fun _ _ h =>
    .ite (State.carrierAhead_framed _ (by decide) h) h

theorem execUplinkFrame_keepsMaker : OutKeepsMaker s (execUplinkFrame ch frame s) := by
  unfold execUplinkFrame
  refine .finishFramed <| .ite ?_ (.refl s)
  split
  case h_1 => exact State.uplinkRx_framed _ _ (by decide) <| .refl s
  case h_2 =>
    extract_lets r t
    have hr : State.Framed quietMask s r.1 := State.injReceive_framed _ _ _ _ (by decide) <| .refl s
    exact State.uplinkHeld_framed _ (by decide) <|
      .ite (State.uplinkRx_framed _ _ (by decide) hr) (State.uplinkRx_framed _ _ (by decide) hr)

theorem execUrgentEventRx_keepsMaker : OutKeepsMaker s (execUrgentEventRx ch didt s) := by
  unfold execUrgentEventRx
  extract_lets t
  have ht : State.Framed quietMask s t := State.flag_framed _ _ _ (by decide) <| .refl s
  have htrip {cause : Nat} : State.Framed quietMask s (t.tripModule ch cause) :=
    State.tripModule_framed _ _ (by decide) ht
  exact .finishFramed <| .ite (.ite ht <| .ite (.ite htrip ht) <| .ite htrip <| .ite ht htrip) (.refl s)

theorem execMbxReply_keepsMaker : OutKeepsMaker s (execMbxReply ch s) :=
  .framed <| .ite (State.mbxDone_framed _ (by decide) (.refl _)) <| .refl _

theorem execMbxReplyTimeout_keepsMaker : OutKeepsMaker s (execMbxReplyTimeout ch s) :=
  .framed <| .ite
      (.ite (State.setLk_framed _ _ (by decide) (.refl _)) <|
        .ite (State.linkRefuse_framed _ _ (by decide) <| State.flag_framed _ _ _ (by decide) <| .refl _) <|
        State.setLk_framed _ _ (by decide) <| State.flag_framed _ _ _ (by decide) <| .refl _)
      (.refl _)

theorem execLinkLost_keepsMaker : OutKeepsMaker s (execLinkLost ch s) :=
  .finishFramed <| .ite (State.linkLoss_framed _ (by decide) (.refl _)) <| .refl _

theorem execFrameSyncTimeout_keepsMaker : OutKeepsMaker s (execFrameSyncTimeout ch s) :=
  .framed <| .ite (State.enterBlock_framed _ (by decide) (.refl _)) <| .refl _

theorem execLostResync_keepsMaker : OutKeepsMaker s (execLostResync ch s) :=
  .framed <| .ite (State.enterFrame_framed _ (by decide) (.refl _)) <| .refl _

theorem execPlkCfgWrite_keepsMaker : OutKeepsMaker s (execPlkCfgWrite sess ch value s) :=
  .sessionWrite sess.isLt (by decide) fun _ => State.linkEnable_framed _ (by decide) <| .refl _

theorem execPlkParamWrite_keepsMaker : OutKeepsMaker s (execPlkParamWrite sess ch value s) :=
  .sessionWrite sess.isLt (by decide) fun _ => State.reParam_framed _ (by decide) <| .refl _

theorem execPlkParam2Write_keepsMaker : OutKeepsMaker s (execPlkParam2Write sess ch value s) :=
  .sessionWrite sess.isLt (by decide) fun _ => State.reParam_framed _ (by decide) <| .refl _

end

/-! ### Commands of Machine/Protection.lean -/

section
variable {s : State} {ch : Fin 32} {sess : Fin 256} {value : Word}

theorem execFastPathUpdate_keepsMaker : OutKeepsMaker s (execFastPathUpdate ch s) :=
  .ite
      (.finishFramed <| .ite
          (State.fastChecks_framed _ (by decide) <| State.fastUpdate_framed _ (by decide) <| .refl _) <|
        State.fastUpdate_framed _ (by decide) <| .refl _) <|
    .framed <| .refl _

theorem execIlimExit_keepsMaker : OutKeepsMaker s (execIlimExit ch s) :=
  .ite
      (.framed <| State.gates_framed _ _ _ _ _ _ (by decide) <| State.setIns_framed _ _ (by decide) <|
        State.setProt_framed _ _ (by decide) <| .refl _) <|
    .framed <| .refl _

theorem execIlimTimeout_keepsMaker : OutKeepsMaker s (execIlimTimeout ch s) :=
  .ite (.finishFramed <| State.trip_framed _ _ (by decide) <| .refl _) <| .framed <| .refl _

theorem execFltTimerReset_keepsMaker : OutKeepsMaker s (execFltTimerReset ch s) :=
  .ite (.framed <| State.setProt_framed _ _ (by decide) <| .refl _) <| .framed <| .refl _

theorem execSlowAccUpdate_keepsMaker : OutKeepsMaker s (execSlowAccUpdate ch s) :=
  .ite (.finishFramed <| State.slowUpdate_framed _ (by decide) <| .refl _) <| .framed <| .refl _

theorem execShuntCompare_keepsMaker : OutKeepsMaker s (execShuntCompare ch s) :=
  .ite (.finishFramed <| State.shuntCompare_framed _ (by decide) <| .refl _) <| .framed <| .refl _

theorem execVbusMedUpdate_keepsMaker : OutKeepsMaker s (execVbusMedUpdate s) :=
  .finishFramed <| State.vbusUpdate_framed (by decide) <| .refl _

theorem execBusFailureQualified_keepsMaker : OutKeepsMaker s (execBusFailureQualified s) :=
  .finishFramed <| State.busQualified_framed (by decide) <| .refl _

theorem execBusLeadEnd_keepsMaker : OutKeepsMaker s (execBusLeadEnd s) := by
  unfold execBusLeadEnd
  split
  · exact .ite (.finishFramed <| State.busTrip_framed _ (by decide) <| .refl _) <| .framed <| .refl _
  · exact .framed <| .refl _

theorem execBusFailwarnRelease_keepsMaker : OutKeepsMaker s (execBusFailwarnRelease s) :=
  .ite (.finishFramed <| State.busEnd_framed (by decide) <| .refl _) <| .framed <| .refl _

theorem execOpenFailTimeout_keepsMaker : OutKeepsMaker s (execOpenFailTimeout ch s) :=
  .finishFramed <| State.openFail_framed _ (by decide) <| .refl _

theorem execSwitchConduct_keepsMaker : OutKeepsMaker s (execSwitchConduct ch s) :=
  .ite
      (.finishFramed <| State.safeRun_framed _ (by decide) <| State.event_framed _ _ _ (by decide) <|
        State.setBit_framed _ _ _ _ (by decide) <| State.flag_framed _ _ _ (by decide) <|
        State.setProt_framed _ _ (by decide) <| .refl _) <|
    .framed <| .refl _

theorem execRetryReady_keepsMaker : OutKeepsMaker s (execRetryReady ch s) :=
  .ite (.finishFramed <| State.retryGo_framed _ (by decide) <| .refl _) <| .framed <| .refl _

theorem execRetryHeal_keepsMaker : OutKeepsMaker s (execRetryHeal ch s) :=
  .ite
      (.framed <| State.flag_framed _ _ _ (by decide) <| State.setFld_framed _ _ _ _ (by decide) <|
        State.setProt_framed _ _ (by decide) <| .refl _) <|
    .framed <| .refl _

theorem execProtClearLockout_keepsMaker : OutKeepsMaker s (execProtClearLockout sess ch value s) :=
  .finish <| State.sessionCommand_keepsMaker_of_quiet sess.isLt (.refl _) fun _ =>
    State.clearLockout_framed _ _ (by decide) <| .refl _

theorem execProtClearDamaged_keepsMaker : OutKeepsMaker s (execProtClearDamaged sess ch value s) :=
  .sessionCommand sess.isLt fun _ => State.clearDamaged_framed _ _ _ (by decide) <| .refl _

theorem execProtClearSrRelease_keepsMaker : OutKeepsMaker s (execProtClearSrRelease sess ch value s) :=
  .sessionCommand sess.isLt fun _ =>
    State.safeRun_framed _ (by decide) <| State.setLk_framed _ _ (by decide) <|
    State.setProt_framed _ _ (by decide) <| State.setBit_framed _ _ _ _ (by decide) <| .refl _

theorem execProtIlimWrite_keepsMaker : OutKeepsMaker s (execProtIlimWrite sess ch value s) :=
  .sessionWrite sess.isLt (by decide) fun _ => State.derate_framed _ (by decide) <| .refl _

theorem execProtSlowWrite_keepsMaker : OutKeepsMaker s (execProtSlowWrite sess ch value s) :=
  .sessionWrite sess.isLt (by decide) fun _ => State.derate_framed _ (by decide) <| .refl _

theorem execProtRevWrite_keepsMaker : OutKeepsMaker s (execProtRevWrite sess ch value s) :=
  .sessionWrite sess.isLt (by decide) fun _ => .refl _

theorem execProtModWrite_keepsMaker {didt : Bool} : OutKeepsMaker s (execProtModWrite sess ch value didt s) :=
  .sessionWrite sess.isLt (by cases didt <;> decide) fun t => State.reParam_framed _ (by decide) <| .refl t

theorem execProtBusCfgWrite_keepsMaker : OutKeepsMaker s (execProtBusCfgWrite sess value s) :=
  .sessionWrite sess.isLt (by decide) fun _ => .refl _

theorem execProtLastRead_keepsMaker : OutKeepsMaker s (execProtLastRead sess ch s) :=
  .loadingRead

theorem execCoordTripSend_keepsMaker : OutKeepsMaker s (execCoordTripSend s) := by
  unfold execCoordTripSend
  split
  · exact .framed <| .refl _
  · exact .ite (.framed <| State.sendCoord_framed _ (by decide) <| .put <| .refl _) <| .framed <| .refl _

end

/-! ### Commands of Machine/Trim.lean -/

section
variable {s : State} {ch : Fin 32} {sess : Fin 256} {value : Word}

theorem execSharePeriod_keepsMaker : OutKeepsMaker s (execSharePeriod s) :=
  .framed <| State.shareBoundary_framed (by decide) <| .refl _

theorem execHandoverWindowEnd_keepsMaker : OutKeepsMaker s (execHandoverWindowEnd ch s) :=
  .framed <| .ite (State.setBit_framed _ _ _ _ (by decide) (.refl _)) <| .refl _

theorem execTrmCfgWrite_keepsMaker : OutKeepsMaker s (execTrmCfgWrite sess ch value s) :=
  .sessionWrite sess.isLt (by decide) fun _ => State.shareEnWritten_framed _ (by decide) <| .refl _

theorem execTrmVsetWrite_keepsMaker : OutKeepsMaker s (execTrmVsetWrite sess ch value s) :=
  .sessionWrite sess.isLt (by decide) fun _ => State.vsetTarget_framed _ (by decide) <| .refl _

theorem execTrimCurrentCompare_keepsMaker : OutKeepsMaker s (execTrimCurrentCompare ch s) :=
  .ite (.framed <| State.trimCompare_framed _ (by decide) <| .refl _) <| .framed <| .refl _

end

/-! ### Commands of Machine/Services.lean -/

section
variable {s : State} {sess : Fin 256} {value : Word} {ch : Fin 32} {who : Fin 384} {second : Bool}

theorem execDspReqWrite_keepsMaker : OutKeepsMaker s (execDspReqWrite sess value s) :=
  .next <| .quiet (State.flagIf_framed _ _ _ _ (by decide) (.refl _)) <|
    State.sessionWrite_keepsMaker_of_quiet sess.isLt (by decide) (.refl _) fun _ => .put <| .refl _

theorem execDispatchPass_keepsMaker : OutKeepsMaker s (execDispatchPass s) :=
  .framed <| .ite (State.dispatchPass_framed _ (by decide) (.refl _)) <| .refl _

theorem execLimitRepublish_keepsMaker : OutKeepsMaker s (execLimitRepublish ch s) :=
  .framed <| .ite (.refl _) <|
    .ite
      (State.reqLimited_framed (by decide) <| State.publishLimits_framed _ (by decide) <|
        State.flag_framed _ _ _ (by decide) <| .put <| .refl _) <|
    State.publishLimits_framed _ (by decide) <| State.flag_framed _ _ _ (by decide) <| .put <| .refl _

theorem execZeroReqOpen_keepsMaker : OutKeepsMaker s (execZeroReqOpen ch s) := by
  unfold execZeroReqOpen
  dsimp only
  split
  case h_1 => exact .framed <| .refl s
  case h_2 =>
    have hcleared {x : Trim} : State.Framed quietMask s (s.setTrim ch x) :=
      State.setTrim_framed _ _ (by decide) <| .refl s
    exact .ite (.framed hcleared) <| .ite (.finishFramed <| State.openCommand_framed _ (by decide) hcleared) <|
      .framed <| .refl s

theorem execDspEvtRead_keepsMaker : OutKeepsMaker s (execDspEvtRead who s) :=
  .next <| .ite (State.answer_keepsMaker <| .ite (State.touch_keepsMaker (.refl _)) <| .refl _) <| by
    split
    · exact State.answer_keepsMaker <| .ite (State.touch_keepsMaker (.refl _)) <| .refl _
    · exact State.answer_keepsMaker <| .quiet (.put (.refl _)) <| .ite (State.touch_keepsMaker (.refl _)) <| .refl _

theorem execDspAckWrite_keepsMaker : OutKeepsMaker s (execDspAckWrite sess value s) :=
  .sessionCommand sess.isLt fun _ => .put <| .refl _

theorem execBalPass_keepsMaker : OutKeepsMaker s (execBalPass s) :=
  .framed <| .ite (.refl _) <| .foldl _ (.refl _) fun _ _ h => .ite (State.balString_framed _ (by decide) h) h

theorem execDspBalCfgWrite_keepsMaker : OutKeepsMaker s (execDspBalCfgWrite sess second value s) :=
  .next <| .ite (State.sessionWrite_keepsMaker_of_quiet sess.isLt (by decide) (.refl _) fun _ => .refl _) <|
    State.sessionWrite_keepsMaker_of_quiet sess.isLt (by decide) (.refl _) fun _ => .refl _

theorem execHvacEval_keepsMaker : OutKeepsMaker s (execHvacEval s) :=
  .framed <| .ite (.refl _) <| State.hvacEval_framed (by decide) <| .refl _

theorem execRecFrameWrite_keepsMaker : OutKeepsMaker s (execRecFrameWrite s) :=
  .framed <| by
    split
    · exact .refl _
    · exact .ite (.refl _) <| .ite (State.recFrame_framed _ (by decide) <| .put <| .refl _) <| .put <| .refl _

theorem execRecArm_keepsMaker : OutKeepsMaker s (execRecArm sess s) :=
  .next <| State.recCmd_keepsMaker_of_quiet sess.isLt (.refl _) fun _ => State.armRec_framed (by decide) <| .refl _

theorem execRecTrigger_keepsMaker : OutKeepsMaker s (execRecTrigger sess s) :=
  .next <| State.recCmd_keepsMaker_of_quiet sess.isLt (.refl _) fun _ =>
    State.recAny_framed _ _ (by decide) <| .refl _

theorem execRecStop_keepsMaker : OutKeepsMaker s (execRecStop sess s) :=
  .next <| State.recCmd_keepsMaker_of_quiet sess.isLt (.refl _) fun _ => State.stopRec_framed (by decide) <| .refl _

theorem execRecStampRead_keepsMaker : OutKeepsMaker s (execRecStampRead who s) :=
  .loadingRead

end

/-! ### Commands of Machine/Commons.lean -/

section
variable {s : State} {sess : Fin 256} {queue : Fin 65536} {cls : Fin 6} {port : Fin 2} {kind dst : Byte}
  {payload : List Byte} {state : Fin 3} {west good : Bool} {frame : EthFrame} {residence : Nat} {who : Fin 384}
  {count : BitVec 16}

/-- A handshake opens a session of number below 256, and a maker's only while MAKER_SESS is 0. -/
theorem execSessionHandshake_keepsMaker {h : Handshake} : OutKeepsMaker s (execSessionHandshake h s) := by
  unfold execSessionHandshake
  extract_lets recent com t
  have ht : State.Framed quietMask s t := .put (.refl s)
  have hrefused (alert : Bool) : State.Framed quietMask s (t.refuseHandshake h alert) :=
    State.refuseHandshake_framed _ _ (by decide) ht
  refine .next <| .ite (.framed ht) <|
    .ite (.framed <| State.flag_framed _ _ _ (by decide) ht) ?_
  split
  case h_1 => exact .framed <| State.flag_framed _ _ _ (by decide) (hrefused false)
  case h_2 k hfree =>
    split
    case h_1 => exact .framed (hrefused true)
    case h_2 r _ =>
      refine .ite (.framed (hrefused false)) ?_
      split
      case isTrue => exact .framed (hrefused true)
      case isFalse hnone =>
        exact State.openSession_keepsMaker (List.mem_range.mp (List.mem_of_find?_eq_some hfree))
          (fun hr => Bool.eq_false_iff.mpr fun hopen => hnone ⟨hr, hopen⟩) (.framed ht)

theorem execSessionIdleTimeout_keepsMaker : OutKeepsMaker s (execSessionIdleTimeout sess s) :=
  .next <| .ite (State.closeSession_keepsMaker (.refl _)) <| .refl _

theorem execSessionClose_keepsMaker : OutKeepsMaker s (execSessionClose sess s) :=
  .next <| State.closeSession_keepsMaker <| .refl _

theorem execServiceOpen_keepsMaker {service : Service} {queues : Fin 1024} {subs : Fin 64} :
    OutKeepsMaker s (execServiceOpen sess service queues subs s) := by
  unfold execServiceOpen
  have htouched : s.KeepsMaker (s.touch sess) := State.touch_keepsMaker (.refl s)
  have hfull {m : Msg} : s.KeepsMaker (((s.touch sess).flag F.COM_FLAGS_CAPACITY).send m) :=
    .quiet (State.send_framed _ (by decide) <| State.flag_framed _ _ _ (by decide) <| .refl _) htouched
  refine .next <| .ite (State.answer_keepsMaker htouched) <| .ite (State.answer_keepsMaker hfull) ?_
  refine State.answer_keepsMaker <| .quiet (State.showQueues_framed (by decide) <| .refl _) <|
    .foldl _ (State.setSession_keepsMaker (fun _ => sess.isLt) rfl rfl htouched) fun t q ht => ?_
  exact .quiet (.put <| State.qBind_framed _ _ _ _ _ (by decide) <| State.draw_framed (by decide) <| .refl t) ht

theorem execFrameEnqueue_keepsMaker {port : Byte} :
    OutKeepsMaker s (execFrameEnqueue queue cls port kind dst payload s) :=
  .framed <| .ite (.ite (.refl _) <| State.deviceBind_framed _ _ _ (by decide) <| .refl _) <|
    State.enqueue_framed _ _ _ _ (by decide) <| .ite (.refl _) <| State.deviceBind_framed _ _ _ (by decide) <| .refl _

theorem execFrameSend_keepsMaker {port : Fin 4} : OutKeepsMaker s (execFrameSend port s) := by
  unfold execFrameSend
  extract_lets p aged pct cap offers
  have haged : State.Framed quietMask s aged :=
    .ite (State.flushPubs_framed (by decide) <| State.bulkAge_framed (by decide) <| .refl s) <|
      State.bulkAge_framed (by decide) <| .refl s
  refine .framed <| .ite haged ?_
  split
  case h_1 => exact haged
  case h_2 c _ =>
    extract_lets r
    have hr : State.Framed quietMask s r.1 := State.chooseOffer_framed _ _ _ (by decide) haged
    split
    case h_1 => exact hr
    case h_2 q f i _ =>
      extract_lets frame left fs done kept out com sent
      have hkept : State.Framed quietMask s kept := State.setFrames_framed _ _ (by decide) hr
      have hout : State.Framed quietMask s out :=
        .ite (State.setQFill_framed _ _ (by decide) <| State.qOut_framed _ (by decide) hkept) hkept
      exact State.injSend_framed _ _ _ _ (by decide) <| .ite (State.showBulk_framed _ (by decide) <| .put hout) hout

theorem execPrpSupervision_keepsMaker : OutKeepsMaker s (execPrpSupervision s) :=
  .framed <| .ite (.foldl _ (.refl _) fun _ _ h => .ite (State.send_framed _ (by decide) h) h) <| .refl _

theorem execEthLinkChange_keepsMaker : OutKeepsMaker s (execEthLinkChange port state s) := by
  unfold execEthLinkChange
  extract_lets p was st shown locked lost
  have hlocked : State.Framed quietMask s locked :=
    State.setBit_framed _ _ _ _ (by decide) <| State.setFld_framed _ _ _ _ (by decide) <| .refl s
  have hlost : State.Framed quietMask s lost :=
    .ite (State.setBit_framed _ _ _ _ (by decide) <| State.setFld_framed _ _ _ _ (by decide) hlocked) hlocked
  exact .framed <| .ite (State.ethCycle_framed _ _ (by decide) hlost) <|
    .ite (State.ethCycle_framed _ _ (by decide) hlost) hlost

theorem execPreemptVerifyDone_keepsMaker : OutKeepsMaker s (execPreemptVerifyDone port s) :=
  .framed <| .ite (State.setBit_framed _ _ _ _ (by decide) (.refl _)) <| .refl _

theorem execSpanSelfTestPass_keepsMaker : OutKeepsMaker s (execSpanSelfTestPass s) :=
  .framed <| .ite
      (.put <| State.setBit_framed _ _ _ _ (by decide) <| State.setPstate_framed _ _ (by decide) <|
        State.setPstate_framed _ _ (by decide) <| .refl _)
      (.refl _)

theorem execSpanSelfTestTimeout_keepsMaker : OutKeepsMaker s (execSpanSelfTestTimeout s) :=
  .framed <| .ite
      (.ite
          (State.setPstate_framed _ _ (by decide) <| State.setPstate_framed _ _ (by decide) <|
            State.flag_framed _ _ _ (by decide) <| .put <| .refl _) <|
        State.flag_framed _ _ _ (by decide) <| .put <| .refl _)
      (.refl _)

theorem execSpanTrainDone_keepsMaker : OutKeepsMaker s (execSpanTrainDone west s) :=
  .framed <|
    .ite (State.setBit_framed _ _ _ _ (by decide) <| State.setPstate_framed _ _ (by decide) <| .refl _) <| .refl _

theorem execSpanLockLost_keepsMaker : OutKeepsMaker s (execSpanLockLost west s) :=
  .framed <| .ite (State.spanRetrain_framed _ (by decide) (.refl _)) <|
    .ite
      (State.setBit_framed _ _ _ _ (by decide) <| State.lossCount_framed _ (by decide) <|
        State.setPstate_framed _ _ (by decide) <| .refl _) <|
    .ite (State.setBit_framed _ _ _ _ (by decide) <| State.lossCount_framed _ (by decide) <| .refl _) <|
    .ite (State.setBit_framed _ _ _ _ (by decide) (.refl _)) <| .refl _

theorem execNeighbourSend_keepsMaker : OutKeepsMaker s (execNeighbourSend s) :=
  .framed <| .foldl _ (.refl _) fun _ _ h =>
    .ite (State.injSend_framed _ _ _ _ (by decide) <| State.nextSeq_framed _ (by decide) h) h

theorem execNeighbourMiss_keepsMaker : OutKeepsMaker s (execNeighbourMiss west s) :=
  .framed <| .ite (State.spanRetrain_framed _ (by decide) (.refl _)) <| .refl _

theorem execJoinTimeout_keepsMaker : OutKeepsMaker s (execJoinTimeout s) :=
  .framed <| by
    split
    · exact .ite
          (State.flag_framed _ _ _ (by decide) <| State.setBit_framed _ _ _ _ (by decide) <| .put <| .refl _)
          (.refl _)
    · exact .refl _

theorem execJoinRetry_keepsMaker : OutKeepsMaker s (execJoinRetry s) :=
  .framed <| by
    split
    · exact .ite
          (State.setPstate_framed _ _ (by decide) <| State.setPstate_framed _ _ (by decide) <|
            State.leaveUp_framed _ (by decide) <| State.leaveUp_framed _ (by decide) <| .put <| .refl _)
          (.refl _)
    · exact .refl _

theorem execRingScanSend_keepsMaker : OutKeepsMaker s (execRingScanSend s) :=
  .framed <| .ite
      (.ite (.put <| State.nextSeq_framed _ (by decide) <| .refl _) <| State.injSend_framed _ _ _ _ (by decide) <|
        .put <| State.nextSeq_framed _ (by decide) <| .refl _)
      (.refl _)

theorem execRingScanTimeout_keepsMaker : OutKeepsMaker s (execRingScanTimeout s) :=
  .framed <| by
    split
    · exact .ite
          (State.flagIf_framed _ _ _ _ (by decide) <| State.setFld_framed _ _ _ _ (by decide) <|
            State.setBit_framed _ _ _ _ (by decide) <| .put <| .refl _)
          (.refl _)
    · exact .refl _

theorem execEthFrameRx_keepsMaker : OutKeepsMaker s (execEthFrameRx port frame s) :=
  .next <| .ite (.refl _) <| State.releaseRx_keepsMaker <|
    .ite (.framed <| State.injReceive_framed _ _ _ _ (by decide) <| .refl _) <| State.ethRx_keepsMaker <| .framed <|
    State.injReceive_framed _ _ _ _ (by decide) <| .refl _

theorem execSpanFrameRx_keepsMaker {frame : SpanFrame} :
    OutKeepsMaker s (execSpanFrameRx west good queue residence frame s) := by
  unfold execSpanFrameRx
  extract_lets f own scanned taken
  have hscanned : s.KeepsMaker scanned := .ite (.framed <| State.scanRx_framed _ _ (by decide) <| .refl s) (.refl s)
  have htaken : s.KeepsMaker taken := .ite (State.spanLocal_keepsMaker hscanned) hscanned
  exact .next <| .ite (.refl s) <| .ite (.framed <| State.neighbourRx_framed _ _ (by decide) <| .refl s) <|
    .ite (.refl s) <| .ite hscanned <|
    .ite (.quiet (State.spanForward_framed _ _ _ (by decide) (.refl taken)) htaken) htaken

theorem execCoordTripRx_keepsMaker : OutKeepsMaker s (execCoordTripRx s) := by
  unfold execCoordTripRx
  split
  · exact .framed <| .refl _
  · exact .finishFramed <| State.coordRx_framed _ (by decide) <| .put <| .refl _

theorem execSpanTripRxRead_keepsMaker : OutKeepsMaker s (execSpanTripRxRead who s) :=
  .loadingRead

theorem execInjStart_keepsMaker : OutKeepsMaker s (execInjStart sess count s) := by
  unfold execInjStart
  extract_lets free ok t
  have ht : s.KeepsMaker t := State.sessionCommand_keepsMaker_of_quiet sess.isLt (.refl s) fun u =>
    State.ledger_framed _ _ (by decide) <| State.flag_framed _ _ _ (by decide) <| .put <|
    State.setBit_framed _ _ _ _ (by decide) <| State.setReg_framed _ _ _ _ (by decide) <| .refl u
  exact .next <| .ite (.quiet (State.setFld_framed _ _ _ _ (by decide) (.refl t)) ht) ht

theorem execInjStop_keepsMaker : OutKeepsMaker s (execInjStop sess s) :=
  .sessionCommand sess.isLt fun _ => State.injEnd_framed _ (by decide) <| .refl _

theorem execInjTimeout_keepsMaker : OutKeepsMaker s (execInjTimeout s) :=
  .framed <| .ite (State.injEnd_framed _ (by decide) (.refl _)) <| .refl _

end

/-! ### Commands of Machine/Belfry.lean -/

section
variable {s : State} {who : Fin 384} {tb : Fin 8} {sess : Fin 256} {value delay : Word} {ref : Fin 3} {port : Fin 4}
  {kind : PtpKind} {sub : Fin 65536} {west : Bool}

theorem execTbNsRead_keepsMaker : OutKeepsMaker s (execTbNsRead who tb s) :=
  .next <| .ite (State.answer_keepsMaker <| .ite (State.touch_keepsMaker (.refl _)) <| .refl _) <|
    State.answer_keepsMaker <| .quiet (State.tbShadows_framed _ _ (by decide) (.refl _)) <|
    .ite (State.touch_keepsMaker (.refl _)) <| .refl _

theorem execBfSnap_keepsMaker : OutKeepsMaker s (execBfSnap sess s) :=
  .next <| .ite (State.answer_keepsMaker <| State.touch_keepsMaker <| .refl _) <| State.answer_keepsMaker <|
    .foldl _ (State.touch_keepsMaker (.refl _)) fun _ _ h =>
    .quiet
      (State.setShadow_framed _ _ _ _ _ <| State.setShadow_framed _ _ _ _ _ <|
        State.setShadow_framed _ _ _ _ _ <| .refl _) h

theorem execTbIncWrite_keepsMaker : OutKeepsMaker s (execTbIncWrite who tb value s) :=
  .next <| State.belWrite_keepsMaker_of_quiet (by decide) (.refl _) fun _ =>
    State.setTb_framed _ _ (by decide) <| .refl _

theorem execTbAdjWrite_keepsMaker : OutKeepsMaker s (execTbAdjWrite who tb value s) :=
  .next <| State.belWrite_keepsMaker_of_quiet (by decide) (.refl _) fun _ =>
    State.adjWritten_framed _ (by decide) <| .refl _

theorem execSlewDone_keepsMaker : OutKeepsMaker s (execSlewDone tb s) :=
  .framed <| State.slewEnd_framed _ (by decide) <| .refl _

theorem execTbApply_keepsMaker : OutKeepsMaker s (execTbApply who tb s) :=
  .next <| State.belCommand_keepsMaker_of_quiet (.refl _) fun _ =>
    State.setBit_framed _ _ _ _ (by decide) <| State.tbStep_framed _ _ _ (by decide) <| .refl _

theorem execTbServoReport_keepsMaker : OutKeepsMaker s (execTbServoReport who tb value s) :=
  .next <| State.belWrite_keepsMaker_of_quiet (by decide) (.refl _) fun _ =>
    State.servoReport_framed _ (by decide) <| .refl _

theorem execServoReportTimeout_keepsMaker : OutKeepsMaker s (execServoReportTimeout tb s) :=
  .framed <| by
    split
    · exact .ite
          (State.flagIf_framed _ _ _ _ (by decide) <| State.unqualify_framed _ (by decide) <|
            State.setTb_framed _ _ (by decide) <| .refl _)
          (.refl _)
    · exact .refl _

theorem execRefReport_keepsMaker : OutKeepsMaker s (execRefReport who ref value s) :=
  .next <| State.belWrite_keepsMaker_of_quiet (by decide) (.refl _) fun _ =>
    State.refReport_framed _ (by decide) <| .refl _

theorem execRefReportTimeout_keepsMaker : OutKeepsMaker s (execRefReportTimeout ref s) :=
  .framed <| by
    split
    · exact .ite (State.refBad_framed _ (by decide) <| State.setRef_framed _ _ (by decide) <| .refl _) <| .refl _
    · exact .refl _

theorem execHoldoverQualEnd_keepsMaker : OutKeepsMaker s (execHoldoverQualEnd s) :=
  .framed <| .ite (State.setQual_framed _ _ (by decide) <| State.setTb_framed _ _ (by decide) <| .refl _) <| .refl _

theorem execPtpMessageRx_keepsMaker : OutKeepsMaker s (execPtpMessageRx port kind sub s) :=
  .next <| .ite (.refl _) <| State.releaseRx_keepsMaker <|
    .ite
      (.framed <| State.ptpRx_framed _ _ _ (by decide) <| State.injReceive_framed _ _ _ _ (by decide) <| .refl _) <|
    .framed <| State.injReceive_framed _ _ _ _ (by decide) <| .refl _

theorem execSpanSyncSend_keepsMaker : OutKeepsMaker s (execSpanSyncSend s) :=
  .framed <| .ite (.refl _) <| .foldl _ (State.nextSeq_framed _ (by decide) (.refl _)) fun _ _ h =>
    .ite (State.injSend_framed _ _ _ _ (by decide) h) h

theorem execSpanPdelay_keepsMaker : OutKeepsMaker s (execSpanPdelay west delay s) :=
  .framed <| .ite
      (State.setReg_framed _ _ _ _ (by decide) <| State.injSend_framed _ _ _ _ (by decide) <|
        State.nextSeq_framed _ (by decide) <| .refl _)
      (.refl _)

theorem execGridSyncEdge_keepsMaker : OutKeepsMaker s (execGridSyncEdge sub s) :=
  .framed <| .ite (.refl _) <| .put <| .refl _

theorem execGridEdgeMissing_keepsMaker : OutKeepsMaker s (execGridEdgeMissing s) :=
  .framed <| by
    split
    · exact .ite (.put (.refl _)) <| .refl _
    · exact .refl _

end

/-! ### Commands of Machine/Convert.lean -/

section
variable {s : State} {sess : Fin 256} {target : Fin 64} {conv : Fin 48} {raw tj intPpm extPpm : Int} {loc : Fin 4}
  {value : Word} {block : Fin 12} {who : Fin 384} {group : Fin 16}

theorem execAdcRegTrigger_keepsMaker : OutKeepsMaker s (execAdcRegTrigger conv s) := by
  unfold execAdcRegTrigger
  split
  case h_1 ht => exact .framed <| State.fireRegular_framed _ (by decide) (State.takeTrig_quiet ht)
  case h_2 => exact .framed <| .refl s

theorem execAdcInjTrigger_keepsMaker : OutKeepsMaker s (execAdcInjTrigger conv s) := by
  unfold execAdcInjTrigger
  split
  case h_1 ht => exact .framed <| State.fireInjected_framed _ (by decide) (State.takeTrig_quiet ht)
  case h_2 => exact .framed <| .refl s

theorem execAdcGroupTrigger_keepsMaker {group : Fin 16} : OutKeepsMaker s (execAdcGroupTrigger group s) := by
  unfold execAdcGroupTrigger
  split
  case h_1 ht => exact .framed <| State.fireGroup_framed _ (by decide) (State.takeTrig_quiet ht)
  case h_2 => exact .framed <| .refl s

theorem execSwtrigRegular_keepsMaker : OutKeepsMaker s (execSwtrigRegular sess target s) :=
  .next <| State.swTrig_keepsMaker_of_quiet sess.isLt (.refl _) fun _ =>
    State.fireRegular_framed _ (by decide) <| .refl _

theorem execSwtrigInjected_keepsMaker : OutKeepsMaker s (execSwtrigInjected sess target s) :=
  .next <| State.swTrig_keepsMaker_of_quiet sess.isLt (.refl _) fun _ =>
    State.fireInjected_framed _ (by decide) <| .refl _

theorem execSwtrigGroup_keepsMaker : OutKeepsMaker s (execSwtrigGroup sess target s) :=
  .next <| State.swTrig_keepsMaker_of_quiet sess.isLt (.refl _) fun _ =>
    State.fireGroup_framed _ (by decide) <| .refl _

theorem execAdcEntryDone_keepsMaker : OutKeepsMaker s (execAdcEntryDone conv raw s) :=
  .framed <| .ite (.refl _) <| by
    split
    · exact .refl _
    · exact State.regNext_framed _ _ (by decide) <| State.regResult_framed _ _ _ (by decide) <| .refl _
    · exact State.injNext_framed _ _ (by decide) <| State.setReg_framed _ _ _ _ (by decide) <|
        State.clipIf_framed _ _ (by decide) <| .refl _
    · exact State.passEnd_framed _ (by decide) <| State.owResult_framed _ _ _ (by decide) <| .refl _

theorem execOwDue_keepsMaker : OutKeepsMaker s (execOwDue conv loc s) :=
  .framed <| .ite (State.setAdcIn_framed _ _ _ (by decide) (.refl _)) <| .refl _

theorem execAdcCfgWrite_keepsMaker {reg : AdcReg} {idx : Fin 192} :
    OutKeepsMaker s (execAdcCfgWrite sess reg idx value s) := by
  have hreg : adcRegOf reg ≠ .TG_STATE := by cases reg <;> decide
  have htouched : s.KeepsMaker (s.touch sess) := State.touch_keepsMaker (.refl s)
  refine .next <| .ite htouched <| .ite (State.answer_keepsMaker htouched) <|
    .ite (State.refuse_keepsMaker sess.isLt htouched) ?_
  have haccepted {new : Nat} : s.KeepsMaker ((s.touch sess).accept sess (adcRegOf reg) idx 0 new) :=
    State.accept_keepsMaker sess.isLt htouched
  have hstaged (t : State) (a : Nat) (c : Conv) : State.Framed quietMask t (t.setConv a c) :=
    State.setConv_framed _ _ (by decide) <| .refl t
  have hstopped (t : State) {a i v : Nat} {c : Conv} :
      State.Framed quietMask t (((t.setConv a c).setReg (adcRegOf reg) i 0 v).convOff a) :=
    State.convOff_framed _ (by decide) <| State.setReg_framed _ _ _ _ (quiet_regMask hreg) (hstaged t _ _)
  refine .ite (.quiet (State.convApply_framed _ (by decide) (hstopped _)) haccepted) <|
    .ite ?_ (.quiet (hstaged _ _ _) haccepted)
  exact .quiet (State.convKick_framed _ (by decide) <| State.convApply_framed _ (by decide) <| hstaged _ _ _) haccepted

theorem execCalStartCmd_keepsMaker : OutKeepsMaker s (execCalStartCmd sess value s) :=
  .sessionCommand sess.isLt fun _ =>
    .foldl _ (.refl _) fun _ _ h1 =>
    .ite h1 <| .ite (State.calBegin_framed _ _ _ (by decide) <| State.setReg_framed _ _ _ _ (by decide) h1) <|
    State.setReg_framed _ _ _ _ (by decide) h1

theorem execCalAuto_keepsMaker : OutKeepsMaker s (execCalAuto block tj s) :=
  .framed <| .ite (State.calBegin_framed _ _ _ (by decide) (.refl _)) <| .refl _

theorem execCalDone_keepsMaker {tj : Int} {runs : Vector CalRun 4} : OutKeepsMaker s (execCalDone block tj runs s) := by
  unfold execCalDone
  extract_lets b q x unheld idle contained judged kicked
  have hruns : State.Framed quietMask s q.1 :=
    .foldlFst _ _ (.refl s) fun acc l h => by
      dsimp only
      split
      · exact State.calConv_framed _ _ _ (by decide) h
      · exact h
  have hidle : State.Framed quietMask s idle :=
    State.setReg_framed _ _ _ _ (by decide) <| State.setConvBlock_framed _ _ (by decide) hruns
  have hjudged : State.Framed quietMask s judged :=
    .ite (State.flag_framed _ _ _ (by decide) hidle) <|
      State.convContained_framed _ _ (by decide) <| State.containUnit_framed _ _ _ (by decide) hidle
  have hkicked : State.Framed quietMask s kicked :=
    .foldl _ hjudged fun _ _ h => State.convKick_framed _ (by decide) h
  exact .framed <| .ite (.refl s) <| State.calMoved_framed (by decide) <| State.recalDone_framed _ (by decide) hkicked

theorem execRefCheck_keepsMaker : OutKeepsMaker s (execRefCheck block intPpm extPpm s) := by
  unfold execRefCheck
  extract_lets b was checked good settle through judged
  have hchecked : State.Framed quietMask s checked :=
    State.showRefs_framed _ _ (by decide) <| State.checkRefs_framed _ _ _ (by decide) <| .refl s
  have hthrough : State.Framed quietMask s through := .ite (.put hchecked) hchecked
  have hjudged : State.Framed quietMask s judged :=
    .ite (State.intBad_framed _ (by decide) hthrough) <| .ite (State.intBack_framed _ (by decide) hthrough) hthrough
  exact .framed <| .ite (.refl s) <| State.settleCheck_framed (by decide) <|
    .foldl _ hjudged fun _ _ h => State.refWatch_framed _ (by decide) h

theorem execRefSwitchDone_keepsMaker : OutKeepsMaker s (execRefSwitchDone conv s) := by
  unfold execRefSwitchDone
  extract_lets a c switched back flagged
  have hback : State.Framed quietMask s back :=
    State.setConv_framed _ _ (by decide) <| State.setBit_framed _ _ _ _ (by decide) <|
      State.setFld_framed _ _ _ _ (by decide) <| .refl s
  have hflagged : State.Framed quietMask s flagged := by
    unfold flagged
    split
    · exact State.flag_framed _ _ _ (by decide) hback
    · exact State.flag_framed _ _ _ (by decide) hback
    · exact hback
  exact .framed <| .ite (.refl s) <| State.settleCheck_framed (by decide) <| State.convKick_framed _ (by decide) <|
    State.refWatch_framed _ (by decide) hflagged

theorem execConvRefWrite_keepsMaker : OutKeepsMaker s (execConvRefWrite sess conv value s) :=
  .sessionWrite sess.isLt (by decide) fun _ =>
    State.refWatch_framed _ (by decide) <| State.setConv_framed _ _ (by decide) <| .refl _

theorem execRefLateTimeout_keepsMaker : OutKeepsMaker s (execRefLateTimeout s) :=
  .framed <| .ite
      (State.settleCheck_framed (by decide) <|
        .foldl _ (State.calAll_framed (by decide) <| State.flag_framed _ _ _ (by decide) <| .put <| .refl _)
        fun _ _ h =>
          State.setConvBlock_framed _ _ (by decide) h)
      (.refl _)

theorem execGrpStampRead_keepsMaker : OutKeepsMaker s (execGrpStampRead who group s) :=
  .next <| .ite (.framed <| State.answer_framed _ (by decide) <| .refl _) <| State.loadingRead_keepsMaker <| .refl _

end

/-! ### Commands of Machine/Parapet.lean -/

section
variable {s : State} {span pass : Bool} {src : Nat} {pdu : ParPdu} {tdst : Byte} {connId mask : Word} {conn : Fin 256}
  {ch : Fin 32} {lane : Fin 2} {who : Fin 384}

theorem execParapetPduRx_keepsMaker : OutKeepsMaker s (execParapetPduRx span src pdu s) := by
  unfold execParapetPduRx
  have hbad : State.Framed quietMask s s.crcDiscard := State.crcDiscard_framed (by decide) <| .refl s
  refine .finishFramed <| .ite (.refl s) <| .ite hbad <| .ite (State.flag_framed _ _ _ (by decide) hbad) <| .ite hbad ?_
  split
  case h_1 =>
    extract_lets counted unknown
    have hunknown : State.Framed quietMask s unknown :=
      State.flag_framed _ _ _ (by decide) <| State.setFld_framed _ _ _ _ (by decide) <| .refl s
    exact .ite (State.event_framed _ _ _ (by decide) <| State.flag_framed _ _ _ (by decide) hunknown) hunknown
  case h_2 =>
    exact State.parChecks_framed _ _ _ _ (by decide) <|
      .ite (State.failsafe_framed _ _ (by decide) <| .refl s) (.refl s)

theorem execParapetRelay_keepsMaker {pdu : List Byte} : OutKeepsMaker s (execParapetRelay tdst connId src pdu s) :=
  .framed <| .ite (.refl _) <| State.parSpan_framed _ _ (by decide) <| .put <| .refl _

theorem execParapetWatchdog_keepsMaker : OutKeepsMaker s (execParapetWatchdog conn s) :=
  .finishFramed <| .ite (State.failsafe_framed _ _ (by decide) (.refl _)) <| .refl _

theorem execSsiLaneMismatch_keepsMaker : OutKeepsMaker s (execSsiLaneMismatch mask s) :=
  .ite (.framed (.refl _)) <| .finishFramed <|
    .foldl _ (State.safeEnter_framed _ _ _ (by decide) (.refl _)) fun _ _ h =>
    State.setReg_framed _ _ _ _ (by decide) h

theorem execSsiReadbackFault_keepsMaker : OutKeepsMaker s (execSsiReadbackFault ch s) :=
  .finishFramed <|
    .ite (State.draw_framed (by decide) <| State.safeEnter_framed _ _ _ (by decide) <| .refl _) <| .refl _

theorem execSsiGateTest_keepsMaker : OutKeepsMaker s (execSsiGateTest ch lane pass s) :=
  .finishFramed <|
    .ite (State.draw_framed (by decide) <| State.safeEnter_framed _ _ _ (by decide) <| .refl _) <| .refl _

theorem execProofDue_keepsMaker : OutKeepsMaker s (execProofDue ch s) :=
  .framed <| .ite (State.setReg_framed _ _ _ _ (by decide) (.refl _)) <| .refl _

theorem execSsiLastRead_keepsMaker : OutKeepsMaker s (execSsiLastRead who s) :=
  .loadingRead

end

/-! ### Commands of Machine/Tollgate.lean -/

section
variable {s : State} {sess : Fin 256} {value : Word} {ins : JtagIns} {slot : Fin 4} {key : BitVec 16} {identity : Nat}
  {flash : Fin 2} {image : Image} {pass : Bool}

theorem execMakerEnAssert_keepsMaker : OutKeepsMaker s (execMakerEnAssert heldUs s) :=
  .next <| .ite (.refl s) <| .quiet (State.auditSession_framed _ _ _ _ (by decide) <| .refl _) <|
    .setBit (by unfold Fld.Fits; decide) (by decide) <| .refl s

theorem execMakerEnDeassert_keepsMaker : OutKeepsMaker s (execMakerEnDeassert heldUs s) := by
  unfold execMakerEnDeassert
  extract_lets low closed off released
  have hlow : s.KeepsMaker low := .quiet (State.auditSession_framed _ _ _ _ (by decide) <| .refl _) <|
    .setBit (by unfold Fld.Fits; decide) (by decide) <| .refl s
  have hclosed : s.KeepsMaker closed := by
    unfold closed
    split
    · exact State.closeSession_keepsMaker hlow
    · exact hlow
  have hoff : s.KeepsMaker off := State.debugEn_keepsMaker hclosed
  have hreleased : State.Framed quietMask off released :=
    .foldl _ (.refl off) fun _ _ h => State.unhalt_framed _ (by decide) h
  exact .next <| .ite (.refl s) <| .quiet (State.flag_framed _ _ _ (by decide) hreleased) hoff

theorem execDebugEnWrite_keepsMaker : OutKeepsMaker s (execDebugEnWrite sess value s) :=
  .next <| State.sessionWrite_keepsMaker sess.isLt (by decide) (.refl _) fun _ h => State.debugEn_keepsMaker h

theorem execJtagInstruction_keepsMaker : OutKeepsMaker s (execJtagInstruction ins s) := by
  have hload {i : JtagIns} : State.Framed quietMask s (s.loadJtag i) := State.loadJtag_framed _ (by decide) <| .refl s
  refine .framed ?_
  cases ins with
  | bypass => exact hload
  | idcode => exact hload
  | samplePreload => exact .ite hload (.refl s)
  | extest => exact .ite hload (.refl s)
  | halt e => exact .ite (.put <| State.enginePause_framed _ (by decide) hload) (.refl s)
  | run e => exact .ite (State.unhalt_framed _ (by decide) hload) (.refl s)

theorem execKeyProgram_keepsMaker : OutKeepsMaker s (execKeyProgram sess slot key identity s) :=
  .next <| State.keyCmd_keepsMaker_of_quiet sess.isLt (.refl _) fun _ =>
    State.flag_framed _ _ _ (by decide) <| State.ledger_framed _ _ (by decide) <| .put <|
    State.setFld_framed _ _ _ _ (by decide) <| .refl _

theorem execKeyRevoke_keepsMaker : OutKeepsMaker s (execKeyRevoke sess slot key s) :=
  .next <| State.keyCmd_keepsMaker_of_quiet sess.isLt (.refl _) fun _ =>
    State.flag_framed _ _ _ (by decide) <| State.ledger_framed _ _ (by decide) <|
    State.setFld_framed _ _ _ _ (by decide) <| .refl _

theorem execImageWrite_keepsMaker : OutKeepsMaker s (execImageWrite sess flash image s) :=
  .next <| .ite
      (State.answer_keepsMaker <| .quiet (.put <| State.setImage_framed _ _ (by decide) <| .refl _) <|
        State.touch_keepsMaker <| .refl _) <|
    State.answer_keepsMaker <| State.touch_keepsMaker <| .refl _

theorem execImageWriteDone_keepsMaker : OutKeepsMaker s (execImageWriteDone flash pass s) :=
  .framed <| by
    split
    · exact .refl _
    · exact .ite
          (State.flag_framed _ _ _ (by decide) <| State.ledger_framed _ _ (by decide) <|
            State.setImage_framed _ _ (by decide) <| .put <| .refl _) <|
        State.setImage_framed _ _ (by decide) <| State.draw_framed (by decide) <| .put <| .refl _

theorem execAuditSummaryMinute_keepsMaker : OutKeepsMaker s (execAuditSummaryMinute s) :=
  .next <| .foldlMem _ (.refl s) fun t e he ht =>
    .ite ht <| State.setSession_keepsMaker (fun hs => (State.oneMaker_iff.mp hs).1.2 e he) rfl rfl <|
    .quiet (State.auditSummary_framed _ _ _ (by decide) <| .refl t) ht

theorem execAuditSummarySecond_keepsMaker : OutKeepsMaker s (execAuditSummarySecond s) :=
  .next <| .foldlMem _ (.refl s) fun t e he ht =>
    .ite ht <| State.setSession_keepsMaker (fun hs => (State.oneMaker_iff.mp hs).1.2 e he) rfl rfl <|
    .ite (.quiet (State.flag_framed _ _ _ (by decide) <| State.auditSummary_framed _ _ _ (by decide) <| .refl t) ht) ht

end

/-! ### Commands of Machine/Ledger.lean -/

section
variable {s : State} {flash : Fin 2} {ok sealOk : Bool} {scans : Vector FlashScan 2} {who : Fin 384}

theorem execLedgerProgramDone_keepsMaker : OutKeepsMaker s (execLedgerProgramDone flash ok s) :=
  .framed <| .ite (.refl _) <| by
    split
    · exact .refl _
    · exact State.flagIf_framed _ _ _ _ (by decide) <| State.programRec_framed _ _ _ (by decide) <| .refl _

theorem execLedgerEraseDone_keepsMaker : OutKeepsMaker s (execLedgerEraseDone flash ok s) :=
  .framed <| .ite (.refl _) <| by
    split
    · exact .refl _
    · exact .ite
          (State.showLedger_framed (by decide) <| State.showWear_framed _ (by decide) <|
            State.flagIf_framed _ _ _ _ (by decide) <| State.setFlash_framed _ _ (by decide) <|
            State.reclaim_framed _ _ (by decide) <| .refl _) <|
        State.showLedger_framed (by decide) <| State.retireSeg_framed _ _ (by decide) <|
        State.reclaim_framed _ _ (by decide) <| .refl _

theorem execLedgerSeal_keepsMaker : OutKeepsMaker s (execLedgerSeal s) :=
  .framed <| .ite (.refl _) <| .put <| State.ledger_framed _ _ (by decide) <| .refl _

theorem execLedgerOpen_keepsMaker : OutKeepsMaker s (execLedgerOpen scans sealOk s) :=
  .framed <| .ite (.refl _) <| State.showLedger_framed (by decide) <|
    .foldl _
      (State.tellOpen_framed _ _ _ (by decide) <| State.setBit_framed _ _ _ _ (by decide) <|
        State.findHead_framed (by decide) <| State.openFlash_framed _ _ (by decide) <|
        State.openFlash_framed _ _ (by decide) <| .put <| .refl _) fun _ _ h =>
      State.copyForward_framed _ (by decide) h

theorem execLdgSeqRead_keepsMaker : OutKeepsMaker s (execLdgSeqRead who s) :=
  .loadingRead

end

/-! ### Commands of Machine/Almanac.lean -/

section
variable {s : State} {sess : Fin 256} {value : Word} {cause : ShedCause} {item : Byte} {unit : Fin 32}
  {key : BitVec 16} {second : Bool}

theorem execOscMeasure_keepsMaker : OutKeepsMaker s (execOscMeasure s) :=
  .framed <| .ite (.refl _) <| State.setFld_framed _ _ _ _ (by decide) <|
    State.setSatFld_framed _ _ _ _ (by decide) <| .put <| State.flagIf_framed _ _ _ _ (by decide) <| .refl _

theorem execAlmanacReplan_keepsMaker : OutKeepsMaker s (execAlmanacReplan s) :=
  .framed <| .ite (.refl _) <| State.replanOrWait_framed (by decide) <| .refl _

theorem execReplan_keepsMaker : OutKeepsMaker s (execReplan sess value s) :=
  .sessionCommand sess.isLt fun _ =>
    .ite (State.replanOrWait_framed (by decide) <| State.setReg_framed _ _ _ _ (by decide) <| .refl _) <| .refl _

theorem execBaselineRefresh_keepsMaker : OutKeepsMaker s (execBaselineRefresh s) :=
  .framed <| .ite (.refl _) <| .foldl _ (.refl _) fun _ _ h => State.baseRecord_framed _ _ _ (by decide) h

theorem execShedLevelRise_keepsMaker : OutKeepsMaker s (execShedLevelRise cause s) :=
  .framed <| .ite (.refl _) <| by
    split
    · exact .ite (State.levelStep_framed _ _ (by decide) <| .put <| .refl _) <| .ite (.put (.refl _)) <| .refl _
    · exact .ite (State.levelStep_framed _ _ (by decide) <| .put <| .refl _) <| .refl _
    · exact .ite (State.levelStep_framed _ _ (by decide) <| .put <| .refl _) <| .refl _

theorem execShedLevelFall_keepsMaker : OutKeepsMaker s (execShedLevelFall s) :=
  .framed <| .ite (.refl _) <| State.levelStep_framed _ _ (by decide) <| .refl _

theorem execBulkShedEnd_keepsMaker : OutKeepsMaker s (execBulkShedEnd s) :=
  .framed <| by
    split
    · exact .refl _
    · exact .ite
          (State.flag_framed _ _ _ (by decide) <| State.setBit_framed _ _ _ _ (by decide) <| .put <| .refl _)
          (.refl _)

theorem execAlmOverride_keepsMaker : OutKeepsMaker s (execAlmOverride sess item unit key s) :=
  .next <| by
    split
    · exact State.sessionCommand_keepsMaker_of_quiet sess.isLt (.refl _) fun _ => .refl _
    · exact State.sessionCommand_keepsMaker_of_quiet sess.isLt (.refl _) fun _ =>
        .ite (State.endOverride_framed _ _ (by decide) (.refl _)) <|
        State.startOverride_framed _ _ _ _ (by decide) <| .refl _

theorem execOverrideExpiry_keepsMaker : OutKeepsMaker s (execOverrideExpiry s) :=
  .framed <| .foldl _ (.refl _) fun _ _ h => by
    split
    · exact State.flag_framed _ _ _ (by decide) <| State.endOverride_framed _ _ (by decide) h
    · exact h

theorem execAlmCfgWrite_keepsMaker : OutKeepsMaker s (execAlmCfgWrite sess second value s) :=
  .next <| .ite (State.sessionWrite_keepsMaker_of_quiet sess.isLt (by decide) (.refl _) fun _ => .refl _) <|
    State.sessionWrite_keepsMaker_of_quiet sess.isLt (by decide) (.refl _) fun _ => .refl _

end

/-! ### Commands of Machine/Contain.lean -/

section
variable {s : State} {region : Fin 8} {island : Fin 128} {pace : BitVec 16} {site : Site} {fault : TileFault}
  {systemArea supervisorMissed : Bool} {detail : Word}

theorem execPaceMeasure_keepsMaker : OutKeepsMaker s (execPaceMeasure region island pace s) :=
  .framed <| .ite (.put (.refl _)) <| .refl _

theorem execPaceReport_keepsMaker : OutKeepsMaker s (execPaceReport s) :=
  .framed <| .ite (.refl _) <| .foldl _ (.refl _) fun _ _ h => State.reportPace_framed _ (by decide) h

theorem execTileErrorDetected_keepsMaker :
    OutKeepsMaker s (execTileErrorDetected site fault systemArea detail s) := by
  have hcorrected {c d : Nat} : State.Framed quietMask s (s.corrected site c d) :=
    State.corrected_framed _ _ _ (by decide) <| .refl s
  have hcontain {c d : Nat} : State.Framed quietMask s (s.contain site c d) :=
    State.contain_framed _ _ _ (by decide) <| .refl s
  have hsafe {c d : Nat} : State.Framed quietMask s (s.safeEnter site c d) :=
    State.safeEnter_framed _ _ _ (by decide) <| .refl s
  refine .framed <| .ite (.refl s) ?_
  cases fault with
  | sramSbe => exact hcorrected
  | xferParity => exact hcorrected
  | sramDbe => exact .ite hsafe hcontain
  | engineTrap => exact .ite hcontain (.refl s)
  | arbWatchdog => exact hcontain
  | supervisorFault => exact .ite hsafe (.refl s)

theorem execHsTimeout_keepsMaker : OutKeepsMaker s (execHsTimeout site detail s) :=
  .framed <| .ite (.refl _) <| State.contain_framed _ _ _ (by decide) <|
    State.flag_framed _ _ _ (by decide) <| .refl _

theorem execRestartComplete_keepsMaker : OutKeepsMaker s (execRestartComplete site s) :=
  .framed <| .ite (.refl _) <| State.released_framed _ (by decide) <| State.showRestarting_framed (by decide) <|
    State.setUnit_framed _ _ (by decide) <| .refl _

theorem execRestartFail_keepsMaker : OutKeepsMaker s (execRestartFail site s) :=
  .framed <| .ite (.refl _) <| State.retire_framed _ _ _ _ (by decide) <| State.flag_framed _ _ _ (by decide) <|
    State.draw_framed (by decide) <| .refl _

theorem execContWindowEnd_keepsMaker : OutKeepsMaker s (execContWindowEnd site s) :=
  .framed <| by
    split
    · exact .ite (State.setUnit_framed _ _ (by decide) (.refl _)) <| .refl _
    · exact .refl _

theorem execHeartbeat_keepsMaker : OutKeepsMaker s (execHeartbeat supervisorMissed s) :=
  .framed <| .ite (.refl _) <| State.safeEnter_framed _ _ _ (by decide) <| State.draw_framed (by decide) <| .refl _

theorem execCorrectedSummary_keepsMaker : OutKeepsMaker s (execCorrectedSummary s) :=
  .framed <| .foldl _ (.refl _) fun _ _ h =>
    .ite h <| .put <| State.errRecordAt_framed _ _ _ _ _ _ _ _ _ _ (by decide) <| State.draw_framed (by decide) h

theorem execPaceFloorExpiry_keepsMaker : OutKeepsMaker s (execPaceFloorExpiry region s) := by
  unfold execPaceFloorExpiry
  dsimp only
  split
  case h_1 => exact .framed <| .refl s
  case h_2 =>
    have hfloor {c : Bool} {m : List (Nat × LowPace)} :
        State.Framed quietMask s { s.flagIf c F.KEY_PACE_FLAGS_FLOOR 0 region with lowPace := m } :=
      .put <| State.flagIf_framed _ _ _ _ (by decide) <| .refl s
    refine .framed <| .ite (.refl s) ?_
    split
    case h_1 => exact hfloor
    case h_2 =>
      exact .ite (State.retire_framed _ _ _ _ (by decide) <| State.draw_framed (by decide) hfloor) <| .ite hfloor <|
        State.safeEnter_framed _ _ _ (by decide) <| State.draw_framed (by decide) hfloor

end

/-! ### Commands of Machine/Supply.lean -/

section
variable {s : State} {vanaDmv heldUs vserhDmv dmv heldNs vctlMv noEdgeNs : Nat} {sample : SupplySample} {rail : Fin 6}
  {tj dropMv : Int} {feed : Fin 2} {sess : Fin 256} {value : Word} {readErrA readErrB readErr : Bool}

theorem execPorReset_keepsMaker : OutKeepsMaker s (execPorReset vanaDmv s) :=
  .next <| .ite (.refl _) <| State.por_keepsMaker

theorem execFeedGoodEval_keepsMaker : OutKeepsMaker s (execFeedGoodEval sample s) :=
  .framed <| .ite (.refl _) <| State.showAllGood_framed (by decide) <|
    .foldl _
      (State.setVctl_framed _ (by decide) <| State.setFld_framed _ _ _ _ (by decide) <|
        State.setFld_framed _ _ _ _ (by decide) <| State.setFld_framed _ _ _ _ (by decide) <|
        State.setBit_framed _ _ _ _ (by decide) <| State.setBit_framed _ _ _ _ (by decide) <|
        State.flagIf_framed _ _ _ _ (by decide) <| State.flagIf_framed _ _ _ _ (by decide) <| .refl _) fun _ _ h =>
      State.railEval_framed _ _ (by decide) h

theorem execPorRelease_keepsMaker : OutKeepsMaker s (execPorRelease vanaDmv heldUs s) :=
  .framed <| .ite (.refl _) <| State.showAllGood_framed (by decide) <| State.railEval_framed _ _ (by decide) <|
    .put <| .refl _

theorem execEnVioAssert_keepsMaker : OutKeepsMaker s (execEnVioAssert s) :=
  .framed <| .ite
      (State.showFailwarn_framed (by decide) <| .put <| State.setSeq_framed _ (by decide) <|
        State.enableRail_framed _ (by decide) <| .refl _)
      (.refl _)

theorem execRailEnableNext_keepsMaker : OutKeepsMaker s (execRailEnableNext s) :=
  .framed <| .ite (State.enableRail_framed _ (by decide) (.refl _)) <| .refl _

theorem execSuppliesGood_keepsMaker : OutKeepsMaker s (execSuppliesGood vserhDmv s) :=
  .framed <| .ite
      (.ite
          (.put <| State.setSeq_framed _ (by decide) <| State.showAllGood_framed (by decide) <|
            State.railEval_framed _ _ (by decide) <| .refl _) <|
        State.leaveReset_framed (by decide) <| .put <| State.setSeq_framed _ (by decide) <|
        State.showAllGood_framed (by decide) <| State.railEval_framed _ _ (by decide) <| .refl _)
      (.refl _)

theorem execEnableReleaseStep_keepsMaker : OutKeepsMaker s (execEnableReleaseStep s) :=
  .next <| .ite
      (.ite (State.endRelease_keepsMaker <| .framed <| State.dropEnable_framed (by decide) <| .refl _) <| .framed <|
        State.dropEnable_framed (by decide) <| .refl _)
      (.refl _)

theorem execSeqTimeout_keepsMaker : OutKeepsMaker s (execSeqTimeout s) :=
  .next <| .ite
      (State.beginRelease_keepsMaker <| .framed <| State.setSeq_framed _ (by decide) <| .put <|
        State.flag_framed _ _ _ (by decide) <| .refl _)
      (.refl _)

theorem execSeqRetryEnd_keepsMaker : OutKeepsMaker s (execSeqRetryEnd s) :=
  .framed <| .ite (State.setSeq_framed _ (by decide) (.refl _)) <| .refl _

theorem execRailRestart_keepsMaker : OutKeepsMaker s (execRailRestart s) :=
  .framed <| .ite (State.setSeq_framed _ (by decide) <| .put <| .refl _) <| .refl _

theorem execRailTrip_keepsMaker : OutKeepsMaker s (execRailTrip rail dmv heldNs s) := by
  unfold execRailTrip
  extract_lets lim out shown faulted held hot off sup restarted
  have hfaulted : State.Framed quietMask s faulted :=
    State.flag_framed _ _ _ (by decide) <| State.showAllGood_framed (by decide) <|
      State.railEval_framed _ _ (by decide) <| .refl s
  have hrestarted : s.KeepsMaker restarted.showFailwarn :=
    .quiet (State.showFailwarn_framed (by decide) <| .put <| State.setSeq_framed _ (by decide) <| .refl _)
      State.doReset_keepsMaker
  exact .next <| .ite (.refl s) <| .ite State.por_keepsMaker <| .ite (.framed hfaulted) <|
    .ite (.framed <| State.markSeen_framed _ (by decide) hfaulted) <| State.beginRelease_keepsMaker hrestarted

theorem execThermalTrip_keepsMaker : OutKeepsMaker s (execThermalTrip tj heldUs s) :=
  .next <| .ite (.refl _) <| .ite (.framed <| State.flag_framed _ _ _ (by decide) <| .refl _) <|
    .ite (.framed <| .put <| State.markSeen_framed _ (by decide) <| State.flag_framed _ _ _ (by decide) <| .refl _) <|
    .ite (.quiet (.put (.refl _)) <| State.doReset_keepsMaker) <| State.beginRelease_keepsMaker <|
    State.doReset_keepsMaker

theorem execThermalRelease_keepsMaker : OutKeepsMaker s (execThermalRelease tj s) :=
  .framed <| .ite (.refl _) <| .ite (State.setSeq_framed _ (by decide) <| .put <| .put <| .refl _) <| .put <| .refl _

theorem execResetNLow_keepsMaker : OutKeepsMaker s (execResetNLow heldNs s) :=
  .next <| .ite
      (.ite (.framed <| State.setSeq_framed _ (by decide) <| .put <| .put <| .refl _) <| .framed <| .put <| .refl _) <|
    .ite State.doReset_keepsMaker <| .framed <| .put <| .refl _

theorem execResetNRise_keepsMaker : OutKeepsMaker s (execResetNRise s) :=
  .framed <| .ite (State.leaveReset_framed (by decide) <| .put <| .refl _) <| .put <| .refl _

theorem execFeedEnhance_keepsMaker : OutKeepsMaker s (execFeedEnhance feed dropMv s) :=
  .framed <| .ite (.refl _) <| .ite (State.setBit_framed _ _ _ _ (by decide) (.refl _)) <|
    State.setBit_framed _ _ _ _ (by decide) <| .refl _

theorem execFeedReverseOff_keepsMaker : OutKeepsMaker s (execFeedReverseOff feed dropMv heldNs s) :=
  .framed <| .ite (.refl _) <|
    .ite (State.flag_framed _ _ _ (by decide) <| State.setBit_framed _ _ _ _ (by decide) <| .refl _) <|
    State.flag_framed _ _ _ (by decide) <| State.setBit_framed _ _ _ _ (by decide) <| .refl _

theorem execVctlLow_keepsMaker : OutKeepsMaker s (execVctlLow vctlMv s) := by
  unfold execVctlLow
  extract_lets low sup warned recorded
  have hlow : State.Framed quietMask s low :=
    State.flag_framed _ _ _ (by decide) <| State.setBit_framed _ _ _ _ (by decide) <|
      State.setVctl_framed _ (by decide) <| .refl s
  have hput {x : Supply} : State.Framed quietMask s { low with sup := x } := .put hlow
  have hrecorded : State.Framed quietMask s recorded :=
    State.recTrigger_framed _ _ (by decide) <| State.showFailwarn_framed (by decide) hput
  exact .next <| .ite (.refl s) <| .ite (.framed <| State.showFailwarn_framed (by decide) hput) <|
    .ite (.framed <| .ite (State.pdOpen_framed (by decide) hrecorded) hrecorded) <|
    .ite (.framed hput) <| .ite (State.beginRelease_keepsMaker (.framed hlow)) (.framed hlow)

theorem execVctlRecovered_keepsMaker : OutKeepsMaker s (execVctlRecovered vctlMv heldUs s) := by
  unfold execVctlRecovered
  dsimp only
  have hgood : State.Framed quietMask s ((s.setVctl vctlMv).setBit F.SUP_STATE_VCTL_LOW false) :=
    State.setBit_framed _ _ _ _ (by decide) <| State.setVctl_framed _ (by decide) <| .refl s
  refine .next <| .ite (.refl s) ?_
  split
  case h_1 =>
    exact .framed <| State.flag_framed _ _ _ (by decide) <| State.showFailwarn_framed (by decide) <| .put hgood
  case h_2 => exact State.supplyLoss_keepsMaker
  case h_3 => exact .framed hgood

theorem execFailwarnLeadEnd_keepsMaker : OutKeepsMaker s (execFailwarnLeadEnd s) :=
  .framed <| .ite (State.pdOpen_framed (by decide) (.refl _)) <| .refl _

theorem execPowerdownRecordDone_keepsMaker : OutKeepsMaker s (execPowerdownRecordDone s) :=
  .next <| .ite (.refl _) <|
    .ite (.quiet (State.leaveUnheld_framed (by decide) (.refl _)) <| State.doReset_keepsMaker) <|
    State.beginRelease_keepsMaker <| .framed <| State.setSeq_framed _ (by decide) <| .put <|
    .ite (State.pdRecord_framed (by decide) (.refl _)) <| .refl _

theorem execSupResetCmd_keepsMaker : OutKeepsMaker s (execSupResetCmd sess value s) :=
  .sessionCommand sess.isLt fun _ =>
    .ite (State.pdOpen_framed (by decide) (.refl _)) <| State.pdOpen_framed (by decide) <| .put <| .refl _

theorem execSupFeedCfgWrite_keepsMaker : OutKeepsMaker s (execSupFeedCfgWrite sess value s) :=
  .sessionWrite sess.isLt (by decide) fun _ => State.setVctl_framed _ (by decide) <| .refl _

theorem execKeyRecover_keepsMaker : OutKeepsMaker s (execKeyRecover sess value s) :=
  .next <| State.sessionCommand_keepsMaker sess.isLt (.refl _) fun _ _ =>
    .quiet (State.leaveUnheld_framed (by decide) (.refl _)) <| State.doReset_keepsMaker

theorem execRefclkLost_keepsMaker : OutKeepsMaker s (execRefclkLost noEdgeNs s) :=
  .framed <| .ite (.refl _) <| .ite (.put (.refl _)) <| State.safeEnter_framed _ _ _ (by decide) <|
    State.draw_framed (by decide) <| .put <| .refl _

theorem execPllLock_keepsMaker : OutKeepsMaker s (execPllLock s) :=
  .framed <| .put <| .refl _

theorem execCharterHeadersRead_keepsMaker : OutKeepsMaker s (execCharterHeadersRead readErrA readErrB s) := by
  unfold execCharterHeadersRead
  extract_lets a b t
  have ht : State.Framed quietMask s t :=
    State.startFlash_framed _ (by decide) <| State.startFlash_framed _ (by decide) <| .refl s
  have hresult {f r : Nat} : State.Framed quietMask s (t.imageResult f r) := State.imageResult_framed _ _ (by decide) ht
  exact .framed <| .ite (.refl s) <| .ite (.put ht) <| .ite (.put hresult) <| .ite (.put hresult) <|
    State.safeIdle_framed (by decide) <| State.imageResult_framed _ _ (by decide) hresult

theorem execImageBodyReadDone_keepsMaker : OutKeepsMaker s (execImageBodyReadDone readErr s) :=
  .next <| by
    split
    · exact State.bodyDone_keepsMaker <| .refl _
    · exact State.bodyDone_keepsMaker <| .refl _
    · exact .refl _

theorem execRollCallPassEnd_keepsMaker : OutKeepsMaker s (execRollCallPassEnd s) :=
  .framed <| .ite (.refl _) <| State.showFailwarn_framed (by decide) <|
    .foldl _
      (.foldl _
          (State.startMark_framed _ (by decide) <| State.setFld_framed _ _ _ _ (by decide) <|
            State.flagIf_framed _ _ _ _ (by decide) <| .refl _) fun _ _ h =>
          State.lockAgain_framed _ (by decide) h) fun _ _ h =>
      State.safeRun_framed _ (by decide) h

end

/-! ### Register writes -/

section
variable {s : State} {k : Fin 256} {who : Fin 384} {r : RegName} {i j : Nat} {n : Fin 32} {v : Word}

theorem State.plainWrite_outKeepsMaker {value : Nat} : OutKeepsMaker s (.next (s.plainWrite k r i j value)) :=
  .next (State.plainWrite_keepsMaker k.isLt (.refl s))

theorem State.noCommand_outKeepsMaker {value : Nat} {ok : Bool} :
    OutKeepsMaker s (.next (s.noCommand k r i value ok)) := .next (State.noCommand_keepsMaker k.isLt (.refl s))

theorem writeChannel_keepsMaker : OutKeepsMaker s (writeChannel k r n v s) := by
  unfold writeChannel
  split
  · exact execPlkCfgWrite_keepsMaker
  · exact execPlkParamWrite_keepsMaker
  · exact execPlkParam2Write_keepsMaker
  · exact .ite execInsert_keepsMaker (.ite execOpenCmd_keepsMaker State.noCommand_outKeepsMaker)
  · exact execInsCfgWrite_keepsMaker
  · exact execInsThermWrite_keepsMaker
  · exact execInsGrampWrite_keepsMaker
  · exact execProtIlimWrite_keepsMaker
  · exact execProtSlowWrite_keepsMaker
  · exact execProtRevWrite_keepsMaker
  · exact execProtModWrite_keepsMaker
  · exact execProtModWrite_keepsMaker
  · exact .ite execProtClearLockout_keepsMaker <| .ite execProtClearDamaged_keepsMaker <|
      .ite execProtClearSrRelease_keepsMaker State.noCommand_outKeepsMaker
  · exact execTrmCfgWrite_keepsMaker
  · exact execTrmVsetWrite_keepsMaker
  · exact execHrChainCfgWrite_keepsMaker
  · exact State.plainWrite_outKeepsMaker

theorem writeMeasure_keepsMaker : OutKeepsMaker s (writeMeasure k r i j v s) := by
  unfold writeMeasure
  split
  iterate 5 exact execAdcCfgWrite_keepsMaker
  · exact execConvRefWrite_keepsMaker
  · exact execCalStartCmd_keepsMaker
  · exact .ite execSwtrigGroup_keepsMaker (.ite execSwtrigInjected_keepsMaker execSwtrigRegular_keepsMaker)
  · exact .ite execTalEnable_keepsMaker execTalDisable_keepsMaker
  · exact execTalReloadWrite_keepsMaker
  · exact execTalCmpWrite_keepsMaker
  · exact execTalActWrite_keepsMaker
  · exact execTalSyncWrite_keepsMaker
  · exact State.plainWrite_outKeepsMaker

theorem writeDevice_keepsMaker : OutKeepsMaker s (writeDevice k r i j v s) := by
  unfold writeDevice
  split
  · exact execKeyRecover_keepsMaker
  · exact execSupResetCmd_keepsMaker
  · exact execSupFeedCfgWrite_keepsMaker
  · exact execInsBusWrite_keepsMaker
  · exact execProtBusCfgWrite_keepsMaker
  · exact execEstSoclimWrite_keepsMaker
  · exact execEstSoclimWrite_keepsMaker
  · exact .ite execSwapKeep_keepsMaker (.ite execSwapFresh_keepsMaker State.noCommand_outKeepsMaker)
  · exact execDspReqWrite_keepsMaker
  · exact execDspAckWrite_keepsMaker
  · exact execDspBalCfgWrite_keepsMaker
  · exact execDspBalCfgWrite_keepsMaker
  · exact .next (State.recWord_keepsMaker k.isLt (.refl s))
  · exact .ite execInjStart_keepsMaker (.ite execInjStop_keepsMaker State.noCommand_outKeepsMaker)
  · exact .ite execBfSnap_keepsMaker State.noCommand_outKeepsMaker
  · exact execDebugEnWrite_keepsMaker
  · exact .ite (.after (.quiet (State.draw_framed (by decide) (.refl s)) (.refl s)) execKeyProgram_keepsMaker) <|
      .ite execKeyRevoke_keepsMaker State.noCommand_outKeepsMaker
  · exact execAlmCfgWrite_keepsMaker
  · exact execAlmCfgWrite_keepsMaker
  · exact execAlmOverride_keepsMaker
  · exact execReplan_keepsMaker
  · exact State.plainWrite_outKeepsMaker

/-- A Belfry register that the servo and sessions may both write. -/
theorem State.belWrite_outKeepsMaker {value : Nat} (hr : r ≠ .TG_STATE) :
    OutKeepsMaker s (.next (s.belWrite who r i value fun t => t.plainWritten r i 0)) :=
  .next (State.belWrite_keepsMaker_of_quiet hr (.refl s) fun t => State.plainWritten_framed _ _ _ (by decide) (.refl t))

theorem writeBelfry_keepsMaker : OutKeepsMaker s (writeBelfry who r i j v s) := by
  unfold writeBelfry
  split
  · exact execTbIncWrite_keepsMaker
  · exact execTbAdjWrite_keepsMaker
  · exact .ite execTbApply_keepsMaker (.next (State.belCommand_keepsMaker_of_quiet (.refl s) fun t => .refl t))
  · exact execTbServoReport_keepsMaker
  · exact execRefReport_keepsMaker
  iterate 6 exact State.belWrite_outKeepsMaker (by decide)
  · split
    case isTrue hwho => exact .next (State.plainWrite_keepsMaker hwho (.refl s))
    case isFalse => exact .next (.refl s)

/-- A write by an engine, and then by a session, which is touched first. -/
theorem execRegWrite_keepsMaker {addr : Addr} : OutKeepsMaker s (execRegWrite who addr v s) := by
  unfold execRegWrite
  extract_lets a x m t
  have hanswer {y : Resp} : OutKeepsMaker s (.next (s.answer y)) := .next (State.answer_keepsMaker (.refl s))
  have ht : s.KeepsMaker t := State.touch_keepsMaker (.refl s)
  refine .ite (.ite (.next (.refl s)) ?_) (.ite hanswer ?_)
  · split
    · exact .ite writeBelfry_keepsMaker (.next (.refl s))
    · exact .next (.ite (State.answer_keepsMaker (.refl s)) (.refl s))
  · split
    · refine .after ht ?_
      split
      · exact writeBelfry_keepsMaker
      · exact writeMeasure_keepsMaker
      iterate 2 exact .ite writeChannel_keepsMaker State.plainWrite_outKeepsMaker
      · exact writeDevice_keepsMaker
    · have hrefused {u : Nat} : s.KeepsMaker ((t.flag F.TG_FLAGS_WRITE_REFUSED).auditRefused m 1 a u x) :=
        State.auditRefused_keepsMaker m.isLt <| .quiet (State.flag_framed _ _ _ (by decide) (.refl t)) ht
      exact .ite (.next (State.answer_keepsMaker ht)) <| .ite (.next (State.answer_keepsMaker hrefused)) <|
        .next (State.answer_keepsMaker ht)

theorem execW1cClear_keepsMaker {addr : Addr} {arrivals : Word} :
    OutKeepsMaker s (execW1cClear k addr v arrivals s) := by
  have htouched : s.KeepsMaker (s.touch k) := State.touch_keepsMaker (.refl s)
  unfold execW1cClear
  refine .next ?_
  split
  case h_1 =>
    split
    case isTrue => exact State.answer_keepsMaker htouched
    case isFalse hw => exact State.w1cWrite_keepsMaker hw htouched
  case h_2 => exact State.answer_keepsMaker htouched

end

/-! ### Every command, and every step -/

/-- Every command carries the invariant over. -/
theorem exec_keepsMaker (i : Instr) (s : State) : OutKeepsMaker s (exec i s) :=
  match i with
  | .regWrite .. => execRegWrite_keepsMaker
  | .w1cClear .. => execW1cClear_keepsMaker
  | .paceMeasure .. => execPaceMeasure_keepsMaker
  | .paceReport => execPaceReport_keepsMaker
  | .paceFloorExpiry .. => execPaceFloorExpiry_keepsMaker
  | .tileErrorDetected .. => execTileErrorDetected_keepsMaker
  | .hsTimeout .. => execHsTimeout_keepsMaker
  | .restartComplete .. => execRestartComplete_keepsMaker
  | .restartFail .. => execRestartFail_keepsMaker
  | .contWindowEnd .. => execContWindowEnd_keepsMaker
  | .heartbeat .. => execHeartbeat_keepsMaker
  | .correctedSummary => execCorrectedSummary_keepsMaker
  | .keyRecover .. => execKeyRecover_keepsMaker
  | .feedEnhance .. => execFeedEnhance_keepsMaker
  | .feedReverseOff .. => execFeedReverseOff_keepsMaker
  | .feedGoodEval .. => execFeedGoodEval_keepsMaker
  | .vctlLow .. => execVctlLow_keepsMaker
  | .vctlRecovered .. => execVctlRecovered_keepsMaker
  | .porRelease .. => execPorRelease_keepsMaker
  | .enVioAssert => execEnVioAssert_keepsMaker
  | .railEnableNext => execRailEnableNext_keepsMaker
  | .suppliesGood .. => execSuppliesGood_keepsMaker
  | .seqTimeout => execSeqTimeout_keepsMaker
  | .seqRetryEnd => execSeqRetryEnd_keepsMaker
  | .enableReleaseStep => execEnableReleaseStep_keepsMaker
  | .porReset .. => execPorReset_keepsMaker
  | .resetNLow .. => execResetNLow_keepsMaker
  | .resetNRise => execResetNRise_keepsMaker
  | .railTrip .. => execRailTrip_keepsMaker
  | .railRestart => execRailRestart_keepsMaker
  | .thermalTrip .. => execThermalTrip_keepsMaker
  | .thermalRelease .. => execThermalRelease_keepsMaker
  | .failwarnLeadEnd => execFailwarnLeadEnd_keepsMaker
  | .powerdownRecordDone => execPowerdownRecordDone_keepsMaker
  | .supResetCmd .. => execSupResetCmd_keepsMaker
  | .supFeedCfgWrite .. => execSupFeedCfgWrite_keepsMaker
  | .charterHeadersRead .. => execCharterHeadersRead_keepsMaker
  | .imageBodyReadDone .. => execImageBodyReadDone_keepsMaker
  | .rollCallPassEnd => execRollCallPassEnd_keepsMaker
  | .blockLockGained .. => execBlockLockGained_keepsMaker
  | .blockLockLost .. => execBlockLockLost_keepsMaker
  | .frameTick => execFrameTick_keepsMaker
  | .uplinkFrame .. => execUplinkFrame_keepsMaker
  | .urgentEventRx .. => execUrgentEventRx_keepsMaker
  | .mbxReply .. => execMbxReply_keepsMaker
  | .mbxReplyTimeout .. => execMbxReplyTimeout_keepsMaker
  | .linkLost .. => execLinkLost_keepsMaker
  | .frameSyncTimeout .. => execFrameSyncTimeout_keepsMaker
  | .lostResync .. => execLostResync_keepsMaker
  | .plkCfgWrite .. => execPlkCfgWrite_keepsMaker
  | .plkParamWrite .. => execPlkParamWrite_keepsMaker
  | .plkParam2Write .. => execPlkParam2Write_keepsMaker
  | .insert .. => execInsert_keepsMaker
  | .openCmd .. => execOpenCmd_keepsMaker
  | .tokenGrant => execTokenGrant_keepsMaker
  | .checkEval .. => execCheckEval_keepsMaker
  | .queueTimeout .. => execQueueTimeout_keepsMaker
  | .senseEnd .. => execSenseEnd_keepsMaker
  | .inrushTimeout .. => execInrushTimeout_keepsMaker
  | .trimTargetUpdate .. => execTrimTargetUpdate_keepsMaker
  | .alignTimeout .. => execAlignTimeout_keepsMaker
  | .vsw10Update .. => execVsw10Update_keepsMaker
  | .insBusWrite .. => execInsBusWrite_keepsMaker
  | .gateRiseTimeout .. => execGateRiseTimeout_keepsMaker
  | .confirmDone .. => execConfirmDone_keepsMaker
  | .thermalModelUpdate .. => execThermalModelUpdate_keepsMaker
  | .rotationSlot .. => execRotationSlot_keepsMaker
  | .rotationOutgoingOff .. => execRotationOutgoingOff_keepsMaker
  | .insCfgWrite .. => execInsCfgWrite_keepsMaker
  | .insThermWrite .. => execInsThermWrite_keepsMaker
  | .insGrampWrite .. => execInsGrampWrite_keepsMaker
  | .fastPathUpdate .. => execFastPathUpdate_keepsMaker
  | .ilimExit .. => execIlimExit_keepsMaker
  | .ilimTimeout .. => execIlimTimeout_keepsMaker
  | .fltTimerReset .. => execFltTimerReset_keepsMaker
  | .slowAccUpdate .. => execSlowAccUpdate_keepsMaker
  | .shuntCompare .. => execShuntCompare_keepsMaker
  | .vbusMedUpdate => execVbusMedUpdate_keepsMaker
  | .busFailureQualified => execBusFailureQualified_keepsMaker
  | .busLeadEnd => execBusLeadEnd_keepsMaker
  | .busFailwarnRelease => execBusFailwarnRelease_keepsMaker
  | .openFailTimeout .. => execOpenFailTimeout_keepsMaker
  | .switchConduct .. => execSwitchConduct_keepsMaker
  | .retryReady .. => execRetryReady_keepsMaker
  | .retryHeal .. => execRetryHeal_keepsMaker
  | .protClearLockout .. => execProtClearLockout_keepsMaker
  | .protClearDamaged .. => execProtClearDamaged_keepsMaker
  | .protClearSrRelease .. => execProtClearSrRelease_keepsMaker
  | .protIlimWrite .. => execProtIlimWrite_keepsMaker
  | .protSlowWrite .. => execProtSlowWrite_keepsMaker
  | .protRevWrite .. => execProtRevWrite_keepsMaker
  | .protModWrite .. => execProtModWrite_keepsMaker
  | .protBusCfgWrite .. => execProtBusCfgWrite_keepsMaker
  | .protLastRead .. => execProtLastRead_keepsMaker
  | .coordTripSend => execCoordTripSend_keepsMaker
  | .sharePeriod => execSharePeriod_keepsMaker
  | .handoverWindowEnd .. => execHandoverWindowEnd_keepsMaker
  | .trmCfgWrite .. => execTrmCfgWrite_keepsMaker
  | .trmVsetWrite .. => execTrmVsetWrite_keepsMaker
  | .trimCurrentCompare .. => execTrimCurrentCompare_keepsMaker
  | .weffUpdate => execWeffUpdate_keepsMaker
  | .zeroLearn => execZeroLearn_keepsMaker
  | .gridCycleBoundary => execGridCycleBoundary_keepsMaker
  | .windowEnd => execWindowEnd_keepsMaker
  | .winRequal => execWinRequal_keepsMaker
  | .measTallyRead .. => execMeasTallyRead_keepsMaker
  | .measWinRead .. => execMeasWinRead_keepsMaker
  | .adcEntryDone .. => execAdcEntryDone_keepsMaker
  | .adcRegTrigger .. => execAdcRegTrigger_keepsMaker
  | .adcInjTrigger .. => execAdcInjTrigger_keepsMaker
  | .adcGroupTrigger .. => execAdcGroupTrigger_keepsMaker
  | .swtrigRegular .. => execSwtrigRegular_keepsMaker
  | .swtrigInjected .. => execSwtrigInjected_keepsMaker
  | .swtrigGroup .. => execSwtrigGroup_keepsMaker
  | .adcCfgWrite .. => execAdcCfgWrite_keepsMaker
  | .calStartCmd .. => execCalStartCmd_keepsMaker
  | .calAuto .. => execCalAuto_keepsMaker
  | .calDone .. => execCalDone_keepsMaker
  | .refCheck .. => execRefCheck_keepsMaker
  | .refSwitchDone .. => execRefSwitchDone_keepsMaker
  | .convRefWrite .. => execConvRefWrite_keepsMaker
  | .refLateTimeout => execRefLateTimeout_keepsMaker
  | .owDue .. => execOwDue_keepsMaker
  | .grpStampRead .. => execGrpStampRead_keepsMaker
  | .talEnable .. => execTalEnable_keepsMaker
  | .talDisable .. => execTalDisable_keepsMaker
  | .talReloadWrite .. => execTalReloadWrite_keepsMaker
  | .talCmpWrite .. => execTalCmpWrite_keepsMaker
  | .talActWrite .. => execTalActWrite_keepsMaker
  | .talSyncWrite .. => execTalSyncWrite_keepsMaker
  | .tallyZeroEvent .. => execTallyZeroEvent_keepsMaker
  | .tallyCompareFire .. => execTallyCompareFire_keepsMaker
  | .tallySyncRestart .. => execTallySyncRestart_keepsMaker
  | .triggerSend => execTriggerSend_keepsMaker
  | .sampleInstant => execSampleInstant_keepsMaker
  | .rateApply => execRateApply_keepsMaker
  | .sweepSend .. => execSweepSend_keepsMaker
  | .sweepFrameRx .. => execSweepFrameRx_keepsMaker
  | .sweepFinal .. => execSweepFinal_keepsMaker
  | .hrLockLost .. => execHrLockLost_keepsMaker
  | .hrLoopRx .. => execHrLoopRx_keepsMaker
  | .recoverSend .. => execRecoverSend_keepsMaker
  | .enumRx .. => execEnumRx_keepsMaker
  | .nodeLossTimeout .. => execNodeLossTimeout_keepsMaker
  | .nodeCmdRetry .. => execNodeCmdRetry_keepsMaker
  | .probeCycle .. => execProbeCycle_keepsMaker
  | .probeRx .. => execProbeRx_keepsMaker
  | .hrLinkTimeout .. => execHrLinkTimeout_keepsMaker
  | .hrNoNodeTimeout .. => execHrNoNodeTimeout_keepsMaker
  | .hrChainCfgWrite .. => execHrChainCfgWrite_keepsMaker
  | .estStep .. => execEstStep_keepsMaker
  | .aggregate => execAggregate_keepsMaker
  | .estStrSocRead .. => execEstStrSocRead_keepsMaker
  | .estCtrSocRead .. => execEstCtrSocRead_keepsMaker
  | .engineResumePredict .. => execEngineResumePredict_keepsMaker
  | .seedWaitTimeout .. => execSeedWaitTimeout_keepsMaker
  | .contextRestore .. => execContextRestore_keepsMaker
  | .contextPersist .. => execContextPersist_keepsMaker
  | .swapKeep .. => execSwapKeep_keepsMaker
  | .swapFresh .. => execSwapFresh_keepsMaker
  | .swapKeepExpiry .. => execSwapKeepExpiry_keepsMaker
  | .estSoclimWrite .. => execEstSoclimWrite_keepsMaker
  | .rippleIdWindow .. => execRippleIdWindow_keepsMaker
  | .relaxFit .. => execRelaxFit_keepsMaker
  | .sohStaleTimeout .. => execSohStaleTimeout_keepsMaker
  | .chargeCheckpoint => execChargeCheckpoint_keepsMaker
  | .journalWrite => execJournalWrite_keepsMaker
  | .snapshotWrite .. => execSnapshotWrite_keepsMaker
  | .reconcile .. => execReconcile_keepsMaker
  | .dspReqWrite .. => execDspReqWrite_keepsMaker
  | .dispatchPass => execDispatchPass_keepsMaker
  | .limitRepublish .. => execLimitRepublish_keepsMaker
  | .zeroReqOpen .. => execZeroReqOpen_keepsMaker
  | .dspEvtRead .. => execDspEvtRead_keepsMaker
  | .dspAckWrite .. => execDspAckWrite_keepsMaker
  | .balPass => execBalPass_keepsMaker
  | .dspBalCfgWrite .. => execDspBalCfgWrite_keepsMaker
  | .hvacEval => execHvacEval_keepsMaker
  | .recFrameWrite => execRecFrameWrite_keepsMaker
  | .recArm .. => execRecArm_keepsMaker
  | .recTrigger .. => execRecTrigger_keepsMaker
  | .recStop .. => execRecStop_keepsMaker
  | .recStampRead .. => execRecStampRead_keepsMaker
  | .sessionHandshake .. => execSessionHandshake_keepsMaker
  | .sessionIdleTimeout .. => execSessionIdleTimeout_keepsMaker
  | .sessionClose .. => execSessionClose_keepsMaker
  | .serviceOpen .. => execServiceOpen_keepsMaker
  | .frameEnqueue .. => execFrameEnqueue_keepsMaker
  | .frameSend .. => execFrameSend_keepsMaker
  | .ethFrameRx .. => execEthFrameRx_keepsMaker
  | .prpSupervision => execPrpSupervision_keepsMaker
  | .ethLinkChange .. => execEthLinkChange_keepsMaker
  | .preemptVerifyDone .. => execPreemptVerifyDone_keepsMaker
  | .spanFrameRx .. => execSpanFrameRx_keepsMaker
  | .coordTripRx => execCoordTripRx_keepsMaker
  | .spanTripRxRead .. => execSpanTripRxRead_keepsMaker
  | .spanSelfTestPass => execSpanSelfTestPass_keepsMaker
  | .spanSelfTestTimeout => execSpanSelfTestTimeout_keepsMaker
  | .spanTrainDone .. => execSpanTrainDone_keepsMaker
  | .spanLockLost .. => execSpanLockLost_keepsMaker
  | .neighbourSend => execNeighbourSend_keepsMaker
  | .neighbourMiss .. => execNeighbourMiss_keepsMaker
  | .joinTimeout => execJoinTimeout_keepsMaker
  | .joinRetry => execJoinRetry_keepsMaker
  | .ringScanSend => execRingScanSend_keepsMaker
  | .ringScanTimeout => execRingScanTimeout_keepsMaker
  | .injStart .. => execInjStart_keepsMaker
  | .injStop .. => execInjStop_keepsMaker
  | .injTimeout => execInjTimeout_keepsMaker
  | .tbNsRead .. => execTbNsRead_keepsMaker
  | .bfSnap .. => execBfSnap_keepsMaker
  | .tbIncWrite .. => execTbIncWrite_keepsMaker
  | .tbAdjWrite .. => execTbAdjWrite_keepsMaker
  | .slewDone .. => execSlewDone_keepsMaker
  | .tbApply .. => execTbApply_keepsMaker
  | .tbServoReport .. => execTbServoReport_keepsMaker
  | .servoReportTimeout .. => execServoReportTimeout_keepsMaker
  | .refReport .. => execRefReport_keepsMaker
  | .refReportTimeout .. => execRefReportTimeout_keepsMaker
  | .holdoverQualEnd => execHoldoverQualEnd_keepsMaker
  | .ptpMessageRx .. => execPtpMessageRx_keepsMaker
  | .spanSyncSend => execSpanSyncSend_keepsMaker
  | .spanPdelay .. => execSpanPdelay_keepsMaker
  | .gridSyncEdge .. => execGridSyncEdge_keepsMaker
  | .gridEdgeMissing => execGridEdgeMissing_keepsMaker
  | .parapetPduRx .. => execParapetPduRx_keepsMaker
  | .parapetRelay .. => execParapetRelay_keepsMaker
  | .parapetWatchdog .. => execParapetWatchdog_keepsMaker
  | .ssiLaneMismatch .. => execSsiLaneMismatch_keepsMaker
  | .ssiReadbackFault .. => execSsiReadbackFault_keepsMaker
  | .ssiGateTest .. => execSsiGateTest_keepsMaker
  | .proofDue .. => execProofDue_keepsMaker
  | .ssiLastRead .. => execSsiLastRead_keepsMaker
  | .makerEnAssert .. => execMakerEnAssert_keepsMaker
  | .makerEnDeassert .. => execMakerEnDeassert_keepsMaker
  | .debugEnWrite .. => execDebugEnWrite_keepsMaker
  | .jtagInstruction .. => execJtagInstruction_keepsMaker
  | .keyProgram .. => execKeyProgram_keepsMaker
  | .keyRevoke .. => execKeyRevoke_keepsMaker
  | .imageWrite .. => execImageWrite_keepsMaker
  | .imageWriteDone .. => execImageWriteDone_keepsMaker
  | .auditSummaryMinute => execAuditSummaryMinute_keepsMaker
  | .ledgerProgramDone .. => execLedgerProgramDone_keepsMaker
  | .ledgerEraseDone .. => execLedgerEraseDone_keepsMaker
  | .ledgerSeal => execLedgerSeal_keepsMaker
  | .ledgerOpen .. => execLedgerOpen_keepsMaker
  | .ldgSeqRead .. => execLdgSeqRead_keepsMaker
  | .almanacReplan => execAlmanacReplan_keepsMaker
  | .replan .. => execReplan_keepsMaker
  | .shedLevelRise .. => execShedLevelRise_keepsMaker
  | .shedLevelFall => execShedLevelFall_keepsMaker
  | .bulkShedEnd => execBulkShedEnd_keepsMaker
  | .oscMeasure => execOscMeasure_keepsMaker
  | .baselineRefresh => execBaselineRefresh_keepsMaker
  | .almOverride .. => execAlmOverride_keepsMaker
  | .overrideExpiry => execOverrideExpiry_keepsMaker
  | .almCfgWrite .. => execAlmCfgWrite_keepsMaker
  | .refclkLost .. => execRefclkLost_keepsMaker
  | .pllLock => execPllLock_keepsMaker
  | .hrLockGained .. => execHrLockGained_keepsMaker
  | .lateStep .. => execLateStep_keepsMaker
  | .auditSummarySecond => execAuditSummarySecond_keepsMaker

theorem step_keepsMaker (s : State) : OutKeepsMaker s (step s) := by
  unfold step
  split
  case h_1 =>
    have htick := State.tick_framed (W := quietMask) s (by decide)
    have hosc : s.KeepsMaker { s with osc := s.osc + 1 } := .of_sess_bit (s := s) rfl rfl (.refl s)
    exact .next (.quiet htick hosc)
  case h_2 c rest _ =>
    have hrest : s.KeepsMaker { s with pending := rest } := .of_sess_bit (s := s) rfl rfl (.refl s)
    exact .after hrest (exec_keepsMaker c _)

/-! ### The refused maker handshake (R639) -/

/-- A refusal for a failed check leaves the sessions, sets AUTH_FAIL and changes no register but the flags and the
Ledger's. -/
theorem State.refuseHandshake_auth (s : State) (h : Handshake) :
    (s.refuseHandshake h true).resp = .refused ∧ (s.refuseHandshake h true).sess = s.sess ∧
      (s.refuseHandshake h true).bit F.TG_FLAGS_AUTH_FAIL = true ∧
      s.OnlyRegs [.TG_FLAGS, .LDG_SEQ, .LDG_STATE] (s.refuseHandshake h true) := by
  have hframed : State.Framed (regMask [.TG_FLAGS, .LDG_SEQ, .LDG_STATE] ||| partMask [.resp, .ldg]) s
      (s.refuseHandshake h true) := State.refuseHandshake_framed h true (by decide) (.refl s)
  have hflag := s.bit_flag F.TG_FLAGS_AUTH_FAIL 0 (by unfold Fld.Fits; decide) rfl
  have haudit : State.Framed (State.refuseHandshake_writes ^^^ regMask [.TG_FLAGS]) (s.flag F.TG_FLAGS_AUTH_FAIL)
      (s.refuseHandshake h true) :=
    State.answer_framed _ (by decide) <| State.auditSession_framed _ _ _ _ (by decide) <| .refl _
  have hbit := (State.bit_of_reg_eq F.TG_FLAGS_AUTH_FAIL (haudit.reg .TG_FLAGS 0 0 (by decide))).trans hflag
  exact ⟨rfl, hframed.sess (by decide), hbit, hframed.onlyRegs⟩

/-- Only the handshakes of the last second count against HS_RATE (R543). -/
def State.recentHandshakes (s : State) : State :=
  { s with com := { s.com with hsTimes := s.com.hsTimes.filter fun x => !s.elapsed x 1000000000 } }

/-- While a maker session is open, a maker handshake that passes every other check fails its own. -/
theorem execSessionHandshake_secondMaker {s : State} {h : Handshake} {k : Fin 256}
    (hopen : s.bit F.TG_STATE_MAKER_SESS = true) (hcookie : h.cookie = true) (hreset : s.sup.inReset = false)
    (hrate : s.recentHandshakes.com.hsTimes.length < s.fld F.COM_SESS_CFG_HS_RATE)
    (hfree : (s.session k).isOpen = false) (hproved : s.proved h = some .maker) (hphase : s.phaseTakes .maker = true) :
    execSessionHandshake h s = .next (s.recentHandshakes.refuseHandshake h true) := by
  obtain ⟨j, hj⟩ : ∃ j, (List.range 256).find? (fun k => !(s.session k).isOpen) = some j :=
    Option.isSome_iff_exists.mp (List.find?_isSome.mpr ⟨k, List.mem_range.mpr k.isLt, by rw [hfree]; rfl⟩)
  have hearly : ¬ (s.sup.inReset = true ∨ ¬ h.cookie = true) := by simp [hreset, hcookie]
  unfold execSessionHandshake
  extract_lets recent com t
  have hj' : (List.range 256).find? (fun k => !(t.session k).isOpen) = some j := hj
  have hproved' : t.proved h = some .maker := hproved
  have hphase' : t.phaseTakes .maker = true := hphase
  have hrate' : ¬ t.fld F.COM_SESS_CFG_HS_RATE ≤ recent.length := hrate.not_ge
  have hopen' : t.bit F.TG_STATE_MAKER_SESS = true := hopen
  rw [if_neg hearly, if_neg hrate', hj', hproved']
  dsimp only
  rw [if_neg (not_not.mpr hphase'), if_pos ⟨rfl, hopen'⟩]
  rfl

/-- Settles O60: every command carries the invariant over, and a second maker handshake comes to the refusal of the
lemmas above. -/
theorem atMostOneMakerSessionIsOpen : Obligations.AtMostOneMakerSessionIsOpen := by
  refine fun s => ⟨fun hs t ht => ?_, fun h k hopen hcookie hreset hrate hfree hproved hphase => ?_⟩
  · obtain ⟨u, hu, hkeeps⟩ := step_keepsMaker s
    obtain rfl : u = t := Host.Outcome.next.inj (hu.symm.trans ht)
    exact hkeeps hs
  · exact ⟨_, execSessionHandshake_secondMaker hopen hcookie hreset hrate hfree hproved hphase,
      s.recentHandshakes.refuseHandshake_auth h⟩

end Sys2Proof.Machine
